-- ==== Sys2Proof/Word.lean ====
section
/-!
DEFINITION. The words of the machine and the sparse map that every indexed piece of state is held in.
-/
namespace Sys2Proof

/-- R5: a control register. -/
abbrev Word := BitVec 32
/-- One byte of memory. -/
abbrev Byte := BitVec 8
/-- R21: a word of the core word space, and a G register. -/
abbrev Half := BitVec 16

/-- A sparse map from numbers: key and value pairs, keys strictly rising, no entry equal to what an unlisted key holds. -/
abbrev Cells (α : Type) := List (Nat × α)

end Sys2Proof
end

