-- ==== Sys2Proof/Syntax.lean ====
section
/-!
DEFINITION. The commands the block takes: one constructor of `Instr` for each row of spec/opcode_table.json, and the types of
their operands. A core command names its core by the slot `b` of R17 (0 to 7 the logical cores, 8 the spare slot).
-/
namespace Sys2Proof

/-- R41: the cue queues of a module. -/
inductive QueueId where
  | core (b : Fin 8)
  | hub
  | port (p : Fin 12)
  | aon
  deriving DecidableEq, Repr

/-- R41: the queue id that a cue sheet and a Lichen record give. -/
def QueueId.num : QueueId → Nat
  | .core b => b.val
  | .hub => 0x10
  | .port p => 0x20 + p.val
  | .aon => 0x30

/-- R2, R3, R17: who makes a register access. -/
inductive Agent where
  /-- Prompter firmware. -/
  | prompter
  /-- The rehearsal engine. -/
  | rehearsal
  /-- A core program on logical core `b`, context `c`. -/
  | core (b : Fin 8) (c : Fin 4)
  deriving DecidableEq, Repr

/-- R373: the header of a command packet, as it was received. OPCODE's low 12 bits are the command's own. -/
structure CmdHeader where
  /-- OPCODE bit 12. -/
  strict : Bool
  /-- OPCODE bit 13. -/
  fence : Bool
  /-- OPCODE bits 15:14. -/
  rsv : Nat
  /-- TAG. -/
  tag : Nat
  /-- LENGTH. -/
  length : Nat
  /-- The payload bytes that the transfer in fact held (R399). -/
  got : Nat
  /-- Whether LENGTH is right for the opcode: the spec gives no byte layout for most parameters (log entry 8). -/
  lenOk : Bool
  /-- Whether every reserved field of the payload is 0 (R379). -/
  rsvOk : Bool
  /-- TIMEOUT, in µs. -/
  timeout : Nat
  /-- HCRC as received. -/
  hcrc : Nat
  deriving DecidableEq, Repr


/-- R289: the core entry of a resource declaration. -/
structure CoreDecl where
  core : Nat
  lsBanks : Nat
  imem : Nat
  /-- X and Y ranges, in units of 64 words. -/
  x : Nat × Nat
  y : Nat × Nat
  sbPeak : Nat
  /-- CONTEXTS: contexts used, and of those the real-time ones. -/
  ctxs : Nat
  rtCtxs : Nat
  channels : Nat
  slotsRt : Nat
  cueSlots : Nat
  tags : Nat
  /-- CHAIN, when it is a member: whether it is the head, and the script-local chain. -/
  chain : Option (Bool × Nat)
  deriving DecidableEq, Repr

/-- R289: a deadline record. -/
structure DeadlineDecl where
  core : Nat
  ctx : Nat
  jobs : Nat
  release : Nat
  deadline : Nat
  wcet : Nat
  first : Nat
  deriving DecidableEq, Repr

/-- R49: a cue-sheet entry: OFFSET, bits 127:64 of the cue entry, and the queue id. -/
structure SheetEntry where
  offset : Nat
  high : Nat
  queue : Nat
  deriving DecidableEq, Repr

/-- R98: a tensor scale record. -/
structure TensorDecl where
  id : Nat
  type : Nat
  flags : Nat
  zp : Int
  mant : Nat
  exp : Int
  /-- Bytes 9 to 11 and FLAGS 7:2 are 0. -/
  rsvOk : Bool
  deriving DecidableEq, Repr

/-- A frond job of a script (R99, R292): its descriptor's sixteen fields, and the tensors it reads and writes. -/
structure JobDecl where
  core : Nat
  /-- It serves a batch context. -/
  batch : Bool
  fields : List Nat
  act : Nat
  out : Nat
  deriving DecidableEq, Repr

/-- R51: a NoC window's booking, with the offsets in the period at which it opens. -/
structure WindowDecl where
  src : Nat
  dst : Nat
  bw : Nat
  dur : Nat
  /-- The DDR4 channel of a window with a DDR4 destination. -/
  ddr : Option Nat
  opens : List Nat
  deriving DecidableEq, Repr

/-- R131, R138: a sliding-window layer: per axis padded input, filter and stride, and the tile of a frequency-path layer. -/
structure LayerDecl where
  axes : List (Nat × Nat × Nat)
  tile : Option Nat
  deriving DecidableEq, Repr

/-- What the body of a script image declares (R289, and the parts that R49, R98, R292 and R348 name). The spec gives the
parts and not how the body lays them out, so they are an operand of LOAD_SCRIPT (log entry 8). -/
structure ScriptDecl where
  version : Nat
  coreMask : Nat
  fixedPath : Bool
  realtime : Bool
  fabric : Bool
  sleepResume : Bool
  /-- Every reserved byte and flag is 0. -/
  rsvOk : Bool
  /-- Way masks: SS0_SCRATCH, SS0_CACHE, SS1_SCRATCH, SS1_CACHE. -/
  ss : List Nat
  /-- The buffers (DPA and size) of each pool. -/
  pools : List (List (Nat × Nat))
  /-- BUFFERS as declared. -/
  buffers : Nat
  /-- The script-local pool of each handle queue. -/
  hqueues : List Nat
  /-- BAR_CFG of each barrier, without EN and OWNER. -/
  barriers : List Nat
  chains : Nat
  windows : List WindowDecl
  hubCh : Nat
  hubCue : Nat
  hubSlotsRt : Nat
  hubTags : Nat
  period : Nat
  cores : List CoreDecl
  deadlines : List DeadlineDecl
  jobs : List JobDecl
  dmaDescs : List (Bool × List Nat)
  tensors : List TensorDecl
  layers : List LayerDecl
  sheet : List SheetEntry
  /-- The 96-byte stream records (R348). -/
  streams : List (List Byte)
  /-- Start addresses (VPP_CTX_PC) by core and context. -/
  entries : List (Nat × Nat × Nat)
  /-- Instruction-memory contents: core, byte offset and bytes. -/
  code : List (Nat × Nat × List Byte)
  deriving DecidableEq, Repr

/-- R353: a flit group as received: flits 0 to 6 and the trailer's fields. -/
structure FlitGroup where
  /-- No CRC and no sync-header error. -/
  good : Bool
  seq : BitVec 12
  nak : Bool
  replay : Bool
  ack : BitVec 12
  /-- KINDS of flits 0 to 6. -/
  kinds : List Nat
  /-- CREDITS: REQ, RSP, CTL. -/
  credits : List Nat
  flits : List (BitVec 256)
  deriving DecidableEq, Repr

/-- R400, R401: features that a host request on endpoint 0 sets and clears. -/
inductive UsbFeature where
  | u1Enable | u2Enable | remoteWake
  deriving DecidableEq, Repr

/-- Host standard requests on endpoint 0 that change state. -/
inductive UsbRequest where
  | setConfiguration (v : Nat)
  | feature (f : UsbFeature) (on : Bool)
  deriving DecidableEq, Repr

/-- R433: an access to the serial NOR. -/
inductive NorAccess where
  | program (o : Fin 67108864) (b : List Byte)
  | erase (o : Fin 67108864) (n : Nat)
  deriving DecidableEq, Repr

/-- R464: a failure that a diagnosis slice has localised, with the spare that takes its place where one does. -/
structure Defect where
  /-- As KIND of R465: 1 frond row, 2 frond column, 3 SRAM row. -/
  kind : Nat
  mem : Nat
  bank : Nat
  index : Nat
  spare : Nat
  deriving DecidableEq, Repr

/-- R381: a member as WINGS_STAGE names it; the offset counts 4-byte units. -/
structure StageMember where
  block : Nat
  rsv : Nat
  ofs : Nat
  value : Word
  deriving DecidableEq, Repr

/-- R197: the Prompter's arithmetic on integers. -/
inductive PromptAlu where
  | add | sub | band | bor | bxor | shl | shr | shrl | mul
  deriving DecidableEq, Repr

/-- The condition of a Prompter jump. -/
inductive PromptCond where
  | always | eq | ne | lt | ge
  deriving DecidableEq, Repr

/-- R197: the Prompter's handle-queue, pool and DMA operations. -/
inductive PromptHandleOp where
  | alloc | push | pop | free | fill | kick | abort | resume
  deriving DecidableEq, Repr

/-- R196 to R198: the Prompter's operations. The spec gives the operations and not their encoding. -/
inductive PromptOp where
  | alu (f : PromptAlu) (d a b : Fin 16)
  | cmp (ordered : Bool) (a b : Fin 16)
  | mv (d a : Fin 16)
  | ld (d a : Fin 16)
  | st (a v : Fin 16)
  | jump (c : PromptCond) (a : Fin 16)
  /-- The return address goes to register `d`. -/
  | call (d a : Fin 16)
  | ret (a : Fin 16)
  /-- The queue, pool or channel in `a`, a buffer handle in `b` where the operation takes one, its result to `d`. -/
  | handle (f : PromptHandleOp) (d a b : Fin 16)
  /-- The hardware hands out channel `n`. -/
  | claim (d : Fin 16) (n : Fin 64)
  /-- A cue entry with TIME in `lo` and `hi`, and the integers in `w2` and `w3`, is pushed. -/
  | cuePush (q : QueueId) (lo hi w2 w3 : Fin 16)
  /-- CUE plus or minus INT. -/
  | cueAdd (minus : Bool) (lo hi a : Fin 16)
  /-- A scale field in `a` is staged as the value of a member of set `n`. -/
  | stage (d a : Fin 16) (n : Fin 64) (block : Byte) (ofs : Fin 65536)
  | test (a : Fin 16)
  | tagint (d a : Fin 16)
  | tagset (d a : Fin 16) (t : Fin 16)
  | dpamk (d a : Fin 16) (e : Fin 16)
  | leac (d : Fin 16) (ofs : Int)
  | poison (d : Fin 16)
  | tagof (d a : Fin 16)
  deriving DecidableEq, Repr

/-- The commands of the block, one for each row of the table of operations and events. A command is what an agent outside the
block's state does to it, or an event whose instant the spec fixes and the model leaves to the sender (log entry 2). -/
inductive Instr where
  /-- R6. A write to a register that has no row of its own stores the written fields according to their access codes (RW, W1C, W1S, RWL), with reserved fields ignored. -/
  | registerWrite (x : Agent) (a : BitVec 40) (v : Word)
  /-- R6. A read of an RC counter returns its value and clears it; an increment in the same cycle leaves the counter at 1. -/
  | rcCounterRead (x : Agent) (a : BitVec 40)
  /-- R12. A NoC requester that was waiting for a free transaction tag obtains one and issues its request. -/
  | tagWaitIssue (r : Fin 15)
  /-- R19. Once every access in flight to the outgoing core has drained, Prompter firmware switches a logical index to another physical core, and waiting accesses complete against the incoming core. -/
  | coreIndexSwitch
  /-- R31. In SLEEP, each AON tick advances cue time by 30,517 ns plus the carry of the 6-bit fraction. -/
  | aonTick
  /-- R30. Every 10^9/|TRIM| ns, cue time gains or withholds one nanosecond increment. -/
  | cueTrimStep
  /-- R30. At most once per 4,096 ns, cue time withholds or doubles one increment and SLEW moves one step toward 0. -/
  | cueSlewStep
  /-- R32. At the first AON tick after PLL lock, the fast counter takes over cue time from the AON count and the fraction is discarded. -/
  | cueHandoverWake
  /-- R32. At the next AON tick edge after SLEEP entry, the AON counter takes the fast count with frac = 0. -/
  | cueHandoverSleep
  /-- R35. An accepted PPS rising edge captures cue time, loads SLEW when discipline is enabled, and updates PPS_LOCK. -/
  | ppsEdge (high : Nat)
  /-- R35. If no PPS edge is accepted for 1.5 s, PPS_LOCK clears, PPS_LOST is set, an event is recorded and TRIM is held. -/
  | ppsTimeout
  /-- R36. Every 1 ms a time-sync exchange with the parent starts; missed exchanges are counted and can clear ALIGN_OK. -/
  | timeSyncTimer
  /-- R37. A held cue time resumes once the parent's time has reached it, and HOLDING clears. -/
  | timeHoldEnd
  /-- R46. A write of CUEQ_ENTRY3 commits a cue entry, which is refused if the queue is full or a field is illegal, or else handled at once by its late policy if it is already past. -/
  | cueqPush (q : QueueId) (w : Word)
  /-- R48. A write of CUEQ_CTL.FLUSH removes every entry of the queue. -/
  | cueqFlush (q : QueueId)
  /-- R48. A write of CUEQ_CTL.RESUME drops the halted head entry and resumes the queue. -/
  | cueqResume (q : QueueId)
  /-- R47. In IDLE, the AON comparator ungates the clocks of the owning unit 256 ns before a queue head is due. -/
  | cuePrewake (q : QueueId)
  /-- R44. An action that has not started by TIME + TOL is late and is fired, skipped or halted as its policy says, with the counts and records that follow. -/
  | cueLate (q : QueueId)
  /-- R43. A NOP cue action fires and does nothing; a periodic entry is re-queued. -/
  | nop (q : QueueId)
  /-- R43. A DMA_LAUNCH cue starts a channel on its next descriptor by setting LAUNCH_PEND, or counts as a busy target. -/
  | dmaLaunch (q : QueueId)
  /-- R85. A FROND_JOB cue copies a descriptor from X memory into the frond job queue after the checks of R86. -/
  | frondJob (b : Fin 8)
  /-- R189. A TASK_START cue moves an IDLE task context to READY at its VPP_CTX_PC. -/
  | taskStart (b : Fin 8)
  /-- R170. A VPP_INT cue raises the named interrupt cause in VPP_INT_PEND. -/
  | vppInt (b : Fin 8)
  /-- R283. A BARRIER_RELEASE cue releases a CUE-mode barrier whose generation is complete, or marks the release as pending. -/
  | barrierRelease
  /-- R51. A cue opens a booked NoC window, which gives its traffic priority along its path. -/
  | nocWindowOpen
  /-- R51. A cue closes a NoC window. -/
  | nocWindowClose
  /-- R316. An FSYNC_PULSE cue drives an FSYNC output for the given width, unless the pulse is suppressed by MIN_PERIOD_US. -/
  | fsyncPulse (p : Fin 12)
  /-- R316. When an FSYNC pulse's width has elapsed, the output returns to its inactive level. -/
  | fsyncPulseEnd (n : Fin 12)
  /-- R315. A SENSOR_WRITE cue checks a whole I2C write list against the allow-list and starts sending it, or denies it. -/
  | sensorWrite (p : Fin 12)
  /-- R319. An ISP_APPLY cue binds an armed frame-bound ISP set to the next Frame Start of its stream, or marks that frame SET. -/
  | ispApply (p : Fin 12)
  /-- R57. At T, the Wings strobe switches every sealed member of an ARMED set in one core cycle, or finds the set unsealed and fails it. -/
  | wingsApply (n : Fin 64)
  /-- R422. A WAKE cue on the AON wake queue starts the wake sequence. -/
  | wake
  /-- R390. A HOST_EVENT cue posts an event record on EP3 IN. -/
  | hostEvent
  /-- R61. A module that has not received COMMIT for a fabric set by T - 1 ms cancels its share. -/
  | wingsCommitDeadline (n : Fin 64)
  /-- R85. A core-program write of FROND_JOB_Q pushes a descriptor, which is checked under R86 and refused or queued. -/
  | frondJobQWrite (b : Fin 9) (w : Word)
  /-- R87. A job leaves the frond queue once its scoreboard ranges are clear, registers its ranges and starts its first tile load. -/
  | frondJobStart (b : Fin 9)
  /-- R69. After the running batch pass ends, the frond loads a queued real-time job's tile and runs the real-time jobs before resuming the batch job. -/
  | frondRtPreempt (b : Fin 9)
  /-- R89. A weight block arrives in the idle plane and has its tag and group size checked; a mismatch halts the job with SCALE_SKEW. -/
  | frondWeightBlockLoad (b : Fin 9)
  /-- R66. When the tile is loaded and the previous pass has fed its last row, the planes swap and the next pass starts. -/
  | frondPassStart (b : Fin 9)
  /-- R87. When a job's last output row is written, its output range is released, FROND_DONE_CNT rises, the interrupt is raised and the clip threshold is tested. -/
  | frondJobComplete (b : Fin 9)
  /-- R90. A bus error on a frond fetch or write halts the job with ERR = BUS_ERROR. -/
  | frondBusError (b : Fin 9)
  /-- R88. A write of FROND_CTL.FLUSH removes every queued and halted job. -/
  | frondFlush (b : Fin 9)
  /-- R91. A write of FROND_CTL.RESUME drops the oldest halted job and releases its ranges. -/
  | frondResume (b : Fin 9)
  /-- R148. A write of VPP_CTL.START starts issue at VPP_PC. -/
  | vppStart (b : Fin 9)
  /-- R148. A write of VPP_CTL.HALT stops issue after the current bundle. -/
  | vppHalt (b : Fin 9)
  /-- R170. A write of VPP_INT_SET raises the interrupt causes written as 1. -/
  | vppIntSet (b : Fin 9) (w : Word)
  /-- R153. A bundle issues when its sources and destinations are free of pending writes and scoreboard waits, and all of its slots act together. -/
  | vppBundleIssue (b : Fin 9)
  /-- R172. At a bundle boundary with no product in flight, the lowest enabled pending cause is taken: the VPP pushes its state and vectors. -/
  | vppInterruptEntry (b : Fin 9)
  /-- R189. A batch context whose scoreboard wait exceeds SW_THRESH moves to WAITING and another READY context runs. -/
  | contextSwitchOut (b : Fin 9)
  /-- R189. A WAITING context's wait clears and the context becomes READY. -/
  | contextWaitClear (b : Fin 9) (c : Fin 4)
  /-- R190. A READY real-time context preempts a running batch context at an allowed boundary. -/
  | contextPreempt (b : Fin 9)
  /-- R190. A real-time context's wait passes its enabled deadline, which sets its VPP_DL_MISS bit and counts the miss. -/
  | vppDeadlineMiss (b : Fin 9) (c : Fin 4)
  /-- R196. The Prompter issues one tagged long operation, with tag checks raising a tag fault before anything is written. -/
  | prompterOpIssue (o : PromptOp)
  /-- R215. Data of a remote-window load returns and the stalled bundle completes. -/
  | remoteLoadReturn (b : Fin 9) (c : Fin 4)
  /-- R216. A posted remote store is acknowledged; a bus error sets PERR and latches the DPA. -/
  | remoteStoreAck (id : Nat)
  /-- R217. An incoming remote access is checked against the target core's scoreboard and performed or made to wait. -/
  | remoteAccessArrive (id : Nat)
  /-- R211. A GO write starts or queues a cache invalidation, or is refused if the source already has a request queued. -/
  | ssInvalidateGo (source : Fin 10) (c : Fin 2)
  /-- R211. An invalidation finishes after L + 16 or 16,400 core cycles, and the next queued request starts. -/
  | ssInvalidateDone (c : Fin 2)
  /-- R208. A DDR4 read for a cache miss returns and is delivered, and allocated unless an invalidation or mode change forbids it. -/
  | cacheFill (c : Fin 2)
  /-- R225. A bulk agent's ranges are placed in scoreboard entries together, joining, taking free entries or merging. -/
  | sbRegister (b : Fin 9) (agent : Nat) (ws rs : List (Nat × Nat))
  /-- R224. A registrant decrements an entry's count or narrows its own range, and freed entries are returned. -/
  | sbRelease (b : Fin 9) (agent : Nat) (entry : Fin 64) (write : Bool) (narrow : Option (Nat × Nat))
  /-- R223. A waiting access or registration proceeds once no overlapping entry blocks it, in order of wait start. -/
  | sbWaitClear (b : Fin 9)
  /-- R226. A scoreboard wait reaches TIMEOUT and is resolved by waiter kind: trap, miss report, bus error or continued wait. -/
  | sbTimeout (b : Fin 9) (i : Nat)
  /-- R229. A bank or way in transition switches off in the first cycle in which all power-down conditions hold. -/
  | bankSwitchOff (way : Bool) (u : Fin 9) (i : Fin 16)
  /-- R229. A power-down not completed within 4,096 core cycles is withdrawn, its FAIL bit is set and an event is recorded. -/
  | powerDownWithdrawn (way : Bool) (u : Fin 9) (i : Fin 16)
  /-- R230. A bank or way finishes its power-up and zero fill, and waiting accesses proceed. -/
  | bankPowerUpDone (way : Bool) (u : Fin 9) (i : Fin 16)
  /-- R232. A word corrected on read is written back in the next idle cycle of its bank. -/
  | eccCorrectedWriteback
  /-- R244. A KICK write sets LAUNCH_PEND and makes an IDLE channel fetch D0 of the descriptor at HEAD. -/
  | dmaKick (b : Fin 10) (n : Fin 64)
  /-- R244. A descriptor fetch returns: with OWN = 1 the channel copies it and latches GEN; a bus error halts the channel under R503. -/
  | dmaDescFetch (b : Fin 10) (n : Fin 64)
  /-- R242. A channel starts a descriptor after its launch and checks it, then registers ranges and begins issuing, or refuses it into HALT. -/
  | dmaDescStart (b : Fin 10) (n : Fin 64)
  /-- R263. A sealed shadow set is copied into the live channel registers at a descriptor boundary or a strobe. -/
  | dmaShadowHandover (b : Fin 10) (n : Fin 64)
  /-- R237. Read data for a channel arrives in buffer slots and the write engine forms and issues destination elements. -/
  | dmaReadReturn (b : Fin 10) (n : Fin 64) (k : Nat)
  /-- R247. A write acknowledgement is counted; the last one reaches the completion point of a BARRIER descriptor. -/
  | dmaWriteAck (b : Fin 10) (n : Fin 64)
  /-- R246. At completion, an atomic write-back of D0 and D15 writes the status or detects a collision. -/
  | dmaRingWriteback (b : Fin 10) (n : Fin 64)
  /-- R249. The hub channel writes a completion record and advances PROD, pushes the handle and raises the interrupt. -/
  | dmaCqRecordPost (n : Fin 64)
  /-- R248. A channel held in POSTING finds space in its completion or handle queue and continues. -/
  | dmaPostingResume (b : Fin 10) (n : Fin 64)
  /-- R251. A PACED channel resumes when the watched queue's fill crosses its START watermark. -/
  | dmaPaceResume (b : Fin 10) (n : Fin 64)
  /-- R254. A bus error on a data access stops the channel, which enters HALT after issued writes are acknowledged and posts a fault entry. -/
  | dmaBusError (b : Fin 10) (n : Fin 64)
  /-- R258. A page-table read for a translation-cache miss returns and is cached, or yields a fault. -/
  | dmaPtWalk (b : Fin 10) (n : Fin 64)
  /-- R259. A translation fault sets stop point P and the channel enters FAULT once the writes before P land. -/
  | dmaTranslationFault (b : Fin 10) (n : Fin 64)
  /-- R260. A RESUME write restarts a FAULT at P or completes a HALT with its error status, and is otherwise ignored. -/
  | dmaResume (b : Fin 10) (n : Fin 64)
  /-- R262. An ABORT write resolves to exactly one outcome (ALREADY_DONE, ABORTED or NOT_RUNNING) and clears EN. -/
  | dmaAbort (b : Fin 10) (n : Fin 64)
  /-- R262. An ABORTING channel completes with STATUS = ABORTED once every issued write is acknowledged. -/
  | dmaAbortDone (b : Fin 10) (n : Fin 64)
  /-- R263. A write of SHCTL.SEAL seals the channel's shadow set. -/
  | dmaShadowSeal (b : Fin 10) (n : Fin 64)
  /-- R258. A HUB_TVA_INV GO write invalidates translation-cache entries and sets BUSY. -/
  | tvaInvalidate (v : Word)
  /-- R258. BUSY clears once every access translated through an invalidated entry has been acknowledged. -/
  | tvaInvalidateDone
  /-- R261. Prompter firmware retires a DDR4 frame, copies it, remaps it and resumes the faulted channels. -/
  | pageRetire (frame spare : Fin 32768)
  /-- R266. A DMA_POST_CTL GO write sends a 64-byte mailbox message, retrying while the target is full. -/
  | dmaPost (b : Fin 10) (v : Word)
  /-- R266. A post still refused after DMA_POST_TMO core cycles reports FULL and is not delivered. -/
  | postTimeout (b : Fin 10)
  /-- R266. A posted message lands in a mailbox slot and interrupts the Prompter, if it is the target. -/
  | mailboxArrive (b : Fin 10)
  /-- R269. A write of MBX_STAT.POP frees the head mailbox slot. -/
  | mbxPop (b : Fin 10)
  /-- R255. A write of HUB_DMA_FQ_STAT.POP removes the head fault-queue entry. -/
  | faultQueuePop
  /-- R272. Moves a FREE buffer of a pool to HELD and returns its handle, or refuses. -/
  | hqAlloc (a : Agent) (p : Fin 16)
  /-- R272. Moves a HELD handle to the tail of a queue, or refuses it. -/
  | hqPush (a : Agent) (q : Fin 256) (h : Half)
  /-- R272. Moves the head handle of a queue to HELD, or replies EMPTY. -/
  | hqPop (a : Agent) (q : Fin 256)
  /-- R272. Returns a HELD buffer to its pool's free list. -/
  | hqFree (a : Agent) (h : Half)
  /-- R272. Returns the fill of a queue. -/
  | hqFill (a : Agent) (q : Fin 256)
  /-- R281. An arrival with the current generation increments ARRIVED; a stale one is refused and counted. -/
  | barArrive (a : Agent) (b : Fin 32) (gen : Byte)
  /-- R282. A read of CORE_BAR_WAIT waits until the generation arrived at releases or breaks, and returns the result. -/
  | barWait (b : Fin 8) (c : Fin 4)
  /-- R283. A COUNT-mode barrier releases the cycle after ARRIVED reaches PARTS, and its waiters return. -/
  | barCountRelease (b : Fin 32)
  /-- R280. Writing BAR_CFG.EN = 1 resets ARRIVED, sets the barrier OPEN and increments GEN. -/
  | barReset (b : Fin 32) (cfg : Word)
  /-- R285. A fabric barrier generation not complete within TMO_US of its first arrival breaks. -/
  | barTimeout (b : Fin 32)
  /-- R278. A weight tile arrives at a chain member's buffer and is used, discarded or held, and forwarded. -/
  | chainTileArrive (b : Fin 9)
  /-- R277. A held tile moves to the next member once that member has a free slot. -/
  | chainTileForward (b : Fin 9)
  /-- R279. A member job whose expected tile has not arrived within CHAIN_WAIT x 256 cycles reads its remaining tiles through the cache. -/
  | chainWaitExpire (b : Fin 9)
  /-- R288. Prompter firmware stops a faulted script's cues, contexts, jobs, channels, barriers and buffers, and posts a host event. -/
  | scriptFault (n : Fin 128)
  /-- R295. Every PERIOD_US the audit samples all conservation pools and fences a unit on a violation. -/
  | auditRun
  /-- R295. A write of AUD_CTL.RUN runs an audit at once. -/
  | auditRunNow
  /-- R301. A written INT_PORT_CFG takes effect when all lanes of the port are next in LP-11. -/
  | portCfgApply (p : Fin 12)
  /-- R297. A deskew sequence on a port's lanes is received and DESKEWED is set. -/
  | deskewSequence (p : Fin 12)
  /-- R303. An uncorrectable header or a start-of-transmission error discards the rest of the burst and marks open frames LINE_SEQ. -/
  | hsBurstDiscard (p : Fin 12) (sot : Bool)
  /-- R305. A Frame Start packet opens a frame, latches the stream registers, advances FIDX and applies bound ISP sets. -/
  | frameStart (p : Fin 12) (vc : Fin 16) (num : Half) (corrected : Bool)
  /-- R305. A Frame End closes the frame, synthesises missing rows, sets marks and issues the frame record. -/
  | frameEnd (p : Fin 12) (vc : Fin 16) (num : Half) (corrected : Bool)
  /-- R305. FE_TMO_US after Frame Start, an open frame closes marked TRUNC. -/
  | frameEndTimeout (k : Fin 48)
  /-- R308. A Line Start packet gives the row number for the next line of an LNUM stream. -/
  | lineStart (p : Fin 12) (vc : Fin 16) (num : Half) (corrected : Bool)
  /-- R306. A long image packet is unpacked, padded or truncated to WIDTH, placed in a row, or dropped if there is no buffer space. -/
  | imageLine (p : Fin 12) (vc : Fin 16) (dt : Fin 64) (b : List Byte) (crcOk corrected : Bool)
  /-- R307. An embedded-data line is stored in the stream's embedded buffer behind a line header, or discarded. -/
  | embeddedLine (p : Fin 12) (vc : Fin 16) (b : List Byte) (crcOk corrected : Bool)
  /-- R323. A write of INT_WATCH_CFG.EN = 1 enables the watch unit and clears REF_VALID. -/
  | watchEnable (p : Fin 12) (w : Word)
  /-- R315. An I2C_XFER GO write starts one checked transfer by firmware, after any list in progress. -/
  | i2cXfer (b : Fin 12) (w : Word)
  /-- R315. An I2C list or transfer ends with OK or NACK, setting RESULT and any SET marks. -/
  | i2cListComplete (b : Fin 12) (nack : Option (Fin 256 × Bool)) (rd : Word)
  /-- R315. SCL held low longer than LOW_TMO_US ends the list with recovery clocks and STOP, and reports STUCK. -/
  | i2cStuckTimeout (b : Fin 12) (i : Fin 256)
  /-- R317. An accepted trigger edge captures cue time and posts an event, wakes the module or schedules an FSYNC pulse. -/
  | trigEdge (n : Fin 4) (fall : Bool) (us : Nat)
  /-- R317. DELAY_US after an accepted linked edge, the FSYNC output is driven for WIDTH_US. -/
  | trigFsyncDelay (n : Fin 4)
  /-- R331. The stripe assembler moves the earliest-key buffered row into its slot or slots, once a slot is FREE. -/
  | saRowWrite
  /-- R329. When a slot's last write lands, its range is released and its entry is queued or held. -/
  | slotReady (k : Fin 48) (b : Fin 8) (i : Fin 4)
  /-- R333. A real-time read of STRIPE_NEXT0 waits for and pops the earliest-deadline entry and loads the context deadline. -/
  | stripePop (b : Fin 8) (c : Fin 4)
  /-- R338. A write of STRIPE_FB gives the frame's output buffer handle and releases the frame's held entries. -/
  | stripeFb (b : Fin 8) (c : Fin 4) (w : Word)
  /-- R335. A write of STRIPE_XREL releases one exchange range of a slot. -/
  | stripeXrel (b : Fin 8) (w : Word)
  /-- R339. A write of STRIPE_DONE judges the stripe, frees the slot and releases held references. -/
  | stripeDone (b : Fin 8) (c : Fin 4) (w : Word)
  /-- R339. A read of STRIPE_DRES waits until the done is processed and reports FRAME_DONE and the frame counts. -/
  | stripeDres (b : Fin 8) (c : Fin 4)
  /-- R345. With DROP_PAST, an entry still queued or held at its deadline is removed and its slot freed. -/
  | stripeDrop (k : Fin 48)
  /-- R346. Writing SA_STR_CFG.EN = 0 discards the FILLING and READY slots and closes open frames without output. -/
  | saStreamDisable (k : Fin 48)
  /-- R346. A FLUSH write frees every slot of the stream, HELD ones included. -/
  | saStreamFlush (k : Fin 48)
  /-- R343. At least once per second firmware reads the stripe miss and skip counts and posts an event for each stream that changed. -/
  | stripeCountPoll (k : Fin 48)
  /-- R354. A received flit group is checked; a good one delivers flits, ACK and credits, and a bad one is discarded with NAK. -/
  | eplGroupRx (l : Fin 6) (g : FlitGroup)
  /-- R354. If ACK has not advanced for 4 us, the sender resends from the oldest unacknowledged group. -/
  | eplReplayTimeout (l : Fin 6)
  /-- R361. 16 us without a good trailer starts the link reset protocol. -/
  | eplTrailerTimeout (l : Fin 6)
  /-- R361. The link reset protocol drains, reclaims credits, fails outstanding requests and retrains. -/
  | eplLinkReset (l : Fin 6)
  /-- R360. Lane lock and deskew complete and the link moves to INIT and sends LINIT. -/
  | eplTrainDone (l : Fin 6)
  /-- R361. A write of EPL_CTL.RESET starts the link reset protocol. -/
  | eplResetWrite (l : Fin 6)
  /-- R366. Writing LOCK = 1 makes a peer window's registers read-only until reset. -/
  | eplWinLock (w : Fin 16)
  /-- R365. An incoming peer write is admitted by a window and performed, or denied, and answered with WR_ACK. -/
  | wr (l : Fin 7)
  /-- R365. An incoming peer read is admitted and answered with RD_DATA. -/
  | rd (l : Fin 7)
  /-- R357. A peer write acknowledgement returns status to the requesting channel. -/
  | wrAck (l : Fin 7)
  /-- R357. Peer read data and status return to the requester. -/
  | rdData (l : Fin 7)
  /-- R112. A table announcement is compared with the receiver's table copy, halting the channel with SCALE_SKEW on a mismatch. -/
  | nb4Ann (l : Fin 7)
  /-- R111. NB4 blocks are checked and decoded into the destination, or the channel halts before a bad block. -/
  | nb4Data (l : Fin 7)
  /-- R368. A STOP, RESUME_AT, ABORT or DONE control message steers the sending channel. -/
  | nb4Ctl (l : Fin 7)
  /-- R369. A time-sync message from the parent carries t1, and the child takes t2 at arrival. -/
  | tsSync (l : Fin 7)
  /-- R369. The child's delay request carries t3, and the parent takes t4. -/
  | tsDreq (l : Fin 7)
  /-- R36. The parent's reply carries t4; the child computes offset and delay and corrects by slew, step or hold, updating ALIGN_OK. -/
  | tsDrsp (l : Fin 7)
  /-- R284. A module's completed barrier share arrives at HOME, which sends BAR_REL once all have arrived. -/
  | barArr (l : Fin 7)
  /-- R284. A fabric release carries T; the module releases at T as a FAB action, or on arrival if late. -/
  | barRel (l : Fin 7)
  /-- R285. A broken generation releases waiters with BROKEN and records an event. -/
  | barBroken (l : Fin 7)
  /-- R61. A member's check result for a fabric set reaches the time master. -/
  | wingsRpt (l : Fin 7)
  /-- R61. COMMIT for a fabric set arrives, and the module's share applies at T. -/
  | wingsCommit (l : Fin 7)
  /-- R370. Every HB_US, each UP link sends a HEARTBEAT. -/
  | heartbeatTimer (l : Fin 6)
  /-- R370. A received heartbeat keeps PEER_ALIVE and sets EPOCH_MISMATCH on a differing epoch. -/
  | heartbeat (l : Fin 7)
  /-- R370. No heartbeat for 3 x HB_US clears PEER_ALIVE and records PEER_LOST. -/
  | peerAliveTimeout (l : Fin 6)
  /-- R371. A received GOODBYE sets ASLEEP so that the later DOWN is treated as sleep. -/
  | goodbye (l : Fin 7)
  /-- R361. A link-init message announces buffer sizes and epoch, or restarts the reset protocol while the link is UP. -/
  | linit (l : Fin 6)
  /-- R361. The link acknowledgement moves the link to UP and records the reset event. -/
  | linitAck (l : Fin 6)
  /-- R399. An EP1 OUT transfer under 16 bytes is discarded without a reply and counted. -/
  | commandRunt (n : Fin 16)
  /-- R386. A command whose limit passes before its commit point stops and replies TIMEOUT. -/
  | commandTimeout (tag : Nat)
  /-- R381. Replies with the current cue time. -/
  | ping (h : CmdHeader)
  /-- R381. Replies with the part number, serial, life-cycle state, slot and versions. -/
  | getIdentity (h : CmdHeader)
  /-- R386. Stops a target command before its commit point, or replies ALREADY_DONE or NOT_FOUND. -/
  | cmdAbort (h : CmdHeader) (target : Nat)
  /-- R381. Replies with the power state, OPs, fenced units, core map and script slots. -/
  | getStatus (h : CmdHeader)
  /-- R382. Replies with 64-bit counter totals of a unit, never clearing them. -/
  | getCounters (h : CmdHeader) (blk inst cont : Nat)
  /-- R381. Replies with CUE_NOW, CUE_STATUS and CUE_TRIM. -/
  | timeGet (h : CmdHeader)
  /-- R29. On the time master, steps cue time forward to T, or clamps T to present cue time. -/
  | timeSetEpoch (h : CmdHeader) (t : Nat)
  /-- R381. Enables or disables PPS discipline. -/
  | timePps (h : CmdHeader) (en : Nat)
  /-- R54. Opens a free Wings set, local or fabric. -/
  | wingsOpen (h : CmdHeader) (id : Nat)
  /-- R55. Stages permitted members into a set with clamping, or refuses the staging whole. -/
  | wingsStage (h : CmdHeader) (n : Nat) (ms : List StageMember)
  /-- R56. Tests a set against its projected state and moves it to CHECKED or FAILED with every violation. -/
  | wingsCheck (h : CmdHeader) (n t : Nat)
  /-- R57. Clamps T, re-tests the set, then arms and seals it and rechecks later sets. -/
  | wingsApplyAt (h : CmdHeader) (n t isp : Nat)
  /-- R59. Cancels an ARMED set before T, unseals its shadows and rechecks later sets. -/
  | wingsCancel (h : CmdHeader) (n : Nat)
  /-- R54. Returns a set to FREE. -/
  | wingsRelease (h : CmdHeader) (n : Nat)
  /-- R381. Replies with a set's state and apply record. -/
  | wingsStatus (h : CmdHeader) (n : Nat)
  /-- R381. Maps a new TVA region of whole 2 MiB pages. -/
  | memMap (h : CmdHeader) (asid bytes writable : Nat) (page : Nat) (frames : List (Fin 32768))
  /-- R381. Unmaps a TVA region. -/
  | memUnmap (h : CmdHeader) (asid tva : Nat)
  /-- R398. Arms an EP2 hub DMA channel for exactly N bytes and replies with the bytes done. -/
  | xfer (h : CmdHeader) (dir stream asid tva bytes : Nat) (frc type : Nat)
  /-- R381. Writes up to 65,520 bytes at a TVA. -/
  | memWrite (h : CmdHeader) (asid tva : Nat) (b : List Byte)
  /-- R381. Reads up to 65,536 bytes from a TVA. -/
  | memRead (h : CmdHeader) (asid tva n : Nat)
  /-- R291. Verifies a script image and admits it against every limit, or refuses it with refusal items. -/
  | loadScript (h : CmdHeader) (asid tva len : Nat) (d : ScriptDecl)
  /-- R381. Unloads a script slot that is not running. -/
  | unloadScript (h : CmdHeader) (n : Nat)
  /-- R49. Binds a script's cue sheet at anchor A and runs it. -/
  | run (h : CmdHeader) (n anchor : Nat)
  /-- R381. Stops a script at T. -/
  | stop (h : CmdHeader) (n t : Nat)
  /-- R386. Hands a serving request to a script's batch contexts. -/
  | submit (h : CmdHeader) (n inp inLen outp outLen : Nat)
  /-- R381. Replies with a script's state and miss and fault counts. -/
  | scriptStatus (h : CmdHeader) (n : Nat)
  /-- R381. Restarts a stopped or faulted script. -/
  | restart (h : CmdHeader) (n : Nat)
  /-- R318. Builds the exposure and gain write-list cues for a target frame. -/
  | sensorSettings (h : CmdHeader) (k fidx : Nat) (expo gain : List (Word × Word)) (lists firsts times : Nat × Nat)
  /-- R319. Builds a frame-bound ISP Wings set for a target frame. -/
  | ispParams (h : CmdHeader) (k fidx t : Nat) (w : List Half)
  /-- R381. Reads 1-4 bytes from a camera-bus device through the allow-list. -/
  | i2cRead (h : CmdHeader) (bus dev reg : Nat) (a16 : Bool) (n : Nat)
  /-- R381. Schedules periodic FSYNC pulses on an output. -/
  | fsyncSchedule (h : CmdHeader) (n period phase width : Nat)
  /-- R381. Replies with a stream's counters and last frame record. -/
  | streamStatus (h : CmdHeader) (k : Nat)
  /-- R381. Replies with state residency, input power, cap and hold records. -/
  | powerGet (h : CmdHeader)
  /-- R414. Sets a cluster's requested OP, refused below OP7 where a real-time script pins it. -/
  | setOp (h : CmdHeader) (c op : Nat)
  /-- R415. Sets the power cap, up to CEIL. -/
  | setPowerCap (h : CmdHeader) (w : Nat)
  /-- R388. Replies OK and starts SLEEP entry with a wake time and a source mask. -/
  | sleep (h : CmdHeader) (t mask : Nat)
  /-- R388. Replies OK and starts DARK entry with a source mask. -/
  | dark (h : CmdHeader) (mask : Nat)
  /-- R381. Replies with rotation and slice results. -/
  | rehearsalStatus (h : CmdHeader)
  /-- R381. Sets the rotation period in hours. -/
  | rehearsalCfg (h : CmdHeader) (hours : Nat)
  /-- R381. Runs one slice of a block at once and replies with its result. -/
  | rehearseNow (h : CmdHeader) (block : Nat)
  /-- R381. Replies with fuse and field repair entries. -/
  | repairMapGet (h : CmdHeader) (cont : Nat)
  /-- R461. Performs a planned swap of a logical index onto the spare. -/
  | coreReplace (h : CmdHeader) (b : Nat)
  /-- R465. Runs the full test engine, compacts the field map and programs fuse repairs. -/
  | fullTest (h : CmdHeader) (mask : Nat) (finds : List Nat)
  /-- R447. Builds and signs an attestation report with the device certificate. -/
  | attest (h : CmdHeader) (nonce : List Byte)
  /-- R442. Starts an update of the inactive slot with image lengths, refusing lengths that are too long. -/
  | fwUpdateBegin (h : CmdHeader) (fw cfg : Nat)
  /-- R442. Writes update data at a slot offset. -/
  | fwUpdateData (h : CmdHeader) (o : Nat) (b : List Byte)
  /-- R442. Verifies both images and writes the firmware header, marking the slot PENDING. -/
  | fwUpdateCommit (h : CmdHeader)
  /-- R445. Checks a signed token and blows the fuses of a life-cycle transition or revocation. -/
  | lifecycleToken (h : CmdHeader) (tok : List Byte)
  /-- R381. Replies with link states, routes and the time tree. -/
  | fabricStatus (h : CmdHeader)
  /-- R381. Starts the reset protocol on a peer link. -/
  | linkReset (h : CmdHeader) (l : Nat)
  /-- R381. Replies with records committed, the next slot and LOG_FULL. -/
  | lichenInfo (h : CmdHeader)
  /-- R479. Returns complete Lichen records from a first index. -/
  | lichenRead (h : CmdHeader) (first count : Nat)
  /-- R3. In SERVICE, reads device registers. -/
  | regRead (h : CmdHeader) (dpa n : Nat)
  /-- R3. In SERVICE, writes a device register under a mask and returns the previous value. -/
  | regWrite (h : CmdHeader) (dpa value mask : Nat)
  /-- R381. Fences or releases a unit. -/
  | fenceUnit (h : CmdHeader) (unit on : Nat)
  /-- R393. VBUS attachment is detected and the module enumerates at the negotiated speed. -/
  | usbAttach (speed : Fin 7)
  /-- R407. A USB reset, warm reset or VBUS loss ends every outstanding command and records the cause. -/
  | usbReset (kind : Fin 3)
  /-- R406. CLEAR_FEATURE(ENDPOINT_HALT) aborts EP2 XFERs in that direction, or resets the sequence on EP1 and EP3. -/
  | clearEndpointHalt (ep : Fin 4) (inward : Bool)
  /-- R398. An EP2 OUT packet is accepted into the armed channel, or answered NRDY. -/
  | ep2OutData (n : Fin 16) (b : List Byte) (retries : Nat)
  /-- R400. After 2 us or 100 us of link idle with host permission, the link enters U1 or U2. -/
  | usbU1U2Entry (u2 : Bool)
  /-- R401. On entry to U3 the module enters SLEEP if remote wake is enabled, nothing is outstanding and no script runs. -/
  | usbSuspend
  /-- R402. U3 exit LFPS or resume signalling starts the wake sequence. -/
  | usbResume
  /-- R405. A SuperSpeed port that fails to train drops speed and records 0x0A11. -/
  | usbTrainFail (speed : Fin 7)
  /-- R409. A PLL achieves lock within 40 us. -/
  | pllLock (k : Fin 5)
  /-- R412. A cluster changes OP, stepping voltage then frequency, or frequency then voltage. -/
  | opTransition (c : Fin 2)
  /-- R413. Every 100 us the adaptive loop nudges the cluster voltage by 5 mV. -/
  | avsTick (c : Fin 2) (below above : Bool)
  /-- R413. Negative slack halves the cluster clock for at least 1 us and is counted. -/
  | droopEvent (c : Fin 2)
  /-- R415. Every 10 us, input power is sampled and clusters are stepped down or up against CAP. -/
  | powerLimiterSample (mv curr c0 c1 : Nat)
  /-- R416. Temperature thresholds step a cluster's OP, gate a hot cluster at TRIP_C, or force DARK at critical temperature. -/
  | thermalCheck (sensor : Fin 14) (t : Int)
  /-- R418. A hold lasting more than 10 ms is recorded when it ends, at SLEEP entry or at 24 h. -/
  | limitHoldEnd (kind : Fin 3) (c : Fin 2)
  /-- R421. After IDLE_HYST_US without activity, the module gates clocks into IDLE. -/
  | idleEntry
  /-- R421. A cue, packet, trigger or message ungates the clocks within 200 ns. -/
  | idleExit
  /-- R423. The SLEEP entry procedure stops and suspends work, audits, pushes WAKE and puts DDR4 in self-refresh. -/
  | sleepEntry
  /-- R425. The DARK entry procedure stops work, writes the Lichen summaries and switches all but AON off. -/
  | darkEntry
  /-- R424. An enabled wake source fires and abandons an entry before commit, latches the wake, or starts the wake or boot. -/
  | wakeSource (src : Fin 6)
  /-- R426. At 120 us after acceptance the module is ACTIVE, and firmware refills the cue queues and posts the wake cause. -/
  | wakeComplete
  /-- R427. A write of AON_WDOG.KICK restarts the watchdog. -/
  | watchdogKick
  /-- R428. No kick within TIMEOUT_MS resets the module except AON and records 0x0A21. -/
  | watchdogExpire
  /-- R486. RST_N low for 10 us resets everything except AON. -/
  | rstNAssert
  /-- R428. A power-on reset resets everything and re-senses the fuses. -/
  | powerOnReset
  /-- R429. A tag fault in the fault handler resets the Prompter, which restarts and faults the loaded scripts. -/
  | prompterReset
  /-- R430. Input below 9.2 V for 1 ms sets UVWARN and records 0x0102. -/
  | uvWarn (mv : Nat)
  /-- R430. Input below 8.6 V for 50 us forces DARK at once and records 0x0103. -/
  | uvShutdown (mv : Nat)
  /-- R430. Input at or above 9.3 V for 1 s starts a DARK-exit boot. -/
  | uvRecover (mv : Nat)
  /-- R490. Presence pins mate and the inrush limiter charges the input capacitance. -/
  | moduleInsert
  /-- R437. The boot ROM checks the manifest, picks and verifies a slot, loads configuration and hands over, or enters recovery. -/
  | bootRomStart (forced : Bool)
  /-- R438. Firmware confirms its slot on the first command and writes SEC_RB_ADV to raise the rollback counter. -/
  | slotConfirm (level : Fin 128)
  /-- R440. Setting SEC_LOCK.BOOT, or the first CONNECT, makes the remaining RWL fields read-only. -/
  | secLockBoot
  /-- R439. Setting SEC_LOCK.CFG locks the configuration fields. -/
  | secLockCfg
  /-- R194. A write of SEC_EMU_GATE.REQ opens the emulation gate while the full test engine runs. -/
  | emuGateReq
  /-- R449. A SEC_SIG_CTL.GO write starts a script verification or an attestation in the signature engine. -/
  | sigEngineGo (op : Fin 2)
  /-- R435. The signature engine finishes and reports the result of the first failing check. -/
  | sigEngineDone
  /-- R433. A serial NOR program or erase is performed or denied by the NOR controller, with 0x0309 recorded. -/
  | norAccess (x : NorAccess)
  /-- R469. A REH_GO write runs one slice of the named block. -/
  | rehGo (block : Half)
  /-- R453. A rehearsal slice fences its block and begins draining. -/
  | rehSliceStart
  /-- R453. A block not drained within 100 us is abandoned and unfenced. -/
  | rehDrainTimeout
  /-- R454. A slice compares its MISR, re-initialises and unfences the block, and repeats or diagnoses on a mismatch. -/
  | rehSliceEnd (cut : Bool) (misr : Word) (ds : List Defect)
  /-- R456. At a planned time, firmware quiesces a core and swaps its logical index onto the spare at barrier 31. -/
  | plannedSwap
  /-- R457. A core not quiet within 10 ms abandons the swap and releases held cues. -/
  | swapQuiesceTimeout
  /-- R458. The migration copy completes, the index switches and contexts resume. -/
  | migrationDone
  /-- R460. A failed in-service core is replaced at once by the spare and its scripts fault. -/
  | coreFailure (b : Fin 8) (cause : Fin 3)
  /-- R466. A patrol read corrects single-bit errors and leads to retiring a frame under the thresholds. -/
  | ddr4PatrolScrub (line : Fin 1073741824) (spare : Fin 32768)
  /-- R467. A 200 us D-PHY loopback on an idle or blanking port records 0x040A on an error. -/
  | dphyLoopback (p : Fin 12) (errors : Nat)
  /-- R467. A 1 ms PRBS31 loopback on a down link records 0x040A on an excessive BER. -/
  | eplPrbsLoopback (l : Fin 6) (errors : Nat)
  /-- R467. A PLL loses lock, which records 0x040A and gates a cluster until relock. -/
  | pllLockLoss (k : Fin 5)
  /-- R467. Every 10 s, sensors are compared with their cluster median and a deviant one is substituted. -/
  | tempCrosscheck
  /-- R467. Every 1 s, voltage is checked against two bandgaps. -/
  | voltageCrosscheck (a b : Nat)
  /-- R473. A write of LCH_REQ queues a record request subject to the rate limit, or refuses it. -/
  | lichenRequest (code : Nat) (ongoing : Bool)
  /-- R472. The recorder programs a slot, reads it back and writes COMMIT, or leaves a torn slot and retries. -/
  | lichenRecordWrite (ok : Bool)
  /-- R473. At start-up the recorder finds the first erased slot by binary search. -/
  | lichenPositionFind
  /-- R475. Every 3,600 operating seconds each code's bucket gains one token. -/
  | lichenTokenRefill
  /-- R471. Each second of AON power advances the operating-second count, which is saved every 3,600 s. -/
  | opsecTick
  /-- R492. SMBus command 0x01 returns the 24-byte identity block. -/
  | smbIdentity
  /-- R492. SMBus command 0x02 returns the power state. -/
  | smbState
  /-- R492. SMBus command 0x10 returns VIN in mV. -/
  | smbVin
  /-- R492. SMBus command 0x11 returns the input current. -/
  | smbCurrent
  /-- R492. SMBus command 0x12 returns input power over 1 ms. -/
  | smbPower
  /-- R492. SMBus command 0x20 returns the hottest temperature. -/
  | smbTemp
  /-- R492. SMBus command 0x21 returns the hottest sensor. -/
  | smbTempSensor
  /-- R492. SMBus command 0x30 read returns SIDE_ALERT_STAT. -/
  | smbAlertStatRead
  /-- R493. SMBus command 0x30 write clears the alert status bits written as 1. -/
  | smbAlertStatClear (v : Byte) (pecOk : Bool)
  /-- R492. SMBus command 0x31 read returns SIDE_ALERT_MASK. -/
  | smbAlertMaskRead
  /-- R492. SMBus command 0x31 write sets SIDE_ALERT_MASK. -/
  | smbAlertMaskWrite (v : Byte) (pecOk : Bool)
  /-- R492. SMBus command 0x40 with 0xA5 acts as the SMBUS wake source in SLEEP or DARK. -/
  | smbWake
  /-- R493. An Alert Response Address read returns the module's address and releases ALERT_N. -/
  | smbAlertResponse
  /-- R486. SMB_CLK held low for 30 ms releases SDA, resets the interface and counts a timeout. -/
  | smbClockTimeout
  /-- R495. The TAP selects the bypass register. -/
  | jtagBypass
  /-- R495. The TAP returns IDCODE 0x0848_0F3B with the die revision. -/
  | jtagIdcode
  /-- R495. The TAP samples or preloads the boundary register. -/
  | jtagSamplePreload (pins load : Nat)
  /-- R495. The TAP drives pins from the boundary register while RST_N is low, and otherwise acts as SAMPLE. -/
  | jtagExtest (pins load : Nat)
  /-- R495. The IEEE 1149.6 pulse test on AC-coupled lanes runs while RST_N is low. -/
  | jtagExtestPulse (pins load : Nat)
  /-- R495. The IEEE 1149.6 train test on AC-coupled lanes runs while RST_N is low. -/
  | jtagExtestTrain (pins load : Nat)
  /-- R50. Prompter firmware tops up every cue queue so that it holds all cue-sheet entries due within the next 4 ms. -/
  | cueSheetRefill
  /-- R33. A read of CUE_NOW_LO, INT_STR_FS_LO, INT_TRIG_CAP_LO or INT_WATCH_EVT_LO latches the matching HI word. -/
  | loLatchRead (x : Agent) (a : BitVec 40)
  /-- R299. A CSI-2 packet with a reserved or generic short code, or whose VC and data type match no enabled stream, is counted in INT_PORT_UNMATCHED_p and discarded. -/
  | unmatchedPacket (p : Fin 12)
  /-- R391. The host takes an EP3 IN interrupt packet of up to 4 event records, freeing queue room, after which EVENTS_LOST may be posted. -/
  | ep3InTransfer
  /-- R400. A host standard request on endpoint 0 such as SET_CONFIGURATION or SET_FEATURE for U1_ENABLE, U2_ENABLE or function remote wake changes CONFIGURED, the link-power permissions and RWAKE_EN. -/
  | usbStandardRequest (r : UsbRequest)
  /-- R488. VIO_CAM falls below 1.6 V, and FSYNC outputs, camera buses and triggers are held released or inactive. -/
  | vioCamLoss
  /-- R488. VIO_CAM rises back to 1.6 V or above, and the camera pins return to their programmed behaviour. -/
  | vioCamReturn
  /-- R360. Signal appears on the lanes of an enabled link that was DOWN, for example when the peer wakes or is inserted, and the link enters TRAIN. -/
  | eplSignalDetect (l : Fin 6)
  /-- R431. The 32.768 kHz crystal becomes stable, the AON domain leaves its internal oscillator and cue time begins counting from the crystal. -/
  | aonCrystalStable
  /-- R429. About 250 ms after a Prompter reset, the re-verified firmware restarts, faults every loaded script, ends outstanding commands and records 0x0A20. -/
  | prompterRestartDone
  /-- R452. Each active hour, Prompter firmware advances its active-hour count and saves it to the boot state sector. -/
  | activeHourTick
  /-- R495. A debug instruction loaded into the TAP acts where R444 permits JTAG debug, and otherwise selects the bypass register. -/
  | jtagDebugInstruction
  deriving DecidableEq, Repr

end Sys2Proof
end

