-- ==== Sys2Proof/Decode.lean ====
section
/-!
DEFINITION. Commands as words. The table of operations gives no row any bits: a command of this block is an operation with its
operands (a packet, a register access, an event), so no word spells one.
-/
namespace Sys2Proof

/-- The command that a word spells by the table's bits: none, since the table gives bits to no row. -/
def decodeTableWord (_nbits _w : Nat) : Option Instr := none

end Sys2Proof
end

