-- ==== Sys2Proof/Config.lean ====
section
/-!
DEFINITION. What an implementation fixes and the values the spec leaves open. Each free value is an opaque function without
a body, applied to the model's own count of free values taken (or to the operands it depends on): nothing in Lean can
evaluate it, so a statement holds for every value.
-/
namespace Sys2Proof.Config

/-- R35: what SLEW holds when the distance to the nearest whole second does not fit its 24 bits. -/
opaque slewTooFar : Nat → Nat

/-- R472: byte `i` of a slot whose read-back did not match. -/
opaque tornByte : Nat → Nat → BitVec 8

/-- R426: the CODE of the host event that posts a wake cause, which R390 does not list. -/
opaque wakeEventCode : Nat

/-- R390: INDEX and PARAM of the record of a HOST_EVENT cue, which the spec does not state. -/
opaque cueEventField : Nat → Nat

/-- R415: the cluster that a limiter step takes where both draw the same current, or both are held below their request. -/
opaque eitherCluster : Nat → Bool

/-- R468: the number by which record 0x040A names an analogue check of R467 (0 D-PHY, 1 peer link, 2 PLL, 3 temperature,
4 voltage). -/
opaque checkNumber : Nat → Nat

/-- R468: the figures for measured value and limit that record 0x040A gives where the spec states none. -/
opaque analogueFigure : Nat → Nat

/-- R91: a byte of a halted frond job's output range. -/
opaque haltedByte : Nat → BitVec 8

/-- R315: the list and item that record 0x0307 names for a transfer by firmware. -/
opaque deniedTransfer : Nat → Nat

/-- R351: NBR_CORE and NBR_SLOT (five bits) of a frame's stripe 0, which has no previous stripe. -/
opaque firstNeighbour : Nat → Nat

/-- SHA-384 of a string of bytes (R434). -/
opaque sha384 : List (BitVec 8) → List (BitVec 8)

/-- Whether an RSASSA-PSS signature verifies: modulus, message, signature (R434). -/
opaque rsaVerify : List (BitVec 8) → List (BitVec 8) → List (BitVec 8) → Bool

/-- Whether an SLH-DSA signature verifies: public key, message, signature (R434). -/
opaque slhVerify : List (BitVec 8) → List (BitVec 8) → List (BitVec 8) → Bool

/-- R439: the items of the body of a signed configuration image, as register addresses and values: the spec says what a
configuration sets and not how its body lays that out. -/
opaque configItems : List (BitVec 8) → List (Nat × BitVec 32)

/-- R443: the number by which record 0x0305 names the life-cycle fuse field. -/
opaque fuseField : Nat

/-- R465: whether a fuse repair entry is free for one more field entry. -/
opaque fuseFree : Nat → Bool

/-- R381: the result that FULL_TEST gives for a block. -/
opaque fullTestResult : Nat → Nat

/-- R446: the wrapped device keys, by the serial, which stands for the die's fused unique secret. -/
opaque wrappedKeys : Nat → List (BitVec 8)

/-- R288, R381: the halt cause of a script that faults for another reason than a halted VPP (R174): 0 CORE_FAILED, 1
PROMPTER_RESET, 2 a fenced pool, 3 no free frame. The spec names these causes and gives no numbers. -/
opaque haltCause : Nat → Nat

/-- R468: the cause that record 0x0406 gives for each case of R460, in its order. -/
opaque replaceCause : Nat → Nat

/-- R200: how record 0x0A01 gives the operation (0) and the operand tags (1) of a tag fault. -/
opaque tagFaultField : Nat → Nat → Nat

/-- R200: where the Prompter's fault handler is. -/
opaque faultHandler : Nat

/-- R199: base and limit (both included) of an entry of the Prompter's DPA bounds table, which the boot ROM writes; entry 0 is
the private data region. -/
opaque dpaBounds : Nat → Nat × Nat

/-- R199: base and limit of the Prompter's firmware code region. -/
opaque codeRegion : Nat × Nat

/-- Where the Prompter's firmware starts. -/
opaque firmwareEntry : Nat

/-- R197: whether the Prompter's ordered compare of integers is signed. -/
opaque compareSigned : Bool

/-- R14, R199: the data of a Prompter load that ends in a bus error. -/
opaque busErrorWord : Nat → BitVec 32

/-- R147: the half that MV.H moves between two registers that have no upper half. -/
opaque openHalf : Nat → Nat

/-- R165: the convention of STATUS.C after a subtraction or a compare: whether C = 1 says that a borrow occurred. -/
opaque carryIsBorrow : Bool

/-- R165: C after a shift by 0, of which no bit is shifted out. -/
opaque openFlag : Nat → Bool

/-- R180: the low half of what VPUT leaves in a register where its element number is beyond the register's elements (even
arguments), and the high half (odd arguments). -/
opaque openVector : Nat → BitVec 64

/-- R195: FN of VPACK: whether the elements narrowed are signed, and whether the type they are clamped to is. -/
opaque packForm : Nat → Bool × Bool

/-- R195: FN of VUNPK: whether the elements widened are signed, and whether they are the high half. -/
opaque unpackForm : Nat → Bool × Bool

/-- R376: the byte offset in the payload of field `k` of a command with this opcode; the spec gives no byte layout for most
parameters. The TIMEOUT field, which lies in the header, is field 100. -/
opaque fieldOffset : Nat → Nat → Nat

/-- R447: the signature block of an attestation report under the device keys. -/
opaque attestSign : List (BitVec 8) → List (BitVec 8)

/-- R364, R387: the byte offset in block 0x28 of the time-tree register, which a fabric Wings set may name; the spec lists no
such register. -/
opaque timeTreeOffset : Nat

/-- R386: output bytes written by a serving request, by the count of free values taken (reduced to the bytes that there are). -/
opaque submitBytes : Nat → Nat

/-- R36: the depth in the time tree that a module shows once a parent has been named. -/
opaque timeTreeHops : Nat → Nat

/-- R61: the modules that hold a share of a fabric set, by its id. -/
opaque fabricMembers : Nat → List Nat

/-- R364: whether the routes and the time tree of all shares of a fabric set, with the shares' data flits, pass the time
master's check. -/
opaque fabricRoutesOk : Nat → List (BitVec 8) → Bool

end Sys2Proof.Config
end

