-- ==== Sys2Proof/Machine/Bits.lean ====
section
/-!
DEFINITION. Bit fields, sign extension, byte order, saturating counts, and the operations of the sparse map `Cells`.
-/
namespace Sys2Proof.Machine

/-- A bit field of a word, by its highest and lowest bit (R4). -/
structure Fld where
  hi : Nat
  lo : Nat
  deriving DecidableEq, Repr

/-- The width of a field. -/
abbrev Fld.width (f : Fld) : Nat := f.hi + 1 - f.lo

/-- The largest value a field holds. -/
abbrev Fld.max (f : Fld) : Nat := 2 ^ f.width - 1

/-- The value of a field of a number. -/
def bitsOf (n hi lo : Nat) : Nat := n / 2 ^ lo % 2 ^ (hi + 1 - lo)

/-- One bit of a number. -/
def bitOf (n i : Nat) : Bool := n / 2 ^ i % 2 == 1

/-- The value of a field of a register word. -/
def getF (w : Word) (f : Fld) : Nat := bitsOf w.toNat f.hi f.lo

/-- A register word with one field replaced (the value taken modulo the field's width). -/
def setF (w : Word) (f : Fld) (v : Nat) : Word :=
  let mask : Word := BitVec.ofNat 32 (2 ^ f.width - 1) <<< f.lo
  (w &&& ~~~mask) ||| ((BitVec.ofNat 32 (v % 2 ^ f.width)) <<< f.lo)

/-- A Bool as a bit. -/
def b2n (b : Bool) : Nat := if b then 1 else 0

/-- A number of `n` bits read as two's complement. -/
def signed (n v : Nat) : Int :=
  let v := v % 2 ^ n
  if v < 2 ^ (n - 1) then (v : Int) else (v : Int) - 2 ^ n

/-- An integer taken modulo `2 ^ n`, as a number. -/
def wrapTo (n : Nat) (i : Int) : Nat := (i % (2 ^ n : Int)).toNat

/-- An integer clamped between two bounds. -/
def clampInt (lo hi i : Int) : Int := if i < lo then lo else if hi < i then hi else i

/-- A number clamped between two bounds. -/
def clampNat (lo hi n : Nat) : Nat := if n < lo then lo else if hi < n then hi else n

/-- R7: the arithmetic right shift truncates toward minus infinity. -/
def asr (i : Int) (n : Nat) : Int := i / (2 ^ n : Int)

/-- The bytes of a number, low byte first. -/
def leBytes : Nat → Nat → List Byte
  | 0, _ => []
  | k + 1, n => BitVec.ofNat 8 (n % 256) :: leBytes k (n / 256)

/-- The number whose bytes, low byte first, are these. -/
def ofLeBytes : List Byte → Nat
  | [] => 0
  | b :: bs => b.toNat + 256 * ofLeBytes bs

/-- The value listed under a key. -/
def Cells.find {α : Type} : Cells α → Nat → Option α
  | [], _ => none
  | (j, v) :: l, k => if j = k then some v else Cells.find l k

/-- What a key holds: its listed value, or the value `d` gives an unlisted key. -/
def Cells.get {α : Type} (d : Nat → α) (l : Cells α) (k : Nat) : α := (Cells.find l k).getD (d k)

/-- The map without a key. -/
def Cells.erase {α : Type} : Cells α → Nat → Cells α
  | [], _ => []
  | (j, v) :: l, k => if j = k then Cells.erase l k else (j, v) :: Cells.erase l k

/-- The map with a value listed under a key, in order. -/
def Cells.put {α : Type} : Cells α → Nat → α → Cells α
  | [], k, x => [(k, x)]
  | (j, v) :: l, k, x =>
    if j = k then (k, x) :: l else if k < j then (k, x) :: (j, v) :: l else (j, v) :: Cells.put l k x

/-- The map with a key holding a value: listed unless it is what the unlisted key holds. -/
def Cells.set {α : Type} [DecidableEq α] (d : Nat → α) (l : Cells α) (k : Nat) (x : α) : Cells α :=
  if x = d k then Cells.erase l k else Cells.put l k x

/-- The canonical form: keys strictly rising, and no entry equal to what an unlisted key holds. -/
def Cells.wf {α : Type} [DecidableEq α] (d : Nat → α) : Cells α → Bool
  | [] => true
  | [(k, v)] => v != d k
  | (k, v) :: (j, w) :: l => v != d k && k < j && Cells.wf d ((j, w) :: l)

end Sys2Proof.Machine
end

