-- ==== Sys2Proof/Machine/RegMap.lean ====
section
/-!
DEFINITION. The register map of the die: where every control register of the spec's register tables lies, its fields, their
access codes (R6), and their reset values. A register's name is the spec's name after `r`, as a function of the instance
indices the table gives it; a field's name is `f`, the register's name and the field's name. The rows are grouped by the
control register block of R18. A field marked W1S that starts an action and that the spec does not describe as staying set
is `cmd`: the write starts the action and the bit reads 0 (log entry 12).
-/
namespace Sys2Proof.Machine

/-- R6: the access codes of the register tables. `cmd` is a W1S bit that starts an action and reads as 0. -/
inductive Acc where
  | ro | rw | wo | w1c | w1s | cmd | rc | rwl
  deriving DecidableEq, Repr

/-- One field of a register: its bits, its access code and its reset value. -/
structure FldRow where
  hi : Nat
  lo : Nat
  acc : Acc
  reset : Nat
  deriving DecidableEq, Repr

/-- One row of a register table: the offset in its block, the counts and strides of its instances, its fields. -/
structure RegRow where
  off : Nat
  dims : List (Nat × Nat)
  flds : List FldRow
  deriving DecidableEq, Repr

/-- R13, R18: control register block `b` starts here. -/
abbrev blkBase (b : Nat) : Nat := 0x7F00000000 + 0x100000 * b
/-- The control register block of the core `p`. -/
abbrev blkCore (p : Nat) : Nat := blkBase p
/-- The control register block of the cluster `c`. -/
abbrev blkCluster (c : Nat) : Nat := blkBase (0x10 + c)
/-- R268: the register group of channel `n` of DMA engine `e` (0 to 8 a core's engine, 9 the hub's). -/
abbrev dmaChanBase (e n : Nat) : Nat :=
  if e = 9 then blkBase 0x30 + 0x80 * n else blkBase e + 0x3000 + 0x80 * n
/-- R269: the register group of DMA engine `e`. -/
abbrev dmaEngBase (e : Nat) : Nat :=
  if e = 9 then blkBase 0x30 + 0x3000 else blkBase e + 0x3800

/-- R33. -/
abbrev rCUE_NOW_LO : Nat := 0x7F03200000
/-- R33. -/
abbrev rCUE_NOW_HI : Nat := 0x7F03200004
/-- R33. -/
abbrev rCUE_STATUS : Nat := 0x7F03200008
/-- R33. -/
abbrev rCUE_TRIM : Nat := 0x7F0320000C
/-- R33. -/
abbrev rCUE_SLEW : Nat := 0x7F03200010
/-- R33. -/
abbrev rCUE_PPS_CAP_LO : Nat := 0x7F03200014
/-- R33. -/
abbrev rCUE_PPS_CAP_HI : Nat := 0x7F03200018
/-- R33. -/
abbrev rCUE_LATE_TOL : Nat := 0x7F0320001C
/-- R33. -/
abbrev rCUE_LATE_CNT : Nat := 0x7F03200020
/-- R33. -/
abbrev rCUE_MISS_CNT : Nat := 0x7F03200024
/-- R88. -/
abbrev rFROND_JOB_Q (p : Nat) : Nat := blkCore p + 0x1000
/-- R88. -/
abbrev rFROND_Q_STAT (p : Nat) : Nat := blkCore p + 0x1004
/-- R88. -/
abbrev rFROND_STATUS (p : Nat) : Nat := blkCore p + 0x1008
/-- R88. -/
abbrev rFROND_ERR_INFO (p : Nat) : Nat := blkCore p + 0x100C
/-- R88. -/
abbrev rFROND_CTL (p : Nat) : Nat := blkCore p + 0x1010
/-- R88. -/
abbrev rFROND_DONE_CNT (p : Nat) : Nat := blkCore p + 0x1014
/-- R88. -/
abbrev rFROND_CLIP_EVT (p : Nat) : Nat := blkCore p + 0x1018
/-- R88. -/
abbrev rFROND_ERR_ADDR_LO (p : Nat) : Nat := blkCore p + 0x1020
/-- R88. -/
abbrev rFROND_ERR_ADDR_HI (p : Nat) : Nat := blkCore p + 0x1024
/-- R88. -/
abbrev rFROND_STAT_VALS (p t : Nat) : Nat := blkCore p + 0x1100 + 16 * t
/-- R88. -/
abbrev rFROND_STAT_CLIP (p t : Nat) : Nat := blkCore p + 0x1104 + 16 * t
/-- R88. -/
abbrev rFROND_STAT_ZERO (p t : Nat) : Nat := blkCore p + 0x1108 + 16 * t
/-- R88. -/
abbrev rFROND_STAT_SAT (p t : Nat) : Nat := blkCore p + 0x110C + 16 * t
/-- R114. -/
abbrev rNB4_TBL0_LO : Nat := 0x7F03002000
/-- R114. -/
abbrev rNB4_TBL0_HI : Nat := 0x7F03002004
/-- R114. -/
abbrev rNB4_TBL_LO (t : Nat) : Nat := 0x7F03002008 + 8 * t
/-- R114. -/
abbrev rNB4_TBL_HI (t : Nat) : Nat := 0x7F0300200C + 8 * t
/-- R114. -/
abbrev rNB4_STAT : Nat := 0x7F03002020
/-- R114. -/
abbrev rNB4_RSVD_CNT : Nat := 0x7F03002024
/-- R114. -/
abbrev rNB4_CLIP_CNT : Nat := 0x7F03002028
/-- R114. -/
abbrev rNB4_SKEW_CNT : Nat := 0x7F0300202C
/-- R148. -/
abbrev rVPP_CTL (p : Nat) : Nat := blkCore p + 0x0
/-- R148. -/
abbrev rVPP_PC (p : Nat) : Nat := blkCore p + 0x4
/-- R148. -/
abbrev rVPP_MODE (p : Nat) : Nat := blkCore p + 0x8
/-- R148. -/
abbrev rVPP_STATUS (p : Nat) : Nat := blkCore p + 0xC
/-- R148. -/
abbrev rVPP_FAULT_ADDR (p : Nat) : Nat := blkCore p + 0x10
/-- R148. -/
abbrev rVPP_FAULT_LANE (p : Nat) : Nat := blkCore p + 0x14
/-- R148. -/
abbrev rVPP_SP_LIM (p : Nat) : Nat := blkCore p + 0x18
/-- R148. -/
abbrev rVPP_VEC_BASE (p : Nat) : Nat := blkCore p + 0x1C
/-- R148. -/
abbrev rVPP_INT_PEND (p : Nat) : Nat := blkCore p + 0x20
/-- R148. -/
abbrev rVPP_INT_EN (p : Nat) : Nat := blkCore p + 0x24
/-- R148. -/
abbrev rVPP_INT_SET (p : Nat) : Nat := blkCore p + 0x28
/-- R148. -/
abbrev rVPP_DEFER_MAX (p : Nat) : Nat := blkCore p + 0x2C
/-- R191. -/
abbrev rVPP_CTX_CTL (p : Nat) : Nat := blkCore p + 0x40
/-- R191. -/
abbrev rVPP_CTX_STAT (p : Nat) : Nat := blkCore p + 0x44
/-- R191. -/
abbrev rVPP_CTX_PC (p c : Nat) : Nat := blkCore p + 0x48 + 4 * c
/-- R191. -/
abbrev rVPP_CTX_SWCNT (p : Nat) : Nat := blkCore p + 0x58
/-- R191. -/
abbrev rVPP_DL_MISS (p : Nat) : Nat := blkCore p + 0x5C
/-- R191. -/
abbrev rVPP_CTX_DL (p c : Nat) : Nat := blkCore p + 0x80 + 4 * c
/-- R192. -/
abbrev rFEAT0 (p : Nat) : Nat := blkCore p + 0x30
/-- R192. -/
abbrev rFEAT1 (p : Nat) : Nat := blkCore p + 0x34
/-- R192. -/
abbrev rFEAT2 (p : Nat) : Nat := blkCore p + 0x38
/-- R192. -/
abbrev rFEAT3 (p : Nat) : Nat := blkCore p + 0x3C
/-- R194. -/
abbrev rVPP_EMU_WORD (p k : Nat) : Nat := blkCore p + 0x60 + 4 * k
/-- R194. -/
abbrev rVPP_EMU_SLOT (p : Nat) : Nat := blkCore p + 0x70
/-- R218. -/
abbrev rCORE_RWIN (p n : Nat) : Nat := blkCore p + 0x100 + 4 * n
/-- R218. -/
abbrev rCORE_RWIN_STAT (p : Nat) : Nat := blkCore p + 0x120
/-- R218. -/
abbrev rCORE_RWIN_ERR_LO (p : Nat) : Nat := blkCore p + 0x124
/-- R218. -/
abbrev rCORE_RWIN_ERR_HI (p : Nat) : Nat := blkCore p + 0x128
/-- R218. -/
abbrev rCORE_IMEM_LOCK (p : Nat) : Nat := blkCore p + 0x140
/-- R218. -/
abbrev rCORE_SS_INV_LO (p : Nat) : Nat := blkCore p + 0x150
/-- R218. -/
abbrev rCORE_SS_INV_HI (p : Nat) : Nat := blkCore p + 0x154
/-- R218. -/
abbrev rCORE_SS_INV_STAT (p : Nat) : Nat := blkCore p + 0x158
/-- R227. -/
abbrev rSB_CFG (p : Nat) : Nat := blkCore p + 0x200
/-- R227. -/
abbrev rSB_STAT (p : Nat) : Nat := blkCore p + 0x204
/-- R227. -/
abbrev rSB_MERGE_CNT (p : Nat) : Nat := blkCore p + 0x208
/-- R227. -/
abbrev rSB_VWAIT_CYC (p : Nat) : Nat := blkCore p + 0x20C
/-- R227. -/
abbrev rSB_TIMEOUT_CNT (p : Nat) : Nat := blkCore p + 0x210
/-- R227. -/
abbrev rSB_FAULT (p : Nat) : Nat := blkCore p + 0x214
/-- R227. -/
abbrev rSB_ENTRY_LO (p e : Nat) : Nat := blkCore p + 0x400 + 16 * e
/-- R227. -/
abbrev rSB_ENTRY_HI (p e : Nat) : Nat := blkCore p + 0x404 + 16 * e
/-- R227. -/
abbrev rSB_ENTRY_CNT (p e : Nat) : Nat := blkCore p + 0x408 + 16 * e
/-- R231. -/
abbrev rLS_PWR_CTL (p : Nat) : Nat := blkCore p + 0x300
/-- R231. -/
abbrev rLS_PWR_STAT (p : Nat) : Nat := blkCore p + 0x304
/-- R231. -/
abbrev rLS_PWR_FAIL (p : Nat) : Nat := blkCore p + 0x308
/-- R231. -/
abbrev rSS_WAY_CFG (c : Nat) : Nat := blkCluster c + 0x0
/-- R231. -/
abbrev rSS_WAY_STAT (c : Nat) : Nat := blkCluster c + 0x4
/-- R231. -/
abbrev rSS_PWR_FAIL (c : Nat) : Nat := blkCluster c + 0x8
/-- R231. -/
abbrev rSS_HIT_CNT (c : Nat) : Nat := blkCluster c + 0x20
/-- R231. -/
abbrev rSS_MISS_CNT (c : Nat) : Nat := blkCluster c + 0x24
/-- R231. -/
abbrev rSS_NOFILL_CNT (c : Nat) : Nat := blkCluster c + 0x28
/-- R235. -/
abbrev rMEM_ECC_CE_CNT (p : Nat) : Nat := blkCore p + 0x320
/-- R235. -/
abbrev rMEM_ECC_UE_CNT (p : Nat) : Nat := blkCore p + 0x324
/-- R235. -/
abbrev rMEM_ECC_ADDR (p : Nat) : Nat := blkCore p + 0x328
/-- R235. -/
abbrev rMEM_ECC_ROW (p : Nat) : Nat := blkCore p + 0x32C
/-- R235. -/
abbrev rMEM_REP (p e : Nat) : Nat := blkCore p + 0xC00 + 4 * e
/-- R235. -/
abbrev rSS_ECC_CE_CNT (c : Nat) : Nat := blkCluster c + 0x30
/-- R235. -/
abbrev rSS_ECC_UE_CNT (c : Nat) : Nat := blkCluster c + 0x34
/-- R235. -/
abbrev rSS_ECC_ADDR (c : Nat) : Nat := blkCluster c + 0x38
/-- R235. -/
abbrev rSS_ECC_ROW (c : Nat) : Nat := blkCluster c + 0x3C
/-- R235. -/
abbrev rSS_REP (c e : Nat) : Nat := blkCluster c + 0x100 + 4 * e
/-- R268. -/
abbrev rDMA_CH_CTL (e n : Nat) : Nat := dmaChanBase e n + 0x0
/-- R268. -/
abbrev rDMA_CH_STAT (e n : Nat) : Nat := dmaChanBase e n + 0x4
/-- R268. -/
abbrev rDMA_CH_CFG (e n : Nat) : Nat := dmaChanBase e n + 0x8
/-- R268. -/
abbrev rDMA_CH_PACE (e n : Nat) : Nat := dmaChanBase e n + 0xC
/-- R268. -/
abbrev rDMA_CH_RING_LO (e n : Nat) : Nat := dmaChanBase e n + 0x10
/-- R268. -/
abbrev rDMA_CH_RING_HI (e n : Nat) : Nat := dmaChanBase e n + 0x14
/-- R268. -/
abbrev rDMA_CH_HEAD (e n : Nat) : Nat := dmaChanBase e n + 0x18
/-- R268. -/
abbrev rDMA_CH_COLL_CNT (e n : Nat) : Nat := dmaChanBase e n + 0x1C
/-- R268. -/
abbrev rDMA_CH_ERR_LO (e n : Nat) : Nat := dmaChanBase e n + 0x20
/-- R268. -/
abbrev rDMA_CH_ERR_HI (e n : Nat) : Nat := dmaChanBase e n + 0x24
/-- R268. -/
abbrev rDMA_CH_SIDX0 (e n : Nat) : Nat := dmaChanBase e n + 0x28
/-- R268. -/
abbrev rDMA_CH_SIDX1 (e n : Nat) : Nat := dmaChanBase e n + 0x2C
/-- R268. -/
abbrev rDMA_CH_DIDX0 (e n : Nat) : Nat := dmaChanBase e n + 0x30
/-- R268. -/
abbrev rDMA_CH_DIDX1 (e n : Nat) : Nat := dmaChanBase e n + 0x34
/-- R268. -/
abbrev rDMA_CH_POS_LO (e n : Nat) : Nat := dmaChanBase e n + 0x38
/-- R268. -/
abbrev rDMA_CH_POS_HI (e n : Nat) : Nat := dmaChanBase e n + 0x3C
/-- R268. -/
abbrev rDMA_CH_CFG_SH (e n : Nat) : Nat := dmaChanBase e n + 0x40
/-- R268. -/
abbrev rDMA_CH_PACE_SH (e n : Nat) : Nat := dmaChanBase e n + 0x44
/-- R268. -/
abbrev rDMA_CH_RING_LO_SH (e n : Nat) : Nat := dmaChanBase e n + 0x48
/-- R268. -/
abbrev rDMA_CH_RING_HI_SH (e n : Nat) : Nat := dmaChanBase e n + 0x4C
/-- R268. -/
abbrev rDMA_CH_SHCTL (e n : Nat) : Nat := dmaChanBase e n + 0x50
/-- R268. -/
abbrev rDMA_CH_NB4 (e n : Nat) : Nat := dmaChanBase e n + 0x54
/-- R269. -/
abbrev rDMA_ENG_STAT (e : Nat) : Nat := dmaEngBase e + 0x0
/-- R269. -/
abbrev rDMA_ENG_REFUSE_CNT (e : Nat) : Nat := dmaEngBase e + 0x4
/-- R269. -/
abbrev rDMA_ENG_FRC_CLAMP_CNT (e : Nat) : Nat := dmaEngBase e + 0x8
/-- R269. -/
abbrev rDMA_POST_CTL (p : Nat) : Nat := blkCore p + 0x3810
/-- R269. -/
abbrev rDMA_POST_STAT (p : Nat) : Nat := blkCore p + 0x3814
/-- R269. -/
abbrev rDMA_POST_TMO (p : Nat) : Nat := blkCore p + 0x3818
/-- R269. -/
abbrev rMBX_STAT (p : Nat) : Nat := blkCore p + 0x3900
/-- R269. -/
abbrev rMBX_DATA (p k : Nat) : Nat := blkCore p + 0x3904 + 4 * k
/-- R269. -/
abbrev rHUB_CQ_FULL_CNT : Nat := 0x7F03003010
/-- R269. -/
abbrev rHUB_CQ_BASE_LO (q : Nat) : Nat := 0x7F03003100 + 16 * q
/-- R269. -/
abbrev rHUB_CQ_BASE_HI (q : Nat) : Nat := 0x7F03003104 + 16 * q
/-- R269. -/
abbrev rHUB_CQ_PROD (q : Nat) : Nat := 0x7F03003108 + 16 * q
/-- R269. -/
abbrev rHUB_CQ_CONS (q : Nat) : Nat := 0x7F0300310C + 16 * q
/-- R269. -/
abbrev rHUB_PT_BASE_LO (a : Nat) : Nat := 0x7F03004000 + 8 * a
/-- R269. -/
abbrev rHUB_PT_BASE_HI (a : Nat) : Nat := 0x7F03004004 + 8 * a
/-- R269. -/
abbrev rHUB_TVA_INV : Nat := 0x7F03004100
/-- R269. -/
abbrev rHUB_TVA_INV_STAT : Nat := 0x7F03004104
/-- R269. -/
abbrev rHUB_TVA_MISS_CNT : Nat := 0x7F03004108
/-- R269. -/
abbrev rHUB_DMA_FQ_STAT : Nat := 0x7F03005000
/-- R269. -/
abbrev rHUB_DMA_FQ_E0 : Nat := 0x7F03005004
/-- R269. -/
abbrev rHUB_DMA_FQ_E1 : Nat := 0x7F03005008
/-- R269. -/
abbrev rHUB_DMA_FQ_E2 : Nat := 0x7F0300500C
/-- R269. -/
abbrev rHUB_POST_DATA (k : Nat) : Nat := 0x7F03005840 + 4 * k
/-- R275. -/
abbrev rHQP_CMD (p : Nat) : Nat := blkCore p + 0x4000
/-- R275. -/
abbrev rHQP_RESULT (p : Nat) : Nat := blkCore p + 0x4004
/-- R275. -/
abbrev rHQP_ADDR_LO (p : Nat) : Nat := blkCore p + 0x4008
/-- R275. -/
abbrev rHQP_ADDR_HI (p : Nat) : Nat := blkCore p + 0x400C
/-- R275. -/
abbrev rHQP_SIZE (p : Nat) : Nat := blkCore p + 0x4010
/-- R275. -/
abbrev rCORE_BAR_ARRIVE (p : Nat) : Nat := blkCore p + 0x4020
/-- R275. -/
abbrev rCORE_BAR_WAIT (p : Nat) : Nat := blkCore p + 0x4024
/-- R275. -/
abbrev rCHAIN_CFG (p : Nat) : Nat := blkCore p + 0x4030
/-- R275. -/
abbrev rCHAIN_LATE_CNT (p : Nat) : Nat := blkCore p + 0x4034
/-- R275. -/
abbrev rCHAIN_STAT (p : Nat) : Nat := blkCore p + 0x4038
/-- R286. -/
abbrev rHP_CFG (p : Nat) : Nat := 0x7F03100000 + 16 * p
/-- R286. -/
abbrev rHP_BASE (p : Nat) : Nat := 0x7F03100004 + 16 * p
/-- R286. -/
abbrev rHP_CNT (p : Nat) : Nat := 0x7F03100008 + 16 * p
/-- R286. -/
abbrev rHP_QCNT (p : Nat) : Nat := 0x7F0310000C + 16 * p
/-- R286. -/
abbrev rHQ_CFG (q : Nat) : Nat := 0x7F03101000 + 8 * q
/-- R286. -/
abbrev rHQ_STAT (q : Nat) : Nat := 0x7F03101004 + 8 * q
/-- R286. -/
abbrev rBAR_CFG (b : Nat) : Nat := 0x7F03102000 + 16 * b
/-- R286. -/
abbrev rBAR_STAT (b : Nat) : Nat := 0x7F03102004 + 16 * b
/-- R286. -/
abbrev rBAR_TMO (b : Nat) : Nat := 0x7F03102008 + 16 * b
/-- R286. -/
abbrev rBAR_LATE_CNT (b : Nat) : Nat := 0x7F0310200C + 16 * b
/-- R286. -/
abbrev rHQ_BADOP_CNT : Nat := 0x7F03103000
/-- R286. -/
abbrev rBAR_STALE_CNT : Nat := 0x7F03103004
/-- R286. -/
abbrev rBAR_FAB_MARGIN : Nat := 0x7F03103008
/-- R286. -/
abbrev rHB_ENTRY0 (i : Nat) : Nat := 0x7F03140000 + 16 * i
/-- R286. -/
abbrev rHB_ENTRY1 (i : Nat) : Nat := 0x7F03140004 + 16 * i
/-- R286. -/
abbrev rHB_ENTRY2 (i : Nat) : Nat := 0x7F03140008 + 16 * i
/-- R296. -/
abbrev rAUD_CTL : Nat := 0x7F03300000
/-- R296. -/
abbrev rAUD_RUN_CNT : Nat := 0x7F03300004
/-- R296. -/
abbrev rAUD_VIOL : Nat := 0x7F03300008
/-- R296. -/
abbrev rAUD_VIOL_EXP : Nat := 0x7F0330000C
/-- R296. -/
abbrev rAUD_VIOL_FOUND : Nat := 0x7F03300010
/-- R296. -/
abbrev rAUD_VIOL_CNT : Nat := 0x7F03300014
/-- R302. -/
abbrev rINT_PORT_CFG (p : Nat) : Nat := 0x7F02001000 + 64 * p
/-- R302. -/
abbrev rINT_PORT_STAT (p : Nat) : Nat := 0x7F02001004 + 64 * p
/-- R302. -/
abbrev rINT_PORT_ECC_CORR (p : Nat) : Nat := 0x7F02001008 + 64 * p
/-- R302. -/
abbrev rINT_PORT_ECC_UNC (p : Nat) : Nat := 0x7F0200100C + 64 * p
/-- R302. -/
abbrev rINT_PORT_CRC_ERR (p : Nat) : Nat := 0x7F02001010 + 64 * p
/-- R302. -/
abbrev rINT_PORT_DROP (p : Nat) : Nat := 0x7F02001014 + 64 * p
/-- R302. -/
abbrev rINT_PORT_UNMATCHED (p : Nat) : Nat := 0x7F02001018 + 64 * p
/-- R302. -/
abbrev rINT_PORT_SOT_ERR (p : Nat) : Nat := 0x7F0200101C + 64 * p
/-- R302. -/
abbrev rINT_STR_CFG (s : Nat) : Nat := 0x7F02002000 + 64 * s
/-- R302. -/
abbrev rINT_STR_GEOM (s : Nat) : Nat := 0x7F02002004 + 64 * s
/-- R302. -/
abbrev rINT_STR_TMO (s : Nat) : Nat := 0x7F02002008 + 64 * s
/-- R302. -/
abbrev rINT_STR_LAST (s : Nat) : Nat := 0x7F0200200C + 64 * s
/-- R302. -/
abbrev rINT_STR_FIDX (s : Nat) : Nat := 0x7F02002010 + 64 * s
/-- R302. -/
abbrev rINT_STR_FS_LO (s : Nat) : Nat := 0x7F02002014 + 64 * s
/-- R302. -/
abbrev rINT_STR_FS_HI (s : Nat) : Nat := 0x7F02002018 + 64 * s
/-- R302. -/
abbrev rINT_STR_PERIOD (s : Nat) : Nat := 0x7F0200201C + 64 * s
/-- R302. -/
abbrev rINT_STR_ROWS_SYN (s : Nat) : Nat := 0x7F02002020 + 64 * s
/-- R302. -/
abbrev rINT_STR_ROWS_DISC (s : Nat) : Nat := 0x7F02002024 + 64 * s
/-- R302. -/
abbrev rINT_STR_LINE_ADJ (s : Nat) : Nat := 0x7F02002028 + 64 * s
/-- R302. -/
abbrev rINT_STR_ORPHAN (s : Nat) : Nat := 0x7F0200202C + 64 * s
/-- R302. -/
abbrev rINT_STR_MARKED (s : Nat) : Nat := 0x7F02002030 + 64 * s
/-- R302. -/
abbrev rINT_STR_SETLATE (s : Nat) : Nat := 0x7F02002034 + 64 * s
/-- R315. -/
abbrev rINT_WL (n : Nat) : Nat := 0x7F02007000 + 4 * n
/-- R315. -/
abbrev rI2C_CFG (b : Nat) : Nat := 0x7F02004000 + 256 * b
/-- R315. -/
abbrev rI2C_STAT (b : Nat) : Nat := 0x7F02004004 + 256 * b
/-- R315. -/
abbrev rI2C_XFER (b : Nat) : Nat := 0x7F02004008 + 256 * b
/-- R315. -/
abbrev rI2C_XDATA (b : Nat) : Nat := 0x7F0200400C + 256 * b
/-- R315. -/
abbrev rI2C_DENY_CNT (b : Nat) : Nat := 0x7F02004010 + 256 * b
/-- R315. -/
abbrev rI2C_NACK_CNT (b : Nat) : Nat := 0x7F02004014 + 256 * b
/-- R315. -/
abbrev rI2C_RESET_CNT (b : Nat) : Nat := 0x7F02004018 + 256 * b
/-- R315. -/
abbrev rI2C_ALLOW_LO (b e : Nat) : Nat := 0x7F02004080 + 256 * b + 8 * e
/-- R315. -/
abbrev rI2C_ALLOW_HI (b e : Nat) : Nat := 0x7F02004084 + 256 * b + 8 * e
/-- R317. -/
abbrev rINT_FSYNC_CFG (n : Nat) : Nat := 0x7F02005000 + 8 * n
/-- R317. -/
abbrev rINT_FSYNC_SUPP (n : Nat) : Nat := 0x7F02005004 + 8 * n
/-- R317. -/
abbrev rINT_TRIG_CFG (n : Nat) : Nat := 0x7F02005100 + 16 * n
/-- R317. -/
abbrev rINT_TRIG_ACT (n : Nat) : Nat := 0x7F02005104 + 16 * n
/-- R317. -/
abbrev rINT_TRIG_CAP_LO (n : Nat) : Nat := 0x7F02005108 + 16 * n
/-- R317. -/
abbrev rINT_TRIG_CAP_HI (n : Nat) : Nat := 0x7F0200510C + 16 * n
/-- R317. -/
abbrev rINT_TRIG_CNT (n : Nat) : Nat := 0x7F02005140 + 4 * n
/-- R323. -/
abbrev rINT_WATCH_CFG (p : Nat) : Nat := 0x7F02006000 + 64 * p
/-- R323. -/
abbrev rINT_WATCH_THR (p : Nat) : Nat := 0x7F02006004 + 64 * p
/-- R323. -/
abbrev rINT_WATCH_LAST (p : Nat) : Nat := 0x7F02006008 + 64 * p
/-- R323. -/
abbrev rINT_WATCH_EVT_FIDX (p : Nat) : Nat := 0x7F0200600C + 64 * p
/-- R323. -/
abbrev rINT_WATCH_EVT_LO (p : Nat) : Nat := 0x7F02006010 + 64 * p
/-- R323. -/
abbrev rINT_WATCH_EVT_HI (p : Nat) : Nat := 0x7F02006014 + 64 * p
/-- R323. -/
abbrev rINT_WATCH_STAT (p : Nat) : Nat := 0x7F02006018 + 64 * p
/-- R350. -/
abbrev rSA_WR_BYTES : Nat := 0x7F02100000
/-- R350. -/
abbrev rSA_RQ (n : Nat) : Nat := 0x7F02100100 + 4 * n
/-- R350. -/
abbrev rSA_STR_CFG (s : Nat) : Nat := 0x7F02101000 + 128 * s
/-- R350. -/
abbrev rSA_STR_HALO (s : Nat) : Nat := 0x7F02101004 + 128 * s
/-- R350. -/
abbrev rSA_STR_SLOT (s : Nat) : Nat := 0x7F02101008 + 128 * s
/-- R350. -/
abbrev rSA_STR_GEOM (s : Nat) : Nat := 0x7F0210100C + 128 * s
/-- R350. -/
abbrev rSA_STR_DL (s : Nat) : Nat := 0x7F02101010 + 128 * s
/-- R350. -/
abbrev rSA_STR_ZVAL (s : Nat) : Nat := 0x7F02101014 + 128 * s
/-- R350. -/
abbrev rSA_STR_XR_LO (s k : Nat) : Nat := 0x7F02101018 + 128 * s + 8 * k
/-- R350. -/
abbrev rSA_STR_XR_HI (s k : Nat) : Nat := 0x7F0210101C + 128 * s + 8 * k
/-- R350. -/
abbrev rSA_STR_STRIPES (s : Nat) : Nat := 0x7F02101050 + 128 * s
/-- R350. -/
abbrev rSA_STR_MISS (s : Nat) : Nat := 0x7F02101054 + 128 * s
/-- R350. -/
abbrev rSA_STR_SKIP (s : Nat) : Nat := 0x7F02101058 + 128 * s
/-- R350. -/
abbrev rSA_STR_NOBUF (s : Nat) : Nat := 0x7F0210105C + 128 * s
/-- R350. -/
abbrev rSA_STR_REFMISS (s : Nat) : Nat := 0x7F02101060 + 128 * s
/-- R350. -/
abbrev rSA_STR_SLOTWAIT (s : Nat) : Nat := 0x7F02101064 + 128 * s
/-- R350. -/
abbrev rSA_STR_LAT_MAX (s : Nat) : Nat := 0x7F02101068 + 128 * s
/-- R350. -/
abbrev rSA_STR_STAT (s : Nat) : Nat := 0x7F0210106C + 128 * s
/-- R350. -/
abbrev rSA_STR_CTL (s : Nat) : Nat := 0x7F02101070 + 128 * s
/-- R350. -/
abbrev rSA_ISP (s i : Nat) : Nat := 0x7F02110000 + 512 * s + 4 * i
/-- R351. -/
abbrev rSTRIPE_NEXT0 (p : Nat) : Nat := blkCore p + 0x4040
/-- R351. -/
abbrev rSTRIPE_NEXT1 (p : Nat) : Nat := blkCore p + 0x4044
/-- R351. -/
abbrev rSTRIPE_NEXT2 (p : Nat) : Nat := blkCore p + 0x4048
/-- R351. -/
abbrev rSTRIPE_NEXT3 (p : Nat) : Nat := blkCore p + 0x404C
/-- R351. -/
abbrev rSTRIPE_FB (p : Nat) : Nat := blkCore p + 0x4050
/-- R351. -/
abbrev rSTRIPE_XREL (p : Nat) : Nat := blkCore p + 0x4054
/-- R351. -/
abbrev rSTRIPE_DONE (p : Nat) : Nat := blkCore p + 0x4058
/-- R351. -/
abbrev rSTRIPE_DRES (p : Nat) : Nat := blkCore p + 0x405C
/-- R351. -/
abbrev rSTRIPE_FREC (p k : Nat) : Nat := blkCore p + 0x4060 + 4 * k
/-- R372. -/
abbrev rEPL_FAB_CFG : Nat := 0x7F02800000
/-- R372. -/
abbrev rEPL_ALLOW_BASE : Nat := 0x7F02800004
/-- R372. -/
abbrev rEPL_ALLOW_LIMIT : Nat := 0x7F02800008
/-- R372. -/
abbrev rEPL_WIN_DENY_CNT : Nat := 0x7F0280000C
/-- R372. -/
abbrev rEPL_BADMSG_CNT : Nat := 0x7F02800010
/-- R372. -/
abbrev rEPL_ROUTE (d : Nat) : Nat := 0x7F02800100 + 4 * d
/-- R372. -/
abbrev rEPL_CTL (l : Nat) : Nat := 0x7F02801000 + 256 * l
/-- R372. -/
abbrev rEPL_STAT (l : Nat) : Nat := 0x7F02801004 + 256 * l
/-- R372. -/
abbrev rEPL_CRC_ERR_CNT (l : Nat) : Nat := 0x7F02801008 + 256 * l
/-- R372. -/
abbrev rEPL_REPLAY_CNT (l : Nat) : Nat := 0x7F0280100C + 256 * l
/-- R372. -/
abbrev rEPL_DOWN_CNT (l : Nat) : Nat := 0x7F02801010 + 256 * l
/-- R372. -/
abbrev rEPL_RECLAIM_CNT (l : Nat) : Nat := 0x7F02801014 + 256 * l
/-- R372. -/
abbrev rEPL_CRED (l : Nat) : Nat := 0x7F02801018 + 256 * l
/-- R372. -/
abbrev rEPL_RXBUF (l : Nat) : Nat := 0x7F0280101C + 256 * l
/-- R372. -/
abbrev rEPL_TS_MISS_CNT (l : Nat) : Nat := 0x7F02801020 + 256 * l
/-- R372. -/
abbrev rEPL_WIN_CTL (w : Nat) : Nat := 0x7F02802000 + 16 * w
/-- R372. -/
abbrev rEPL_WIN_BASE (w : Nat) : Nat := 0x7F02802004 + 16 * w
/-- R372. -/
abbrev rEPL_WIN_LIMIT (w : Nat) : Nat := 0x7F02802008 + 16 * w
/-- R372. -/
abbrev rEPL_WIN_SRC (w : Nat) : Nat := 0x7F0280200C + 16 * w
/-- R408. -/
abbrev rUSB_STAT : Nat := 0x7F04800000
/-- R408. -/
abbrev rUSB_CFG : Nat := 0x7F04800004
/-- R408. -/
abbrev rUSB_ERR_CNT : Nat := 0x7F04800008
/-- R408. -/
abbrev rUSB_RESET_CNT : Nat := 0x7F0480000C
/-- R419. -/
abbrev rPWR_OP_REQ : Nat := 0x7F04000000
/-- R419. -/
abbrev rPWR_OP_EFF : Nat := 0x7F04000004
/-- R419. -/
abbrev rPWR_AVS (c : Nat) : Nat := 0x7F04000010 + 4 * c
/-- R419. -/
abbrev rPWR_CAP : Nat := 0x7F04000020
/-- R419. -/
abbrev rPWR_IN : Nat := 0x7F04000024
/-- R419. -/
abbrev rPWR_IN_AVG : Nat := 0x7F04000028
/-- R419. -/
abbrev rPWR_DROOP_CNT : Nat := 0x7F0400002C
/-- R419. -/
abbrev rTHERM_CFG : Nat := 0x7F04000030
/-- R419. -/
abbrev rTHERM_STAT : Nat := 0x7F04000034
/-- R419. -/
abbrev rPWR_HOLD_CNT : Nat := 0x7F04000038
/-- R427. -/
abbrev rAON_STATE : Nat := 0x7F04100000
/-- R427. -/
abbrev rAON_WAKE_EN : Nat := 0x7F04100004
/-- R427. -/
abbrev rAON_WAKE_CAUSE : Nat := 0x7F04100008
/-- R427. -/
abbrev rAON_RST_CAUSE : Nat := 0x7F0410000C
/-- R427. -/
abbrev rAON_WDOG : Nat := 0x7F04100010
/-- R427. -/
abbrev rAON_IDLE_HYST : Nat := 0x7F04100014
/-- R427. -/
abbrev rAON_PWRCYC : Nat := 0x7F04100018
/-- R451. -/
abbrev rSEC_LC : Nat := 0x7F04200000
/-- R451. -/
abbrev rSEC_RB : Nat := 0x7F04200004
/-- R451. -/
abbrev rSEC_RB_ADV : Nat := 0x7F04200008
/-- R451. -/
abbrev rSEC_BOOT : Nat := 0x7F0420000C
/-- R451. -/
abbrev rSEC_LOCK : Nat := 0x7F04200010
/-- R451. -/
abbrev rSEC_EMU_GATE : Nat := 0x7F04200014
/-- R451. -/
abbrev rSEC_DBG : Nat := 0x7F04200018
/-- R451. -/
abbrev rSEC_SERIAL_LO : Nat := 0x7F04200020
/-- R451. -/
abbrev rSEC_SERIAL_HI : Nat := 0x7F04200024
/-- R451. -/
abbrev rSEC_MEAS_FW (k : Nat) : Nat := 0x7F04200100 + 4 * k
/-- R451. -/
abbrev rSEC_MEAS_CFG (k : Nat) : Nat := 0x7F04200130 + 4 * k
/-- R451. -/
abbrev rSEC_MANIFEST (k : Nat) : Nat := 0x7F04200160 + 4 * k
/-- R451. -/
abbrev rSEC_SIG_ADDR_LO : Nat := 0x7F04200200
/-- R451. -/
abbrev rSEC_SIG_ADDR_HI : Nat := 0x7F04200204
/-- R451. -/
abbrev rSEC_SIG_CTL : Nat := 0x7F04200208
/-- R451. -/
abbrev rSEC_SIG_STAT : Nat := 0x7F0420020C
/-- R463. -/
abbrev rFROND_REP_ROW (p : Nat) : Nat := blkCore p + 0x1040
/-- R463. -/
abbrev rFROND_REP_COL0 (p : Nat) : Nat := blkCore p + 0x1044
/-- R463. -/
abbrev rFROND_REP_COL1 (p : Nat) : Nat := blkCore p + 0x1048
/-- R469. -/
abbrev rREH_CTL : Nat := 0x7F04300000
/-- R469. -/
abbrev rREH_STAT : Nat := 0x7F04300004
/-- R469. -/
abbrev rREH_GO : Nat := 0x7F04300008
/-- R469. -/
abbrev rREH_MISR : Nat := 0x7F0430000C
/-- R469. -/
abbrev rREH_EXPECT : Nat := 0x7F04300010
/-- R469. -/
abbrev rREH_SLICE_CNT : Nat := 0x7F04300014
/-- R469. -/
abbrev rREH_FAIL_CNT : Nat := 0x7F04300018
/-- R469. -/
abbrev rREH_TRANS_CNT : Nat := 0x7F0430001C
/-- R469. -/
abbrev rREH_ROT_CNT : Nat := 0x7F04300020
/-- R469. -/
abbrev rREH_SPARE : Nat := 0x7F04300024
/-- R469. -/
abbrev rREH_SWAP_CNT : Nat := 0x7F04300028
/-- R482. -/
abbrev rLCH_P (k : Nat) : Nat := 0x7F04400000 + 4 * k
/-- R482. -/
abbrev rLCH_REQ : Nat := 0x7F04400010
/-- R482. -/
abbrev rLCH_REQ_STAT : Nat := 0x7F04400014
/-- R482. -/
abbrev rLCH_STAT : Nat := 0x7F04400020
/-- R482. -/
abbrev rLCH_OPSEC : Nat := 0x7F04400024
/-- R482. -/
abbrev rLCH_LOST_CNT : Nat := 0x7F04400028
/-- R482. -/
abbrev rLCH_SUPP_PEND : Nat := 0x7F0440002C
/-- R494. -/
abbrev rSIDE_CFG : Nat := 0x7F04900000
/-- R494. -/
abbrev rSIDE_ALERT_STAT : Nat := 0x7F04900004
/-- R494. -/
abbrev rSIDE_ALERT_MASK : Nat := 0x7F04900008
/-- R494. -/
abbrev rSIDE_ERR_CNT : Nat := 0x7F0490000C
/-- R494. -/
abbrev rSIDE_RSTGLITCH_CNT : Nat := 0x7F04900010
/-- R231. -/
abbrev rSS_INV_LO (c : Nat) : Nat := blkCluster c + 0x10
/-- R231. -/
abbrev rSS_INV_HI (c : Nat) : Nat := blkCluster c + 0x14
/-- R231. -/
abbrev rSS_INV_STAT (c : Nat) : Nat := blkCluster c + 0x18
/-- R269. -/
abbrev rHUB_POST_CTL : Nat := 0x7F03005800
/-- R269. -/
abbrev rHUB_POST_STAT : Nat := 0x7F03005804
/-- R269. -/
abbrev rHUB_POST_TMO : Nat := 0x7F03005808
/-- R269. -/
abbrev rHUB_MBX_STAT : Nat := 0x7F03005900
/-- R269. -/
abbrev rHUB_MBX_DATA (k : Nat) : Nat := 0x7F03005904 + 4 * k
/-- R315. -/
abbrev rWL_ITEM_LO (i : Nat) : Nat := 0x7F02008000 + 8 * i
/-- R315. -/
abbrev rWL_ITEM_HI (i : Nat) : Nat := 0x7F02008004 + 8 * i
/-- R48. -/
abbrev rCUEQ_ENTRY (g k : Nat) : Nat := g + 0x0 + 4 * k
/-- R48. -/
abbrev rCUEQ_STAT (g : Nat) : Nat := g + 0x10
/-- R48. -/
abbrev rCUEQ_CTL (g : Nat) : Nat := g + 0x14
/-- R48. -/
abbrev rCUEQ_HEAD_LO (g : Nat) : Nat := g + 0x18
/-- R48. -/
abbrev rCUEQ_HEAD_HI (g : Nat) : Nat := g + 0x1C

/-- CUE_STATUS.HOPS, bits 15:8. -/
abbrev fCUE_STATUS_HOPS : Fld := ⟨15, 8⟩
/-- CUE_STATUS.HOLDING, bits 6:6. -/
abbrev fCUE_STATUS_HOLDING : Fld := ⟨6, 6⟩
/-- CUE_STATUS.STEPPED, bits 5:5. -/
abbrev fCUE_STATUS_STEPPED : Fld := ⟨5, 5⟩
/-- CUE_STATUS.PPS_LOST, bits 4:4. -/
abbrev fCUE_STATUS_PPS_LOST : Fld := ⟨4, 4⟩
/-- CUE_STATUS.PPS_LOCK, bits 3:3. -/
abbrev fCUE_STATUS_PPS_LOCK : Fld := ⟨3, 3⟩
/-- CUE_STATUS.ALIGN_OK, bits 2:2. -/
abbrev fCUE_STATUS_ALIGN_OK : Fld := ⟨2, 2⟩
/-- CUE_STATUS.MASTER, bits 1:1. -/
abbrev fCUE_STATUS_MASTER : Fld := ⟨1, 1⟩
/-- CUE_STATUS.SOURCE, bits 0:0. -/
abbrev fCUE_STATUS_SOURCE : Fld := ⟨0, 0⟩
/-- CUE_TRIM.TRIM, bits 19:0. -/
abbrev fCUE_TRIM_TRIM : Fld := ⟨19, 0⟩
/-- CUE_SLEW.SLEW, bits 23:0. -/
abbrev fCUE_SLEW_SLEW : Fld := ⟨23, 0⟩
/-- CUE_LATE_TOL.TOL, bits 15:0. -/
abbrev fCUE_LATE_TOL_TOL : Fld := ⟨15, 0⟩
/-- FROND_JOB_Q.DESC_OFS, bits 15:0. -/
abbrev fFROND_JOB_Q_DESC_OFS : Fld := ⟨15, 0⟩
/-- FROND_Q_STAT.REFUSED, bits 8:8. -/
abbrev fFROND_Q_STAT_REFUSED : Fld := ⟨8, 8⟩
/-- FROND_Q_STAT.DEPTH, bits 4:0. -/
abbrev fFROND_Q_STAT_DEPTH : Fld := ⟨4, 0⟩
/-- FROND_STATUS.LAST_TAG, bits 31:16. -/
abbrev fFROND_STATUS_LAST_TAG : Fld := ⟨31, 16⟩
/-- FROND_STATUS.ERR, bits 7:4. -/
abbrev fFROND_STATUS_ERR : Fld := ⟨7, 4⟩
/-- FROND_STATUS.HALTED, bits 1:1. -/
abbrev fFROND_STATUS_HALTED : Fld := ⟨1, 1⟩
/-- FROND_STATUS.BUSY, bits 0:0. -/
abbrev fFROND_STATUS_BUSY : Fld := ⟨0, 0⟩
/-- FROND_ERR_INFO.CHECK, bits 31:28. -/
abbrev fFROND_ERR_INFO_CHECK : Fld := ⟨31, 28⟩
/-- FROND_ERR_INFO.PASS, bits 27:16. -/
abbrev fFROND_ERR_INFO_PASS : Fld := ⟨27, 16⟩
/-- FROND_ERR_INFO.DESC_OFS, bits 15:0. -/
abbrev fFROND_ERR_INFO_DESC_OFS : Fld := ⟨15, 0⟩
/-- FROND_CTL.FLUSH, bits 1:1. -/
abbrev fFROND_CTL_FLUSH : Fld := ⟨1, 1⟩
/-- FROND_CTL.RESUME, bits 0:0. -/
abbrev fFROND_CTL_RESUME : Fld := ⟨0, 0⟩
/-- FROND_CLIP_EVT.SET, bits 15:0. -/
abbrev fFROND_CLIP_EVT_SET : Fld := ⟨15, 0⟩
/-- FROND_ERR_ADDR_HI.ADDR_HI, bits 7:0. -/
abbrev fFROND_ERR_ADDR_HI_ADDR_HI : Fld := ⟨7, 0⟩
/-- NB4_TBL0_LO.L4, bits 31:24. -/
abbrev fNB4_TBL0_LO_L4 : Fld := ⟨31, 24⟩
/-- NB4_TBL0_LO.L3, bits 23:16. -/
abbrev fNB4_TBL0_LO_L3 : Fld := ⟨23, 16⟩
/-- NB4_TBL0_LO.L2, bits 15:8. -/
abbrev fNB4_TBL0_LO_L2 : Fld := ⟨15, 8⟩
/-- NB4_TBL0_LO.L1, bits 7:0. -/
abbrev fNB4_TBL0_LO_L1 : Fld := ⟨7, 0⟩
/-- NB4_TBL0_HI.L7, bits 23:16. -/
abbrev fNB4_TBL0_HI_L7 : Fld := ⟨23, 16⟩
/-- NB4_TBL0_HI.L6, bits 15:8. -/
abbrev fNB4_TBL0_HI_L6 : Fld := ⟨15, 8⟩
/-- NB4_TBL0_HI.L5, bits 7:0. -/
abbrev fNB4_TBL0_HI_L5 : Fld := ⟨7, 0⟩
/-- NB4_TBL_HI.L, bits 23:0. -/
abbrev fNB4_TBL_HI_L : Fld := ⟨23, 0⟩
/-- NB4_STAT.CLAMPED, bits 3:1. -/
abbrev fNB4_STAT_CLAMPED : Fld := ⟨3, 1⟩
/-- VPP_CTL.HALTED, bits 2:2. -/
abbrev fVPP_CTL_HALTED : Fld := ⟨2, 2⟩
/-- VPP_CTL.HALT, bits 1:1. -/
abbrev fVPP_CTL_HALT : Fld := ⟨1, 1⟩
/-- VPP_CTL.START, bits 0:0. -/
abbrev fVPP_CTL_START : Fld := ⟨0, 0⟩
/-- VPP_PC.PC, bits 23:0. -/
abbrev fVPP_PC_PC : Fld := ⟨23, 0⟩
/-- VPP_MODE.EMU, bits 9:9. -/
abbrev fVPP_MODE_EMU : Fld := ⟨9, 9⟩
/-- VPP_MODE.RT, bits 8:8. -/
abbrev fVPP_MODE_RT : Fld := ⟨8, 8⟩
/-- VPP_MODE.SCALE, bits 3:0. -/
abbrev fVPP_MODE_SCALE : Fld := ⟨3, 0⟩
/-- VPP_STATUS.CAUSE, bits 31:24. -/
abbrev fVPP_STATUS_CAUSE : Fld := ⟨31, 24⟩
/-- VPP_STATUS.PINF, bits 20:20. -/
abbrev fVPP_STATUS_PINF : Fld := ⟨20, 20⟩
/-- VPP_STATUS.INTRAP, bits 19:19. -/
abbrev fVPP_STATUS_INTRAP : Fld := ⟨19, 19⟩
/-- VPP_STATUS.IE, bits 18:18. -/
abbrev fVPP_STATUS_IE : Fld := ⟨18, 18⟩
/-- VPP_STATUS.LP1, bits 17:17. -/
abbrev fVPP_STATUS_LP1 : Fld := ⟨17, 17⟩
/-- VPP_STATUS.LP0, bits 16:16. -/
abbrev fVPP_STATUS_LP0 : Fld := ⟨16, 16⟩
/-- VPP_STATUS.CTX, bits 11:10. -/
abbrev fVPP_STATUS_CTX : Fld := ⟨11, 10⟩
/-- VPP_STATUS.ALOSS, bits 9:9. -/
abbrev fVPP_STATUS_ALOSS : Fld := ⟨9, 9⟩
/-- VPP_STATUS.ASAT, bits 8:8. -/
abbrev fVPP_STATUS_ASAT : Fld := ⟨8, 8⟩
/-- VPP_STATUS.VCNZ, bits 3:0. -/
abbrev fVPP_STATUS_VCNZ : Fld := ⟨3, 0⟩
/-- VPP_FAULT_ADDR.ADDR, bits 23:0. -/
abbrev fVPP_FAULT_ADDR_ADDR : Fld := ⟨23, 0⟩
/-- VPP_FAULT_LANE.VALID, bits 31:31. -/
abbrev fVPP_FAULT_LANE_VALID : Fld := ⟨31, 31⟩
/-- VPP_FAULT_LANE.LANE, bits 3:0. -/
abbrev fVPP_FAULT_LANE_LANE : Fld := ⟨3, 0⟩
/-- VPP_SP_LIM.LIM, bits 23:0. -/
abbrev fVPP_SP_LIM_LIM : Fld := ⟨23, 0⟩
/-- VPP_VEC_BASE.BASE, bits 23:11. -/
abbrev fVPP_VEC_BASE_BASE : Fld := ⟨23, 11⟩
/-- VPP_DEFER_MAX.ISSUES, bits 15:0. -/
abbrev fVPP_DEFER_MAX_ISSUES : Fld := ⟨15, 0⟩
/-- VPP_CTX_CTL.SW_THRESH, bits 31:16. -/
abbrev fVPP_CTX_CTL_SW_THRESH : Fld := ⟨31, 16⟩
/-- VPP_CTX_CTL.INTCTX, bits 13:12. -/
abbrev fVPP_CTX_CTL_INTCTX : Fld := ⟨13, 12⟩
/-- VPP_CTX_CTL.RTMASK, bits 11:8. -/
abbrev fVPP_CTX_CTL_RTMASK : Fld := ⟨11, 8⟩
/-- VPP_CTX_CTL.DLEN, bits 3:0. -/
abbrev fVPP_CTX_CTL_DLEN : Fld := ⟨3, 0⟩
/-- VPP_CTX_STAT.ST, bits 7:0. -/
abbrev fVPP_CTX_STAT_ST : Fld := ⟨7, 0⟩
/-- VPP_CTX_PC.PC, bits 23:0. -/
abbrev fVPP_CTX_PC_PC : Fld := ⟨23, 0⟩
/-- VPP_DL_MISS.CTX, bits 31:28. -/
abbrev fVPP_DL_MISS_CTX : Fld := ⟨31, 28⟩
/-- VPP_DL_MISS.COUNT, bits 15:0. -/
abbrev fVPP_DL_MISS_COUNT : Fld := ⟨15, 0⟩
/-- FEAT0.ISA_MAJOR, bits 31:24. -/
abbrev fFEAT0_ISA_MAJOR : Fld := ⟨31, 24⟩
/-- FEAT0.ISA_MINOR, bits 23:16. -/
abbrev fFEAT0_ISA_MINOR : Fld := ⟨23, 16⟩
/-- FEAT0.CONTEXTS, bits 15:12. -/
abbrev fFEAT0_CONTEXTS : Fld := ⟨15, 12⟩
/-- FEAT0.LOOPS, bits 11:8. -/
abbrev fFEAT0_LOOPS : Fld := ⟨11, 8⟩
/-- FEAT0.MULS, bits 7:0. -/
abbrev fFEAT0_MULS : Fld := ⟨7, 0⟩
/-- FEAT1.LS_BANKS, bits 31:24. -/
abbrev fFEAT1_LS_BANKS : Fld := ⟨31, 24⟩
/-- FEAT1.BANK_32K, bits 23:16. -/
abbrev fFEAT1_BANK_32K : Fld := ⟨23, 16⟩
/-- FEAT1.XY_32K, bits 15:8. -/
abbrev fFEAT1_XY_32K : Fld := ⟨15, 8⟩
/-- FEAT1.IMEM_32K, bits 7:0. -/
abbrev fFEAT1_IMEM_32K : Fld := ⟨7, 0⟩
/-- FEAT2.VREGS, bits 31:24. -/
abbrev fFEAT2_VREGS : Fld := ⟨31, 24⟩
/-- FEAT2.MREGS, bits 23:16. -/
abbrev fFEAT2_MREGS : Fld := ⟨23, 16⟩
/-- FEAT2.GATHER, bits 15:8. -/
abbrev fFEAT2_GATHER : Fld := ⟨15, 8⟩
/-- FEAT2.GRANULE, bits 7:0. -/
abbrev fFEAT2_GRANULE : Fld := ⟨7, 0⟩
/-- FEAT3.PHYS, bits 11:8. -/
abbrev fFEAT3_PHYS : Fld := ⟨11, 8⟩
/-- FEAT3.LOGICAL, bits 3:0. -/
abbrev fFEAT3_LOGICAL : Fld := ⟨3, 0⟩
/-- VPP_EMU_SLOT.HALF, bits 2:2. -/
abbrev fVPP_EMU_SLOT_HALF : Fld := ⟨2, 2⟩
/-- VPP_EMU_SLOT.SLOT, bits 1:0. -/
abbrev fVPP_EMU_SLOT_SLOT : Fld := ⟨1, 0⟩
/-- CORE_RWIN.VALID, bits 31:31. -/
abbrev fCORE_RWIN_VALID : Fld := ⟨31, 31⟩
/-- CORE_RWIN.WR, bits 30:30. -/
abbrev fCORE_RWIN_WR : Fld := ⟨30, 30⟩
/-- CORE_RWIN.CACHE, bits 29:29. -/
abbrev fCORE_RWIN_CACHE : Fld := ⟨29, 29⟩
/-- CORE_RWIN.BASE, bits 19:0. -/
abbrev fCORE_RWIN_BASE : Fld := ⟨19, 0⟩
/-- CORE_RWIN_STAT.POSTED, bits 13:8. -/
abbrev fCORE_RWIN_STAT_POSTED : Fld := ⟨13, 8⟩
/-- CORE_RWIN_STAT.PERR, bits 0:0. -/
abbrev fCORE_RWIN_STAT_PERR : Fld := ⟨0, 0⟩
/-- CORE_RWIN_ERR_HI.ADDR_HI, bits 7:0. -/
abbrev fCORE_RWIN_ERR_HI_ADDR_HI : Fld := ⟨7, 0⟩
/-- CORE_IMEM_LOCK.LOCK, bits 15:0. -/
abbrev fCORE_IMEM_LOCK_LOCK : Fld := ⟨15, 0⟩
/-- CORE_SS_INV_LO.ADDR, bits 31:6. -/
abbrev fCORE_SS_INV_LO_ADDR : Fld := ⟨31, 6⟩
/-- CORE_SS_INV_HI.GO, bits 31:31. -/
abbrev fCORE_SS_INV_HI_GO : Fld := ⟨31, 31⟩
/-- CORE_SS_INV_HI.ALL, bits 30:30. -/
abbrev fCORE_SS_INV_HI_ALL : Fld := ⟨30, 30⟩
/-- CORE_SS_INV_HI.LINES, bits 23:8. -/
abbrev fCORE_SS_INV_HI_LINES : Fld := ⟨23, 8⟩
/-- CORE_SS_INV_HI.ADDR_HI, bits 7:0. -/
abbrev fCORE_SS_INV_HI_ADDR_HI : Fld := ⟨7, 0⟩
/-- CORE_SS_INV_STAT.REFUSED, bits 1:1. -/
abbrev fCORE_SS_INV_STAT_REFUSED : Fld := ⟨1, 1⟩
/-- CORE_SS_INV_STAT.BUSY, bits 0:0. -/
abbrev fCORE_SS_INV_STAT_BUSY : Fld := ⟨0, 0⟩
/-- SB_STAT.MERGED, bits 22:16. -/
abbrev fSB_STAT_MERGED : Fld := ⟨22, 16⟩
/-- SB_STAT.USED, bits 6:0. -/
abbrev fSB_STAT_USED : Fld := ⟨6, 0⟩
/-- SB_FAULT.KIND, bits 31:30. -/
abbrev fSB_FAULT_KIND : Fld := ⟨31, 30⟩
/-- SB_FAULT.ENTRY, bits 5:0. -/
abbrev fSB_FAULT_ENTRY : Fld := ⟨5, 0⟩
/-- SB_ENTRY_LO.LO, bits 23:0. -/
abbrev fSB_ENTRY_LO_LO : Fld := ⟨23, 0⟩
/-- SB_ENTRY_HI.HI, bits 23:0. -/
abbrev fSB_ENTRY_HI_HI : Fld := ⟨23, 0⟩
/-- SB_ENTRY_CNT.INUSE, bits 31:31. -/
abbrev fSB_ENTRY_CNT_INUSE : Fld := ⟨31, 31⟩
/-- SB_ENTRY_CNT.MERGED, bits 30:30. -/
abbrev fSB_ENTRY_CNT_MERGED : Fld := ⟨30, 30⟩
/-- SB_ENTRY_CNT.JOINED, bits 29:29. -/
abbrev fSB_ENTRY_CNT_JOINED : Fld := ⟨29, 29⟩
/-- SB_ENTRY_CNT.WCNT, bits 15:8. -/
abbrev fSB_ENTRY_CNT_WCNT : Fld := ⟨15, 8⟩
/-- SB_ENTRY_CNT.RCNT, bits 7:0. -/
abbrev fSB_ENTRY_CNT_RCNT : Fld := ⟨7, 0⟩
/-- LS_PWR_CTL.BANK_ON, bits 11:0. -/
abbrev fLS_PWR_CTL_BANK_ON : Fld := ⟨11, 0⟩
/-- LS_PWR_STAT.TRANS, bits 23:12. -/
abbrev fLS_PWR_STAT_TRANS : Fld := ⟨23, 12⟩
/-- LS_PWR_STAT.ON, bits 11:0. -/
abbrev fLS_PWR_STAT_ON : Fld := ⟨11, 0⟩
/-- LS_PWR_FAIL.FAIL, bits 11:0. -/
abbrev fLS_PWR_FAIL_FAIL : Fld := ⟨11, 0⟩
/-- SS_WAY_STAT.TRANS, bits 31:16. -/
abbrev fSS_WAY_STAT_TRANS : Fld := ⟨31, 16⟩
/-- SS_WAY_STAT.ON, bits 15:0. -/
abbrev fSS_WAY_STAT_ON : Fld := ⟨15, 0⟩
/-- SS_PWR_FAIL.FAIL, bits 15:0. -/
abbrev fSS_PWR_FAIL_FAIL : Fld := ⟨15, 0⟩
/-- MEM_ECC_ADDR.MEM, bits 31:28. -/
abbrev fMEM_ECC_ADDR_MEM : Fld := ⟨31, 28⟩
/-- MEM_ECC_ADDR.UE, bits 27:27. -/
abbrev fMEM_ECC_ADDR_UE : Fld := ⟨27, 27⟩
/-- MEM_ECC_ADDR.ADDR, bits 23:0. -/
abbrev fMEM_ECC_ADDR_ADDR : Fld := ⟨23, 0⟩
/-- MEM_ECC_ROW.MEM, bits 31:28. -/
abbrev fMEM_ECC_ROW_MEM : Fld := ⟨31, 28⟩
/-- MEM_ECC_ROW.BANK, bits 27:24. -/
abbrev fMEM_ECC_ROW_BANK : Fld := ⟨27, 24⟩
/-- MEM_ECC_ROW.HITS, bits 23:16. -/
abbrev fMEM_ECC_ROW_HITS : Fld := ⟨23, 16⟩
/-- MEM_ECC_ROW.ROW, bits 10:0. -/
abbrev fMEM_ECC_ROW_ROW : Fld := ⟨10, 0⟩
/-- MEM_REP.VALID, bits 31:31. -/
abbrev fMEM_REP_VALID : Fld := ⟨31, 31⟩
/-- MEM_REP.FUSE, bits 30:30. -/
abbrev fMEM_REP_FUSE : Fld := ⟨30, 30⟩
/-- MEM_REP.MEM, bits 29:28. -/
abbrev fMEM_REP_MEM : Fld := ⟨29, 28⟩
/-- MEM_REP.BANK, bits 27:24. -/
abbrev fMEM_REP_BANK : Fld := ⟨27, 24⟩
/-- MEM_REP.SPARE, bits 12:11. -/
abbrev fMEM_REP_SPARE : Fld := ⟨12, 11⟩
/-- MEM_REP.ROW, bits 10:0. -/
abbrev fMEM_REP_ROW : Fld := ⟨10, 0⟩
/-- SS_ECC_ADDR.UE, bits 31:31. -/
abbrev fSS_ECC_ADDR_UE : Fld := ⟨31, 31⟩
/-- SS_ECC_ADDR.OFFSET, bits 23:0. -/
abbrev fSS_ECC_ADDR_OFFSET : Fld := ⟨23, 0⟩
/-- SS_ECC_ROW.WAY, bits 31:28. -/
abbrev fSS_ECC_ROW_WAY : Fld := ⟨31, 28⟩
/-- SS_ECC_ROW.HITS, bits 23:16. -/
abbrev fSS_ECC_ROW_HITS : Fld := ⟨23, 16⟩
/-- SS_ECC_ROW.ROW, bits 10:0. -/
abbrev fSS_ECC_ROW_ROW : Fld := ⟨10, 0⟩
/-- SS_REP.VALID, bits 31:31. -/
abbrev fSS_REP_VALID : Fld := ⟨31, 31⟩
/-- SS_REP.FUSE, bits 30:30. -/
abbrev fSS_REP_FUSE : Fld := ⟨30, 30⟩
/-- SS_REP.WAY, bits 19:16. -/
abbrev fSS_REP_WAY : Fld := ⟨19, 16⟩
/-- SS_REP.SPARE, bits 12:11. -/
abbrev fSS_REP_SPARE : Fld := ⟨12, 11⟩
/-- SS_REP.ROW, bits 10:0. -/
abbrev fSS_REP_ROW : Fld := ⟨10, 0⟩
/-- DMA_CH_CTL.RESUME, bits 3:3. -/
abbrev fDMA_CH_CTL_RESUME : Fld := ⟨3, 3⟩
/-- DMA_CH_CTL.ABORT, bits 2:2. -/
abbrev fDMA_CH_CTL_ABORT : Fld := ⟨2, 2⟩
/-- DMA_CH_CTL.KICK, bits 1:1. -/
abbrev fDMA_CH_CTL_KICK : Fld := ⟨1, 1⟩
/-- DMA_CH_CTL.EN, bits 0:0. -/
abbrev fDMA_CH_CTL_EN : Fld := ⟨0, 0⟩
/-- DMA_CH_STAT.STATE, bits 31:28. -/
abbrev fDMA_CH_STAT_STATE : Fld := ⟨31, 28⟩
/-- DMA_CH_STAT.ERR, bits 27:24. -/
abbrev fDMA_CH_STAT_ERR : Fld := ⟨27, 24⟩
/-- DMA_CH_STAT.CHECK, bits 23:20. -/
abbrev fDMA_CH_STAT_CHECK : Fld := ⟨23, 20⟩
/-- DMA_CH_STAT.ABORT_RES, bits 19:18. -/
abbrev fDMA_CH_STAT_ABORT_RES : Fld := ⟨19, 18⟩
/-- DMA_CH_STAT.LAUNCH_PEND, bits 17:17. -/
abbrev fDMA_CH_STAT_LAUNCH_PEND : Fld := ⟨17, 17⟩
/-- DMA_CH_STAT.FAULT_SIDE, bits 16:16. -/
abbrev fDMA_CH_STAT_FAULT_SIDE : Fld := ⟨16, 16⟩
/-- DMA_CH_STAT.FAULT_KIND, bits 15:12. -/
abbrev fDMA_CH_STAT_FAULT_KIND : Fld := ⟨15, 12⟩
/-- DMA_CH_STAT.BUF_HELD, bits 11:0. -/
abbrev fDMA_CH_STAT_BUF_HELD : Fld := ⟨11, 0⟩
/-- DMA_CH_CFG.RT, bits 31:31. -/
abbrev fDMA_CH_CFG_RT : Fld := ⟨31, 31⟩
/-- DMA_CH_CFG.ASID, bits 30:27. -/
abbrev fDMA_CH_CFG_ASID : Fld := ⟨30, 27⟩
/-- DMA_CH_CFG.CQ, bits 26:23. -/
abbrev fDMA_CH_CFG_CQ : Fld := ⟨26, 23⟩
/-- DMA_CH_CFG.FAILQ, bits 22:15. -/
abbrev fDMA_CH_CFG_FAILQ : Fld := ⟨22, 15⟩
/-- DMA_CH_CFG.RING_LOG2, bits 14:11. -/
abbrev fDMA_CH_CFG_RING_LOG2 : Fld := ⟨14, 11⟩
/-- DMA_CH_CFG.BUF_MAX, bits 7:0. -/
abbrev fDMA_CH_CFG_BUF_MAX : Fld := ⟨7, 0⟩
/-- DMA_CH_PACE.MODE, bits 31:30. -/
abbrev fDMA_CH_PACE_MODE : Fld := ⟨31, 30⟩
/-- DMA_CH_PACE.START, bits 27:19. -/
abbrev fDMA_CH_PACE_START : Fld := ⟨27, 19⟩
/-- DMA_CH_PACE.STOP, bits 18:10. -/
abbrev fDMA_CH_PACE_STOP : Fld := ⟨18, 10⟩
/-- DMA_CH_PACE.QID, bits 7:0. -/
abbrev fDMA_CH_PACE_QID : Fld := ⟨7, 0⟩
/-- DMA_CH_RING_HI.BASE_HI, bits 7:0. -/
abbrev fDMA_CH_RING_HI_BASE_HI : Fld := ⟨7, 0⟩
/-- DMA_CH_HEAD.LAST_STATUS, bits 31:24. -/
abbrev fDMA_CH_HEAD_LAST_STATUS : Fld := ⟨31, 24⟩
/-- DMA_CH_HEAD.GEN, bits 23:16. -/
abbrev fDMA_CH_HEAD_GEN : Fld := ⟨23, 16⟩
/-- DMA_CH_HEAD.LAST_COLLIDED, bits 8:8. -/
abbrev fDMA_CH_HEAD_LAST_COLLIDED : Fld := ⟨8, 8⟩
/-- DMA_CH_HEAD.HEAD, bits 7:0. -/
abbrev fDMA_CH_HEAD_HEAD : Fld := ⟨7, 0⟩
/-- DMA_CH_ERR_HI.KIND, bits 31:29. -/
abbrev fDMA_CH_ERR_HI_KIND : Fld := ⟨31, 29⟩
/-- DMA_CH_ERR_HI.CTRL, bits 28:28. -/
abbrev fDMA_CH_ERR_HI_CTRL : Fld := ⟨28, 28⟩
/-- DMA_CH_ERR_HI.ADDR_HI, bits 7:0. -/
abbrev fDMA_CH_ERR_HI_ADDR_HI : Fld := ⟨7, 0⟩
/-- DMA_CH_SIDX0.I1, bits 31:16. -/
abbrev fDMA_CH_SIDX0_I1 : Fld := ⟨31, 16⟩
/-- DMA_CH_SIDX0.I0, bits 15:0. -/
abbrev fDMA_CH_SIDX0_I0 : Fld := ⟨15, 0⟩
/-- DMA_CH_SIDX1.I2, bits 15:0. -/
abbrev fDMA_CH_SIDX1_I2 : Fld := ⟨15, 0⟩
/-- DMA_CH_DIDX0.I1, bits 31:16. -/
abbrev fDMA_CH_DIDX0_I1 : Fld := ⟨31, 16⟩
/-- DMA_CH_DIDX0.I0, bits 15:0. -/
abbrev fDMA_CH_DIDX0_I0 : Fld := ⟨15, 0⟩
/-- DMA_CH_DIDX1.I2, bits 15:0. -/
abbrev fDMA_CH_DIDX1_I2 : Fld := ⟨15, 0⟩
/-- DMA_CH_POS_HI.POS_HI, bits 15:0. -/
abbrev fDMA_CH_POS_HI_POS_HI : Fld := ⟨15, 0⟩
/-- DMA_CH_SHCTL.SEAL, bits 2:2. -/
abbrev fDMA_CH_SHCTL_SEAL : Fld := ⟨2, 2⟩
/-- DMA_CH_SHCTL.AT_DESC, bits 1:1. -/
abbrev fDMA_CH_SHCTL_AT_DESC : Fld := ⟨1, 1⟩
/-- DMA_CH_SHCTL.SEALED, bits 0:0. -/
abbrev fDMA_CH_SHCTL_SEALED : Fld := ⟨0, 0⟩
/-- DMA_CH_NB4.EXPECT, bits 3:0. -/
abbrev fDMA_CH_NB4_EXPECT : Fld := ⟨3, 0⟩
/-- DMA_ENG_STAT.RUNNING, bits 31:24. -/
abbrev fDMA_ENG_STAT_RUNNING : Fld := ⟨31, 24⟩
/-- DMA_ENG_STAT.FREE, bits 11:0. -/
abbrev fDMA_ENG_STAT_FREE : Fld := ⟨11, 0⟩
/-- DMA_POST_CTL.GO, bits 31:31. -/
abbrev fDMA_POST_CTL_GO : Fld := ⟨31, 31⟩
/-- DMA_POST_CTL.TARGET, bits 27:24. -/
abbrev fDMA_POST_CTL_TARGET : Fld := ⟨27, 24⟩
/-- DMA_POST_CTL.MSG_OFS, bits 15:0. -/
abbrev fDMA_POST_CTL_MSG_OFS : Fld := ⟨15, 0⟩
/-- DMA_POST_STAT.BUSY, bits 2:2. -/
abbrev fDMA_POST_STAT_BUSY : Fld := ⟨2, 2⟩
/-- DMA_POST_STAT.RESULT, bits 1:0. -/
abbrev fDMA_POST_STAT_RESULT : Fld := ⟨1, 0⟩
/-- MBX_STAT.POP, bits 31:31. -/
abbrev fMBX_STAT_POP : Fld := ⟨31, 31⟩
/-- MBX_STAT.COUNT, bits 3:0. -/
abbrev fMBX_STAT_COUNT : Fld := ⟨3, 0⟩
/-- HUB_CQ_BASE_LO.BASE, bits 31:6. -/
abbrev fHUB_CQ_BASE_LO_BASE : Fld := ⟨31, 6⟩
/-- HUB_CQ_BASE_HI.SIZE_LOG2, bits 19:16. -/
abbrev fHUB_CQ_BASE_HI_SIZE_LOG2 : Fld := ⟨19, 16⟩
/-- HUB_CQ_BASE_HI.BASE_HI, bits 7:0. -/
abbrev fHUB_CQ_BASE_HI_BASE_HI : Fld := ⟨7, 0⟩
/-- HUB_CQ_PROD.PROD, bits 15:0. -/
abbrev fHUB_CQ_PROD_PROD : Fld := ⟨15, 0⟩
/-- HUB_CQ_CONS.CONS, bits 15:0. -/
abbrev fHUB_CQ_CONS_CONS : Fld := ⟨15, 0⟩
/-- HUB_PT_BASE_LO.BASE, bits 31:22. -/
abbrev fHUB_PT_BASE_LO_BASE : Fld := ⟨31, 22⟩
/-- HUB_PT_BASE_HI.BASE_HI, bits 7:0. -/
abbrev fHUB_PT_BASE_HI_BASE_HI : Fld := ⟨7, 0⟩
/-- HUB_TVA_INV.GO, bits 31:31. -/
abbrev fHUB_TVA_INV_GO : Fld := ⟨31, 31⟩
/-- HUB_TVA_INV.ALL, bits 30:30. -/
abbrev fHUB_TVA_INV_ALL : Fld := ⟨30, 30⟩
/-- HUB_TVA_INV.ASID, bits 29:26. -/
abbrev fHUB_TVA_INV_ASID : Fld := ⟨29, 26⟩
/-- HUB_TVA_INV.PAGE, bits 18:0. -/
abbrev fHUB_TVA_INV_PAGE : Fld := ⟨18, 0⟩
/-- HUB_TVA_INV_STAT.BUSY, bits 0:0. -/
abbrev fHUB_TVA_INV_STAT_BUSY : Fld := ⟨0, 0⟩
/-- HUB_DMA_FQ_STAT.POP, bits 31:31. -/
abbrev fHUB_DMA_FQ_STAT_POP : Fld := ⟨31, 31⟩
/-- HUB_DMA_FQ_STAT.COUNT, bits 8:0. -/
abbrev fHUB_DMA_FQ_STAT_COUNT : Fld := ⟨8, 0⟩
/-- HUB_DMA_FQ_E0.ENGINE, bits 31:28. -/
abbrev fHUB_DMA_FQ_E0_ENGINE : Fld := ⟨31, 28⟩
/-- HUB_DMA_FQ_E0.CHANNEL, bits 27:22. -/
abbrev fHUB_DMA_FQ_E0_CHANNEL : Fld := ⟨27, 22⟩
/-- HUB_DMA_FQ_E0.ERR, bits 21:18. -/
abbrev fHUB_DMA_FQ_E0_ERR : Fld := ⟨21, 18⟩
/-- HUB_DMA_FQ_E0.FAULT_KIND, bits 17:14. -/
abbrev fHUB_DMA_FQ_E0_FAULT_KIND : Fld := ⟨17, 14⟩
/-- HUB_DMA_FQ_E0.SIDE, bits 13:13. -/
abbrev fHUB_DMA_FQ_E0_SIDE : Fld := ⟨13, 13⟩
/-- HUB_DMA_FQ_E0.ASID, bits 12:9. -/
abbrev fHUB_DMA_FQ_E0_ASID : Fld := ⟨12, 9⟩
/-- HUB_DMA_FQ_E2.ADDR_HI, bits 7:0. -/
abbrev fHUB_DMA_FQ_E2_ADDR_HI : Fld := ⟨7, 0⟩
/-- HQP_CMD.OP, bits 31:28. -/
abbrev fHQP_CMD_OP : Fld := ⟨31, 28⟩
/-- HQP_CMD.TARGET, bits 23:16. -/
abbrev fHQP_CMD_TARGET : Fld := ⟨23, 16⟩
/-- HQP_CMD.HANDLE, bits 15:0. -/
abbrev fHQP_CMD_HANDLE : Fld := ⟨15, 0⟩
/-- HQP_RESULT.STATUS, bits 31:28. -/
abbrev fHQP_RESULT_STATUS : Fld := ⟨31, 28⟩
/-- HQP_RESULT.VALUE, bits 15:0. -/
abbrev fHQP_RESULT_VALUE : Fld := ⟨15, 0⟩
/-- HQP_ADDR_HI.ADDR_HI, bits 7:0. -/
abbrev fHQP_ADDR_HI_ADDR_HI : Fld := ⟨7, 0⟩
/-- HQP_SIZE.SIZE, bits 23:0. -/
abbrev fHQP_SIZE_SIZE : Fld := ⟨23, 0⟩
/-- CORE_BAR_ARRIVE.GEN, bits 15:8. -/
abbrev fCORE_BAR_ARRIVE_GEN : Fld := ⟨15, 8⟩
/-- CORE_BAR_ARRIVE.BAR, bits 4:0. -/
abbrev fCORE_BAR_ARRIVE_BAR : Fld := ⟨4, 0⟩
/-- CORE_BAR_WAIT.RESULT, bits 31:30. -/
abbrev fCORE_BAR_WAIT_RESULT : Fld := ⟨31, 30⟩
/-- CORE_BAR_WAIT.GEN, bits 15:8. -/
abbrev fCORE_BAR_WAIT_GEN : Fld := ⟨15, 8⟩
/-- CHAIN_CFG.EN, bits 31:31. -/
abbrev fCHAIN_CFG_EN : Fld := ⟨31, 31⟩
/-- CHAIN_CFG.HEAD, bits 30:30. -/
abbrev fCHAIN_CFG_HEAD : Fld := ⟨30, 30⟩
/-- CHAIN_CFG.ID, bits 18:16. -/
abbrev fCHAIN_CFG_ID : Fld := ⟨18, 16⟩
/-- CHAIN_CFG.WAIT, bits 15:0. -/
abbrev fCHAIN_CFG_WAIT : Fld := ⟨15, 0⟩
/-- CHAIN_STAT.FULL, bits 1:0. -/
abbrev fCHAIN_STAT_FULL : Fld := ⟨1, 0⟩
/-- HP_CFG.EN, bits 31:31. -/
abbrev fHP_CFG_EN : Fld := ⟨31, 31⟩
/-- HP_CFG.OWNER, bits 30:24. -/
abbrev fHP_CFG_OWNER : Fld := ⟨30, 24⟩
/-- HP_CFG.SIZE, bits 12:0. -/
abbrev fHP_CFG_SIZE : Fld := ⟨12, 0⟩
/-- HP_BASE.FIRST, bits 13:0. -/
abbrev fHP_BASE_FIRST : Fld := ⟨13, 0⟩
/-- HP_CNT.HELD, bits 25:13. -/
abbrev fHP_CNT_HELD : Fld := ⟨25, 13⟩
/-- HP_CNT.FREE, bits 12:0. -/
abbrev fHP_CNT_FREE : Fld := ⟨12, 0⟩
/-- HP_QCNT.QUEUED, bits 12:0. -/
abbrev fHP_QCNT_QUEUED : Fld := ⟨12, 0⟩
/-- HQ_CFG.EN, bits 31:31. -/
abbrev fHQ_CFG_EN : Fld := ⟨31, 31⟩
/-- HQ_CFG.OWNER, bits 30:24. -/
abbrev fHQ_CFG_OWNER : Fld := ⟨30, 24⟩
/-- HQ_CFG.POOL, bits 3:0. -/
abbrev fHQ_CFG_POOL : Fld := ⟨3, 0⟩
/-- HQ_STAT.FILL, bits 8:0. -/
abbrev fHQ_STAT_FILL : Fld := ⟨8, 0⟩
/-- BAR_CFG.EN, bits 31:31. -/
abbrev fBAR_CFG_EN : Fld := ⟨31, 31⟩
/-- BAR_CFG.MODE, bits 30:30. -/
abbrev fBAR_CFG_MODE : Fld := ⟨30, 30⟩
/-- BAR_CFG.FAB, bits 29:29. -/
abbrev fBAR_CFG_FAB : Fld := ⟨29, 29⟩
/-- BAR_CFG.SWAP, bits 28:28. -/
abbrev fBAR_CFG_SWAP : Fld := ⟨28, 28⟩
/-- BAR_CFG.OWNER, bits 26:20. -/
abbrev fBAR_CFG_OWNER : Fld := ⟨26, 20⟩
/-- BAR_CFG.PARTS, bits 19:10. -/
abbrev fBAR_CFG_PARTS : Fld := ⟨19, 10⟩
/-- BAR_CFG.FAB_MODS, bits 9:5. -/
abbrev fBAR_CFG_FAB_MODS : Fld := ⟨9, 5⟩
/-- BAR_CFG.HOME, bits 4:0. -/
abbrev fBAR_CFG_HOME : Fld := ⟨4, 0⟩
/-- BAR_STAT.STATE, bits 31:30. -/
abbrev fBAR_STAT_STATE : Fld := ⟨31, 30⟩
/-- BAR_STAT.GEN, bits 23:16. -/
abbrev fBAR_STAT_GEN : Fld := ⟨23, 16⟩
/-- BAR_STAT.ARRIVED, bits 9:0. -/
abbrev fBAR_STAT_ARRIVED : Fld := ⟨9, 0⟩
/-- BAR_TMO.TMO_US, bits 23:0. -/
abbrev fBAR_TMO_TMO_US : Fld := ⟨23, 0⟩
/-- BAR_FAB_MARGIN.NS, bits 23:0. -/
abbrev fBAR_FAB_MARGIN_NS : Fld := ⟨23, 0⟩
/-- HB_ENTRY1.HOLDER, bits 15:12. -/
abbrev fHB_ENTRY1_HOLDER : Fld := ⟨15, 12⟩
/-- HB_ENTRY1.STATE, bits 9:8. -/
abbrev fHB_ENTRY1_STATE : Fld := ⟨9, 8⟩
/-- HB_ENTRY1.ADDR_HI, bits 7:0. -/
abbrev fHB_ENTRY1_ADDR_HI : Fld := ⟨7, 0⟩
/-- HB_ENTRY2.SIZE, bits 23:0. -/
abbrev fHB_ENTRY2_SIZE : Fld := ⟨23, 0⟩
/-- AUD_CTL.RUN, bits 31:31. -/
abbrev fAUD_CTL_RUN : Fld := ⟨31, 31⟩
/-- AUD_CTL.PERIOD_US, bits 23:0. -/
abbrev fAUD_CTL_PERIOD_US : Fld := ⟨23, 0⟩
/-- AUD_VIOL.KIND, bits 31:28. -/
abbrev fAUD_VIOL_KIND : Fld := ⟨31, 28⟩
/-- AUD_VIOL.INDEX, bits 15:0. -/
abbrev fAUD_VIOL_INDEX : Fld := ⟨15, 0⟩
/-- INT_PORT_CFG.EN, bits 31:31. -/
abbrev fINT_PORT_CFG_EN : Fld := ⟨31, 31⟩
/-- INT_PORT_CFG.POL, bits 27:24. -/
abbrev fINT_PORT_CFG_POL : Fld := ⟨27, 24⟩
/-- INT_PORT_CFG.LANE_MAP, bits 23:16. -/
abbrev fINT_PORT_CFG_LANE_MAP : Fld := ⟨23, 16⟩
/-- INT_PORT_CFG.LANES_M1, bits 14:13. -/
abbrev fINT_PORT_CFG_LANES_M1 : Fld := ⟨14, 13⟩
/-- INT_PORT_CFG.RATE, bits 12:0. -/
abbrev fINT_PORT_CFG_RATE : Fld := ⟨12, 0⟩
/-- INT_PORT_STAT.HS, bits 31:31. -/
abbrev fINT_PORT_STAT_HS : Fld := ⟨31, 31⟩
/-- INT_PORT_STAT.DESKEWED, bits 30:30. -/
abbrev fINT_PORT_STAT_DESKEWED : Fld := ⟨30, 30⟩
/-- INT_PORT_STAT.FILL, bits 12:0. -/
abbrev fINT_PORT_STAT_FILL : Fld := ⟨12, 0⟩
/-- INT_STR_CFG.EN, bits 31:31. -/
abbrev fINT_STR_CFG_EN : Fld := ⟨31, 31⟩
/-- INT_STR_CFG.WATCH, bits 30:30. -/
abbrev fINT_STR_CFG_WATCH : Fld := ⟨30, 30⟩
/-- INT_STR_CFG.LNUM, bits 29:29. -/
abbrev fINT_STR_CFG_LNUM : Fld := ⟨29, 29⟩
/-- INT_STR_CFG.VC, bits 27:24. -/
abbrev fINT_STR_CFG_VC : Fld := ⟨27, 24⟩
/-- INT_STR_CFG.DT, bits 23:18. -/
abbrev fINT_STR_CFG_DT : Fld := ⟨23, 18⟩
/-- INT_STR_CFG.EXP_LAT, bits 17:16. -/
abbrev fINT_STR_CFG_EXP_LAT : Fld := ⟨17, 16⟩
/-- INT_STR_CFG.GAIN_LAT, bits 15:14. -/
abbrev fINT_STR_CFG_GAIN_LAT : Fld := ⟨15, 14⟩
/-- INT_STR_CFG.BAYER, bits 13:12. -/
abbrev fINT_STR_CFG_BAYER : Fld := ⟨13, 12⟩
/-- INT_STR_CFG.EMB_LINES, bits 11:8. -/
abbrev fINT_STR_CFG_EMB_LINES : Fld := ⟨11, 8⟩
/-- INT_STR_GEOM.HEIGHT, bits 31:16. -/
abbrev fINT_STR_GEOM_HEIGHT : Fld := ⟨31, 16⟩
/-- INT_STR_GEOM.WIDTH, bits 15:0. -/
abbrev fINT_STR_GEOM_WIDTH : Fld := ⟨15, 0⟩
/-- INT_STR_TMO.FE_TMO_US, bits 23:0. -/
abbrev fINT_STR_TMO_FE_TMO_US : Fld := ⟨23, 0⟩
/-- INT_STR_LAST.MARK, bits 31:16. -/
abbrev fINT_STR_LAST_MARK : Fld := ⟨31, 16⟩
/-- INT_STR_LAST.FNUM, bits 15:0. -/
abbrev fINT_STR_LAST_FNUM : Fld := ⟨15, 0⟩
/-- INT_WL.STREAM, bits 27:26. -/
abbrev fINT_WL_STREAM : Fld := ⟨27, 26⟩
/-- INT_WL.LAT, bits 25:24. -/
abbrev fINT_WL_LAT : Fld := ⟨25, 24⟩
/-- INT_WL.COUNT, bits 23:16. -/
abbrev fINT_WL_COUNT : Fld := ⟨23, 16⟩
/-- INT_WL.FIRST, bits 11:0. -/
abbrev fINT_WL_FIRST : Fld := ⟨11, 0⟩
/-- I2C_CFG.EN, bits 31:31. -/
abbrev fI2C_CFG_EN : Fld := ⟨31, 31⟩
/-- I2C_CFG.SPEED, bits 27:26. -/
abbrev fI2C_CFG_SPEED : Fld := ⟨27, 26⟩
/-- I2C_CFG.LOW_TMO_US, bits 15:0. -/
abbrev fI2C_CFG_LOW_TMO_US : Fld := ⟨15, 0⟩
/-- I2C_STAT.BUSY, bits 31:31. -/
abbrev fI2C_STAT_BUSY : Fld := ⟨31, 31⟩
/-- I2C_STAT.LIST, bits 23:16. -/
abbrev fI2C_STAT_LIST : Fld := ⟨23, 16⟩
/-- I2C_STAT.ITEM, bits 15:8. -/
abbrev fI2C_STAT_ITEM : Fld := ⟨15, 8⟩
/-- I2C_STAT.RESULT, bits 3:0. -/
abbrev fI2C_STAT_RESULT : Fld := ⟨3, 0⟩
/-- I2C_XFER.GO, bits 31:31. -/
abbrev fI2C_XFER_GO : Fld := ⟨31, 31⟩
/-- I2C_XFER.RD, bits 30:30. -/
abbrev fI2C_XFER_RD : Fld := ⟨30, 30⟩
/-- I2C_XFER.DEV, bits 29:23. -/
abbrev fI2C_XFER_DEV : Fld := ⟨29, 23⟩
/-- I2C_XFER.A16, bits 22:22. -/
abbrev fI2C_XFER_A16 : Fld := ⟨22, 22⟩
/-- I2C_XFER.LEN_M1, bits 21:20. -/
abbrev fI2C_XFER_LEN_M1 : Fld := ⟨21, 20⟩
/-- I2C_XFER.REG, bits 15:0. -/
abbrev fI2C_XFER_REG : Fld := ⟨15, 0⟩
/-- I2C_ALLOW_LO.VALID, bits 31:31. -/
abbrev fI2C_ALLOW_LO_VALID : Fld := ⟨31, 31⟩
/-- I2C_ALLOW_LO.W, bits 30:30. -/
abbrev fI2C_ALLOW_LO_W : Fld := ⟨30, 30⟩
/-- I2C_ALLOW_LO.A16, bits 29:29. -/
abbrev fI2C_ALLOW_LO_A16 : Fld := ⟨29, 29⟩
/-- I2C_ALLOW_LO.DEV, bits 28:22. -/
abbrev fI2C_ALLOW_LO_DEV : Fld := ⟨28, 22⟩
/-- I2C_ALLOW_LO.REG_LO, bits 15:0. -/
abbrev fI2C_ALLOW_LO_REG_LO : Fld := ⟨15, 0⟩
/-- I2C_ALLOW_HI.REG_HI, bits 15:0. -/
abbrev fI2C_ALLOW_HI_REG_HI : Fld := ⟨15, 0⟩
/-- INT_FSYNC_CFG.EN, bits 31:31. -/
abbrev fINT_FSYNC_CFG_EN : Fld := ⟨31, 31⟩
/-- INT_FSYNC_CFG.POL, bits 30:30. -/
abbrev fINT_FSYNC_CFG_POL : Fld := ⟨30, 30⟩
/-- INT_FSYNC_CFG.MIN_PERIOD_US, bits 23:0. -/
abbrev fINT_FSYNC_CFG_MIN_PERIOD_US : Fld := ⟨23, 0⟩
/-- INT_TRIG_CFG.EN, bits 31:31. -/
abbrev fINT_TRIG_CFG_EN : Fld := ⟨31, 31⟩
/-- INT_TRIG_CFG.FALL, bits 30:30. -/
abbrev fINT_TRIG_CFG_FALL : Fld := ⟨30, 30⟩
/-- INT_TRIG_CFG.WAKE, bits 29:29. -/
abbrev fINT_TRIG_CFG_WAKE : Fld := ⟨29, 29⟩
/-- INT_TRIG_CFG.HOSTEV, bits 28:28. -/
abbrev fINT_TRIG_CFG_HOSTEV : Fld := ⟨28, 28⟩
/-- INT_TRIG_CFG.GLITCH_US, bits 23:16. -/
abbrev fINT_TRIG_CFG_GLITCH_US : Fld := ⟨23, 16⟩
/-- INT_TRIG_CFG.HOLDOFF_MS, bits 15:0. -/
abbrev fINT_TRIG_CFG_HOLDOFF_MS : Fld := ⟨15, 0⟩
/-- INT_TRIG_ACT.LINK, bits 31:31. -/
abbrev fINT_TRIG_ACT_LINK : Fld := ⟨31, 31⟩
/-- INT_TRIG_ACT.FSYNC, bits 27:24. -/
abbrev fINT_TRIG_ACT_FSYNC : Fld := ⟨27, 24⟩
/-- INT_TRIG_ACT.WIDTH_US, bits 23:16. -/
abbrev fINT_TRIG_ACT_WIDTH_US : Fld := ⟨23, 16⟩
/-- INT_TRIG_ACT.DELAY_US, bits 15:0. -/
abbrev fINT_TRIG_ACT_DELAY_US : Fld := ⟨15, 0⟩
/-- INT_TRIG_CNT.REJ, bits 31:16. -/
abbrev fINT_TRIG_CNT_REJ : Fld := ⟨31, 16⟩
/-- INT_TRIG_CNT.ACC, bits 15:0. -/
abbrev fINT_TRIG_CNT_ACC : Fld := ⟨15, 0⟩
/-- INT_WATCH_CFG.EN, bits 31:31. -/
abbrev fINT_WATCH_CFG_EN : Fld := ⟨31, 31⟩
/-- INT_WATCH_CFG.STREAM, bits 29:28. -/
abbrev fINT_WATCH_CFG_STREAM : Fld := ⟨29, 28⟩
/-- INT_WATCH_CFG.CELL_LOG2, bits 27:25. -/
abbrev fINT_WATCH_CFG_CELL_LOG2 : Fld := ⟨27, 25⟩
/-- INT_WATCH_CFG.ALPHA, bits 24:22. -/
abbrev fINT_WATCH_CFG_ALPHA : Fld := ⟨24, 22⟩
/-- INT_WATCH_CFG.PERSIST_M1, bits 21:19. -/
abbrev fINT_WATCH_CFG_PERSIST_M1 : Fld := ⟨21, 19⟩
/-- INT_WATCH_CFG.CELL_THR, bits 15:8. -/
abbrev fINT_WATCH_CFG_CELL_THR : Fld := ⟨15, 8⟩
/-- INT_WATCH_THR.COUNT_THR, bits 12:0. -/
abbrev fINT_WATCH_THR_COUNT_THR : Fld := ⟨12, 0⟩
/-- INT_WATCH_LAST.ACTIVE, bits 12:0. -/
abbrev fINT_WATCH_LAST_ACTIVE : Fld := ⟨12, 0⟩
/-- INT_WATCH_STAT.WOKE, bits 1:1. -/
abbrev fINT_WATCH_STAT_WOKE : Fld := ⟨1, 1⟩
/-- INT_WATCH_STAT.REF_VALID, bits 0:0. -/
abbrev fINT_WATCH_STAT_REF_VALID : Fld := ⟨0, 0⟩
/-- SA_RQ.DEPTH, bits 5:0. -/
abbrev fSA_RQ_DEPTH : Fld := ⟨5, 0⟩
/-- SA_STR_CFG.EN, bits 31:31. -/
abbrev fSA_STR_CFG_EN : Fld := ⟨31, 31⟩
/-- SA_STR_CFG.XCHG, bits 30:30. -/
abbrev fSA_STR_CFG_XCHG : Fld := ⟨30, 30⟩
/-- SA_STR_CFG.BORDER, bits 29:28. -/
abbrev fSA_STR_CFG_BORDER : Fld := ⟨29, 28⟩
/-- SA_STR_CFG.REF_EN, bits 27:27. -/
abbrev fSA_STR_CFG_REF_EN : Fld := ⟨27, 27⟩
/-- SA_STR_CFG.DROP_PAST, bits 26:26. -/
abbrev fSA_STR_CFG_DROP_PAST : Fld := ⟨26, 26⟩
/-- SA_STR_CFG.NSLOT_M1, bits 25:24. -/
abbrev fSA_STR_CFG_NSLOT_M1 : Fld := ⟨25, 24⟩
/-- SA_STR_CFG.CORES, bits 23:16. -/
abbrev fSA_STR_CFG_CORES : Fld := ⟨23, 16⟩
/-- SA_STR_CFG.XRANGES, bits 7:5. -/
abbrev fSA_STR_CFG_XRANGES : Fld := ⟨7, 5⟩
/-- SA_STR_CFG.H_DIV8, bits 4:0. -/
abbrev fSA_STR_CFG_H_DIV8 : Fld := ⟨4, 0⟩
/-- SA_STR_HALO.HT, bits 31:24. -/
abbrev fSA_STR_HALO_HT : Fld := ⟨31, 24⟩
/-- SA_STR_HALO.HB, bits 23:16. -/
abbrev fSA_STR_HALO_HB : Fld := ⟨23, 16⟩
/-- SA_STR_HALO.HL, bits 15:8. -/
abbrev fSA_STR_HALO_HL : Fld := ⟨15, 8⟩
/-- SA_STR_HALO.HR, bits 7:0. -/
abbrev fSA_STR_HALO_HR : Fld := ⟨7, 0⟩
/-- SA_STR_SLOT.BASE, bits 21:0. -/
abbrev fSA_STR_SLOT_BASE : Fld := ⟨21, 0⟩
/-- SA_STR_GEOM.STRIDE, bits 31:16. -/
abbrev fSA_STR_GEOM_STRIDE : Fld := ⟨31, 16⟩
/-- SA_STR_GEOM.X64, bits 15:0. -/
abbrev fSA_STR_GEOM_X64 : Fld := ⟨15, 0⟩
/-- SA_STR_ZVAL.ZVAL, bits 15:0. -/
abbrev fSA_STR_ZVAL_ZVAL : Fld := ⟨15, 0⟩
/-- SA_STR_XR_LO.OFS, bits 23:0. -/
abbrev fSA_STR_XR_LO_OFS : Fld := ⟨23, 0⟩
/-- SA_STR_XR_HI.LEN, bits 23:0. -/
abbrev fSA_STR_XR_HI_LEN : Fld := ⟨23, 0⟩
/-- SA_STR_STAT.SLOTS, bits 7:0. -/
abbrev fSA_STR_STAT_SLOTS : Fld := ⟨7, 0⟩
/-- SA_STR_CTL.FLUSH, bits 0:0. -/
abbrev fSA_STR_CTL_FLUSH : Fld := ⟨0, 0⟩
/-- SA_ISP.WORD_HI, bits 31:16. -/
abbrev fSA_ISP_WORD_HI : Fld := ⟨31, 16⟩
/-- SA_ISP.WORD_LO, bits 15:0. -/
abbrev fSA_ISP_WORD_LO : Fld := ⟨15, 0⟩
/-- STRIPE_NEXT0.PAST, bits 31:31. -/
abbrev fSTRIPE_NEXT0_PAST : Fld := ⟨31, 31⟩
/-- STRIPE_NEXT0.LAST, bits 30:30. -/
abbrev fSTRIPE_NEXT0_LAST : Fld := ⟨30, 30⟩
/-- STRIPE_NEXT0.FIRST, bits 29:29. -/
abbrev fSTRIPE_NEXT0_FIRST : Fld := ⟨29, 29⟩
/-- STRIPE_NEXT0.REF_OK, bits 28:28. -/
abbrev fSTRIPE_NEXT0_REF_OK : Fld := ⟨28, 28⟩
/-- STRIPE_NEXT0.NBR_OK, bits 27:27. -/
abbrev fSTRIPE_NEXT0_NBR_OK : Fld := ⟨27, 27⟩
/-- STRIPE_NEXT0.NBR_CORE, bits 26:24. -/
abbrev fSTRIPE_NEXT0_NBR_CORE : Fld := ⟨26, 24⟩
/-- STRIPE_NEXT0.NBR_SLOT, bits 23:22. -/
abbrev fSTRIPE_NEXT0_NBR_SLOT : Fld := ⟨23, 22⟩
/-- STRIPE_NEXT0.SLOT, bits 21:20. -/
abbrev fSTRIPE_NEXT0_SLOT : Fld := ⟨21, 20⟩
/-- STRIPE_NEXT0.STRIPE, bits 19:10. -/
abbrev fSTRIPE_NEXT0_STRIPE : Fld := ⟨19, 10⟩
/-- STRIPE_NEXT0.STREAM, bits 5:0. -/
abbrev fSTRIPE_NEXT0_STREAM : Fld := ⟨5, 0⟩
/-- STRIPE_NEXT3.FB, bits 31:16. -/
abbrev fSTRIPE_NEXT3_FB : Fld := ⟨31, 16⟩
/-- STRIPE_NEXT3.MARK, bits 15:0. -/
abbrev fSTRIPE_NEXT3_MARK : Fld := ⟨15, 0⟩
/-- STRIPE_FB.STREAM, bits 21:16. -/
abbrev fSTRIPE_FB_STREAM : Fld := ⟨21, 16⟩
/-- STRIPE_FB.HANDLE, bits 15:0. -/
abbrev fSTRIPE_FB_HANDLE : Fld := ⟨15, 0⟩
/-- STRIPE_XREL.SLOT, bits 13:12. -/
abbrev fSTRIPE_XREL_SLOT : Fld := ⟨13, 12⟩
/-- STRIPE_XREL.RANGE, bits 10:8. -/
abbrev fSTRIPE_XREL_RANGE : Fld := ⟨10, 8⟩
/-- STRIPE_XREL.STREAM, bits 5:0. -/
abbrev fSTRIPE_XREL_STREAM : Fld := ⟨5, 0⟩
/-- STRIPE_DONE.STATUS, bits 31:30. -/
abbrev fSTRIPE_DONE_STATUS : Fld := ⟨31, 30⟩
/-- STRIPE_DONE.SLOT, bits 13:12. -/
abbrev fSTRIPE_DONE_SLOT : Fld := ⟨13, 12⟩
/-- STRIPE_DONE.STREAM, bits 5:0. -/
abbrev fSTRIPE_DONE_STREAM : Fld := ⟨5, 0⟩
/-- STRIPE_DRES.FRAME_DONE, bits 31:31. -/
abbrev fSTRIPE_DRES_FRAME_DONE : Fld := ⟨31, 31⟩
/-- STRIPE_DRES.VALID, bits 30:30. -/
abbrev fSTRIPE_DRES_VALID : Fld := ⟨30, 30⟩
/-- STRIPE_DRES.REF_MISS, bits 29:29. -/
abbrev fSTRIPE_DRES_REF_MISS : Fld := ⟨29, 29⟩
/-- STRIPE_DRES.NBR_BAD, bits 28:28. -/
abbrev fSTRIPE_DRES_NBR_BAD : Fld := ⟨28, 28⟩
/-- STRIPE_DRES.PAST, bits 27:27. -/
abbrev fSTRIPE_DRES_PAST : Fld := ⟨27, 27⟩
/-- STRIPE_DRES.LATE, bits 19:10. -/
abbrev fSTRIPE_DRES_LATE : Fld := ⟨19, 10⟩
/-- STRIPE_DRES.BAD, bits 9:0. -/
abbrev fSTRIPE_DRES_BAD : Fld := ⟨9, 0⟩
/-- EPL_FAB_CFG.EPOCH, bits 31:8. -/
abbrev fEPL_FAB_CFG_EPOCH : Fld := ⟨31, 8⟩
/-- EPL_FAB_CFG.MOD_ID, bits 4:0. -/
abbrev fEPL_FAB_CFG_MOD_ID : Fld := ⟨4, 0⟩
/-- EPL_ALLOW_BASE.BASE, bits 19:0. -/
abbrev fEPL_ALLOW_BASE_BASE : Fld := ⟨19, 0⟩
/-- EPL_ALLOW_LIMIT.LIMIT, bits 19:0. -/
abbrev fEPL_ALLOW_LIMIT_LIMIT : Fld := ⟨19, 0⟩
/-- EPL_ROUTE.LINK, bits 2:0. -/
abbrev fEPL_ROUTE_LINK : Fld := ⟨2, 0⟩
/-- EPL_CTL.HB_US, bits 31:16. -/
abbrev fEPL_CTL_HB_US : Fld := ⟨31, 16⟩
/-- EPL_CTL.RESET, bits 1:1. -/
abbrev fEPL_CTL_RESET : Fld := ⟨1, 1⟩
/-- EPL_CTL.EN, bits 0:0. -/
abbrev fEPL_CTL_EN : Fld := ⟨0, 0⟩
/-- EPL_STAT.EPOCH_MISMATCH, bits 14:14. -/
abbrev fEPL_STAT_EPOCH_MISMATCH : Fld := ⟨14, 14⟩
/-- EPL_STAT.ASLEEP, bits 13:13. -/
abbrev fEPL_STAT_ASLEEP : Fld := ⟨13, 13⟩
/-- EPL_STAT.PEER_ALIVE, bits 12:12. -/
abbrev fEPL_STAT_PEER_ALIVE : Fld := ⟨12, 12⟩
/-- EPL_STAT.PEER_MOD, bits 7:3. -/
abbrev fEPL_STAT_PEER_MOD : Fld := ⟨7, 3⟩
/-- EPL_STAT.STATE, bits 2:0. -/
abbrev fEPL_STAT_STATE : Fld := ⟨2, 0⟩
/-- EPL_CRED.CTL, bits 29:20. -/
abbrev fEPL_CRED_CTL : Fld := ⟨29, 20⟩
/-- EPL_CRED.RSP, bits 19:10. -/
abbrev fEPL_CRED_RSP : Fld := ⟨19, 10⟩
/-- EPL_CRED.REQ, bits 9:0. -/
abbrev fEPL_CRED_REQ : Fld := ⟨9, 0⟩
/-- EPL_RXBUF.CTL, bits 29:20. -/
abbrev fEPL_RXBUF_CTL : Fld := ⟨29, 20⟩
/-- EPL_RXBUF.RSP, bits 19:10. -/
abbrev fEPL_RXBUF_RSP : Fld := ⟨19, 10⟩
/-- EPL_RXBUF.REQ, bits 9:0. -/
abbrev fEPL_RXBUF_REQ : Fld := ⟨9, 0⟩
/-- EPL_WIN_CTL.VALID, bits 31:31. -/
abbrev fEPL_WIN_CTL_VALID : Fld := ⟨31, 31⟩
/-- EPL_WIN_CTL.LOCK, bits 30:30. -/
abbrev fEPL_WIN_CTL_LOCK : Fld := ⟨30, 30⟩
/-- EPL_WIN_CTL.WR, bits 29:29. -/
abbrev fEPL_WIN_CTL_WR : Fld := ⟨29, 29⟩
/-- EPL_WIN_CTL.KIND, bits 28:28. -/
abbrev fEPL_WIN_CTL_KIND : Fld := ⟨28, 28⟩
/-- EPL_WIN_CTL.ASID, bits 27:24. -/
abbrev fEPL_WIN_CTL_ASID : Fld := ⟨27, 24⟩
/-- EPL_WIN_BASE.BASE, bits 19:0. -/
abbrev fEPL_WIN_BASE_BASE : Fld := ⟨19, 0⟩
/-- EPL_WIN_LIMIT.LIMIT, bits 19:0. -/
abbrev fEPL_WIN_LIMIT_LIMIT : Fld := ⟨19, 0⟩
/-- EPL_WIN_SRC.SRC, bits 23:0. -/
abbrev fEPL_WIN_SRC_SRC : Fld := ⟨23, 0⟩
/-- USB_STAT.RWAKE_EN, bits 11:11. -/
abbrev fUSB_STAT_RWAKE_EN : Fld := ⟨11, 11⟩
/-- USB_STAT.CONFIGURED, bits 10:10. -/
abbrev fUSB_STAT_CONFIGURED : Fld := ⟨10, 10⟩
/-- USB_STAT.RECOVERY, bits 9:9. -/
abbrev fUSB_STAT_RECOVERY : Fld := ⟨9, 9⟩
/-- USB_STAT.ATTACHED, bits 8:8. -/
abbrev fUSB_STAT_ATTACHED : Fld := ⟨8, 8⟩
/-- USB_STAT.LINK, bits 7:4. -/
abbrev fUSB_STAT_LINK : Fld := ⟨7, 4⟩
/-- USB_STAT.SPEED, bits 3:0. -/
abbrev fUSB_STAT_SPEED : Fld := ⟨3, 0⟩
/-- USB_CFG.SS_DIS, bits 1:1. -/
abbrev fUSB_CFG_SS_DIS : Fld := ⟨1, 1⟩
/-- USB_CFG.CONNECT, bits 0:0. -/
abbrev fUSB_CFG_CONNECT : Fld := ⟨0, 0⟩
/-- USB_ERR_CNT.RETRY, bits 31:16. -/
abbrev fUSB_ERR_CNT_RETRY : Fld := ⟨31, 16⟩
/-- USB_ERR_CNT.RUNT, bits 15:0. -/
abbrev fUSB_ERR_CNT_RUNT : Fld := ⟨15, 0⟩
/-- PWR_OP_REQ.OP_C1, bits 6:4. -/
abbrev fPWR_OP_REQ_OP_C1 : Fld := ⟨6, 4⟩
/-- PWR_OP_REQ.OP_C0, bits 2:0. -/
abbrev fPWR_OP_REQ_OP_C0 : Fld := ⟨2, 0⟩
/-- PWR_OP_EFF.LIM_C1, bits 14:12. -/
abbrev fPWR_OP_EFF_LIM_C1 : Fld := ⟨14, 12⟩
/-- PWR_OP_EFF.OP_C1, bits 10:8. -/
abbrev fPWR_OP_EFF_OP_C1 : Fld := ⟨10, 8⟩
/-- PWR_OP_EFF.LIM_C0, bits 6:4. -/
abbrev fPWR_OP_EFF_LIM_C0 : Fld := ⟨6, 4⟩
/-- PWR_OP_EFF.OP_C0, bits 2:0. -/
abbrev fPWR_OP_EFF_OP_C0 : Fld := ⟨2, 0⟩
/-- PWR_AVS.MV, bits 9:0. -/
abbrev fPWR_AVS_MV : Fld := ⟨9, 0⟩
/-- PWR_CAP.CEIL, bits 23:16. -/
abbrev fPWR_CAP_CEIL : Fld := ⟨23, 16⟩
/-- PWR_CAP.CAP, bits 7:0. -/
abbrev fPWR_CAP_CAP : Fld := ⟨7, 0⟩
/-- PWR_IN.MV, bits 31:16. -/
abbrev fPWR_IN_MV : Fld := ⟨31, 16⟩
/-- PWR_IN.CURR, bits 15:0. -/
abbrev fPWR_IN_CURR : Fld := ⟨15, 0⟩
/-- THERM_CFG.TRIP_C, bits 23:16. -/
abbrev fTHERM_CFG_TRIP_C : Fld := ⟨23, 16⟩
/-- THERM_CFG.THROT_C, bits 7:0. -/
abbrev fTHERM_CFG_THROT_C : Fld := ⟨7, 0⟩
/-- THERM_STAT.SENSOR, bits 31:24. -/
abbrev fTHERM_STAT_SENSOR : Fld := ⟨31, 24⟩
/-- THERM_STAT.TEMP, bits 15:0. -/
abbrev fTHERM_STAT_TEMP : Fld := ⟨15, 0⟩
/-- AON_STATE.PREV, bits 7:4. -/
abbrev fAON_STATE_PREV : Fld := ⟨7, 4⟩
/-- AON_STATE.STATE, bits 3:0. -/
abbrev fAON_STATE_STATE : Fld := ⟨3, 0⟩
/-- AON_WAKE_EN.SRC, bits 5:0. -/
abbrev fAON_WAKE_EN_SRC : Fld := ⟨5, 0⟩
/-- AON_WAKE_CAUSE.CAUSE, bits 5:0. -/
abbrev fAON_WAKE_CAUSE_CAUSE : Fld := ⟨5, 0⟩
/-- AON_RST_CAUSE.CAUSE, bits 6:0. -/
abbrev fAON_RST_CAUSE_CAUSE : Fld := ⟨6, 0⟩
/-- AON_WDOG.KICK, bits 31:31. -/
abbrev fAON_WDOG_KICK : Fld := ⟨31, 31⟩
/-- AON_WDOG.TIMEOUT_MS, bits 15:0. -/
abbrev fAON_WDOG_TIMEOUT_MS : Fld := ⟨15, 0⟩
/-- AON_IDLE_HYST.IDLE_HYST_US, bits 15:0. -/
abbrev fAON_IDLE_HYST_IDLE_HYST_US : Fld := ⟨15, 0⟩
/-- AON_PWRCYC.COUNT, bits 23:0. -/
abbrev fAON_PWRCYC_COUNT : Fld := ⟨23, 0⟩
/-- SEC_LC.TCOUNT, bits 14:8. -/
abbrev fSEC_LC_TCOUNT : Fld := ⟨14, 8⟩
/-- SEC_LC.STATE, bits 2:0. -/
abbrev fSEC_LC_STATE : Fld := ⟨2, 0⟩
/-- SEC_RB.REVOKED, bits 11:8. -/
abbrev fSEC_RB_REVOKED : Fld := ⟨11, 8⟩
/-- SEC_RB.COUNT, bits 6:0. -/
abbrev fSEC_RB_COUNT : Fld := ⟨6, 0⟩
/-- SEC_RB_ADV.LEVEL, bits 6:0. -/
abbrev fSEC_RB_ADV_LEVEL : Fld := ⟨6, 0⟩
/-- SEC_BOOT.LEVEL, bits 23:16. -/
abbrev fSEC_BOOT_LEVEL : Fld := ⟨23, 16⟩
/-- SEC_BOOT.FORCED, bits 7:7. -/
abbrev fSEC_BOOT_FORCED : Fld := ⟨7, 7⟩
/-- SEC_BOOT.RECOVERY, bits 6:6. -/
abbrev fSEC_BOOT_RECOVERY : Fld := ⟨6, 6⟩
/-- SEC_BOOT.FALLBACK, bits 5:5. -/
abbrev fSEC_BOOT_FALLBACK : Fld := ⟨5, 5⟩
/-- SEC_BOOT.CFG_VALID, bits 4:4. -/
abbrev fSEC_BOOT_CFG_VALID : Fld := ⟨4, 4⟩
/-- SEC_BOOT.MANIFEST_SKIPPED, bits 1:1. -/
abbrev fSEC_BOOT_MANIFEST_SKIPPED : Fld := ⟨1, 1⟩
/-- SEC_BOOT.SLOT, bits 0:0. -/
abbrev fSEC_BOOT_SLOT : Fld := ⟨0, 0⟩
/-- SEC_LOCK.BOOT, bits 1:1. -/
abbrev fSEC_LOCK_BOOT : Fld := ⟨1, 1⟩
/-- SEC_LOCK.CFG, bits 0:0. -/
abbrev fSEC_LOCK_CFG : Fld := ⟨0, 0⟩
/-- SEC_EMU_GATE.REQ, bits 1:1. -/
abbrev fSEC_EMU_GATE_REQ : Fld := ⟨1, 1⟩
/-- SEC_EMU_GATE.OPEN, bits 0:0. -/
abbrev fSEC_EMU_GATE_OPEN : Fld := ⟨0, 0⟩
/-- SEC_DBG.JTAG_DEBUG, bits 0:0. -/
abbrev fSEC_DBG_JTAG_DEBUG : Fld := ⟨0, 0⟩
/-- SEC_SIG_ADDR_HI.ADDR, bits 7:0. -/
abbrev fSEC_SIG_ADDR_HI_ADDR : Fld := ⟨7, 0⟩
/-- SEC_SIG_CTL.GO, bits 31:31. -/
abbrev fSEC_SIG_CTL_GO : Fld := ⟨31, 31⟩
/-- SEC_SIG_CTL.OP, bits 0:0. -/
abbrev fSEC_SIG_CTL_OP : Fld := ⟨0, 0⟩
/-- SEC_SIG_STAT.BUSY, bits 31:31. -/
abbrev fSEC_SIG_STAT_BUSY : Fld := ⟨31, 31⟩
/-- SEC_SIG_STAT.RESULT, bits 3:0. -/
abbrev fSEC_SIG_STAT_RESULT : Fld := ⟨3, 0⟩
/-- FROND_REP_ROW.FUSE1, bits 19:19. -/
abbrev fFROND_REP_ROW_FUSE1 : Fld := ⟨19, 19⟩
/-- FROND_REP_ROW.FUSE0, bits 18:18. -/
abbrev fFROND_REP_ROW_FUSE0 : Fld := ⟨18, 18⟩
/-- FROND_REP_ROW.SKIP1, bits 17:9. -/
abbrev fFROND_REP_ROW_SKIP1 : Fld := ⟨17, 9⟩
/-- FROND_REP_ROW.SKIP0, bits 8:0. -/
abbrev fFROND_REP_ROW_SKIP0 : Fld := ⟨8, 0⟩
/-- FROND_REP_COL0.FUSE, bits 19:18. -/
abbrev fFROND_REP_COL0_FUSE : Fld := ⟨19, 18⟩
/-- FROND_REP_COL0.SKIP1, bits 17:9. -/
abbrev fFROND_REP_COL0_SKIP1 : Fld := ⟨17, 9⟩
/-- FROND_REP_COL0.SKIP0, bits 8:0. -/
abbrev fFROND_REP_COL0_SKIP0 : Fld := ⟨8, 0⟩
/-- FROND_REP_COL1.FUSE, bits 19:18. -/
abbrev fFROND_REP_COL1_FUSE : Fld := ⟨19, 18⟩
/-- FROND_REP_COL1.SKIP3, bits 17:9. -/
abbrev fFROND_REP_COL1_SKIP3 : Fld := ⟨17, 9⟩
/-- FROND_REP_COL1.SKIP2, bits 8:0. -/
abbrev fFROND_REP_COL1_SKIP2 : Fld := ⟨8, 0⟩
/-- REH_CTL.PAUSE, bits 31:31. -/
abbrev fREH_CTL_PAUSE : Fld := ⟨31, 31⟩
/-- REH_CTL.ROT_HOURS, bits 15:0. -/
abbrev fREH_CTL_ROT_HOURS : Fld := ⟨15, 0⟩
/-- REH_STAT.STATE, bits 31:28. -/
abbrev fREH_STAT_STATE : Fld := ⟨31, 28⟩
/-- REH_STAT.RESULT, bits 27:24. -/
abbrev fREH_STAT_RESULT : Fld := ⟨27, 24⟩
/-- REH_STAT.BLOCK, bits 15:0. -/
abbrev fREH_STAT_BLOCK : Fld := ⟨15, 0⟩
/-- REH_GO.GO, bits 31:31. -/
abbrev fREH_GO_GO : Fld := ⟨31, 31⟩
/-- REH_GO.BLOCK, bits 15:0. -/
abbrev fREH_GO_BLOCK : Fld := ⟨15, 0⟩
/-- REH_SPARE.PHYS, bits 15:12. -/
abbrev fREH_SPARE_PHYS : Fld := ⟨15, 12⟩
/-- REH_SPARE.RETIRED, bits 8:0. -/
abbrev fREH_SPARE_RETIRED : Fld := ⟨8, 0⟩
/-- LCH_REQ.ONGOING, bits 16:16. -/
abbrev fLCH_REQ_ONGOING : Fld := ⟨16, 16⟩
/-- LCH_REQ.CODE, bits 15:0. -/
abbrev fLCH_REQ_CODE : Fld := ⟨15, 0⟩
/-- LCH_REQ_STAT.HWCODE, bits 1:1. -/
abbrev fLCH_REQ_STAT_HWCODE : Fld := ⟨1, 1⟩
/-- LCH_REQ_STAT.REFUSED, bits 0:0. -/
abbrev fLCH_REQ_STAT_REFUSED : Fld := ⟨0, 0⟩
/-- LCH_STAT.FULL, bits 31:31. -/
abbrev fLCH_STAT_FULL : Fld := ⟨31, 31⟩
/-- LCH_STAT.READY, bits 30:30. -/
abbrev fLCH_STAT_READY : Fld := ⟨30, 30⟩
/-- LCH_STAT.QDEPTH, bits 29:25. -/
abbrev fLCH_STAT_QDEPTH : Fld := ⟨29, 25⟩
/-- LCH_STAT.NEXT, bits 17:0. -/
abbrev fLCH_STAT_NEXT : Fld := ⟨17, 0⟩
/-- LCH_SUPP_PEND.CODES, bits 15:0. -/
abbrev fLCH_SUPP_PEND_CODES : Fld := ⟨15, 0⟩
/-- SIDE_CFG.PEC_REQ, bits 7:7. -/
abbrev fSIDE_CFG_PEC_REQ : Fld := ⟨7, 7⟩
/-- SIDE_CFG.ADDR, bits 6:0. -/
abbrev fSIDE_CFG_ADDR : Fld := ⟨6, 0⟩
/-- SIDE_ALERT_STAT.WDOG, bits 6:6. -/
abbrev fSIDE_ALERT_STAT_WDOG : Fld := ⟨6, 6⟩
/-- SIDE_ALERT_STAT.LOGFULL, bits 5:5. -/
abbrev fSIDE_ALERT_STAT_LOGFULL : Fld := ⟨5, 5⟩
/-- SIDE_ALERT_STAT.RECOVERY, bits 4:4. -/
abbrev fSIDE_ALERT_STAT_RECOVERY : Fld := ⟨4, 4⟩
/-- SIDE_ALERT_STAT.CAPHOLD, bits 3:3. -/
abbrev fSIDE_ALERT_STAT_CAPHOLD : Fld := ⟨3, 3⟩
/-- SIDE_ALERT_STAT.TRIP, bits 2:2. -/
abbrev fSIDE_ALERT_STAT_TRIP : Fld := ⟨2, 2⟩
/-- SIDE_ALERT_STAT.THROTTLE, bits 1:1. -/
abbrev fSIDE_ALERT_STAT_THROTTLE : Fld := ⟨1, 1⟩
/-- SIDE_ALERT_STAT.UVWARN, bits 0:0. -/
abbrev fSIDE_ALERT_STAT_UVWARN : Fld := ⟨0, 0⟩
/-- SIDE_ALERT_MASK.MASK, bits 6:1. -/
abbrev fSIDE_ALERT_MASK_MASK : Fld := ⟨6, 1⟩
/-- SIDE_ALERT_MASK.MASK0, bits 0:0. -/
abbrev fSIDE_ALERT_MASK_MASK0 : Fld := ⟨0, 0⟩
/-- SIDE_ERR_CNT.PEC, bits 31:16. -/
abbrev fSIDE_ERR_CNT_PEC : Fld := ⟨31, 16⟩
/-- SIDE_ERR_CNT.TIMEOUT, bits 15:0. -/
abbrev fSIDE_ERR_CNT_TIMEOUT : Fld := ⟨15, 0⟩
/-- SS_INV_LO.ADDR, bits 31:6. -/
abbrev fSS_INV_LO_ADDR : Fld := ⟨31, 6⟩
/-- SS_INV_HI.GO, bits 31:31. -/
abbrev fSS_INV_HI_GO : Fld := ⟨31, 31⟩
/-- SS_INV_HI.ALL, bits 30:30. -/
abbrev fSS_INV_HI_ALL : Fld := ⟨30, 30⟩
/-- SS_INV_HI.LINES, bits 23:8. -/
abbrev fSS_INV_HI_LINES : Fld := ⟨23, 8⟩
/-- SS_INV_HI.ADDR_HI, bits 7:0. -/
abbrev fSS_INV_HI_ADDR_HI : Fld := ⟨7, 0⟩
/-- SS_INV_STAT.REFUSED, bits 1:1. -/
abbrev fSS_INV_STAT_REFUSED : Fld := ⟨1, 1⟩
/-- SS_INV_STAT.BUSY, bits 0:0. -/
abbrev fSS_INV_STAT_BUSY : Fld := ⟨0, 0⟩
/-- HUB_POST_CTL.GO, bits 31:31. -/
abbrev fHUB_POST_CTL_GO : Fld := ⟨31, 31⟩
/-- HUB_POST_CTL.TARGET, bits 27:24. -/
abbrev fHUB_POST_CTL_TARGET : Fld := ⟨27, 24⟩
/-- HUB_POST_STAT.BUSY, bits 2:2. -/
abbrev fHUB_POST_STAT_BUSY : Fld := ⟨2, 2⟩
/-- HUB_POST_STAT.RESULT, bits 1:0. -/
abbrev fHUB_POST_STAT_RESULT : Fld := ⟨1, 0⟩
/-- HUB_MBX_STAT.POP, bits 31:31. -/
abbrev fHUB_MBX_STAT_POP : Fld := ⟨31, 31⟩
/-- HUB_MBX_STAT.COUNT, bits 5:0. -/
abbrev fHUB_MBX_STAT_COUNT : Fld := ⟨5, 0⟩
/-- WL_ITEM_HI.DEV, bits 31:25. -/
abbrev fWL_ITEM_HI_DEV : Fld := ⟨31, 25⟩
/-- WL_ITEM_HI.A16, bits 24:24. -/
abbrev fWL_ITEM_HI_A16 : Fld := ⟨24, 24⟩
/-- WL_ITEM_HI.REG, bits 23:8. -/
abbrev fWL_ITEM_HI_REG : Fld := ⟨23, 8⟩
/-- WL_ITEM_HI.LEN_M1, bits 7:6. -/
abbrev fWL_ITEM_HI_LEN_M1 : Fld := ⟨7, 6⟩
/-- CUEQ_STAT.MISSED, bits 23:16. -/
abbrev fCUEQ_STAT_MISSED : Fld := ⟨23, 16⟩
/-- CUEQ_STAT.HALTED, bits 10:10. -/
abbrev fCUEQ_STAT_HALTED : Fld := ⟨10, 10⟩
/-- CUEQ_STAT.REFUSED, bits 9:9. -/
abbrev fCUEQ_STAT_REFUSED : Fld := ⟨9, 9⟩
/-- CUEQ_STAT.DEPTH, bits 8:0. -/
abbrev fCUEQ_STAT_DEPTH : Fld := ⟨8, 0⟩
/-- CUEQ_CTL.FLUSH, bits 1:1. -/
abbrev fCUEQ_CTL_FLUSH : Fld := ⟨1, 1⟩
/-- CUEQ_CTL.RESUME, bits 0:0. -/
abbrev fCUEQ_CTL_RESUME : Fld := ⟨0, 0⟩

/-- Register rows of the cueWings block: CUEQ_CTL, CUEQ_ENTRY, CUEQ_HEAD_HI, CUEQ_HEAD_LO, CUEQ_STAT, CUE_LATE_CNT, CUE_LATE_TOL, CUE_MISS_CNT, CUE_NOW_HI, CUE_NOW_LO, CUE_PPS_CAP_HI, CUE_PPS_CAP_LO, CUE_SLEW, CUE_STATUS, CUE_TRIM. -/
def cueWingsRows : List RegRow := [
  ⟨0x0, [], [⟨31, 0, .ro, 0⟩]⟩,
  ⟨0x4, [], [⟨31, 0, .ro, 0⟩]⟩,
  ⟨0x8, [], [⟨15, 8, .ro, 255⟩, ⟨6, 6, .ro, 0⟩, ⟨5, 5, .w1c, 0⟩, ⟨4, 4, .w1c, 0⟩, ⟨3, 3, .ro, 0⟩, ⟨2, 2, .ro, 0⟩, ⟨1, 1, .ro, 0⟩, ⟨0, 0, .ro, 1⟩]⟩,
  ⟨0xC, [], [⟨19, 0, .rw, 0⟩]⟩,
  ⟨0x10, [], [⟨23, 0, .rw, 0⟩]⟩,
  ⟨0x14, [], [⟨31, 0, .ro, 0⟩]⟩,
  ⟨0x18, [], [⟨31, 0, .ro, 0⟩]⟩,
  ⟨0x1C, [], [⟨15, 0, .rw, 1000⟩]⟩,
  ⟨0x20, [], [⟨31, 0, .rc, 0⟩]⟩,
  ⟨0x24, [], [⟨31, 0, .rc, 0⟩]⟩,
  ⟨0x800, [(4, 4)], [⟨31, 0, .wo, 0⟩]⟩,
  ⟨0x810, [], [⟨23, 16, .rc, 0⟩, ⟨10, 10, .ro, 0⟩, ⟨9, 9, .w1c, 0⟩, ⟨8, 0, .ro, 0⟩]⟩,
  ⟨0x814, [], [⟨1, 1, .cmd, 0⟩, ⟨0, 0, .cmd, 0⟩]⟩,
  ⟨0x818, [], [⟨31, 0, .ro, 0⟩]⟩,
  ⟨0x81C, [], [⟨31, 0, .ro, 0⟩]⟩]
/-- Register rows of the core block (part 1): FROND_CLIP_EVT, FROND_CTL, FROND_DONE_CNT, FROND_ERR_ADDR_HI, FROND_ERR_ADDR_LO, FROND_ERR_INFO, FROND_JOB_Q, FROND_Q_STAT, FROND_STATUS, FROND_STAT_CLIP, FROND_STAT_SAT, FROND_STAT_VALS, FROND_STAT_ZERO, VPP_CTL, VPP_FAULT_ADDR, VPP_FAULT_LANE, VPP_INT_EN, VPP_INT_PEND, VPP_INT_SET, VPP_MODE, VPP_PC, VPP_SP_LIM, VPP_STATUS, VPP_VEC_BASE. -/
def coreRows1 : List RegRow := [
  ⟨0x1000, [], [⟨15, 0, .wo, 0⟩]⟩,
  ⟨0x1004, [], [⟨8, 8, .w1c, 0⟩, ⟨4, 0, .ro, 0⟩]⟩,
  ⟨0x1008, [], [⟨31, 16, .ro, 0⟩, ⟨7, 4, .w1c, 0⟩, ⟨1, 1, .ro, 0⟩, ⟨0, 0, .ro, 0⟩]⟩,
  ⟨0x100C, [], [⟨31, 28, .ro, 0⟩, ⟨27, 16, .ro, 0⟩, ⟨15, 0, .ro, 0⟩]⟩,
  ⟨0x1010, [], [⟨1, 1, .cmd, 0⟩, ⟨0, 0, .cmd, 0⟩]⟩,
  ⟨0x1014, [], [⟨31, 0, .ro, 0⟩]⟩,
  ⟨0x1018, [], [⟨15, 0, .w1c, 0⟩]⟩,
  ⟨0x1020, [], [⟨31, 0, .ro, 0⟩]⟩,
  ⟨0x1024, [], [⟨7, 0, .ro, 0⟩]⟩,
  ⟨0x1100, [(16, 16)], [⟨31, 0, .rc, 0⟩]⟩,
  ⟨0x1104, [(16, 16)], [⟨31, 0, .rc, 0⟩]⟩,
  ⟨0x1108, [(16, 16)], [⟨31, 0, .rc, 0⟩]⟩,
  ⟨0x110C, [(16, 16)], [⟨31, 0, .rc, 0⟩]⟩,
  ⟨0x0, [], [⟨2, 2, .ro, 1⟩, ⟨1, 1, .cmd, 0⟩, ⟨0, 0, .cmd, 0⟩]⟩,
  ⟨0x4, [], [⟨23, 0, .rw, 0⟩]⟩,
  ⟨0x8, [], [⟨9, 9, .rw, 0⟩, ⟨8, 8, .ro, 0⟩, ⟨3, 0, .rw, 0⟩]⟩,
  ⟨0xC, [], [⟨31, 24, .ro, 0⟩, ⟨20, 20, .ro, 0⟩, ⟨19, 19, .ro, 0⟩, ⟨18, 18, .rw, 0⟩, ⟨17, 17, .ro, 0⟩, ⟨16, 16, .ro, 0⟩, ⟨11, 10, .ro, 0⟩, ⟨9, 9, .w1c, 0⟩, ⟨8, 8, .w1c, 0⟩, ⟨3, 0, .rw, 0⟩]⟩,
  ⟨0x10, [], [⟨23, 0, .ro, 0⟩]⟩,
  ⟨0x14, [], [⟨31, 31, .ro, 0⟩, ⟨3, 0, .ro, 0⟩]⟩,
  ⟨0x18, [], [⟨23, 0, .rw, 3145728⟩]⟩,
  ⟨0x1C, [], [⟨23, 11, .rw, 0⟩]⟩,
  ⟨0x20, [], [⟨31, 0, .w1c, 0⟩]⟩,
  ⟨0x24, [], [⟨31, 0, .rw, 0⟩]⟩,
  ⟨0x28, [], [⟨31, 0, .cmd, 0⟩]⟩]
/-- Register rows of the core block (part 2): CORE_IMEM_LOCK, CORE_RWIN, CORE_RWIN_ERR_HI, CORE_RWIN_ERR_LO, CORE_RWIN_STAT, CORE_SS_INV_HI, CORE_SS_INV_LO, CORE_SS_INV_STAT, FEAT0, FEAT1, FEAT2, FEAT3, SB_CFG, SB_MERGE_CNT, SB_STAT, VPP_CTX_CTL, VPP_CTX_DL, VPP_CTX_PC, VPP_CTX_STAT, VPP_CTX_SWCNT, VPP_DEFER_MAX, VPP_DL_MISS, VPP_EMU_SLOT, VPP_EMU_WORD. -/
def coreRows2 : List RegRow := [
  ⟨0x2C, [], [⟨15, 0, .rc, 0⟩]⟩,
  ⟨0x40, [], [⟨31, 16, .rw, 256⟩, ⟨13, 12, .rw, 0⟩, ⟨11, 8, .rw, 0⟩, ⟨3, 0, .rw, 0⟩]⟩,
  ⟨0x44, [], [⟨7, 0, .ro, 0⟩]⟩,
  ⟨0x48, [(4, 4)], [⟨23, 0, .rw, 0⟩]⟩,
  ⟨0x58, [], [⟨31, 0, .rc, 0⟩]⟩,
  ⟨0x5C, [], [⟨31, 28, .w1c, 0⟩, ⟨15, 0, .rc, 0⟩]⟩,
  ⟨0x80, [(4, 4)], [⟨31, 0, .rw, 0⟩]⟩,
  ⟨0x30, [], [⟨31, 24, .ro, 1⟩, ⟨23, 16, .ro, 0⟩, ⟨15, 12, .ro, 4⟩, ⟨11, 8, .ro, 2⟩, ⟨7, 0, .ro, 4⟩]⟩,
  ⟨0x34, [], [⟨31, 24, .ro, 12⟩, ⟨23, 16, .ro, 16⟩, ⟨15, 8, .ro, 8⟩, ⟨7, 0, .ro, 8⟩]⟩,
  ⟨0x38, [], [⟨31, 24, .ro, 32⟩, ⟨23, 16, .ro, 8⟩, ⟨15, 8, .ro, 16⟩, ⟨7, 0, .ro, 64⟩]⟩,
  ⟨0x3C, [], [⟨11, 8, .ro, 0⟩, ⟨3, 0, .ro, 0⟩]⟩,
  ⟨0x60, [(4, 4)], [⟨31, 0, .ro, 0⟩]⟩,
  ⟨0x70, [], [⟨2, 2, .ro, 0⟩, ⟨1, 0, .ro, 0⟩]⟩,
  ⟨0x100, [(8, 4)], [⟨31, 31, .rw, 0⟩, ⟨30, 30, .rw, 0⟩, ⟨29, 29, .rw, 0⟩, ⟨19, 0, .rw, 0⟩]⟩,
  ⟨0x120, [], [⟨13, 8, .ro, 0⟩, ⟨0, 0, .w1c, 0⟩]⟩,
  ⟨0x124, [], [⟨31, 0, .ro, 0⟩]⟩,
  ⟨0x128, [], [⟨7, 0, .ro, 0⟩]⟩,
  ⟨0x140, [], [⟨15, 0, .rw, 0⟩]⟩,
  ⟨0x150, [], [⟨31, 6, .rw, 0⟩]⟩,
  ⟨0x154, [], [⟨31, 31, .cmd, 0⟩, ⟨30, 30, .rw, 0⟩, ⟨23, 8, .rw, 0⟩, ⟨7, 0, .rw, 0⟩]⟩,
  ⟨0x158, [], [⟨1, 1, .w1c, 0⟩, ⟨0, 0, .ro, 0⟩]⟩,
  ⟨0x200, [], [⟨31, 0, .rw, 1000000⟩]⟩,
  ⟨0x204, [], [⟨22, 16, .ro, 0⟩, ⟨6, 0, .ro, 0⟩]⟩,
  ⟨0x208, [], [⟨31, 0, .rc, 0⟩]⟩]
/-- Register rows of the core block (part 3): DMA_CH_CFG, DMA_CH_COLL_CNT, DMA_CH_CTL, DMA_CH_ERR_HI, DMA_CH_ERR_LO, DMA_CH_HEAD, DMA_CH_PACE, DMA_CH_RING_HI, DMA_CH_RING_LO, DMA_CH_STAT, LS_PWR_CTL, LS_PWR_FAIL, LS_PWR_STAT, MEM_ECC_ADDR, MEM_ECC_CE_CNT, MEM_ECC_ROW, MEM_ECC_UE_CNT, MEM_REP, SB_ENTRY_CNT, SB_ENTRY_HI, SB_ENTRY_LO, SB_FAULT, SB_TIMEOUT_CNT, SB_VWAIT_CYC. -/
def coreRows3 : List RegRow := [
  ⟨0x20C, [], [⟨31, 0, .rc, 0⟩]⟩,
  ⟨0x210, [], [⟨31, 0, .rc, 0⟩]⟩,
  ⟨0x214, [], [⟨31, 30, .ro, 0⟩, ⟨5, 0, .ro, 0⟩]⟩,
  ⟨0x400, [(64, 16)], [⟨23, 0, .ro, 0⟩]⟩,
  ⟨0x404, [(64, 16)], [⟨23, 0, .ro, 0⟩]⟩,
  ⟨0x408, [(64, 16)], [⟨31, 31, .ro, 0⟩, ⟨30, 30, .ro, 0⟩, ⟨29, 29, .ro, 0⟩, ⟨15, 8, .ro, 0⟩, ⟨7, 0, .ro, 0⟩]⟩,
  ⟨0x300, [], [⟨11, 0, .rw, 0⟩]⟩,
  ⟨0x304, [], [⟨23, 12, .ro, 0⟩, ⟨11, 0, .ro, 0⟩]⟩,
  ⟨0x308, [], [⟨11, 0, .w1c, 0⟩]⟩,
  ⟨0x320, [], [⟨31, 0, .rc, 0⟩]⟩,
  ⟨0x324, [], [⟨31, 0, .rc, 0⟩]⟩,
  ⟨0x328, [], [⟨31, 28, .ro, 0⟩, ⟨27, 27, .ro, 0⟩, ⟨23, 0, .ro, 0⟩]⟩,
  ⟨0x32C, [], [⟨31, 28, .ro, 0⟩, ⟨27, 24, .ro, 0⟩, ⟨23, 16, .ro, 0⟩, ⟨10, 0, .ro, 0⟩]⟩,
  ⟨0xC00, [(64, 4)], [⟨31, 31, .rw, 0⟩, ⟨30, 30, .ro, 0⟩, ⟨29, 28, .rw, 0⟩, ⟨27, 24, .rw, 0⟩, ⟨12, 11, .rw, 0⟩, ⟨10, 0, .rw, 0⟩]⟩,
  ⟨0x3000, [(16, 128)], [⟨3, 3, .cmd, 0⟩, ⟨2, 2, .cmd, 0⟩, ⟨1, 1, .cmd, 0⟩, ⟨0, 0, .rw, 0⟩]⟩,
  ⟨0x3004, [(16, 128)], [⟨31, 28, .ro, 0⟩, ⟨27, 24, .ro, 0⟩, ⟨23, 20, .ro, 0⟩, ⟨19, 18, .ro, 0⟩, ⟨17, 17, .ro, 0⟩, ⟨16, 16, .ro, 0⟩, ⟨15, 12, .ro, 0⟩, ⟨11, 0, .ro, 0⟩]⟩,
  ⟨0x3008, [(16, 128)], [⟨31, 31, .ro, 0⟩, ⟨30, 27, .ro, 0⟩, ⟨26, 23, .ro, 0⟩, ⟨22, 15, .ro, 0⟩, ⟨14, 11, .ro, 0⟩, ⟨7, 0, .ro, 1⟩]⟩,
  ⟨0x300C, [(16, 128)], [⟨31, 30, .ro, 0⟩, ⟨27, 19, .ro, 0⟩, ⟨18, 10, .ro, 0⟩, ⟨7, 0, .ro, 0⟩]⟩,
  ⟨0x3010, [(16, 128)], [⟨31, 0, .ro, 0⟩]⟩,
  ⟨0x3014, [(16, 128)], [⟨7, 0, .ro, 0⟩]⟩,
  ⟨0x3018, [(16, 128)], [⟨31, 24, .ro, 0⟩, ⟨23, 16, .ro, 0⟩, ⟨8, 8, .ro, 0⟩, ⟨7, 0, .ro, 0⟩]⟩,
  ⟨0x301C, [(16, 128)], [⟨31, 0, .rc, 0⟩]⟩,
  ⟨0x3020, [(16, 128)], [⟨31, 0, .ro, 0⟩]⟩,
  ⟨0x3024, [(16, 128)], [⟨31, 29, .ro, 0⟩, ⟨28, 28, .ro, 0⟩, ⟨7, 0, .ro, 0⟩]⟩]
/-- Register rows of the core block (part 4): DMA_CH_CFG_SH, DMA_CH_DIDX0, DMA_CH_DIDX1, DMA_CH_NB4, DMA_CH_PACE_SH, DMA_CH_POS_HI, DMA_CH_POS_LO, DMA_CH_RING_HI_SH, DMA_CH_RING_LO_SH, DMA_CH_SHCTL, DMA_CH_SIDX0, DMA_CH_SIDX1, DMA_ENG_FRC_CLAMP_CNT, DMA_ENG_REFUSE_CNT, DMA_ENG_STAT, DMA_POST_CTL, DMA_POST_STAT, DMA_POST_TMO, HQP_ADDR_HI, HQP_ADDR_LO, HQP_CMD, HQP_RESULT, MBX_DATA, MBX_STAT. -/
def coreRows4 : List RegRow := [
  ⟨0x3028, [(16, 128)], [⟨31, 16, .ro, 0⟩, ⟨15, 0, .ro, 0⟩]⟩,
  ⟨0x302C, [(16, 128)], [⟨15, 0, .ro, 0⟩]⟩,
  ⟨0x3030, [(16, 128)], [⟨31, 16, .ro, 0⟩, ⟨15, 0, .ro, 0⟩]⟩,
  ⟨0x3034, [(16, 128)], [⟨15, 0, .ro, 0⟩]⟩,
  ⟨0x3038, [(16, 128)], [⟨31, 0, .ro, 0⟩]⟩,
  ⟨0x303C, [(16, 128)], [⟨15, 0, .ro, 0⟩]⟩,
  ⟨0x3040, [(16, 128)], [⟨31, 0, .rw, 0⟩]⟩,
  ⟨0x3044, [(16, 128)], [⟨31, 0, .rw, 0⟩]⟩,
  ⟨0x3048, [(16, 128)], [⟨31, 0, .rw, 0⟩]⟩,
  ⟨0x304C, [(16, 128)], [⟨31, 0, .rw, 0⟩]⟩,
  ⟨0x3050, [(16, 128)], [⟨2, 2, .cmd, 0⟩, ⟨1, 1, .rw, 0⟩, ⟨0, 0, .ro, 0⟩]⟩,
  ⟨0x3054, [(16, 128)], [⟨3, 0, .rw, 0⟩]⟩,
  ⟨0x3800, [], [⟨31, 24, .ro, 0⟩, ⟨11, 0, .ro, 256⟩]⟩,
  ⟨0x3804, [], [⟨31, 0, .rc, 0⟩]⟩,
  ⟨0x3808, [], [⟨31, 0, .rc, 0⟩]⟩,
  ⟨0x3810, [], [⟨31, 31, .cmd, 0⟩, ⟨27, 24, .rw, 0⟩, ⟨15, 0, .rw, 0⟩]⟩,
  ⟨0x3814, [], [⟨2, 2, .ro, 0⟩, ⟨1, 0, .ro, 0⟩]⟩,
  ⟨0x3818, [], [⟨31, 0, .rw, 10000⟩]⟩,
  ⟨0x3900, [], [⟨31, 31, .cmd, 0⟩, ⟨3, 0, .ro, 0⟩]⟩,
  ⟨0x3904, [(16, 4)], [⟨31, 0, .ro, 0⟩]⟩,
  ⟨0x4000, [], [⟨31, 28, .wo, 0⟩, ⟨23, 16, .wo, 0⟩, ⟨15, 0, .wo, 0⟩]⟩,
  ⟨0x4004, [], [⟨31, 28, .ro, 0⟩, ⟨15, 0, .ro, 0⟩]⟩,
  ⟨0x4008, [], [⟨31, 0, .ro, 0⟩]⟩,
  ⟨0x400C, [], [⟨7, 0, .ro, 0⟩]⟩]
/-- Register rows of the core block (part 5): CHAIN_CFG, CHAIN_LATE_CNT, CHAIN_STAT, CORE_BAR_ARRIVE, CORE_BAR_WAIT, CUEQ_CTL, CUEQ_ENTRY, CUEQ_HEAD_HI, CUEQ_HEAD_LO, CUEQ_STAT, FROND_REP_COL0, FROND_REP_COL1, FROND_REP_ROW, HQP_SIZE, STRIPE_DONE, STRIPE_DRES, STRIPE_FB, STRIPE_FREC, STRIPE_NEXT0, STRIPE_NEXT1, STRIPE_NEXT2, STRIPE_NEXT3, STRIPE_XREL. -/
def coreRows5 : List RegRow := [
  ⟨0x4010, [], [⟨23, 0, .ro, 0⟩]⟩,
  ⟨0x4020, [], [⟨15, 8, .wo, 0⟩, ⟨4, 0, .wo, 0⟩]⟩,
  ⟨0x4024, [], [⟨31, 30, .ro, 0⟩, ⟨15, 8, .ro, 0⟩]⟩,
  ⟨0x4030, [], [⟨31, 31, .rw, 0⟩, ⟨30, 30, .rw, 0⟩, ⟨18, 16, .rw, 0⟩, ⟨15, 0, .rw, 16⟩]⟩,
  ⟨0x4034, [], [⟨31, 0, .rc, 0⟩]⟩,
  ⟨0x4038, [], [⟨1, 0, .ro, 0⟩]⟩,
  ⟨0x4040, [], [⟨31, 31, .ro, 0⟩, ⟨30, 30, .ro, 0⟩, ⟨29, 29, .ro, 0⟩, ⟨28, 28, .ro, 0⟩, ⟨27, 27, .ro, 0⟩, ⟨26, 24, .ro, 0⟩, ⟨23, 22, .ro, 0⟩, ⟨21, 20, .ro, 0⟩, ⟨19, 10, .ro, 0⟩, ⟨5, 0, .ro, 0⟩]⟩,
  ⟨0x4044, [], [⟨31, 0, .ro, 0⟩]⟩,
  ⟨0x4048, [], [⟨31, 0, .ro, 0⟩]⟩,
  ⟨0x404C, [], [⟨31, 16, .ro, 0⟩, ⟨15, 0, .ro, 0⟩]⟩,
  ⟨0x4050, [], [⟨21, 16, .wo, 0⟩, ⟨15, 0, .wo, 0⟩]⟩,
  ⟨0x4054, [], [⟨13, 12, .wo, 0⟩, ⟨10, 8, .wo, 0⟩, ⟨5, 0, .wo, 0⟩]⟩,
  ⟨0x4058, [], [⟨31, 30, .wo, 0⟩, ⟨13, 12, .wo, 0⟩, ⟨5, 0, .wo, 0⟩]⟩,
  ⟨0x405C, [], [⟨31, 31, .ro, 0⟩, ⟨30, 30, .ro, 0⟩, ⟨29, 29, .ro, 0⟩, ⟨28, 28, .ro, 0⟩, ⟨27, 27, .ro, 0⟩, ⟨19, 10, .ro, 0⟩, ⟨9, 0, .ro, 0⟩]⟩,
  ⟨0x4060, [(4, 4)], [⟨31, 0, .ro, 0⟩]⟩,
  ⟨0x1040, [], [⟨19, 19, .ro, 0⟩, ⟨18, 18, .ro, 0⟩, ⟨17, 9, .rw, 257⟩, ⟨8, 0, .rw, 256⟩]⟩,
  ⟨0x1044, [], [⟨19, 18, .ro, 0⟩, ⟨17, 9, .rw, 257⟩, ⟨8, 0, .rw, 256⟩]⟩,
  ⟨0x1048, [], [⟨19, 18, .ro, 0⟩, ⟨17, 9, .rw, 259⟩, ⟨8, 0, .rw, 258⟩]⟩,
  ⟨0x800, [(4, 4)], [⟨31, 0, .wo, 0⟩]⟩,
  ⟨0x810, [], [⟨23, 16, .rc, 0⟩, ⟨10, 10, .ro, 0⟩, ⟨9, 9, .w1c, 0⟩, ⟨8, 0, .ro, 0⟩]⟩,
  ⟨0x814, [], [⟨1, 1, .cmd, 0⟩, ⟨0, 0, .cmd, 0⟩]⟩,
  ⟨0x818, [], [⟨31, 0, .ro, 0⟩]⟩,
  ⟨0x81C, [], [⟨31, 0, .ro, 0⟩]⟩]
/-- Register rows of the core block. -/
def coreRows : List RegRow := coreRows1 ++ coreRows2 ++ coreRows3 ++ coreRows4 ++ coreRows5
/-- Register rows of the hubDma block (part 1): DMA_CH_CFG, DMA_CH_COLL_CNT, DMA_CH_CTL, DMA_CH_DIDX0, DMA_CH_DIDX1, DMA_CH_ERR_HI, DMA_CH_ERR_LO, DMA_CH_HEAD, DMA_CH_PACE, DMA_CH_POS_HI, DMA_CH_POS_LO, DMA_CH_RING_HI, DMA_CH_RING_LO, DMA_CH_SIDX0, DMA_CH_SIDX1, DMA_CH_STAT, NB4_CLIP_CNT, NB4_RSVD_CNT, NB4_SKEW_CNT, NB4_STAT, NB4_TBL0_HI, NB4_TBL0_LO, NB4_TBL_HI, NB4_TBL_LO. -/
def hubDmaRows1 : List RegRow := [
  ⟨0x2000, [], [⟨31, 24, .ro, 53⟩, ⟨23, 16, .ro, 38⟩, ⟨15, 8, .ro, 25⟩, ⟨7, 0, .ro, 12⟩]⟩,
  ⟨0x2004, [], [⟨23, 16, .ro, 127⟩, ⟨15, 8, .ro, 92⟩, ⟨7, 0, .ro, 70⟩]⟩,
  ⟨0x2008, [(3, 8)], [⟨31, 0, .rw, 891689228⟩]⟩,
  ⟨0x200C, [(3, 8)], [⟨23, 0, .rw, 8346694⟩]⟩,
  ⟨0x2020, [], [⟨3, 1, .w1c, 0⟩]⟩,
  ⟨0x2024, [], [⟨31, 0, .rc, 0⟩]⟩,
  ⟨0x2028, [], [⟨31, 0, .rc, 0⟩]⟩,
  ⟨0x202C, [], [⟨31, 0, .rc, 0⟩]⟩,
  ⟨0x0, [(64, 128)], [⟨3, 3, .cmd, 0⟩, ⟨2, 2, .cmd, 0⟩, ⟨1, 1, .cmd, 0⟩, ⟨0, 0, .rw, 0⟩]⟩,
  ⟨0x4, [(64, 128)], [⟨31, 28, .ro, 0⟩, ⟨27, 24, .ro, 0⟩, ⟨23, 20, .ro, 0⟩, ⟨19, 18, .ro, 0⟩, ⟨17, 17, .ro, 0⟩, ⟨16, 16, .ro, 0⟩, ⟨15, 12, .ro, 0⟩, ⟨11, 0, .ro, 0⟩]⟩,
  ⟨0x8, [(64, 128)], [⟨31, 31, .ro, 0⟩, ⟨30, 27, .ro, 0⟩, ⟨26, 23, .ro, 0⟩, ⟨22, 15, .ro, 0⟩, ⟨14, 11, .ro, 0⟩, ⟨7, 0, .ro, 1⟩]⟩,
  ⟨0xC, [(64, 128)], [⟨31, 30, .ro, 0⟩, ⟨27, 19, .ro, 0⟩, ⟨18, 10, .ro, 0⟩, ⟨7, 0, .ro, 0⟩]⟩,
  ⟨0x10, [(64, 128)], [⟨31, 0, .ro, 0⟩]⟩,
  ⟨0x14, [(64, 128)], [⟨7, 0, .ro, 0⟩]⟩,
  ⟨0x18, [(64, 128)], [⟨31, 24, .ro, 0⟩, ⟨23, 16, .ro, 0⟩, ⟨8, 8, .ro, 0⟩, ⟨7, 0, .ro, 0⟩]⟩,
  ⟨0x1C, [(64, 128)], [⟨31, 0, .rc, 0⟩]⟩,
  ⟨0x20, [(64, 128)], [⟨31, 0, .ro, 0⟩]⟩,
  ⟨0x24, [(64, 128)], [⟨31, 29, .ro, 0⟩, ⟨28, 28, .ro, 0⟩, ⟨7, 0, .ro, 0⟩]⟩,
  ⟨0x28, [(64, 128)], [⟨31, 16, .ro, 0⟩, ⟨15, 0, .ro, 0⟩]⟩,
  ⟨0x2C, [(64, 128)], [⟨15, 0, .ro, 0⟩]⟩,
  ⟨0x30, [(64, 128)], [⟨31, 16, .ro, 0⟩, ⟨15, 0, .ro, 0⟩]⟩,
  ⟨0x34, [(64, 128)], [⟨15, 0, .ro, 0⟩]⟩,
  ⟨0x38, [(64, 128)], [⟨31, 0, .ro, 0⟩]⟩,
  ⟨0x3C, [(64, 128)], [⟨15, 0, .ro, 0⟩]⟩]
/-- Register rows of the hubDma block (part 2): DMA_CH_CFG_SH, DMA_CH_NB4, DMA_CH_PACE_SH, DMA_CH_RING_HI_SH, DMA_CH_RING_LO_SH, DMA_CH_SHCTL, DMA_ENG_FRC_CLAMP_CNT, DMA_ENG_REFUSE_CNT, DMA_ENG_STAT, HUB_CQ_BASE_HI, HUB_CQ_BASE_LO, HUB_CQ_CONS, HUB_CQ_FULL_CNT, HUB_CQ_PROD, HUB_DMA_FQ_E0, HUB_DMA_FQ_E1, HUB_DMA_FQ_E2, HUB_DMA_FQ_STAT, HUB_POST_DATA, HUB_PT_BASE_HI, HUB_PT_BASE_LO, HUB_TVA_INV, HUB_TVA_INV_STAT, HUB_TVA_MISS_CNT. -/
def hubDmaRows2 : List RegRow := [
  ⟨0x40, [(64, 128)], [⟨31, 0, .rw, 0⟩]⟩,
  ⟨0x44, [(64, 128)], [⟨31, 0, .rw, 0⟩]⟩,
  ⟨0x48, [(64, 128)], [⟨31, 0, .rw, 0⟩]⟩,
  ⟨0x4C, [(64, 128)], [⟨31, 0, .rw, 0⟩]⟩,
  ⟨0x50, [(64, 128)], [⟨2, 2, .cmd, 0⟩, ⟨1, 1, .rw, 0⟩, ⟨0, 0, .ro, 0⟩]⟩,
  ⟨0x54, [(64, 128)], [⟨3, 0, .rw, 0⟩]⟩,
  ⟨0x3000, [], [⟨31, 24, .ro, 0⟩, ⟨11, 0, .ro, 256⟩]⟩,
  ⟨0x3004, [], [⟨31, 0, .rc, 0⟩]⟩,
  ⟨0x3008, [], [⟨31, 0, .rc, 0⟩]⟩,
  ⟨0x3010, [], [⟨31, 0, .rc, 0⟩]⟩,
  ⟨0x3100, [(16, 16)], [⟨31, 6, .rw, 0⟩]⟩,
  ⟨0x3104, [(16, 16)], [⟨19, 16, .rw, 4⟩, ⟨7, 0, .rw, 0⟩]⟩,
  ⟨0x3108, [(16, 16)], [⟨15, 0, .ro, 0⟩]⟩,
  ⟨0x310C, [(16, 16)], [⟨15, 0, .rw, 0⟩]⟩,
  ⟨0x4000, [(16, 8)], [⟨31, 22, .rwl, 0⟩]⟩,
  ⟨0x4004, [(16, 8)], [⟨7, 0, .rwl, 0⟩]⟩,
  ⟨0x4100, [], [⟨31, 31, .cmd, 0⟩, ⟨30, 30, .rw, 0⟩, ⟨29, 26, .rw, 0⟩, ⟨18, 0, .rw, 0⟩]⟩,
  ⟨0x4104, [], [⟨0, 0, .ro, 0⟩]⟩,
  ⟨0x4108, [], [⟨31, 0, .rc, 0⟩]⟩,
  ⟨0x5000, [], [⟨31, 31, .cmd, 0⟩, ⟨8, 0, .ro, 0⟩]⟩,
  ⟨0x5004, [], [⟨31, 28, .ro, 0⟩, ⟨27, 22, .ro, 0⟩, ⟨21, 18, .ro, 0⟩, ⟨17, 14, .ro, 0⟩, ⟨13, 13, .ro, 0⟩, ⟨12, 9, .ro, 0⟩]⟩,
  ⟨0x5008, [], [⟨31, 0, .ro, 0⟩]⟩,
  ⟨0x500C, [], [⟨7, 0, .ro, 0⟩]⟩,
  ⟨0x5840, [(16, 4)], [⟨31, 0, .rw, 0⟩]⟩]
/-- Register rows of the hubDma block (part 3): HUB_MBX_DATA, HUB_MBX_STAT, HUB_POST_CTL, HUB_POST_STAT, HUB_POST_TMO. -/
def hubDmaRows3 : List RegRow := [
  ⟨0x5800, [], [⟨31, 31, .cmd, 0⟩, ⟨27, 24, .rw, 0⟩]⟩,
  ⟨0x5804, [], [⟨2, 2, .ro, 0⟩, ⟨1, 0, .ro, 0⟩]⟩,
  ⟨0x5808, [], [⟨31, 0, .rw, 10000⟩]⟩,
  ⟨0x5900, [], [⟨31, 31, .cmd, 0⟩, ⟨5, 0, .ro, 0⟩]⟩,
  ⟨0x5904, [(16, 4)], [⟨31, 0, .ro, 0⟩]⟩]
/-- Register rows of the hubDma block. -/
def hubDmaRows : List RegRow := hubDmaRows1 ++ hubDmaRows2 ++ hubDmaRows3
/-- Register rows of the cluster block: SS_ECC_ADDR, SS_ECC_CE_CNT, SS_ECC_ROW, SS_ECC_UE_CNT, SS_HIT_CNT, SS_INV_HI, SS_INV_LO, SS_INV_STAT, SS_MISS_CNT, SS_NOFILL_CNT, SS_PWR_FAIL, SS_REP, SS_WAY_CFG, SS_WAY_STAT. -/
def clusterRows : List RegRow := [
  ⟨0x0, [], [⟨31, 0, .rw, 0⟩]⟩,
  ⟨0x4, [], [⟨31, 16, .ro, 0⟩, ⟨15, 0, .ro, 0⟩]⟩,
  ⟨0x8, [], [⟨15, 0, .w1c, 0⟩]⟩,
  ⟨0x20, [], [⟨31, 0, .rc, 0⟩]⟩,
  ⟨0x24, [], [⟨31, 0, .rc, 0⟩]⟩,
  ⟨0x28, [], [⟨31, 0, .rc, 0⟩]⟩,
  ⟨0x30, [], [⟨31, 0, .rc, 0⟩]⟩,
  ⟨0x34, [], [⟨31, 0, .rc, 0⟩]⟩,
  ⟨0x38, [], [⟨31, 31, .ro, 0⟩, ⟨23, 0, .ro, 0⟩]⟩,
  ⟨0x3C, [], [⟨31, 28, .ro, 0⟩, ⟨23, 16, .ro, 0⟩, ⟨10, 0, .ro, 0⟩]⟩,
  ⟨0x100, [(64, 4)], [⟨31, 31, .rw, 0⟩, ⟨30, 30, .ro, 0⟩, ⟨19, 16, .rw, 0⟩, ⟨12, 11, .rw, 0⟩, ⟨10, 0, .rw, 0⟩]⟩,
  ⟨0x10, [], [⟨31, 6, .rw, 0⟩]⟩,
  ⟨0x14, [], [⟨31, 31, .cmd, 0⟩, ⟨30, 30, .rw, 0⟩, ⟨23, 8, .rw, 0⟩, ⟨7, 0, .rw, 0⟩]⟩,
  ⟨0x18, [], [⟨1, 1, .w1c, 0⟩, ⟨0, 0, .ro, 0⟩]⟩]
/-- Register rows of the barrier block: BAR_CFG, BAR_FAB_MARGIN, BAR_LATE_CNT, BAR_STALE_CNT, BAR_STAT, BAR_TMO, HB_ENTRY0, HB_ENTRY1, HB_ENTRY2, HP_BASE, HP_CFG, HP_CNT, HP_QCNT, HQ_BADOP_CNT, HQ_CFG, HQ_STAT. -/
def barrierRows : List RegRow := [
  ⟨0x0, [(16, 16)], [⟨31, 31, .rw, 0⟩, ⟨30, 24, .rw, 0⟩, ⟨12, 0, .rw, 0⟩]⟩,
  ⟨0x4, [(16, 16)], [⟨13, 0, .rw, 0⟩]⟩,
  ⟨0x8, [(16, 16)], [⟨25, 13, .ro, 0⟩, ⟨12, 0, .ro, 0⟩]⟩,
  ⟨0xC, [(16, 16)], [⟨12, 0, .ro, 0⟩]⟩,
  ⟨0x1000, [(256, 8)], [⟨31, 31, .rw, 0⟩, ⟨30, 24, .rw, 0⟩, ⟨3, 0, .rw, 0⟩]⟩,
  ⟨0x1004, [(256, 8)], [⟨8, 0, .ro, 0⟩]⟩,
  ⟨0x2000, [(32, 16)], [⟨31, 31, .rw, 0⟩, ⟨30, 30, .rw, 0⟩, ⟨29, 29, .rw, 0⟩, ⟨28, 28, .rw, 0⟩, ⟨26, 20, .rw, 0⟩, ⟨19, 10, .rw, 0⟩, ⟨9, 5, .rw, 0⟩, ⟨4, 0, .rw, 0⟩]⟩,
  ⟨0x2004, [(32, 16)], [⟨31, 30, .ro, 0⟩, ⟨23, 16, .ro, 0⟩, ⟨9, 0, .ro, 0⟩]⟩,
  ⟨0x2008, [(32, 16)], [⟨23, 0, .rw, 10000⟩]⟩,
  ⟨0x200C, [(32, 16)], [⟨31, 0, .rc, 0⟩]⟩,
  ⟨0x3000, [], [⟨31, 0, .rc, 0⟩]⟩,
  ⟨0x3004, [], [⟨31, 0, .rc, 0⟩]⟩,
  ⟨0x3008, [], [⟨23, 0, .rw, 20000⟩]⟩,
  ⟨0x40000, [(16384, 16)], [⟨31, 0, .rw, 0⟩]⟩,
  ⟨0x40004, [(16384, 16)], [⟨15, 12, .ro, 0⟩, ⟨9, 8, .ro, 0⟩, ⟨7, 0, .rw, 0⟩]⟩,
  ⟨0x40008, [(16384, 16)], [⟨23, 0, .rw, 0⟩]⟩]
/-- Register rows of the audit block: AUD_CTL, AUD_RUN_CNT, AUD_VIOL, AUD_VIOL_CNT, AUD_VIOL_EXP, AUD_VIOL_FOUND. -/
def auditRows : List RegRow := [
  ⟨0x0, [], [⟨31, 31, .cmd, 0⟩, ⟨23, 0, .rw, 1000⟩]⟩,
  ⟨0x4, [], [⟨31, 0, .ro, 0⟩]⟩,
  ⟨0x8, [], [⟨31, 28, .ro, 0⟩, ⟨15, 0, .ro, 0⟩]⟩,
  ⟨0xC, [], [⟨31, 0, .ro, 0⟩]⟩,
  ⟨0x10, [], [⟨31, 0, .ro, 0⟩]⟩,
  ⟨0x14, [], [⟨31, 0, .rc, 0⟩]⟩]
/-- Register rows of the intake block (part 1): I2C_CFG, INT_PORT_CFG, INT_PORT_CRC_ERR, INT_PORT_DROP, INT_PORT_ECC_CORR, INT_PORT_ECC_UNC, INT_PORT_SOT_ERR, INT_PORT_STAT, INT_PORT_UNMATCHED, INT_STR_CFG, INT_STR_FIDX, INT_STR_FS_HI, INT_STR_FS_LO, INT_STR_GEOM, INT_STR_LAST, INT_STR_LINE_ADJ, INT_STR_MARKED, INT_STR_ORPHAN, INT_STR_PERIOD, INT_STR_ROWS_DISC, INT_STR_ROWS_SYN, INT_STR_SETLATE, INT_STR_TMO, INT_WL. -/
def intakeRows1 : List RegRow := [
  ⟨0x1000, [(12, 64)], [⟨31, 31, .rw, 0⟩, ⟨27, 24, .rw, 0⟩, ⟨23, 16, .rw, 228⟩, ⟨14, 13, .rw, 3⟩, ⟨12, 0, .rw, 1500⟩]⟩,
  ⟨0x1004, [(12, 64)], [⟨31, 31, .ro, 0⟩, ⟨30, 30, .ro, 0⟩, ⟨12, 0, .ro, 0⟩]⟩,
  ⟨0x1008, [(12, 64)], [⟨31, 0, .rc, 0⟩]⟩,
  ⟨0x100C, [(12, 64)], [⟨31, 0, .rc, 0⟩]⟩,
  ⟨0x1010, [(12, 64)], [⟨31, 0, .rc, 0⟩]⟩,
  ⟨0x1014, [(12, 64)], [⟨31, 0, .rc, 0⟩]⟩,
  ⟨0x1018, [(12, 64)], [⟨31, 0, .rc, 0⟩]⟩,
  ⟨0x101C, [(12, 64)], [⟨31, 0, .rc, 0⟩]⟩,
  ⟨0x2000, [(48, 64)], [⟨31, 31, .rw, 0⟩, ⟨30, 30, .rw, 0⟩, ⟨29, 29, .rw, 0⟩, ⟨27, 24, .rw, 0⟩, ⟨23, 18, .rw, 44⟩, ⟨17, 16, .rw, 0⟩, ⟨15, 14, .rw, 0⟩, ⟨13, 12, .rw, 0⟩, ⟨11, 8, .rw, 0⟩]⟩,
  ⟨0x2004, [(48, 64)], [⟨31, 16, .rw, 0⟩, ⟨15, 0, .rw, 0⟩]⟩,
  ⟨0x2008, [(48, 64)], [⟨23, 0, .rw, 100000⟩]⟩,
  ⟨0x200C, [(48, 64)], [⟨31, 16, .ro, 0⟩, ⟨15, 0, .ro, 0⟩]⟩,
  ⟨0x2010, [(48, 64)], [⟨31, 0, .ro, 0⟩]⟩,
  ⟨0x2014, [(48, 64)], [⟨31, 0, .ro, 0⟩]⟩,
  ⟨0x2018, [(48, 64)], [⟨31, 0, .ro, 0⟩]⟩,
  ⟨0x201C, [(48, 64)], [⟨31, 0, .ro, 0⟩]⟩,
  ⟨0x2020, [(48, 64)], [⟨31, 0, .rc, 0⟩]⟩,
  ⟨0x2024, [(48, 64)], [⟨31, 0, .rc, 0⟩]⟩,
  ⟨0x2028, [(48, 64)], [⟨31, 0, .rc, 0⟩]⟩,
  ⟨0x202C, [(48, 64)], [⟨31, 0, .rc, 0⟩]⟩,
  ⟨0x2030, [(48, 64)], [⟨31, 0, .rc, 0⟩]⟩,
  ⟨0x2034, [(48, 64)], [⟨31, 0, .rc, 0⟩]⟩,
  ⟨0x7000, [(256, 4)], [⟨27, 26, .rw, 0⟩, ⟨25, 24, .rw, 0⟩, ⟨23, 16, .rw, 0⟩, ⟨11, 0, .rw, 0⟩]⟩,
  ⟨0x4000, [(12, 256)], [⟨31, 31, .rw, 0⟩, ⟨27, 26, .rw, 0⟩, ⟨15, 0, .rw, 10000⟩]⟩]
/-- Register rows of the intake block (part 2): I2C_ALLOW_HI, I2C_ALLOW_LO, I2C_DENY_CNT, I2C_NACK_CNT, I2C_RESET_CNT, I2C_STAT, I2C_XDATA, I2C_XFER, INT_FSYNC_CFG, INT_FSYNC_SUPP, INT_TRIG_ACT, INT_TRIG_CAP_HI, INT_TRIG_CAP_LO, INT_TRIG_CFG, INT_TRIG_CNT, INT_WATCH_CFG, INT_WATCH_EVT_FIDX, INT_WATCH_EVT_HI, INT_WATCH_EVT_LO, INT_WATCH_LAST, INT_WATCH_STAT, INT_WATCH_THR, WL_ITEM_HI, WL_ITEM_LO. -/
def intakeRows2 : List RegRow := [
  ⟨0x4004, [(12, 256)], [⟨31, 31, .ro, 0⟩, ⟨23, 16, .ro, 0⟩, ⟨15, 8, .ro, 0⟩, ⟨3, 0, .ro, 0⟩]⟩,
  ⟨0x4008, [(12, 256)], [⟨31, 31, .cmd, 0⟩, ⟨30, 30, .rw, 0⟩, ⟨29, 23, .rw, 0⟩, ⟨22, 22, .rw, 0⟩, ⟨21, 20, .rw, 0⟩, ⟨15, 0, .rw, 0⟩]⟩,
  ⟨0x400C, [(12, 256)], [⟨31, 0, .rw, 0⟩]⟩,
  ⟨0x4010, [(12, 256)], [⟨31, 0, .rc, 0⟩]⟩,
  ⟨0x4014, [(12, 256)], [⟨31, 0, .rc, 0⟩]⟩,
  ⟨0x4018, [(12, 256)], [⟨31, 0, .rc, 0⟩]⟩,
  ⟨0x4080, [(12, 256), (16, 8)], [⟨31, 31, .rwl, 0⟩, ⟨30, 30, .rwl, 0⟩, ⟨29, 29, .rwl, 0⟩, ⟨28, 22, .rwl, 0⟩, ⟨15, 0, .rwl, 0⟩]⟩,
  ⟨0x4084, [(12, 256), (16, 8)], [⟨15, 0, .rwl, 0⟩]⟩,
  ⟨0x5000, [(12, 8)], [⟨31, 31, .rw, 0⟩, ⟨30, 30, .rw, 0⟩, ⟨23, 0, .rwl, 1000⟩]⟩,
  ⟨0x5004, [(12, 8)], [⟨31, 0, .rc, 0⟩]⟩,
  ⟨0x5100, [(4, 16)], [⟨31, 31, .rw, 0⟩, ⟨30, 30, .rw, 0⟩, ⟨29, 29, .rw, 0⟩, ⟨28, 28, .rw, 0⟩, ⟨23, 16, .rw, 10⟩, ⟨15, 0, .rw, 0⟩]⟩,
  ⟨0x5104, [(4, 16)], [⟨31, 31, .rw, 0⟩, ⟨27, 24, .rw, 0⟩, ⟨23, 16, .rw, 10⟩, ⟨15, 0, .rw, 0⟩]⟩,
  ⟨0x5108, [(4, 16)], [⟨31, 0, .ro, 0⟩]⟩,
  ⟨0x510C, [(4, 16)], [⟨31, 0, .ro, 0⟩]⟩,
  ⟨0x5140, [(4, 4)], [⟨31, 16, .rc, 0⟩, ⟨15, 0, .rc, 0⟩]⟩,
  ⟨0x6000, [(12, 64)], [⟨31, 31, .rw, 0⟩, ⟨29, 28, .rw, 0⟩, ⟨27, 25, .rw, 5⟩, ⟨24, 22, .rw, 0⟩, ⟨21, 19, .rw, 0⟩, ⟨15, 8, .rw, 16⟩]⟩,
  ⟨0x6004, [(12, 64)], [⟨12, 0, .rw, 8⟩]⟩,
  ⟨0x6008, [(12, 64)], [⟨12, 0, .ro, 0⟩]⟩,
  ⟨0x600C, [(12, 64)], [⟨31, 0, .ro, 0⟩]⟩,
  ⟨0x6010, [(12, 64)], [⟨31, 0, .ro, 0⟩]⟩,
  ⟨0x6014, [(12, 64)], [⟨31, 0, .ro, 0⟩]⟩,
  ⟨0x6018, [(12, 64)], [⟨1, 1, .w1c, 0⟩, ⟨0, 0, .ro, 0⟩]⟩,
  ⟨0x8000, [(4096, 8)], [⟨31, 0, .rw, 0⟩]⟩,
  ⟨0x8004, [(4096, 8)], [⟨31, 25, .rw, 0⟩, ⟨24, 24, .rw, 0⟩, ⟨23, 8, .rw, 0⟩, ⟨7, 6, .rw, 0⟩]⟩]
/-- Register rows of the intake block (part 3): CUEQ_CTL, CUEQ_ENTRY, CUEQ_HEAD_HI, CUEQ_HEAD_LO, CUEQ_STAT. -/
def intakeRows3 : List RegRow := [
  ⟨0x800, [(12, 32), (4, 4)], [⟨31, 0, .wo, 0⟩]⟩,
  ⟨0x810, [(12, 32)], [⟨23, 16, .rc, 0⟩, ⟨10, 10, .ro, 0⟩, ⟨9, 9, .w1c, 0⟩, ⟨8, 0, .ro, 0⟩]⟩,
  ⟨0x814, [(12, 32)], [⟨1, 1, .cmd, 0⟩, ⟨0, 0, .cmd, 0⟩]⟩,
  ⟨0x818, [(12, 32)], [⟨31, 0, .ro, 0⟩]⟩,
  ⟨0x81C, [(12, 32)], [⟨31, 0, .ro, 0⟩]⟩]
/-- Register rows of the intake block. -/
def intakeRows : List RegRow := intakeRows1 ++ intakeRows2 ++ intakeRows3
/-- Register rows of the assembler block: SA_ISP, SA_RQ, SA_STR_CFG, SA_STR_CTL, SA_STR_DL, SA_STR_GEOM, SA_STR_HALO, SA_STR_LAT_MAX, SA_STR_MISS, SA_STR_NOBUF, SA_STR_REFMISS, SA_STR_SKIP, SA_STR_SLOT, SA_STR_SLOTWAIT, SA_STR_STAT, SA_STR_STRIPES, SA_STR_XR_HI, SA_STR_XR_LO, SA_STR_ZVAL, SA_WR_BYTES. -/
def assemblerRows : List RegRow := [
  ⟨0x0, [], [⟨31, 0, .rc, 0⟩]⟩,
  ⟨0x100, [(8, 4)], [⟨5, 0, .ro, 0⟩]⟩,
  ⟨0x1000, [(48, 128)], [⟨31, 31, .rw, 0⟩, ⟨30, 30, .rw, 0⟩, ⟨29, 28, .rw, 0⟩, ⟨27, 27, .rw, 0⟩, ⟨26, 26, .rw, 0⟩, ⟨25, 24, .rw, 1⟩, ⟨23, 16, .rw, 0⟩, ⟨7, 5, .rw, 0⟩, ⟨4, 0, .rw, 2⟩]⟩,
  ⟨0x1004, [(48, 128)], [⟨31, 24, .rw, 0⟩, ⟨23, 16, .rw, 0⟩, ⟨15, 8, .rw, 0⟩, ⟨7, 0, .rw, 0⟩]⟩,
  ⟨0x1008, [(48, 128)], [⟨21, 0, .rw, 0⟩]⟩,
  ⟨0x100C, [(48, 128)], [⟨31, 16, .rw, 0⟩, ⟨15, 0, .rw, 0⟩]⟩,
  ⟨0x1010, [(48, 128)], [⟨31, 0, .rw, 1000000⟩]⟩,
  ⟨0x1014, [(48, 128)], [⟨15, 0, .rw, 0⟩]⟩,
  ⟨0x1018, [(48, 128), (7, 8)], [⟨23, 0, .rw, 0⟩]⟩,
  ⟨0x101C, [(48, 128), (7, 8)], [⟨23, 0, .rw, 0⟩]⟩,
  ⟨0x1050, [(48, 128)], [⟨31, 0, .ro, 0⟩]⟩,
  ⟨0x1054, [(48, 128)], [⟨31, 0, .rc, 0⟩]⟩,
  ⟨0x1058, [(48, 128)], [⟨31, 0, .rc, 0⟩]⟩,
  ⟨0x105C, [(48, 128)], [⟨31, 0, .rc, 0⟩]⟩,
  ⟨0x1060, [(48, 128)], [⟨31, 0, .rc, 0⟩]⟩,
  ⟨0x1064, [(48, 128)], [⟨31, 0, .rc, 0⟩]⟩,
  ⟨0x1068, [(48, 128)], [⟨31, 0, .rc, 0⟩]⟩,
  ⟨0x106C, [(48, 128)], [⟨7, 0, .ro, 0⟩]⟩,
  ⟨0x1070, [(48, 128)], [⟨0, 0, .cmd, 0⟩]⟩,
  ⟨0x10000, [(48, 512), (128, 4)], [⟨31, 16, .rw, 0⟩, ⟨15, 0, .rw, 0⟩]⟩]
/-- Register rows of the peerLinks block: EPL_ALLOW_BASE, EPL_ALLOW_LIMIT, EPL_BADMSG_CNT, EPL_CRC_ERR_CNT, EPL_CRED, EPL_CTL, EPL_DOWN_CNT, EPL_FAB_CFG, EPL_RECLAIM_CNT, EPL_REPLAY_CNT, EPL_ROUTE, EPL_RXBUF, EPL_STAT, EPL_TS_MISS_CNT, EPL_WIN_BASE, EPL_WIN_CTL, EPL_WIN_DENY_CNT, EPL_WIN_LIMIT, EPL_WIN_SRC. -/
def peerLinksRows : List RegRow := [
  ⟨0x0, [], [⟨31, 8, .rw, 0⟩, ⟨4, 0, .ro, 0⟩]⟩,
  ⟨0x4, [], [⟨19, 0, .rwl, 0⟩]⟩,
  ⟨0x8, [], [⟨19, 0, .rwl, 0⟩]⟩,
  ⟨0xC, [], [⟨31, 0, .rc, 0⟩]⟩,
  ⟨0x10, [], [⟨31, 0, .rc, 0⟩]⟩,
  ⟨0x100, [(24, 4)], [⟨2, 0, .rw, 7⟩]⟩,
  ⟨0x1000, [(6, 256)], [⟨31, 16, .rw, 1000⟩, ⟨1, 1, .cmd, 0⟩, ⟨0, 0, .rw, 0⟩]⟩,
  ⟨0x1004, [(6, 256)], [⟨14, 14, .w1c, 0⟩, ⟨13, 13, .ro, 0⟩, ⟨12, 12, .ro, 0⟩, ⟨7, 3, .ro, 0⟩, ⟨2, 0, .ro, 0⟩]⟩,
  ⟨0x1008, [(6, 256)], [⟨31, 0, .rc, 0⟩]⟩,
  ⟨0x100C, [(6, 256)], [⟨31, 0, .rc, 0⟩]⟩,
  ⟨0x1010, [(6, 256)], [⟨31, 0, .rc, 0⟩]⟩,
  ⟨0x1014, [(6, 256)], [⟨31, 0, .rc, 0⟩]⟩,
  ⟨0x1018, [(6, 256)], [⟨29, 20, .ro, 0⟩, ⟨19, 10, .ro, 0⟩, ⟨9, 0, .ro, 0⟩]⟩,
  ⟨0x101C, [(6, 256)], [⟨29, 20, .ro, 0⟩, ⟨19, 10, .ro, 0⟩, ⟨9, 0, .ro, 0⟩]⟩,
  ⟨0x1020, [(6, 256)], [⟨31, 0, .rc, 0⟩]⟩,
  ⟨0x2000, [(16, 16)], [⟨31, 31, .rw, 0⟩, ⟨30, 30, .w1s, 0⟩, ⟨29, 29, .rw, 0⟩, ⟨28, 28, .rw, 0⟩, ⟨27, 24, .rw, 0⟩]⟩,
  ⟨0x2004, [(16, 16)], [⟨19, 0, .rw, 0⟩]⟩,
  ⟨0x2008, [(16, 16)], [⟨19, 0, .rw, 0⟩]⟩,
  ⟨0x200C, [(16, 16)], [⟨23, 0, .rw, 0⟩]⟩]
/-- Register rows of the usb block: USB_CFG, USB_ERR_CNT, USB_RESET_CNT, USB_STAT. -/
def usbRows : List RegRow := [
  ⟨0x0, [], [⟨11, 11, .ro, 0⟩, ⟨10, 10, .ro, 0⟩, ⟨9, 9, .ro, 0⟩, ⟨8, 8, .ro, 0⟩, ⟨7, 4, .ro, 0⟩, ⟨3, 0, .ro, 0⟩]⟩,
  ⟨0x4, [], [⟨1, 1, .rwl, 0⟩, ⟨0, 0, .rw, 0⟩]⟩,
  ⟨0x8, [], [⟨31, 16, .rc, 0⟩, ⟨15, 0, .rc, 0⟩]⟩,
  ⟨0xC, [], [⟨31, 0, .rc, 0⟩]⟩]
/-- Register rows of the power block: PWR_AVS, PWR_CAP, PWR_DROOP_CNT, PWR_HOLD_CNT, PWR_IN, PWR_IN_AVG, PWR_OP_EFF, PWR_OP_REQ, THERM_CFG, THERM_STAT. -/
def powerRows : List RegRow := [
  ⟨0x0, [], [⟨6, 4, .rw, 4⟩, ⟨2, 0, .rw, 4⟩]⟩,
  ⟨0x4, [], [⟨14, 12, .ro, 0⟩, ⟨10, 8, .ro, 4⟩, ⟨6, 4, .ro, 0⟩, ⟨2, 0, .ro, 4⟩]⟩,
  ⟨0x10, [(2, 4)], [⟨9, 0, .ro, 720⟩]⟩,
  ⟨0x20, [], [⟨23, 16, .rwl, 190⟩, ⟨7, 0, .rw, 190⟩]⟩,
  ⟨0x24, [], [⟨31, 16, .ro, 0⟩, ⟨15, 0, .ro, 0⟩]⟩,
  ⟨0x28, [], [⟨31, 0, .ro, 0⟩]⟩,
  ⟨0x2C, [], [⟨31, 0, .rc, 0⟩]⟩,
  ⟨0x30, [], [⟨23, 16, .ro, 105⟩, ⟨7, 0, .rw, 95⟩]⟩,
  ⟨0x34, [], [⟨31, 24, .ro, 0⟩, ⟨15, 0, .ro, 0⟩]⟩,
  ⟨0x38, [], [⟨31, 0, .rc, 0⟩]⟩]
/-- Register rows of the aon block: AON_IDLE_HYST, AON_PWRCYC, AON_RST_CAUSE, AON_STATE, AON_WAKE_CAUSE, AON_WAKE_EN, AON_WDOG, CUEQ_CTL, CUEQ_ENTRY, CUEQ_HEAD_HI, CUEQ_HEAD_LO, CUEQ_STAT. -/
def aonRows : List RegRow := [
  ⟨0x0, [], [⟨7, 4, .ro, 0⟩, ⟨3, 0, .ro, 6⟩]⟩,
  ⟨0x4, [], [⟨5, 0, .rw, 47⟩]⟩,
  ⟨0x8, [], [⟨5, 0, .w1c, 0⟩]⟩,
  ⟨0xC, [], [⟨6, 0, .w1c, 1⟩]⟩,
  ⟨0x10, [], [⟨31, 31, .cmd, 0⟩, ⟨15, 0, .rwl, 2000⟩]⟩,
  ⟨0x14, [], [⟨15, 0, .rw, 50⟩]⟩,
  ⟨0x18, [], [⟨23, 0, .ro, 0⟩]⟩,
  ⟨0x800, [(4, 4)], [⟨31, 0, .wo, 0⟩]⟩,
  ⟨0x810, [], [⟨23, 16, .rc, 0⟩, ⟨10, 10, .ro, 0⟩, ⟨9, 9, .w1c, 0⟩, ⟨8, 0, .ro, 0⟩]⟩,
  ⟨0x814, [], [⟨1, 1, .cmd, 0⟩, ⟨0, 0, .cmd, 0⟩]⟩,
  ⟨0x818, [], [⟨31, 0, .ro, 0⟩]⟩,
  ⟨0x81C, [], [⟨31, 0, .ro, 0⟩]⟩]
/-- Register rows of the security block: SEC_BOOT, SEC_DBG, SEC_EMU_GATE, SEC_LC, SEC_LOCK, SEC_MANIFEST, SEC_MEAS_CFG, SEC_MEAS_FW, SEC_RB, SEC_RB_ADV, SEC_SERIAL_HI, SEC_SERIAL_LO, SEC_SIG_ADDR_HI, SEC_SIG_ADDR_LO, SEC_SIG_CTL, SEC_SIG_STAT. -/
def securityRows : List RegRow := [
  ⟨0x0, [], [⟨14, 8, .ro, 0⟩, ⟨2, 0, .ro, 0⟩]⟩,
  ⟨0x4, [], [⟨11, 8, .ro, 0⟩, ⟨6, 0, .ro, 0⟩]⟩,
  ⟨0x8, [], [⟨6, 0, .wo, 0⟩]⟩,
  ⟨0xC, [], [⟨23, 16, .ro, 0⟩, ⟨7, 7, .ro, 0⟩, ⟨6, 6, .ro, 0⟩, ⟨5, 5, .ro, 0⟩, ⟨4, 4, .ro, 0⟩, ⟨1, 1, .ro, 0⟩, ⟨0, 0, .ro, 0⟩]⟩,
  ⟨0x10, [], [⟨1, 1, .w1s, 0⟩, ⟨0, 0, .w1s, 0⟩]⟩,
  ⟨0x14, [], [⟨1, 1, .cmd, 0⟩, ⟨0, 0, .ro, 1⟩]⟩,
  ⟨0x18, [], [⟨0, 0, .ro, 0⟩]⟩,
  ⟨0x20, [], [⟨31, 0, .ro, 0⟩]⟩,
  ⟨0x24, [], [⟨31, 0, .ro, 0⟩]⟩,
  ⟨0x100, [(12, 4)], [⟨31, 0, .ro, 0⟩]⟩,
  ⟨0x130, [(12, 4)], [⟨31, 0, .ro, 0⟩]⟩,
  ⟨0x160, [(12, 4)], [⟨31, 0, .ro, 0⟩]⟩,
  ⟨0x200, [], [⟨31, 0, .rw, 0⟩]⟩,
  ⟨0x204, [], [⟨7, 0, .rw, 0⟩]⟩,
  ⟨0x208, [], [⟨31, 31, .cmd, 0⟩, ⟨0, 0, .rw, 0⟩]⟩,
  ⟨0x20C, [], [⟨31, 31, .ro, 0⟩, ⟨3, 0, .ro, 0⟩]⟩]
/-- Register rows of the rehearsal block: REH_CTL, REH_EXPECT, REH_FAIL_CNT, REH_GO, REH_MISR, REH_ROT_CNT, REH_SLICE_CNT, REH_SPARE, REH_STAT, REH_SWAP_CNT, REH_TRANS_CNT. -/
def rehearsalRows : List RegRow := [
  ⟨0x0, [], [⟨31, 31, .rw, 0⟩, ⟨15, 0, .rw, 24⟩]⟩,
  ⟨0x4, [], [⟨31, 28, .ro, 0⟩, ⟨27, 24, .ro, 0⟩, ⟨15, 0, .ro, 0⟩]⟩,
  ⟨0x8, [], [⟨31, 31, .cmd, 0⟩, ⟨15, 0, .rw, 0⟩]⟩,
  ⟨0xC, [], [⟨31, 0, .ro, 0⟩]⟩,
  ⟨0x10, [], [⟨31, 0, .rw, 0⟩]⟩,
  ⟨0x14, [], [⟨31, 0, .ro, 0⟩]⟩,
  ⟨0x18, [], [⟨31, 0, .rc, 0⟩]⟩,
  ⟨0x1C, [], [⟨31, 0, .rc, 0⟩]⟩,
  ⟨0x20, [], [⟨31, 0, .ro, 0⟩]⟩,
  ⟨0x24, [], [⟨15, 12, .ro, 8⟩, ⟨8, 0, .ro, 0⟩]⟩,
  ⟨0x28, [], [⟨31, 0, .rc, 0⟩]⟩]
/-- Register rows of the lichen block: LCH_LOST_CNT, LCH_OPSEC, LCH_P, LCH_REQ, LCH_REQ_STAT, LCH_STAT, LCH_SUPP_PEND. -/
def lichenRows : List RegRow := [
  ⟨0x0, [(4, 4)], [⟨31, 0, .rw, 0⟩]⟩,
  ⟨0x10, [], [⟨16, 16, .wo, 0⟩, ⟨15, 0, .wo, 0⟩]⟩,
  ⟨0x14, [], [⟨1, 1, .w1c, 0⟩, ⟨0, 0, .w1c, 0⟩]⟩,
  ⟨0x20, [], [⟨31, 31, .ro, 0⟩, ⟨30, 30, .ro, 0⟩, ⟨29, 25, .ro, 0⟩, ⟨17, 0, .ro, 0⟩]⟩,
  ⟨0x24, [], [⟨31, 0, .ro, 0⟩]⟩,
  ⟨0x28, [], [⟨31, 0, .ro, 0⟩]⟩,
  ⟨0x2C, [], [⟨15, 0, .ro, 0⟩]⟩]
/-- Register rows of the sideband block: SIDE_ALERT_MASK, SIDE_ALERT_STAT, SIDE_CFG, SIDE_ERR_CNT, SIDE_RSTGLITCH_CNT. -/
def sidebandRows : List RegRow := [
  ⟨0x0, [], [⟨7, 7, .rwl, 0⟩, ⟨6, 0, .ro, 64⟩]⟩,
  ⟨0x4, [], [⟨6, 6, .w1c, 0⟩, ⟨5, 5, .w1c, 0⟩, ⟨4, 4, .w1c, 0⟩, ⟨3, 3, .w1c, 0⟩, ⟨2, 2, .w1c, 0⟩, ⟨1, 1, .w1c, 0⟩, ⟨0, 0, .w1c, 0⟩]⟩,
  ⟨0x8, [], [⟨6, 1, .rw, 63⟩, ⟨0, 0, .ro, 1⟩]⟩,
  ⟨0xC, [], [⟨31, 16, .rc, 0⟩, ⟨15, 0, .rc, 0⟩]⟩,
  ⟨0x10, [], [⟨31, 0, .rc, 0⟩]⟩]

/-- R18: the register rows of control register block `b`. -/
def blockRows (b : Nat) : List RegRow :=
  if b ≤ 8 then coreRows
  else if b = 0x10 ∨ b = 0x11 then clusterRows
  else if b = 0x20 then intakeRows
  else if b = 0x21 then assemblerRows
  else if b = 0x28 then peerLinksRows
  else if b = 0x30 then hubDmaRows
  else if b = 0x31 then barrierRows
  else if b = 0x32 then cueWingsRows
  else if b = 0x33 then auditRows
  else if b = 0x40 then powerRows
  else if b = 0x41 then aonRows
  else if b = 0x42 then securityRows
  else if b = 0x43 then rehearsalRows
  else if b = 0x44 then lichenRows
  else if b = 0x48 then usbRows
  else if b = 0x49 then sidebandRows
  else []

/-- Does the offset `o` name an instance of a row at `off` with these counts and strides (largest stride first)? -/
def dimsMatch : List (Nat × Nat) → Nat → Bool
  | [], o => o == 0
  | (c, st) :: ds, o => if o / st < c then dimsMatch ds (o % st) else false

/-- Does the row hold the register at offset `o` of its block? -/
def RegRow.holds (r : RegRow) (o : Nat) : Bool := r.off ≤ o && dimsMatch r.dims (o - r.off)

/-- The row of the register at DPA `a`, if the register tables give one. -/
def regRow (a : Nat) : Option RegRow :=
  if a < 0x7F00000000 ∨ 0x8000000000 ≤ a then none
  else
    let o := a - 0x7F00000000
    (blockRows (o / 0x100000)).find? (fun r => r.holds (o % 0x100000))

/-- The reset value a row's fields give its register. -/
def RegRow.resetWord (r : RegRow) : Word :=
  r.flds.foldl (fun w f => w ||| BitVec.ofNat 32 (f.reset * 2 ^ f.lo)) 0

/-- R5: the value a register holds at reset: its table's reset value, and 0 where the tables give no register. -/
def regReset (a : Nat) : Word :=
  match regRow a with
  | some r => r.resetWord
  | none => 0

end Sys2Proof.Machine
end

