-- ==== Sys2Proof/Machine/State.lean ====
section
/-!
DEFINITION. The state of the module as plain data, the reasons a command can stop, and the state at a power-on reset.

Every indexed piece of state (registers, queues, contexts, channels, streams) is held in a sparse map `Cells`, so that the
reset state lists nothing. Control registers stand in `regs` under their device physical address (those of a core under the
block of the PHYSICAL core); a register that only shows typed state is computed where it is read. Memory stands in `mem`.
-/
namespace Sys2Proof.Machine

/-! ### Cue time, cue queues, NoC windows, the Wings -/

/-- R36: a time-sync exchange with the parent, as far as it has come. -/
structure SyncState where
  /-- The link to the parent in the time tree (R364), if the module has one. -/
  parent : Option Nat := none
  /-- An exchange has started and its reply has not come. -/
  running : Bool := false
  /-- t1 of TS_SYNC, and t2, its arrival. -/
  t1 : Nat := 0
  t2 : Nat := 0
  /-- t3 of TS_DREQ, once sent. -/
  t3 : Option Nat := none
  /-- Consecutive exchanges within 8 ns (R39). -/
  good : Nat := 0
  /-- Consecutive missed exchanges (R39). -/
  missed : Nat := 0
  /-- When the last exchange was started (module time `ns`). -/
  started : Nat := 0
  deriving DecidableEq, Repr

/-- R28 to R40: cue time and its discipline. -/
structure TimeState where
  /-- R28: cue time in ns. -/
  now : Nat := 0
  /-- R31: the fraction in 1/64 ns. -/
  frac : Nat := 0
  /-- The model's own count of elapsed ns, which only a step on an empty queue advances (log entry 1). -/
  ns : Nat := 0
  /-- Increments of cue time still to be withheld (R30). -/
  skip : Nat := 0
  /-- When the last trim step was made (R30). -/
  lastTrim : Nat := 0
  /-- When the last slew step was made (R30). -/
  lastSlew : Nat := 0
  /-- R431: the crystal is stable, so cue time counts. -/
  crystal : Bool := false
  /-- R35, R381: PPS discipline is enabled. -/
  ppsEnabled : Bool := false
  /-- R35: when the last PPS edge was accepted. -/
  ppsLast : Option Nat := none
  /-- R35: consecutive captures within 50 ns of a whole second. -/
  ppsGood : Nat := 0
  /-- R35: PPS edges ignored. -/
  ppsIgnored : Nat := 0
  /-- R37: while cue time is held, the instant (`ns`) at which the parent's time has reached it. -/
  holdUntil : Option Nat := none
  /-- R36, R39: the exchange with the parent. -/
  sync : SyncState := {}
  deriving DecidableEq, Repr

/-- R42: a cue entry, with the firmware's note of the script that owns it and what has been counted about it. -/
structure CueEntry where
  time : Nat
  op : Nat
  /-- 0 FIRE, 1 SKIP, 2 HALT. -/
  late : Nat
  fab : Bool
  /-- Repeat period in µs, 0 one-shot. -/
  period : Nat
  arg : Nat
  /-- The script slot whose cue sheet it came from (R49), or 255. -/
  owner : Nat := 255
  /-- R44: CUE_LATE_CNT has counted this instance. -/
  counted : Bool := false
  /-- R37: a forward step jumped over its TIME. -/
  jumped : Bool := false
  deriving DecidableEq, Repr

/-- R41, R48: one cue queue, sorted by time. -/
structure CueQueue where
  /-- CUEQ_ENTRY0 to CUEQ_ENTRY2 as last written. -/
  w0 : Word := 0
  w1 : Word := 0
  w2 : Word := 0
  entries : List CueEntry := []
  halted : Bool := false
  /-- R44: the lateness in ns that the owning script's deadline record notes, newest last, with its script slot. -/
  lateNotes : List (Nat × Nat) := []
  deriving DecidableEq, Repr

/-- R51: one NoC window. -/
structure NocWindow where
  src : Nat := 0
  dst : Nat := 0
  /-- Bandwidth in units of 8 B per core cycle. -/
  bw : Nat := 0
  /-- Duration in ns. -/
  dur : Nat := 0
  booked : Bool := false
  /-- When it was opened (`ns`), while it is open. -/
  opened : Option Nat := none
  /-- R52: requests counted beyond the booked rate. No command tells the rate of a request, so this stays 0 (log entry 74). -/
  beyond : Nat := 0
  /-- The script that booked it. -/
  owner : Nat := 255
  deriving DecidableEq, Repr

/-- R54: the states of a Wings set. -/
inductive SetState where
  | free | opened | checked | armed | applied | failed
  deriving DecidableEq, Repr

/-- R54: one member of a Wings set: a unit, a register and a value, and whether its shadow is sealed (R57). -/
structure WMember where
  block : Nat
  /-- Byte offset in the block. -/
  ofs : Nat
  value : Word
  isSealed : Bool := false
  deriving DecidableEq, Repr

/-- R54, R57 to R61: one Wings set. -/
structure WingsSet where
  st : SetState := .free
  members : List WMember := []
  /-- R61: the fabric set id, 0 for a local set. -/
  fabric : Nat := 0
  /-- R57: T. -/
  time : Nat := 0
  /-- R319: the stream of a frame-bound ISP set. -/
  isp : Option Nat := none
  /-- R61: COMMIT has arrived. -/
  committed : Bool := false
  /-- R58: the member that was found unsealed when the set was to be applied. -/
  failedMember : Option Nat := none
  /-- The apply record: when it was applied, whether LATE (R60), overrides of R58. -/
  appliedAt : Nat := 0
  late : Bool := false
  overrides : Nat := 0
  deriving DecidableEq, Repr

/-! ### Lichen and host events -/

/-- R470: a record requested of the recorder. -/
structure LichenReq where
  code : Nat
  ongoing : Bool
  hw : Bool
  seconds : Nat
  p0 : Nat
  p1 : Nat
  p2 : Nat
  p3 : Nat
  /-- R472: its first attempt was torn. -/
  retried : Bool := false
  deriving DecidableEq, Repr

/-- R470 to R478: the recorder in the always-on domain. -/
structure LichenState where
  queue : List LichenReq := []
  next : Nat := 0
  ready : Bool := false
  full : Bool := false
  /-- R475: tokens taken from each code's bucket of 8. -/
  taken : Cells Nat := []
  /-- R475: the pending suppressed count of each code. -/
  supp : Cells Nat := []
  lost : Nat := 0
  /-- R478: the first code that was not recorded because the ordinary slots are used up. -/
  endCode : Option Nat := none
  /-- R471: operating seconds, and the value saved in flash. -/
  opsec : Nat := 0
  opsecSaved : Nat := 0
  /-- R475: the operating second of the last refill. -/
  lastRefill : Nat := 0
  deriving DecidableEq, Repr

/-- R390: a host event record. -/
structure EventRec where
  code : Nat
  source : Nat
  index : Nat
  time : Nat
  param : Nat
  deriving DecidableEq, Repr

/-- R391: the EP3 IN queue. -/
structure EventQueue where
  queue : List EventRec := []
  lost : Nat := 0
  lostTime : Nat := 0
  /-- Records the host has taken (the model's record of what went out on EP3 IN). -/
  taken : Nat := 0
  deriving DecidableEq, Repr

/-! ### Power, clocks and reset -/

/-- R427: AON_STATE.STATE. -/
inductive PState where
  | active | idle | sleep | dark | entering | waking | starting
  deriving DecidableEq, Repr

/-- R423, R425: an entry to SLEEP or DARK that is under way. -/
structure PowerEntry where
  /-- DARK rather than SLEEP. -/
  dark : Bool
  /-- The step of R423 that runs now, 1 to 6. -/
  step : Nat
  wakeT : Option Nat
  mask : Nat
  deriving DecidableEq, Repr

/-- R418: a hold that is running. -/
structure Hold where
  since : Nat
  request : Nat
  lowest : Nat
  /-- When the limiter let go, if it has. -/
  ended : Option Nat := none
  deriving DecidableEq, Repr

/-- R412 to R418: what the limiters hold of one cluster. -/
structure ClusterPower where
  /-- R417: the OP that each limiter allows. -/
  powerOp : Nat := 7
  thermOp : Nat := 7
  /-- R412: the OP whose clock the cluster runs at. -/
  clockOp : Nat := 4
  /-- R412: the voltage of a step has been raised to this point's nominal value. -/
  voltOp : Nat := 4
  /-- R413: the end of a droop stretch. -/
  droopUntil : Nat := 0
  /-- R413: since when the slack has stayed above the lower guard band. -/
  slackSince : Option Nat := none
  /-- R416: the cluster's clocks are gated by a trip. -/
  tripped : Bool := false
  /-- R467: the cluster's PLL has lost lock. -/
  unlocked : Bool := false
  /-- R414: the OP that the last accepted SET_OP set since start-up. -/
  lastSet : Option Nat := none
  /-- R415, R416: when the limiters last moved it. -/
  lastTherm : Nat := 0
  lastRaise : Nat := 0
  /-- R418: holds that run, by limiter. -/
  capHold : Option Hold := none
  thermHold : Option Hold := none
  droopHold : Option Hold := none
  /-- R418: when the last droop stretch occurred. -/
  lastDroop : Nat := 0
  deriving DecidableEq, Repr

/-- R409 to R431: power states, clocks, limiters, wake and reset. -/
structure PowerState where
  st : PState := .starting
  prev : PState := .active
  entry : Option PowerEntry := none
  /-- R424: wake sources latched after the commit point. -/
  latched : Nat := 0
  /-- R426: when the source that ends SLEEP was accepted. -/
  wakeAt : Nat := 0
  /-- R423, R425: DDR4 is in self-refresh. -/
  selfRefresh : Bool := false
  /-- R409: PLLs that are locked (0 core, 1 and 2 the clusters, 3 DDR4, 4 EPL). -/
  locked : List Nat := []
  /-- R47: queues whose unit the AON comparator has ungated in IDLE. -/
  ungated : List Nat := []
  /-- R421: when work was last seen. -/
  lastWork : Nat := 0
  /-- R427: ns the watchdog has run since its last kick. -/
  wdog : Nat := 0
  /-- R415: input power samples of the last 1 ms in mW, newest first, and how many were taken. -/
  samples : List Nat := []
  nSamples : Nat := 0
  /-- R415: sample numbers of the limiter's last step down and last step up. -/
  lastLower : Option Nat := none
  lastRaise : Option Nat := none
  clusters : Cells ClusterPower := []
  /-- R416: sensor temperatures in 0.1 °C as read (0 to 8 cores, 9 and 10 stores, 11 hub, 12 regulators, 13 DDR4). -/
  temps : Cells Int := []
  /-- R467: since when a sensor has differed from its cluster's median. -/
  tempBad : Cells Nat := []
  /-- R467: sensors whose reading the cross-check replaces. -/
  tempSub : List Nat := []
  /-- R430: the module is in DARK because of the input. -/
  undervolt : Bool := false
  /-- R430: the input is below 9.2 V. -/
  uvNow : Bool := false
  /-- R430: the lowest input voltage seen. -/
  lowestMv : Nat := 0
  /-- R485, R486: pins. -/
  pwrgd : Bool := false
  rstLow : Bool := false
  wakeNLow : Bool := false
  vbus : Bool := false
  /-- R488: VIO_CAM is below 1.6 V. -/
  vioLow : Bool := false
  /-- R490: input capacitance is charged. -/
  inserted : Bool := false
  /-- R381 POWER_GET: ns spent in each state. -/
  residency : Cells Nat := []
  /-- R418, R381: hold records (kind, cluster, request, lowest, ms). -/
  holds : List (Nat × Nat × Nat × Nat × Nat) := []
  /-- R493: ALERT_N has been answered since these bits set. -/
  alertAnswered : Nat := 0
  /-- R485: the inactive level of each FSYNC output, held by the AON pad ring. -/
  fsyncLevel : Cells Bool := []
  deriving DecidableEq, Repr

/-! ### Security, start-up, serial NOR -/

/-- R437: the mark of a firmware slot in the boot state sector. -/
inductive SlotMark where
  | none | pending | confirmed | bad
  deriving DecidableEq, Repr

/-- R437: one firmware slot's entry in the boot state sector. -/
structure FwSlot where
  mark : SlotMark := .none
  attempts : Nat := 0
  deriving DecidableEq, Repr

/-- R465: an entry of the field repair map, and of the fuse repairs. -/
structure RepairEntry where
  /-- 1 frond row, 2 frond column, 3 SRAM row, 4 way failed, 5 core retired. -/
  kind : Nat
  /-- Physical core, or 0x10 + cluster. -/
  phys : Nat
  mem : Nat
  bank : Nat
  index : Nat
  spare : Nat
  deriving DecidableEq, Repr

/-- R432 to R449: fuses, the boot state sector, the signature engine and an update under way. -/
structure SecState where
  /-- R443: bits of the life-cycle field whose two fuses are blown, and bits with one fuse blown. -/
  blown : List Nat := [0, 1]
  half : List Nat := []
  revoked : Nat := 0
  rollback : Nat := 0
  manifestHash : List Byte := []
  serial : Nat := 0
  dieRev : Nat := 0
  /-- R487: MODID as strapped. -/
  straps : Nat := 0
  /-- R465: repairs that FULL_TEST has programmed into fuses. -/
  fuseRepairs : List RepairEntry := []
  /-- R446: the device keys have been generated. -/
  deviceKeys : Bool := false
  slotA : FwSlot := {}
  slotB : FwSlot := {}
  pwrCyc : Nat := 0
  /-- R452: active hours, as saved. -/
  activeHours : Nat := 0
  /-- R442: an update under way: firmware and configuration lengths. -/
  update : Option (Nat × Nat) := none
  /-- R442: bytes of the firmware header, which is written last. -/
  updHeader : Cells Byte := []
  /-- R437: the first command has been accepted since boot. -/
  accepted : Bool := false
  /-- R449: an unsigned script has been loaded since boot. -/
  unsignedLoaded : Bool := false
  /-- R437: VERSION of the running firmware. -/
  version : Nat := 0
  /-- The signature engine runs this operation (0 verify, 1 attest). -/
  sigOp : Option Nat := none
  /-- R194: the full test engine runs. -/
  fullTest : Bool := false
  /-- R439: the Prompter has been handed over to. -/
  handedOver : Bool := false
  deriving DecidableEq, Repr

/-! ### Host commands and USB -/

/-- R376: a clamp entry. -/
structure ClampEntry where
  item : Nat
  field : Nat
  requested : Int
  applied : Int
  deriving DecidableEq, Repr

/-- R375: a reply. -/
structure Reply where
  opcode : Nat
  tag : Nat
  status : Nat
  untrusted : Bool := false
  dup : Bool := false
  clamps : List ClampEntry := []
  /-- The payload's fields in the order of R381 (log entry 8). -/
  payload : List Nat := []
  deriving DecidableEq, Repr

/-- R383: a command that has been received and not yet replied. -/
structure Outstanding where
  opcode : Nat
  tag : Nat
  fence : Bool
  /-- R374: when its limit passes. -/
  deadline : Nat
  /-- R386: its commit point has passed. -/
  committed : Bool := false
  /-- R398: for XFER, the EP2 channel; for SUBMIT, the script slot. -/
  object : Nat := 0
  /-- R398: bytes asked for, and by the descriptors that have ended: EP2 bytes moved, and bytes landed. -/
  bytes : Nat := 0
  moved : Nat := 0
  landed : Nat := 0
  /-- What else its execution needs: for XFER, ASID, stream, TVA, XFORM and TYPE. -/
  args : List Nat := []
  /-- R386, R398: the status with which an XFER that has been stopped replies. -/
  stop : Option Nat := none
  /-- R385: the objects it names, by the numbers of HostBase.lean. -/
  objects : List Nat := []
  /-- R376: clamps that its reply will report. -/
  clamps : List ClampEntry := []
  deriving DecidableEq, Repr

/-- R381: a TVA region: its address space, its first page, and the DDR4 frames under it. -/
structure Region where
  asid : Nat
  page : Nat
  frames : List Nat
  writable : Bool
  deriving DecidableEq, Repr

/-- R373 to R388: the command layer. -/
structure HostState where
  outstanding : List Outstanding := []
  /-- R383, R385, R388: commands that wait to start, by tag, in arrival order. -/
  held : List (Nat × Instr) := []
  /-- The tag of a held command that starts in this step. -/
  releasing : Option Nat := none
  /-- Replies given, newest last (the model's record of what went out on EP1 IN). -/
  replies : List Reply := []
  /-- R382: 64-bit totals of RC counters, by 64 × the register's address + the field's low bit. -/
  totals : Cells Nat := []
  /-- R381: the regions that MEM_MAP has made. -/
  regions : List Region := []
  /-- R381 FENCE_UNIT, R296: fenced units, by control register block. -/
  fenced : List Nat := []
  /-- The word that the last register or memory read returned (the model's record of a read's answer). -/
  busData : Word := 0
  /-- Whether the last access ended in a bus error (R14). -/
  busError : Bool := false
  deriving DecidableEq, Repr

/-- R392 to R408: the USB link, beyond USB_STAT. -/
structure UsbState where
  u1 : Bool := false
  u2 : Bool := false
  /-- R401: the wake sources of the most recent SLEEP command. -/
  sleepMask : Option Nat := none
  /-- R400: since when the link has been idle. -/
  idleSince : Nat := 0
  /-- R398: bytes that an armed EP2 stream has still to take or give, by hub channel. -/
  armed : Cells Nat := []
  /-- R398: data accepted on an EP2 OUT stream and not yet read by its channel, by hub channel. -/
  outData : Cells (List Byte) := []
  /-- R398: data sent on an EP2 IN stream, by hub channel. -/
  inData : Cells (List Byte) := []
  /-- R406: sequence numbers of EP1 OUT, EP1 IN and EP3 IN have been reset. -/
  seqReset : List Nat := []
  /-- R407: no event has been dropped since the last enumeration. -/
  enumerated : Bool := false
  deriving DecidableEq, Repr

/-! ### Peer links -/

/-- R355, R356: a message: the header flit's fields and the data flits' bytes. -/
structure LinkMsg where
  type : Nat
  dest : Nat
  src : Nat
  len : Nat
  tag : Nat := 0
  kind : Bool := false
  asid : Nat := 0
  addr : Nat := 0
  /-- Bytes 16 to 31 of the header flit. -/
  spec : List Byte := []
  /-- The data flits, 32 bytes each. -/
  data : List Byte := []
  /-- R369: cue time at which it arrived. -/
  arrival : Nat := 0
  deriving DecidableEq, Repr

/-- R357, R361: a request that left by a link and has no response. -/
structure LinkReq where
  tag : Nat
  dest : Nat
  /-- 1 a DMA write, 2 a DMA read, 3 other. -/
  kind : Nat
  /-- The hub channel that made it. -/
  chan : Nat
  /-- Bytes asked for or written, and where they go. -/
  bytes : Nat
  pos : Nat
  deriving DecidableEq, Repr

/-- R353 to R371: one peer link, beyond its registers. -/
structure LinkState where
  /-- R353: next sequence number to send, and last group acknowledged. -/
  txSeq : Nat := 0
  ackSeq : Nat := 4095
  /-- R354: next sequence number expected. -/
  rxSeq : Nat := 0
  nak : Bool := false
  /-- R354: groups in the replay buffer, and resends of the oldest without ACK advancing. -/
  replayBuf : Nat := 0
  resends : Nat := 0
  /-- When ACK last advanced, and when the last good trailer came (`ns`). -/
  lastAck : Nat := 0
  lastTrailer : Nat := 0
  /-- R358, R359: flits sent and not credited back, by class REQ, RSP, CTL; cumulative flits freed by the peer. -/
  out : List Nat := [0, 0, 0]
  credSeen : List Nat := [0, 0, 0]
  /-- R358: flits this end has freed, cumulative. -/
  freed : List Nat := [0, 0, 0]
  /-- R361: sizes that the peer announced. -/
  peerSize : Option (List Nat) := none
  /-- R355: flits of a message that has not arrived whole. -/
  part : List (BitVec 256) := []
  /-- R358: whole messages in the receive buffer. -/
  rx : List LinkMsg := []
  /-- R353: messages that this end has sent by the link, newest last (the model's record of what went out). -/
  tx : List LinkMsg := []
  /-- R358: messages that wait for credits of their class. -/
  txWait : List LinkMsg := []
  /-- Requests without a response. -/
  reqs : List LinkReq := []
  /-- R361: the cause of the running reset (1 no trailer, 2 resend limit, 3 kind-7 violation, 4 a write, 5 a LINIT). -/
  cause : Nat := 0
  reclaimReq : Nat := 0
  reclaimOther : Nat := 0
  /-- R358: LINIT or LINIT_ACK in its dedicated slot. -/
  slot : Option LinkMsg := none
  /-- R370: when the last HEARTBEAT came and the last one was sent. -/
  lastBeat : Nat := 0
  lastSent : Nat := 0
  /-- R360: signal on the lanes. -/
  signal : Bool := false
  deriving DecidableEq, Repr

/-- R61: the check results that a time master has for a fabric set, by module. -/
structure FabricReport where
  set : Nat
  modules : List Nat := []
  failed : Bool := false
  deriving DecidableEq, Repr

/-! ### Rehearsal -/

/-- R453: a slice that runs. -/
structure Slice where
  block : Nat
  /-- 1 FENCE, 2 DRAIN, 3 TEST, 4 REINIT. -/
  phase : Nat
  since : Nat
  /-- R454: this is the repeat after a mismatch. -/
  repeated : Bool := false
  misr : Nat := 0
  deriving DecidableEq, Repr

/-- R456 to R458: a planned swap that runs. -/
structure Swap where
  logical : Nat
  since : Nat
  /-- 1 quiescing, 2 migrating, 3 replacing a failed core (R460). -/
  phase : Nat
  /-- R460: why the core failed. -/
  cause : Nat := 0
  /-- The VPP was halted before the swap, and stays halted after it. -/
  halted : Bool := false
  deriving DecidableEq, Repr

/-- R452 to R469: the rehearsal engine and Prompter firmware's schedule. -/
structure RehState where
  slice : Option Slice := none
  swap : Option Swap := none
  /-- R457: abandoned attempts of each logical index in this rotation. -/
  attempts : Cells Nat := []
  /-- R456: the rotation in which each physical core was last tested whole. -/
  lastWhole : Cells Nat := []
  /-- R468: this rotation's slices failed and transients. -/
  failed : Nat := 0
  transients : Nat := 0
  /-- R454: slices done in this rotation, as BLOCK, a core's with 65,536 × the physical core added. -/
  done : List Nat := []
  /-- R453: slices abandoned once in this rotation, in the same form. -/
  abandoned : List Nat := []
  /-- R465: entries written to the field repair map. -/
  mapEntries : Nat := 0
  /-- R461: physical cores that have been released or have failed, and have not been rehearsed whole since. -/
  released : List Nat := []
  /-- R452: the active hour in which the rotation began, and R456: its planned swaps so far. -/
  rotStart : Nat := 0
  swaps : Nat := 0
  /-- R466: single-bit errors found in this rotation, by frame, and reserved frames left. -/
  scrub : Cells (List Nat) := []
  reserved : Nat := 32
  /-- R462, R465: repairs in force. -/
  repairs : List RepairEntry := []
  /-- R464: shared-store ways marked failed (16 × cluster + way). -/
  failedWays : List Nat := []
  deriving DecidableEq, Repr

/-! ### Sideband and JTAG -/

/-- R491 to R493: the SMBus interface. -/
structure SmbState where
  /-- The bytes of the last answer (the model's record of what went out). -/
  answer : List Byte := []
  /-- Whether the last transfer was NACKed. -/
  nack : Bool := false
  deriving DecidableEq, Repr

/-- R495: what the TAP's instruction selects. -/
inductive TapIr where
  | bypass | idcode | sample | extest | pulse | train
  deriving DecidableEq, Repr

/-- R495: the test access port. -/
structure TapState where
  ir : TapIr := .idcode
  /-- The boundary register. -/
  boundary : Nat := 0
  /-- The pins are driven from the boundary register. -/
  driving : Bool := false
  /-- The data register's content as shifted out last. -/
  tdo : Nat := 0
  deriving DecidableEq, Repr

/-! ### NoC tags and the core map -/

/-- R12: the transaction tags of one requester. -/
structure Tags where
  /-- Firmware's share of the 131,072 tags: an equal part until an admission divides them (log entry 17). -/
  share : Nat := 8738
  held : Nat := 0
  waiting : Nat := 0
  deriving DecidableEq, Repr

/-- R19: an access that waits while its index is switched. -/
structure HeldAccess where
  write : Bool
  addr : Nat
  value : Word
  deriving DecidableEq, Repr

/-! ### Stores and scoreboard -/

/-- R219: one scoreboard entry; it is in use while a count is above 0. -/
structure SbEntry where
  lo : Nat := 0
  hi : Nat := 0
  w : Nat := 0
  r : Nat := 0
  merged : Bool := false
  joined : Bool := false
  deriving DecidableEq, Repr

/-- R226: what waits on the scoreboard. -/
inductive Waiter where
  /-- A bundle of a VPP context. -/
  | vpp (ctx : Nat)
  /-- An incoming remote access, by its number. -/
  | remote (id : Nat)
  /-- A registration by a bulk agent, by the agent's number. -/
  | reg (agent : Nat)
  deriving DecidableEq, Repr

/-- R221, R226: one wait: its ranges, its first cycle (`ns`) and the limit in force then. -/
structure SbWait where
  who : Waiter
  writes : List (Nat × Nat)
  reads : List (Nat × Nat)
  since : Nat
  limit : Nat
  /-- R190, R226: a deadline miss has been reported for this wait; its timeout has been counted. -/
  reported : Bool := false
  timed : Bool := false
  deriving DecidableEq, Repr

/-- R224: a registrant's hold on an entry: the entry and whether as a write. -/
structure Ticket where
  entry : Nat
  write : Bool
  deriving DecidableEq, Repr

/-- R219 to R226: one core's scoreboard. -/
structure Scoreboard where
  entries : Cells SbEntry := []
  /-- In the order in which the waits began. -/
  waits : List SbWait := []
  /-- Registrations granted, by agent (agent numbers: 0 to 2 frond jobs in flight, 16 + n core DMA channel n, 64 + n hub
  channel n, 128 + s stream s). -/
  granted : Cells (List Ticket) := []
  deriving DecidableEq, Repr

/-- R229, R230: a bank or way in transition. -/
structure BankTrans where
  /-- Powering up rather than closing. -/
  up : Bool
  since : Nat
  deriving DecidableEq, Repr

/-- R208: one cached line, its way and its 64 bytes. -/
structure CacheLine where
  tag : Nat
  way : Nat
  data : List Byte
  deriving DecidableEq, Repr

/-- R211: an invalidation: its source (0 to 8 a core slot, 9 the Prompter), its lines. -/
structure Invalidation where
  source : Nat
  all : Bool
  line : Nat
  lines : Nat
  /-- When it started (`ns`), and the number of the first fill that it does not concern. -/
  since : Nat := 0
  seq : Nat := 0
  deriving DecidableEq, Repr

/-- R208, R211: a DDR4 read for a cache miss that has not returned. -/
structure Fill where
  seq : Nat
  line : Nat
  way : Nat
  /-- The remote access that it serves. -/
  access : Nat
  deriving DecidableEq, Repr

/-- R208 to R212: one cluster's cache. -/
structure Cache where
  /-- Lines by set, most recently used first. -/
  lines : Cells (List CacheLine) := []
  fills : List Fill := []
  seq : Nat := 0
  running : Option Invalidation := none
  queued : List Invalidation := []
  /-- R455: ways fenced by rehearsal, which lookups skip. -/
  fencedWays : List Nat := []
  deriving DecidableEq, Repr

/-- R215, R217: what a remote access does. -/
inductive RemoteOp where
  | load | store | tas | ldrs | stcd
  deriving DecidableEq, Repr

/-- R215 to R217: a remote access of a VPP context. -/
structure RemoteAccess where
  id : Nat
  /-- The core slot and context that issued it. -/
  slot : Nat
  ctx : Nat
  op : RemoteOp
  dpa : Nat
  /-- Bytes. -/
  len : Nat
  /-- For a store, per byte whether it is written. -/
  data : List Byte := []
  mask : List Bool := []
  cached : Bool := false
  /-- R12: it waits for a transaction tag. -/
  untagged : Bool := false
  /-- It has been performed or has failed, and its response is on the way. -/
  answered : Bool := false
  failed : Bool := false
  /-- It waits on the target's scoreboard, a cache fill or a bank that powers up. -/
  waiting : Bool := false
  answer : List Byte := []
  deriving DecidableEq, Repr

/-! ### DMA -/

/-- R252: the states of a channel. -/
inductive ChState where
  | idle | waitLaunch | run | paced | fault | halt | aborting | posting
  deriving DecidableEq, Repr

/-- R503: the control access that failed. -/
inductive CtrlAccess where
  | fetch | writeBack | record
  deriving DecidableEq, Repr

/-- R257: a page walk that a channel waits for. -/
structure Walk where
  asid : Nat
  page : Nat
  write : Bool
  /-- The destination side rather than the source side. -/
  dst : Bool
  addr : Nat
  deriving DecidableEq, Repr

/-- R244 to R265: one DMA channel, beyond its live and shadow registers. -/
structure DmaChan where
  st : ChState := .idle
  err : Nat := 0
  check : Nat := 0
  abortRes : Nat := 0
  launchPend : Bool := false
  faultDst : Bool := false
  faultKind : Nat := 0
  /-- R244: a fetch at HEAD is outstanding. -/
  fetching : Bool := false
  /-- R244: the descriptor's fields D0 to D15 as copied. -/
  desc : List Nat := []
  gen : Nat := 0
  /-- R246: the slot from which it was fetched: its address and index. -/
  slotAddr : Nat := 0
  slotIdx : Nat := 0
  head : Nat := 0
  lastStatus : Nat := 0
  lastCollided : Bool := false
  /-- R263: a hand-over changed the ring base during the descriptor. -/
  newRing : Bool := false
  /-- Atoms (elements, packed groups, FRC units or NB4 blocks) whose writes have been issued. -/
  pos : Nat := 0
  /-- The descriptor has been checked and its ranges are registered. -/
  started : Bool := false
  /-- R254: writes issued and not acknowledged, and destination stream bytes acknowledged. -/
  unacked : Nat := 0
  /-- R238: buffer slots held between commands (none, log entry 10). -/
  held : Nat := 0
  /-- The physical core in whose scoreboard its tickets are. -/
  ticketCore : Nat := 0
  /-- R253: a registration is waiting. -/
  regWait : Bool := false
  walk : Option Walk := none
  /-- R259: a translation fault that waits for the writes before P: kind, side, address. -/
  stopFault : Option (Nat × Bool × Nat) := none
  /-- R254: an error that waits for issued writes: kind, side, address. -/
  stopErr : Option (Nat × Bool × Nat) := none
  ctrl : Option CtrlAccess := none
  /-- R247: the completion point has been reached, with this status. -/
  status : Option Nat := none
  /-- Completion steps done: 0 none, 1 write-back, 2 record, 3 handle push. -/
  stage : Nat := 0
  collided : Bool := false
  /-- R265: the tag of the next NB4 block. -/
  nb4Seq : Nat := 0
  /-- R265: a receiving channel has accepted the announcement. -/
  nb4Open : Bool := false
  /-- R368: a sending channel has been stopped. -/
  nb4Stopped : Bool := false
  /-- R368: DONE has arrived. -/
  nb4Done : Bool := false
  /-- R367, R368: a receiving channel's sender: its channel and its module. -/
  nb4Chan : Nat := 0
  nb4Mod : Nat := 0
  /-- R110, R112: the level table latched for the transfer. -/
  levels : List Nat := []
  /-- Acknowledgements that earlier descriptors are still owed. -/
  stale : Nat := 0
  /-- R357: atoms being read from a peer, replies outstanding, and the bytes returned, by their offset. -/
  peerAtoms : Nat := 0
  peerLeft : Nat := 0
  peerGot : List (Nat × List Byte) := []
  /-- R398: the descriptor of an XFER, which Prompter firmware keeps in its private memory. -/
  fw : Bool := false
  deriving DecidableEq, Repr

/-- R255: one entry of the fault queue. -/
structure FaultEntry where
  engine : Nat
  chan : Nat
  err : Nat
  kind : Nat
  dst : Bool
  asid : Nat
  addr : Nat
  deriving DecidableEq, Repr

/-- R266: a post that is being sent. -/
structure Post where
  target : Nat
  msg : List Byte
  since : Nat
  deriving DecidableEq, Repr

/-- R255 to R267: the hub's fault queue, translation cache, mailboxes and posts. -/
structure DmaHub where
  faultQ : List FaultEntry := []
  /-- R258: entries of the translation cache: (ASID, page, entry). -/
  tlb : List (Nat × Nat × Nat) := []
  /-- R258: an invalidation whose accesses have not all been acknowledged: ASID, page, all. -/
  inv : Option (Nat × Nat × Bool) := none
  /-- R266: mailboxes, by physical core, 16 the Prompter's; oldest message first. -/
  boxes : Cells (List (List Byte)) := []
  /-- R266: posts, the one in progress first, by physical core, 16 the Prompter. -/
  posts : Cells (List Post) := []
  /-- R356: the TAG of the next request. -/
  nextTag : Nat := 0
  /-- R429: interrupts pending at the Prompter: 0 mailbox, 1 + n hub channel n. -/
  prompterInts : List Nat := []
  deriving DecidableEq, Repr

/-! ### The VPP -/

/-- R145: what one task context holds. Its state (R189) is in VPP_CTX_STAT. -/
structure VppCtx where
  pc : Nat := 0
  /-- The registers of R146 by number, 0x00 to 0x3B. -/
  r : Cells Nat := []
  ac : Cells Int := []
  p : Cells Int := []
  v : Cells (BitVec 128) := []
  m : Cells Nat := []
  /-- R161: products in flight: issue cycles left, and the four products. -/
  flight : List (Nat × List Int) := []
  /-- R216: a posted store of this context has failed and no access has trapped for it. -/
  perr : Bool := false
  /-- R215: remote accesses whose data the stalled bundle waits for, in the order in which it uses them. -/
  stall : List Nat := []
  /-- R226: SB_TIMEOUT, to be taken when the context next runs, with its word. -/
  timedOut : Option Nat := none
  /-- R190: since when a register read (R282, R333, R339) has made the bundle wait, and whether its miss is reported. -/
  regWait : Option Nat := none
  regReported : Bool := false
  deriving DecidableEq, Repr

/-- R145 to R195: one physical core's VPP. -/
structure VppCore where
  ctxs : Cells VppCtx := []
  /-- STATUS.CTX: the context that runs, or ran last. -/
  cur : Nat := 0
  /-- R190: the batch context that ran last. -/
  lastBatch : Nat := 3
  /-- R149, R194: MODE.EMU. -/
  emu : Bool := false
  /-- R162: issue cycles for which an interrupt has been deferred. -/
  deferred : Nat := 0
  /-- R174: a second trap, or a trap entry that could not push, has halted it. -/
  trapHalt : Bool := false
  deriving DecidableEq, Repr

/-! ### Dataflow and scripts -/

/-- R275: a context's own copy of HQP_RESULT, HQP_ADDR and HQP_SIZE. -/
structure HqResult where
  status : Nat := 0
  value : Nat := 0
  addr : Nat := 0
  size : Nat := 0
  deriving DecidableEq, Repr

/-- R280 to R285: a barrier, beyond BAR_CFG and BAR_STAT. -/
structure Barrier where
  /-- When the first arrival of the generation came (`ns`). -/
  first : Option Nat := none
  /-- R283: a BARRIER_RELEASE cue has come: TIME + TOL. -/
  cue : Option Nat := none
  /-- R284: modules whose arrival HOME holds. -/
  modules : List Nat := []
  /-- R284: T of the RELEASE that has arrived. -/
  releaseAt : Option Nat := none
  /-- R285: the generation that broke last. -/
  broken : Option Nat := none
  deriving DecidableEq, Repr

/-- R281, R282: a context's last arrival. -/
structure Arrival where
  bar : Nat := 0
  gen : Nat := 0
  stale : Bool := false
  noAccess : Bool := false
  deriving DecidableEq, Repr

/-- R276: a tile in a chain buffer: its DPA and bytes; it is still arriving; it has been forwarded; it has been loaded or
discarded. -/
structure ChainTile where
  dpa : Nat
  data : List Byte
  filling : Bool := false
  forwarded : Bool := false
  consumed : Bool := false
  deriving DecidableEq, Repr

/-- R288, R290, R381: the state of a loaded script. -/
inductive ScriptSt where
  | loaded | running | stopped | faulted
  deriving DecidableEq, Repr

/-- A script that has been admitted: its declaration and the shares granted. -/
structure Script where
  decl : ScriptDecl
  st : ScriptSt := .loaded
  hubChans : List Nat := []
  pools : List Nat := []
  queues : List Nat := []
  bars : List Nat := []
  chains : List Nat := []
  windows : List Nat := []
  /-- R49: the anchor at which its cue sheet is bound, and the offset of each sheet entry pushed next. -/
  anchor : Option Nat := none
  pushed : List Nat := []
  bodyHash : List Byte := []
  faults : Nat := 0
  misses : Nat := 0
  haltCause : Nat := 0
  /-- A STOP takes effect at this cue time. -/
  stopAt : Option Nat := none
  /-- R386: serving requests handed to its batch contexts: tag, input, bytes, output, bytes. -/
  requests : List (Nat × Nat × Nat × Nat × Nat) := []
  deriving DecidableEq, Repr

/-! ### The frond -/

/-- R84: a frond job. -/
structure FrondJob where
  /-- DESC_OFS, and the fields D0 to D15 as pushed. -/
  ofs : Nat
  d : List Nat
  /-- R87: the number under which it registers, once it has asked to leave the queue: 0 to 2. -/
  agent : Option Nat := none
  /-- R77: the lookup table as loaded. -/
  lut : List Byte := []
  /-- K-tiles whose pass has run. -/
  pass : Nat := 0
  /-- Blocks of the next K-tile that are in the idle plane. -/
  plane : List (List Byte) := []
  /-- R68: column accumulators by row and column, with the saturation flag of each. -/
  acc : List (List (Int × Bool)) := []
  /-- R89, R90: the error for which it halts: ERR, PASS and address. -/
  bad : Option (Nat × Nat × Nat) := none
  /-- R279: since when it has waited for a chain tile (`ns`), and whether it reads its remaining tiles through the cache. -/
  since : Nat := 0
  fallback : Bool := false
  deriving DecidableEq, Repr

/-- R62 to R93: one physical core's frond, beyond its registers. -/
structure FrondSt where
  queue : List FrondJob := []
  /-- The job whose tiles load and whose passes run. -/
  cur : Option FrondJob := none
  /-- R69: the batch job that real-time jobs have displaced. -/
  saved : Option FrondJob := none
  /-- Jobs whose last pass has ended and whose rows are in the output stage, in order. -/
  drain : List FrondJob := []
  /-- R91: halted jobs, oldest first. -/
  halted : List FrondJob := []
  deriving DecidableEq, Repr

/-! ### Camera intake -/

/-- R310: a row in a port buffer: its stream, frame index, row, samples, the cue time at which it was accepted, and the bytes it
holds in the buffer (none for a synthesised row). -/
structure BufRow where
  stream : Nat
  fidx : Nat
  row : Nat
  samples : List Nat
  key : Nat
  bytes : Nat
  deriving DecidableEq, Repr

/-- R301, R310, R323: one receive port, beyond its registers. -/
structure PortState where
  /-- INT_PORT_CFG as in effect. -/
  cfg : Word := 0x00E465DC
  buf : List BufRow := []
  /-- R322: the watch unit's reference, cell by cell, and its streak. -/
  ref : List Nat := []
  streak : Nat := 0
  /-- R323: active cells of a trigger that woke the module and has not been posted. -/
  woke : Option Nat := none
  deriving DecidableEq, Repr

/-- R305: a frame that is open. -/
structure OpenFrame where
  fidx : Nat
  fnum : Nat
  /-- Cue time at its Frame Start, and the model's `ns`. -/
  time : Nat
  ns : Nat
  /-- R301: INT_STR_CFG and INT_STR_GEOM as latched. -/
  cfg : Word
  geom : Word
  marks : Nat := 0
  ispSet : Nat := 255
  /-- R308: the number of the first Line Start, the number of one that waits for its line, and the row of the last line plus 1. -/
  n0 : Option Nat := none
  lineNo : Option Nat := none
  pos : Nat := 0
  /-- R309: rows delivered, the last good one, good rows, rows synthesised. -/
  rows : Nat := 0
  last : Option (List Nat) := none
  good : Nat := 0
  synth : Nat := 0
  /-- R307: embedded lines received, and where the next goes. -/
  embLines : Nat := 0
  embPos : Nat := 0
  /-- Its rows go to the stripe assembler. -/
  deliver : Bool := true
  /-- R322: its rows, where the watch unit measures it. -/
  kept : List (List Nat) := []
  deriving DecidableEq, Repr

/-- R305, R320: one stream, beyond its registers. -/
structure StreamState where
  frame : Option OpenFrame := none
  /-- The number of the last Frame Start since the stream was enabled, and its cue time. -/
  lastNum : Option Nat := none
  lastFs : Option Nat := none
  /-- R320: indices of frames that will be marked SET. -/
  setMarks : List Nat := []
  /-- R319: the next frame will be marked SET. -/
  setNext : Bool := false
  /-- R319: Wings sets bound to the next Frame Start, in the order of binding. -/
  bindings : List Nat := []
  /-- R312, R381: the record of the last frame that closed. -/
  lastRecord : List Byte := []
  deriving DecidableEq, Repr

/-- R315: one camera control bus, beyond its registers. -/
structure I2cBus where
  /-- The write list that is being sent. -/
  list : Option Nat := none
  /-- The transfer in progress, and one that waits for a list to end. -/
  xfer : Option Word := none
  waits : Option Word := none
  deriving DecidableEq, Repr

/-- R316: one frame-sync output. -/
structure FsyncOut where
  /-- When the previous pulse started, and when the present one ends (`ns`). -/
  start : Option Nat := none
  ends : Option Nat := none
  deriving DecidableEq, Repr

/-- R317: one trigger input: when the last edge was accepted, and when a linked pulse is due (`ns`). -/
structure TrigIn where
  last : Option Nat := none
  due : Option Nat := none
  deriving DecidableEq, Repr

/-! ### The stripe assembler -/

/-- R326: a frame as the assembler has latched it, with what has become of its stripes. -/
structure SaFrame where
  fidx : Nat
  height : Nat
  width : Nat
  /-- The stream's registers as latched: SA_STR_CFG, HALO, SLOT, GEOM, DL, ZVAL, and the exchange ranges. -/
  cfg : Word
  halo : Word
  base : Nat
  geom : Word
  dl : Nat
  zval : Nat
  xr : List (Nat × Nat)
  /-- R327: the 256 words of the ISP parameter block. -/
  isp : List Nat
  /-- R328: a RAW stream. -/
  raw : Bool
  /-- R330: the number of its stripe 0 since the stream was enabled. -/
  first : Nat
  /-- R312: the frame record's bytes, once the frame has closed. -/
  record : Option (List Byte) := none
  /-- R338: the output buffer's handle. -/
  handle : Option Nat := none
  /-- R339: the status that each stripe has completed with (0 OK, 1 SKIPPED, 2 FAILED), by stripe. -/
  stripes : Cells Nat := []
  late : Nat := 0
  bad : Nat := 0
  refMiss : Bool := false
  nbrBad : Bool := false
  past : Bool := false
  /-- R346: it has been closed without output. -/
  void : Bool := false
  deriving DecidableEq, Repr

/-- R329: one slot that is not FREE. -/
structure SaSlot where
  /-- 1 FILLING, 2 READY, 3 HELD; 0 while it registers its ranges. -/
  st : Nat
  fidx : Nat
  stripe : Nat
  /-- Its words [lo, hi), and its exchange ranges. -/
  lo : Nat
  hi : Nat
  xr : List (Nat × Nat)
  /-- Frame rows already moved into it. -/
  got : Nat := 0
  ready : Nat := 0
  deadline : Nat := 0
  refOk : Bool := false
  /-- The context that popped it. -/
  ctx : Nat := 0
  /-- R329: its own STRIPE_DONE has come (exchanged mode). -/
  done : Bool := false
  deriving DecidableEq, Repr

/-- R331 to R337: one stream of the assembler, beyond its registers. -/
structure SaStream where
  /-- R330: stripes since the stream was enabled. -/
  count : Nat := 0
  /-- Frames, oldest first; the two before the present one are kept (R337). -/
  frames : List SaFrame := []
  /-- R332: since when its next row has waited for a slot (`ns`). -/
  waits : Option Nat := none
  deriving DecidableEq, Repr

/-- R351: a context's own copy of the stripe port registers. -/
structure StripePort where
  next0 : Word := 0
  next1 : Word := 0
  next2 : Word := 0
  next3 : Word := 0
  dres : Word := 0
  frec : List Word := [0, 0, 0, 0]
  deriving DecidableEq, Repr

/-- R326 to R346: the stripe assembler. -/
structure SaState where
  streams : Cells SaStream := []
  /-- Slots that are not FREE, by 32 × stream + 4 × core + slot. -/
  slots : Cells SaSlot := []
  /-- R333: ready queues by logical core, and entries held back, as slot keys. -/
  ready : Cells (List Nat) := []
  held : List Nat := []
  /-- R331, R333: streams in the order in which they were last served, by the row mover and by pops. -/
  rowOrder : List Nat := []
  popOrder : List Nat := []
  /-- Bytes written beyond the last whole 64 counted. -/
  bytes : Nat := 0
  /-- By 4 × physical core + context. -/
  ports : Cells StripePort := []
  deriving DecidableEq, Repr

/-! ### The Prompter -/

/-- R196 to R200: the Prompter's registers and private memory, as 36-bit tagged words (the tag in bits 35:32), the DPA bounds
table, the code region, and its fault handler. -/
structure PromptSt where
  pc : Nat := 0
  w : Cells Nat := []
  mem : Cells Nat := []
  /-- R199: base and limit of each entry of the DPA bounds table, and of the code region. -/
  bounds : Cells (Nat × Nat) := []
  code : Nat × Nat := (0, 0)
  /-- The flags of the last compare: equal, less. -/
  eq : Bool := false
  lt : Bool := false
  /-- R200: it is in its fault handler. -/
  inHandler : Bool := false
  /-- R429: it has been reset and its firmware has not restarted: since when (`ns`), and the faulting PC. -/
  down : Option (Nat × Nat) := none
  deriving DecidableEq, Repr


/-! ### Stops -/

/-- The reasons a command can fault. No command of this block faults: where an access goes wrong the spec gives the requester
a bus error, which is a next state. `internal` is raised by nothing; a fault would be safe. -/
inductive Fault where
  | internal
  deriving DecidableEq, Repr

/-- The reasons a command is refused.
`debugUnit`: raised by JTAG_DEBUG_INSTRUCTION where R444 permits debug; the spec says that the debug unit acts and not what
it does (safe: the model stops). `notModelled`: an arm of `exec` that has no meaning (safe). -/
inductive Refusal where
  | notModelled (mnemonic : String)
  | debugUnit
  deriving DecidableEq, Repr

/-! ### The state -/

/-- Everything the spec gives the module, and the queue of commands that wait. -/
structure State where
  /-- Commands that wait, first in, first out. -/
  pending : List Instr := []
  /-- Control registers, by device physical address. -/
  regs : Cells Word := []
  /-- Memory, by place (log entry 3). -/
  mem : Cells Byte := []
  /-- How many free values have been taken (the model's own count). -/
  freeTick : Nat := 0
  /-- R17, R19: the physical core of each logical index that a repair has moved. -/
  coreMap : Cells Nat := []
  /-- R19: the index that is being switched, and the accesses that wait for it. -/
  switching : Option Nat := none
  waiting : List HeldAccess := []
  /-- R12: transaction tags by requester (0 to 8 cores, 9 hub, 10 intake, 11 Prompter, 12 USB, 13 links, 14 other). -/
  tags : Cells Tags := []
  time : TimeState := {}
  /-- R41: cue queues, by queue id. -/
  cueq : Cells CueQueue := []
  /-- R51: NoC windows. -/
  noc : Cells NocWindow := []
  /-- R54: Wings sets. -/
  wings : Cells WingsSet := []
  lichen : LichenState := {}
  events : EventQueue := {}
  power : PowerState := {}
  sec : SecState := {}
  host : HostState := {}
  usb : UsbState := {}
  /-- R352: peer links. -/
  links : Cells LinkState := []
  /-- R61: reports that the time master has. -/
  reports : List FabricReport := []
  reh : RehState := {}
  smb : SmbState := {}
  tap : TapState := {}
  /-- R219: scoreboards, by physical core. -/
  sb : Cells Scoreboard := []
  /-- R229: transitions of banks (16 × physical core + bank) and ways (256 + 16 × cluster + way). -/
  banks : Cells BankTrans := []
  /-- R208: the clusters' caches. -/
  caches : Cells Cache := []
  /-- R232: aligned 8-byte words with a single-bit (1) or double-bit (2) error, by place. -/
  ecc : Cells Nat := []
  /-- R232: places of words corrected on read that wait for their write-back. -/
  writeBacks : List Nat := []
  /-- R215: remote accesses in flight, in issue order, and how many have been issued. -/
  remotes : List RemoteAccess := []
  remoteCount : Nat := 0
  /-- R236: DMA channels, by 64 × engine + channel (engine 0 to 8 physical cores, 9 the hub). -/
  dma : Cells DmaChan := []
  hub : DmaHub := {}
  /-- R187: reservations held, as (place of the 64-byte granule, 4 × physical core + context), oldest first. -/
  resv : List (Nat × Nat) := []
  /-- The VPPs, by physical core. -/
  vpp : Cells VppCore := []
  /-- R271, R272: free lists of the pools (pool indices) and contents of the handle queues (handles). -/
  pools : Cells (List Nat) := []
  hqueues : Cells (List Nat) := []
  /-- R275: results of handle operations, by 4 × physical core + context, 64 the Prompter. -/
  hqp : Cells HqResult := []
  bars : Cells Barrier := []
  /-- R281: last arrivals, by 4 × physical core + context, 64 the Prompter. -/
  arrivals : Cells Arrival := []
  /-- R276: chain buffers, by physical core. -/
  chain : Cells (List ChainTile) := []
  /-- Scripts, by slot. -/
  scripts : Cells Script := []
  /-- When an event that is limited in rate was last recorded (`ns`): 0 WINDOW_DENIED (R365). -/
  marks : Cells (Option Nat) := []
  /-- The fronds, by physical core. -/
  fronds : Cells FrondSt := []
  /-- R297: receive ports, and streams. -/
  ports : Cells PortState := []
  streams : Cells StreamState := []
  i2c : Cells I2cBus := []
  fsync : Cells FsyncOut := []
  trig : Cells TrigIn := []
  sa : SaState := {}
  prompt : PromptSt := {}
  /-- R33: bits 63:32 of the time whose low word a register holds, by that register; the matching HI register holds what the
  last read of LO latched. -/
  timeHi : Cells Nat := []
  deriving DecidableEq, Repr

/-- The machine right after a power-on reset (R428): nothing listed anywhere, so every register at its reset value, every
queue empty, cue time 0 (R29), and the module in STARTING (R427). -/
def State.reset : State := {}

end Sys2Proof.Machine
end

