-- ==== Sys2Proof/Machine/Ops.lean ====
section
/-!
DEFINITION. The named operations that every unit shares: registers, counters, memory, free values, Lichen requests, host
events, alerts, interrupts, wake acceptance.
-/
namespace Sys2Proof.Machine

/-! ### Registers -/

/-- The value of the register at DPA `a`. -/
def State.reg (s : State) (a : Nat) : Word := Cells.get regReset s.regs a

/-- The state with a register holding a value. -/
def State.setReg (s : State) (a : Nat) (w : Word) : State := { s with regs := Cells.set regReset s.regs a w }

/-- A field of a register. -/
def State.fld (s : State) (a : Nat) (f : Fld) : Nat := getF (s.reg a) f

/-- A field of a register as a flag. -/
def State.flag (s : State) (a : Nat) (f : Fld) : Bool := s.fld a f != 0

/-- The state with a field of a register replaced. -/
def State.setFld (s : State) (a : Nat) (f : Fld) (v : Nat) : State := s.setReg a (setF (s.reg a) f v)

/-- The whole register, as a field. -/
abbrev wholeReg : Fld := ⟨31, 0⟩

/-- R500: a counter field rises by `n` and saturates at its all-ones value. -/
def State.countBy (s : State) (a : Nat) (f : Fld) (n : Nat) : State :=
  s.setFld a f (min (s.fld a f + n) f.max)

/-- R500: a 32-bit counter rises by 1 and saturates. -/
def State.count (s : State) (a : Nat) : State := s.countBy a wholeReg 1

/-- R500: a counter that the map says wraps. -/
def State.countWrap (s : State) (a : Nat) (f : Fld) : State := s.setFld a f ((s.fld a f + 1) % 2 ^ f.width)

/-- R33, R302, R317, R323: a time is put into the register pair whose low word is at `a`: the high word waits to be latched by a
read of the low one. -/
def State.setTime (s : State) (a t : Nat) : State :=
  { s.setReg a (BitVec.ofNat 32 t) with timeHi := Cells.set (fun _ => 0) s.timeHi a (t / 2 ^ 32 % 2 ^ 32) }

/-! ### Cores -/

/-- R17: the physical core of slot `b`: a logical index 0 to 7, or 8 for the spare slot. -/
def State.phys (s : State) (b : Nat) : Nat :=
  if b < 8 then Cells.get id s.coreMap b else s.fld rREH_SPARE fREH_SPARE_PHYS

/-- R17, R192: the slot that a physical core fills. -/
def State.slotOf (s : State) (p : Nat) : Nat :=
  ((List.range 8).find? (fun b => s.phys b == p)).getD 8

/-- R409: the cluster whose clock the core in slot `b` takes; a spare core runs from cluster 0's. -/
def clusterOf (b : Nat) : Nat := if b < 8 then b / 4 else 0

/-- R18: control registers of core slot `b` stand under the block of its physical core; other registers where they are. -/
def State.physAddr (s : State) (a : Nat) : Nat :=
  let b := (a - 0x7F00000000) / 0x100000
  if 0x7F00000000 ≤ a ∧ b ≤ 8 then blkBase (s.phys b) + (a - 0x7F00000000) % 0x100000 else a

/-! ### Free values -/

/-- A free value taken from the opaque function `f`, with the count of free values advanced. -/
def State.free {α : Type} (s : State) (f : Nat → α) : α × State :=
  (f s.freeTick, { s with freeTick := s.freeTick + 1 })

/-! ### Memory -/

/-- R432: a place of the serial NOR (log entry 3). -/
def norKey (k : Nat) : Bool := decide (2 ^ 40 ≤ k ∧ k < 2 ^ 40 + 2 ^ 26)

/-- What a byte of memory that nothing has written reads as: an erased flash byte (R470) in the serial NOR, and 0 elsewhere
(R230: the stores are zero-filled; for DDR4 a choice, log entry 4). -/
def blankByte (k : Nat) : Byte := if norKey k then 0xFF else 0

/-- The canonical form of memory: places strictly rising, and no byte listed that an unlisted place reads as. -/
abbrev Memory.wf (m : Cells Byte) : Bool := Cells.wf blankByte m

/-- The byte at a place of memory. -/
def State.byte (s : State) (k : Nat) : Byte := Cells.get blankByte s.mem k

/-- The state with one byte of memory written. -/
def State.setByte (s : State) (k : Nat) (v : Byte) : State := { s with mem := Cells.set blankByte s.mem k v }

/-- `n` bytes of memory from a place up. -/
def State.bytes (s : State) (k : Nat) : Nat → List Byte
  | 0 => []
  | n + 1 => s.byte k :: s.bytes (k + 1) n

/-- The state with bytes written from a place up. -/
def State.setBytes (s : State) (k : Nat) : List Byte → State
  | [] => s
  | b :: bs => (s.setByte k b).setBytes (k + 1) bs

/-- A little-endian number of `n` bytes at a place. -/
def State.num (s : State) (k n : Nat) : Nat := ofLeBytes (s.bytes k n)

/-- The state with a little-endian number of `n` bytes written at a place. -/
def State.setNum (s : State) (k n v : Nat) : State := s.setBytes k (leBytes n v)

/-- R432: the place of a byte offset of the serial NOR. -/
abbrev norPlace (o : Nat) : Nat := 2 ^ 40 + o

/-- R16: the place of word `w` of the core word space of physical core `p`. -/
abbrev corePlace (p w : Nat) : Nat := 0x4000000000 + p * 0x10000000000 + 2 * w

/-- The place of a byte of the instruction memory of physical core `p`. -/
abbrev imemPlace (p o : Nat) : Nat := 0x2000000000000 + p * 0x100000 + o

/-! ### Power states -/

/-- R30: the states in which cue time is driven by the fast clock. -/
def State.awake (s : State) : Bool := s.power.st == .active || s.power.st == .idle

/-- The cue entry time base: cue time now (R28). -/
abbrev State.now (s : State) : Nat := s.time.now

/-! ### Lichen -/

/-- R476: codes without a bucket. -/
def bucketless : List Nat := [0x0103, 0x0301, 0x0305, 0x0306, 0x0407, 0x0A00, 0x0A03, 0x0AFF]

/-- R481: codes that only hardware requests (group 0x08xx among them, R296). -/
def hardwareOnly : List Nat := [0x0103, 0x0202, 0x0203, 0x0307, 0x0309, 0x0501, 0x0A01, 0x0A03, 0x0A05, 0x0AFF]

/-- R475: one more record of this code refused. -/
def State.suppress (s : State) (code n : Nat) : State :=
  { s with lichen := { s.lichen with
      supp := Cells.set (fun _ => 0) s.lichen.supp code (min (Cells.get (fun _ => 0) s.lichen.supp code + n) 65535) } }

/-- R493: an alert condition sets its status bit, and ALERT_N is driven again for it. -/
def State.alert (s : State) (bit : Nat) : State :=
  let s1 := s.setReg rSIDE_ALERT_STAT (s.reg rSIDE_ALERT_STAT ||| BitVec.ofNat 32 (2 ^ bit))
  { s1 with power := { s1.power with
      alertAnswered := if bitOf s1.power.alertAnswered bit then s1.power.alertAnswered - 2 ^ bit else s1.power.alertAnswered } }

/-- R470: the 32 bytes of a record. -/
def lichenBytes (code flags commit seq seconds cycles supp p0 p1 p2 p3 : Nat) : List Byte :=
  leBytes 2 code ++ leBytes 1 flags ++ leBytes 1 commit ++ leBytes 4 seq ++ leBytes 4 seconds ++ leBytes 3 cycles ++
    leBytes 1 supp ++ leBytes 4 p0 ++ leBytes 4 p1 ++ leBytes 4 p2 ++ leBytes 4 p3

/-- R470: the place of Lichen slot `n`. -/
abbrev lichenPlace (n : Nat) : Nat := norPlace (0x3C00000 + 32 * n)

/-- R477, R478: the recorder writes summaries of the codes with a pending count from slot `next` up, below slot `limit`,
in ascending code order; the counts that find no slot are lost (`lose`, R478) or stay pending. -/
def State.writeSummaries (s : State) (limit : Nat) (lose : Bool) : Cells Nat → State
  | [] => s
  | (code, n) :: l =>
    let L := s.lichen
    if L.next < limit then
      let s1 := s.setBytes (lichenPlace L.next)
        (lichenBytes 0x0A03 4 0x5A L.next L.opsec s.sec.pwrCyc 0 code n 0 0)
      State.writeSummaries { s1 with lichen := { s1.lichen with
        next := L.next + 1
        supp := Cells.set (fun _ => 0) s1.lichen.supp code 0 } } limit lose l
    else if lose then
      State.writeSummaries { s with lichen := { L with
        lost := min (L.lost + n) (2 ^ 32 - 1)
        supp := Cells.set (fun _ => 0) L.supp code 0 } } limit lose l
    else s.writeSummaries limit lose l

/-- R478: a queued request that is not recorded. -/
def State.suppressQueue (s : State) : List LichenReq → State
  | [] => s
  | r :: rs => (s.suppress r.code 1).suppressQueue rs

/-- R478: the end-area procedure: summaries, then LOG_FULL in slot 131,071. -/
def State.endArea (s : State) : State :=
  let s1 := { s.suppressQueue s.lichen.queue with lichen := { (s.suppressQueue s.lichen.queue).lichen with queue := [] } }
  let s2 := s1.writeSummaries 131071 true s1.lichen.supp
  let L := s2.lichen
  let s3 := s2.setBytes (lichenPlace 131071)
    (lichenBytes 0x0AFF 4 0x5A 131071 L.opsec s2.sec.pwrCyc 0 (L.endCode.getD 0) 0 0 0)
  State.alert { s3 with lichen := { s3.lichen with full := true, next := 131072 } } 5

/-- R473 to R478: a record is requested. Whether it was refused is the second part. -/
def State.lichenReq (s : State) (hw ongoing : Bool) (code p0 p1 p2 p3 : Nat) : State × Bool :=
  let L := s.lichen
  let tokens := Cells.get (fun _ => 0) L.taken code
  if L.full then ({ s with lichen := { L with lost := min (L.lost + 1) (2 ^ 32 - 1) } }, false)
  else if L.ready ∧ 131008 ≤ L.next then
    let s1 := s.suppress code 1
    (State.endArea { s1 with lichen := { s1.lichen with endCode := some (L.endCode.getD code) } }, false)
  else if code ∉ bucketless ∧ 8 ≤ tokens then (s.suppress code 1, true)
  else if 16 ≤ L.queue.length then (s.suppress code 1, true)
  else
    ({ s with lichen := { L with
        queue := L.queue ++ [⟨code, ongoing, hw, L.opsec, p0 % 2 ^ 32, p1 % 2 ^ 32, p2 % 2 ^ 32, p3 % 2 ^ 32, false⟩]
        taken := if code ∈ bucketless then L.taken else Cells.set (fun _ => 0) L.taken code (tokens + 1) } }, false)

/-- A record requested by hardware. -/
def State.lichenHw (s : State) (code p0 p1 p2 p3 : Nat) : State := (s.lichenReq true false code p0 p1 p2 p3).1

/-- A record requested by firmware. -/
def State.lichenFw (s : State) (code p0 p1 p2 p3 : Nat) : State := (s.lichenReq false false code p0 p1 p2 p3).1

/-! ### Wake acceptance and host events -/

/-- R426: the AON domain accepts a wake source in SLEEP. -/
def State.acceptWake (s : State) (src : Nat) : State :=
  let s1 := s.setReg rAON_WAKE_CAUSE (s.reg rAON_WAKE_CAUSE ||| BitVec.ofNat 32 (2 ^ src))
  { s1 with power := { s1.power with st := .waking, prev := s.power.st, wakeAt := s.time.ns } }

/-- R391: a record enters the EP3 IN queue, or is refused and counted. -/
def EventQueue.post (q : EventQueue) (e : EventRec) : EventQueue :=
  if q.lost = 0 then
    if q.queue.length < 64 then { q with queue := q.queue ++ [e] }
    else { q with lost := 1, lostTime := e.time }
  else if q.queue.length ≤ 62 then
    { q with queue := q.queue ++ [⟨0x000A, 255, 0, q.lostTime, min q.lost (2 ^ 32 - 1)⟩, e], lost := 0 }
  else { q with lost := q.lost + 1 }

/-- R390, R402: a host event is posted; while the link is in U3 and remote wake is enabled, it wakes the module or exits U3. -/
def State.postEvent (s : State) (code source index param : Nat) : State :=
  let s1 := { s with events := s.events.post ⟨code, source, index, s.time.now, param % 2 ^ 32⟩ }
  if s.fld rUSB_STAT fUSB_STAT_LINK = 4 ∧ s.flag rUSB_STAT fUSB_STAT_RWAKE_EN then
    if s.power.st = .sleep then s1.acceptWake 1 else s1.setFld rUSB_STAT fUSB_STAT_LINK 1
  else s1

/-! ### Interrupts and fences -/

/-- R170: causes pend on the core in slot `b`. -/
def State.raiseInt (s : State) (b cause : Nat) : State :=
  let a := rVPP_INT_PEND (s.phys b)
  s.setReg a (s.reg a ||| BitVec.ofNat 32 (2 ^ cause))

/-- R296, R381: a unit is fenced. -/
def State.fence (s : State) (unit : Nat) : State :=
  if unit ∈ s.host.fenced then s else { s with host := { s.host with fenced := s.host.fenced ++ [unit] } }

/-- R381: a unit is released. -/
def State.unfence (s : State) (unit : Nat) : State :=
  { s with host := { s.host with fenced := s.host.fenced.filter (· != unit) } }

/-! ### Indexed state -/

/-- One cluster's limiters. -/
def State.cluster (s : State) (c : Nat) : ClusterPower := Cells.get (fun _ => {}) s.power.clusters c
/-- The state with one cluster's limiters replaced. -/
def State.setCluster (s : State) (c : Nat) (x : ClusterPower) : State :=
  { s with power := { s.power with clusters := Cells.set (fun _ => {}) s.power.clusters c x } }
/-- One peer link. -/
def State.link (s : State) (l : Nat) : LinkState := Cells.get (fun _ => {}) s.links l
/-- The state with one peer link replaced. -/
def State.setLink (s : State) (l : Nat) (x : LinkState) : State := { s with links := Cells.set (fun _ => {}) s.links l x }
/-- One Wings set. -/
def State.wset (s : State) (n : Nat) : WingsSet := Cells.get (fun _ => {}) s.wings n
/-- The state with one Wings set replaced. -/
def State.setWset (s : State) (n : Nat) (x : WingsSet) : State := { s with wings := Cells.set (fun _ => {}) s.wings n x }
/-- One cue queue, by queue id. -/
def State.cq (s : State) (q : Nat) : CueQueue := Cells.get (fun _ => {}) s.cueq q
/-- The state with one cue queue replaced. -/
def State.setCq (s : State) (q : Nat) (x : CueQueue) : State := { s with cueq := Cells.set (fun _ => {}) s.cueq q x }
/-- One NoC window. -/
def State.window (s : State) (w : Nat) : NocWindow := Cells.get (fun _ => {}) s.noc w
/-- The state with one NoC window replaced. -/
def State.setWindow (s : State) (w : Nat) (x : NocWindow) : State := { s with noc := Cells.set (fun _ => {}) s.noc w x }
/-- One requester's tags. -/
def State.tag (s : State) (r : Nat) : Tags := Cells.get (fun _ => {}) s.tags r
/-- The state with one requester's tags replaced. -/
def State.setTag (s : State) (r : Nat) (x : Tags) : State := { s with tags := Cells.set (fun _ => {}) s.tags r x }

/-- What a command answers. -/
abbrev Out := Host.Outcome State Fault Refusal

/-- A command's effect as an outcome: the commands of this block go on to a next state. -/
abbrev done (s : State) : Out := .next s

end Sys2Proof.Machine
end

