-- ==== Sys2Proof/Machine/CueTime.lean ====
section
/-!
DEFINITION. Cue time (R28 to R40): how it advances, its hand-overs between the fast clock and the AON ticks, its trim and
slew, PPS discipline, forward steps and holds. The exchange with the parent stands with the peer links.
-/
namespace Sys2Proof.Machine

/-- R33: cue time runs on the fast clock. -/
def State.fastSource (s : State) : Bool := s.flag rCUE_STATUS fCUE_STATUS_SOURCE

/-- R37: cue time is held. -/
def State.holding (s : State) : Bool := s.time.holdUntil.isSome

/-- R30, R31, R431: whether the fast clock advances cue time now. -/
def State.fastRuns (s : State) : Bool :=
  s.fastSource && !s.holding && s.time.crystal &&
    (match s.power.st with
      | .active | .idle | .entering | .starting => true
      | _ => false)

/-- One ns on the fast clock: cue time advances by 1, or an increment is withheld (R30). -/
def TimeState.fastTick (t : TimeState) : TimeState :=
  if t.skip = 0 then { t with now := t.now + 1 } else { t with skip := t.skip - 1 }

/-- R381: the number under which a state's residency is kept. -/
def PState.num : PState → Nat
  | .active => 0 | .idle => 1 | .sleep => 2 | .dark => 3 | .entering => 4 | .waking => 5 | .starting => 6

/-- The idle tick of the model (log entry 1): 1 ns passes in which no command is given. -/
def State.idleTick (s : State) : State :=
  { s with
    time := (if s.fastRuns then { s.time.fastTick with ns := s.time.ns + 1 } else { s.time with ns := s.time.ns + 1 })
    power := { s.power with
      wdog := if s.awake then s.power.wdog + 1 else s.power.wdog
      residency := Cells.set (fun _ => 0) s.power.residency s.power.st.num
        (Cells.get (fun _ => 0) s.power.residency s.power.st.num + 1) } }

/-- R31: one AON tick's advance of cue time. -/
def TimeState.aonTick (t : TimeState) : TimeState :=
  let f := t.frac + 37
  { t with now := t.now + 30517 + f / 64, frac := f % 64 }

/-- R31: AON_TICK. Cue time counts AON ticks while its source is the AON domain. -/
def execAonTick (s : State) : Out :=
  done (if s.fastSource then s else { s with time := s.time.aonTick })

/-- R30: the signed trim in ppb. -/
def State.trim (s : State) : Int := signed 20 (s.fld rCUE_TRIM fCUE_TRIM_TRIM)

/-- R30: the signed slew still to apply. -/
def State.slew (s : State) : Int := signed 24 (s.fld rCUE_SLEW fCUE_SLEW_SLEW)

/-- R30: CUE_TRIM_STEP, due every 10⁹ / |TRIM| ns. -/
def execCueTrimStep (s : State) : Out :=
  let t := s.trim
  if t ≠ 0 ∧ s.fastRuns ∧ s.time.lastTrim + 10 ^ 9 / t.natAbs ≤ s.time.ns then
    done { s with time := if 0 < t then { s.time with now := s.time.now + 1, lastTrim := s.time.ns }
                          else { s.time with skip := s.time.skip + 1, lastTrim := s.time.ns } }
  else done s

/-- R30: CUE_SLEW_STEP, at most once per 4,096 ns. -/
def execCueSlewStep (s : State) : Out :=
  let t := s.slew
  if t ≠ 0 ∧ s.fastRuns ∧ s.time.lastSlew + 4096 ≤ s.time.ns then
    if 0 < t then
      done { s.setFld rCUE_SLEW fCUE_SLEW_SLEW (wrapTo 24 (t - 1)) with
        time := { s.time with now := s.time.now + 1, lastSlew := s.time.ns } }
    else
      done { s.setFld rCUE_SLEW fCUE_SLEW_SLEW (wrapTo 24 (t + 1)) with
        time := { s.time with skip := s.time.skip + 1, lastSlew := s.time.ns } }
  else done s

/-- R39: the module is time master. -/
def State.master (s : State) : Bool := s.flag rCUE_STATUS fCUE_STATUS_MASTER

/-- R39: a step, a hold or SLEEP takes the alignment of a module that has a parent. -/
def State.loseAlign (s : State) : State := if s.master then s else s.setFld rCUE_STATUS fCUE_STATUS_ALIGN_OK 0

/-- R32: CUE_HANDOVER_WAKE. The fast counter starts from the AON count at the first AON tick after PLL lock. -/
def execCueHandoverWake (s : State) : Out :=
  if s.power.st = .waking ∧ !s.fastSource ∧ 0 ∈ s.power.locked then
    let s1 := { s.setFld rCUE_STATUS fCUE_STATUS_SOURCE 1 with time := { s.time with frac := 0 } }
    done (if s1.master then s1.setFld rCUE_STATUS fCUE_STATUS_ALIGN_OK 1 else s1)
  else done s

/-- R32, R39: the AON counter takes the fast count. -/
def State.toAon (s : State) : State :=
  { (s.setFld rCUE_STATUS fCUE_STATUS_SOURCE 0).setFld rCUE_STATUS fCUE_STATUS_ALIGN_OK 0 with
    time := { s.time with frac := 0 } }

/-- R32: CUE_HANDOVER_SLEEP, at the AON tick edge after SLEEP entry. -/
def execCueHandoverSleep (s : State) : Out :=
  let due : Bool := match s.power.entry with
    | some e => e.step == 6 && !e.dark
    | none => s.power.st == .sleep
  if due ∧ s.fastSource then done s.toAon else done s

/-- R35: the signed distance from a capture to the nearest whole second. -/
def secondDistance (now : Nat) : Int :=
  let r : Nat := now % 10 ^ 9
  if 2 * r ≤ 10 ^ 9 then -(r : Int) else (10 ^ 9 : Int) - r

/-- R35: PPS_EDGE, an edge whose pulse stays high for `high` ns. -/
def execPpsEdge (high : Nat) (s : State) : Out :=
  if !s.awake then done s
  else if high < 1000 ∨ (s.time.ppsLast.any (fun l => s.time.ns < l + 500000000)) then
    done { s with time := { s.time with ppsIgnored := s.time.ppsIgnored + 1 } }
  else
    let d := secondDistance s.now
    let good := if -50 ≤ d ∧ d ≤ 50 then s.time.ppsGood + 1 else 0
    let s1 := (s.setReg rCUE_PPS_CAP_LO (BitVec.ofNat 32 s.now)).setReg rCUE_PPS_CAP_HI (BitVec.ofNat 32 (s.now / 2 ^ 32))
    let s2 := { s1 with time := { s1.time with ppsLast := some s.time.ns, ppsGood := good } }
    if s.time.ppsEnabled then
      let s3 :=
        if -(2 ^ 23 : Int) ≤ d ∧ d < 2 ^ 23 then s2.setFld rCUE_SLEW fCUE_SLEW_SLEW (wrapTo 24 d)
        else
          let (v, s') := s2.free Config.slewTooFar
          s'.setFld rCUE_SLEW fCUE_SLEW_SLEW v
      done (if 3 ≤ good then s3.setFld rCUE_STATUS fCUE_STATUS_PPS_LOCK 1 else s3)
    else done s2

/-- R35: PPS_TIMEOUT, 1.5 s after the last accepted edge. -/
def execPpsTimeout (s : State) : Out :=
  match s.time.ppsLast with
  | none => done s
  | some l =>
    if l + 1500000000 ≤ s.time.ns then
      let s1 := (s.setFld rCUE_STATUS fCUE_STATUS_PPS_LOCK 0).setFld rCUE_STATUS fCUE_STATUS_PPS_LOST 1
      let s2 := { s1 with time := { s1.time with ppsLast := none, ppsGood := 0 } }
      done (s2.lichenFw 0x0901 (wrapTo 32 s.trim) 0 0 0)
    else done s

/-- R37: entries whose time a forward step jumps over are late. -/
def CueQueue.jump (q : CueQueue) (frm dest : Nat) : CueQueue :=
  { q with entries := q.entries.map (fun e => if frm < e.time ∧ e.time ≤ dest then { e with jumped := true } else e) }

/-- R60: an armed set whose T a forward step jumps over is LATE. -/
def WingsSet.jump (x : WingsSet) (frm dest : Nat) : WingsSet :=
  if x.st = .armed ∧ x.isp.isNone ∧ frm < x.time ∧ x.time ≤ dest then { x with late := true } else x

/-- R37: cue time jumps to `dest`: STEPPED is set, cues jumped over count as late, and a step of more than 1 ms is recorded. -/
def State.jumpTo (s : State) (dest : Nat) : State :=
  let frm := s.now
  let s1 := { s with
    time := { s.time with now := dest }
    cueq := s.cueq.map (fun (x : Nat × CueQueue) => (x.1, x.2.jump frm dest))
    wings := s.wings.map (fun (x : Nat × WingsSet) => (x.1, x.2.jump frm dest)) }
  let s2 := (s1.setFld rCUE_STATUS fCUE_STATUS_STEPPED 1).loseAlign
  if 1000000 < dest - frm then s2.lichenFw 0x0902 0 ((dest - frm) % 2 ^ 32) ((dest - frm) / 2 ^ 32) 0 else s2

/-- R37: cue time is held for `size` ns, until the parent's time has reached it. -/
def State.hold (s : State) (size : Nat) : State :=
  let s1 := { s.setFld rCUE_STATUS fCUE_STATUS_HOLDING 1 with time := { s.time with holdUntil := some (s.time.ns + size) } }
  let s2 := s1.loseAlign
  if 1000000 < size then s2.lichenFw 0x0902 1 (size % 2 ^ 32) (size / 2 ^ 32) 0 else s2

/-- R37: TIME_HOLD_END. -/
def execTimeHoldEnd (s : State) : Out :=
  match s.time.holdUntil with
  | some t =>
    if t ≤ s.time.ns then
      done { s.setFld rCUE_STATUS fCUE_STATUS_HOLDING 0 with time := { s.time with holdUntil := none } }
    else done s
  | none => done s

/-- R431: AON_CRYSTAL_STABLE. Cue time counts from the crystal on. -/
def execAonCrystalStable (s : State) : Out := done { s with time := { s.time with crystal := true } }

end Sys2Proof.Machine
end

