-- ==== Sys2Proof/Machine/Compress.lean ====
section
/-!
DEFINITION. FRC fixed-rate compression (R115 to R119) and the NB4 link format (R106 to R113).
-/
namespace Sys2Proof.Machine

/-- R239: bytes of an element of a TYPE: 0 int8, 1 uint8, 2 int16, 3 uint16. -/
def typeBytes (t : Nat) : Nat := if t < 2 then 1 else 2

/-- R239: the value of stored bytes in a TYPE. -/
def typeVal (t v : Nat) : Int :=
  if t = 0 then signed 8 v else if t = 2 then signed 16 v else ((v % 2 ^ (8 * typeBytes t) : Nat) : Int)

/-- R117: the least and the greatest value of a TYPE. -/
def typeMin (t : Nat) : Int := if t = 0 then -128 else if t = 2 then -32768 else 0
/-- R117: the greatest value of a TYPE. -/
def typeMax (t : Nat) : Int := if t = 0 then 127 else if t = 1 then 255 else if t = 2 then 32767 else 65535

/-- The elements of a TYPE in a string of bytes. -/
def elems (t : Nat) : List Byte → List Int
  | a :: b :: bs =>
    if t < 2 then typeVal t a.toNat :: elems t (b :: bs) else typeVal t (a.toNat + 256 * b.toNat) :: elems t bs
  | [a] => if t < 2 then [typeVal t a.toNat] else []
  | [] => []

/-- The bytes of elements of a TYPE. -/
def elemBytes (t : Nat) : List Int → List Byte
  | [] => []
  | x :: l => leBytes (typeBytes t) (wrapTo (8 * typeBytes t) x) ++ elemBytes t l

/-- The number whose `w`-bit fields, from bit 0 up, are these. -/
def packBits (w : Nat) : List Nat → Nat
  | [] => 0
  | x :: l => x % 2 ^ w + 2 ^ w * packBits w l

/-! ### FRC -/

/-- R116: of a format 1 to 4 (FRC8 2:1, FRC8 4:1, FRC16 2:1, FRC16 4:1): element width in bits. -/
def frcWidth (f : Nat) : Nat := if f < 3 then 8 else 16
/-- R116: residual width in bits. -/
def frcRes (f : Nat) : Nat := if f = 1 then 3 else if f = 2 then 1 else if f = 3 then 6 else 2
/-- R116: block size in bytes. -/
def frcBlock (f : Nat) : Nat := if f = 1 then 128 else if f = 2 then 64 else if f = 3 then 256 else 128
/-- R264: unit size in bytes. -/
def frcUnit (f : Nat) : Nat := if f < 3 then 256 else 512

/-- R115: the values of lane `c` of a unit. -/
def frcLane (v : List Int) (c : Nat) : List Int := (List.range 16).map (fun p => v.getD (16 * p + c) 0)

/-- R117: the smallest shift that makes a span fit. -/
def frcShift (span rmax : Nat) : Nat → Nat
  | 0 => 0
  | k + 1 => if span ≤ rmax then 0 else 1 + frcShift (span / 2) rmax k

/-- The least of some numbers. -/
def minOf (l : List Int) : Int := l.foldl min (l.headD 0)
/-- The greatest of some numbers. -/
def maxOf (l : List Int) : Int := l.foldl max (l.headD 0)

/-- R117: minimum and shift of each lane. -/
def frcHeads (f : Nat) (v : List Int) : List (Int × Nat) :=
  (List.range 16).map (fun c =>
    let l := frcLane v c
    (minOf l, frcShift (maxOf l - minOf l).toNat (2 ^ frcRes f - 1) 16))

/-- R116, R117: the block of a unit. -/
def frcEncode (f t : Nat) (unit : List Byte) : List Byte :=
  let v := elems t unit
  let h := frcHeads f v
  let res := (List.range 256).map (fun e =>
    let x := h.getD (e % 16) (0, 0)
    (v.getD e 0 - x.1).toNat / 2 ^ x.2)
  let b := elemBytes t (h.map (·.1)) ++ leBytes (if f < 3 then 6 else 8) (packBits (if f < 3 then 3 else 4) (h.map (·.2))) ++
    leBytes (32 * frcRes f) (packBits (frcRes f) res)
  b ++ List.replicate (frcBlock f - b.length) 0

/-- R117: the unit of a block, and how many elements were saturated. -/
def frcDecode (f t : Nat) (block : List Byte) : List Byte × Nat :=
  let wb := frcWidth f / 8
  let mins := elems t (block.take (16 * wb))
  let sh := ofLeBytes ((block.drop (16 * wb)).take (if f < 3 then 6 else 8))
  let res := ofLeBytes ((block.drop (16 * wb + (if f < 3 then 6 else 8))).take (32 * frcRes f))
  let sb := if f < 3 then 3 else 4
  let out := (List.range 256).map (fun e =>
    let c := e % 16
    let x : Int := mins.getD c 0 + ((res / 2 ^ (frcRes f * e) % 2 ^ frcRes f * 2 ^ (sh / 2 ^ (sb * c) % 2 ^ sb) : Nat) : Int)
    let y := clampInt (typeMin t) (typeMax t) x
    (y, decide (y ≠ x)))
  (elemBytes t (out.map (·.1)), (out.filter (·.2)).length)

/-! ### NB4 -/

/-- R108, R114: the levels L[0] to L[7] of a table. -/
def State.levels (s : State) (t : Nat) : List Nat :=
  let lo := (s.reg (if t = 0 then rNB4_TBL0_LO else rNB4_TBL_LO (t - 1))).toNat
  let hi := (s.reg (if t = 0 then rNB4_TBL0_HI else rNB4_TBL_HI (t - 1))).toNat
  [0, bitsOf lo 7 0, bitsOf lo 15 8, bitsOf lo 23 16, bitsOf lo 31 24, bitsOf hi 7 0, bitsOf hi 15 8, bitsOf hi 23 16]

/-- R109: the levels L[k], L[k+1], ... clamped after a level `prev`. -/
def nb4Clamp (prev : Nat) : Nat → List Nat → List Nat
  | _, [] => []
  | k, x :: l => let y := min (max x (prev + 1)) (255 - (7 - k)); y :: nb4Clamp y (k + 1) l

/-- R110: the largest shift for which the scale fits. -/
def nb4Shift (m top : Nat) : Nat → Nat
  | 0 => 0
  | sh + 1 => if (m * 2 ^ (sh + 1) + top - 1) / top ≤ 65535 then sh + 1 else nb4Shift m top sh

/-- R110: the index of the level nearest to a magnitude, the lower on a tie. -/
def nb4Nearest (x : Nat) : List Nat → Nat → Nat × Nat
  | [], _ => (0, 2 ^ 24)
  | y :: l, q =>
    let d := if x < y then y - x else x - y
    let r := nb4Nearest x l (q + 1)
    if d ≤ r.2 then (q, d) else r

/-- R107, R110: the 36 bytes of a block of at most 64 elements. -/
def nb4Encode (lv : List Nat) (zs : Int) (tsel seq : Nat) (a : List Int) : List Byte :=
  let x := a.map (· - zs)
  let m := (x.map Int.natAbs).foldl max 0
  let top := lv.getD 7 0
  let sh := if m = 0 then 0 else nb4Shift m top 15
  let sc := if m = 0 then 0 else (m * 2 ^ sh + top - 1) / top
  let y := lv.map (fun l => l * sc / 2 ^ sh)
  let code := (List.range 64).map (fun i =>
    let v := x.getD i 0
    let q := if m = 0 ∨ x.length ≤ i then 0 else (nb4Nearest v.natAbs y 0).1
    if v < 0 then (16 - q) % 16 else q)
  leBytes 4 (sc + 2 ^ 16 * sh + 2 ^ 20 * tsel + 2 ^ 24 * (seq % 16)) ++ leBytes 32 (packBits 4 code)

/-- R111: the first `n` elements of a block in the destination TYPE, how many codes −8, and how many clamped values. -/
def nb4Decode (lv : List Nat) (zd : Int) (t n : Nat) (block : List Byte) : List Byte × Nat × Nat :=
  let h := ofLeBytes (block.take 4)
  let codes := ofLeBytes (block.drop 4)
  let out := (List.range n).map (fun i =>
    let c := codes / 2 ^ (4 * i) % 16
    let q := if c < 8 then c else 16 - c
    let mag : Int := ((lv.getD q 0 * bitsOf h 15 0 / 2 ^ bitsOf h 19 16 : Nat) : Int)
    let y : Int := if c = 8 then 0 else if c < 8 then mag else -mag
    let v := y + zd
    let o := clampInt (typeMin t) (typeMax t) v
    (o, decide (o ≠ v), decide (c = 8)))
  (elemBytes t (out.map (·.1)), (out.filter (fun x => x.2.2)).length, (out.filter (fun x => x.2.1)).length)

end Sys2Proof.Machine
end

