-- ==== Sys2Proof/Machine/Stores.lean ====
section
/-!
DEFINITION. The address map (R13 to R18), local and shared stores, their banks and ways, ECC, and the clusters' caches
(R201 to R218, R228 to R235).
-/
namespace Sys2Proof.Machine

/-- Where an address leads: a bus error, an access that waits, a place of memory, or a control register. -/
inductive Target where
  | bad
  | wait
  | mem (place : Nat)
  | reg (a : Nat)
  deriving DecidableEq, Repr

/-- R231: a local-store bank is on. -/
def State.bankOn (s : State) (p b : Nat) : Bool := bitOf (s.fld (rLS_PWR_STAT p) fLS_PWR_STAT_ON) b

/-- R231: a shared-store way is on. -/
def State.wayOn (s : State) (c w : Nat) : Bool := bitOf (s.fld (rSS_WAY_STAT c) fSS_WAY_STAT_ON) w

/-- R205: the mode code of a way: 0 OFF, 1 SCRATCH, 2 CACHE. -/
def State.wayMode (s : State) (c w : Nat) : Nat := bitsOf (s.reg (rSS_WAY_CFG c)).toNat (2 * w + 1) (2 * w)

/-- The transition of a bank or way, by the number that `State.banks` uses. -/
def State.bankTrans (s : State) (k : Nat) : Option BankTrans := Cells.find s.banks k

/-- R230: a bank or way is powering up. -/
def State.rising (s : State) (k : Nat) : Bool := (s.bankTrans k).any (fun t => t.up)

/-- R201, R230: where word `w` of the stores of physical core `p` leads. -/
def State.coreWord (s : State) (p w : Nat) : Target :=
  if w < 0x300000 then
    if s.bankOn p (w / 0x40000) then .mem (corePlace p w)
    else if s.rising (16 * p + w / 0x40000) then .wait else .bad
  else if w < 0x340000 then .mem (corePlace p w)
  else .bad

/-- R13 to R17: where a DPA leads. Only Prompter firmware and the rehearsal engine reach the spare slot (`spareOk`). -/
def State.target (s : State) (spareOk : Bool) (dpa : Nat) : Target :=
  if dpa < 2 ^ 36 then .mem dpa
  else if 0x4000000000 ≤ dpa ∧ dpa < 0x4009000000 then
    let n := (dpa - 0x4000000000) / 0x1000000
    let o := (dpa - 0x4000000000) % 0x1000000
    if 0x680000 ≤ o ∨ (n = 8 ∧ !spareOk) then .bad
    else if s.switching = some n ∨ n ∈ s.host.fenced then .wait
    else match s.coreWord (s.phys n) (o / 2) with
      | .mem k => .mem (k + o % 2)
      | t => t
  else if 0x4800000000 ≤ dpa ∧ dpa < 0x4804000000 then
    let c := (dpa - 0x4800000000) / 0x2000000
    let o := (dpa - 0x4800000000) % 0x2000000
    let w := o / 0x100000
    if 0x1000000 ≤ o ∨ s.wayMode c w ≠ 1 then .bad
    else if s.wayOn c w then .mem dpa
    else if s.rising (256 + 16 * c + w) then .wait else .bad
  else if 0x7F00000000 ≤ dpa ∧ dpa < 0x7F04A00000 then
    let b := (dpa - 0x7F00000000) / 0x100000
    if b = 8 ∧ !spareOk then .bad
    else if (blockRows b).isEmpty then .bad
    else .reg dpa
  else .bad

/-! ### ECC -/

/-- R232: a double-bit error lies in `n` bytes from a place. -/
def State.eccDouble (s : State) (k n : Nat) : Bool :=
  s.ecc.any (fun (x : Nat × Nat) => x.2 == 2 && decide (x.1 < k + n ∧ k < x.1 + 8))

/-- R232: the words with a single-bit error in `n` bytes from a place. -/
def State.eccSingles (s : State) (k n : Nat) : List Nat :=
  (s.ecc.filter (fun (x : Nat × Nat) => x.2 == 1 && decide (x.1 < k + n ∧ k < x.1 + 8))).map (·.1)

/-- R233, R235: an error in a core memory: MEM code, bank, row within it, and word address or bundle index. -/
def coreMemOf (k : Nat) : Option (Nat × Nat × Nat × Nat × Nat) :=
  if 0x2000000000000 ≤ k then
    let p := (k - 0x2000000000000) / 0x100000
    let o := (k - 0x2000000000000) % 0x100000
    some (p, 3, 0, o / 512, o / 16)
  else if 0x4000000000 ≤ k ∧ (k - 0x4000000000) / 0x10000000000 ≤ 8 ∧ (k - 0x4000000000) % 0x10000000000 < 0x680000 then
    let p := (k - 0x4000000000) / 0x10000000000
    let o := (k - 0x4000000000) % 0x10000000000
    let w := o / 2
    if w < 0x300000 then some (p, 0, w / 0x40000, o % 0x80000 / 512, w)
    else if w < 0x320000 then some (p, 1, 0, o % 0x40000 / 512, w)
    else some (p, 2, 0, o % 0x40000 / 512, w)
  else none

/-- R232, R233: an ECC error found on a read is counted, latched and recorded. -/
def State.noteEcc (s : State) (k : Nat) (double : Bool) : State :=
  match coreMemOf k with
  | some (p, mem, bank, row, addr) =>
    let s1 := s.count (if double then rMEM_ECC_UE_CNT p else rMEM_ECC_CE_CNT p)
    let s2 := ((s1.setFld (rMEM_ECC_ADDR p) fMEM_ECC_ADDR_MEM mem).setFld (rMEM_ECC_ADDR p) fMEM_ECC_ADDR_UE
      (b2n double)).setFld (rMEM_ECC_ADDR p) fMEM_ECC_ADDR_ADDR addr
    let unit := s.slotOf p
    if double then
      (s2.lichenFw 0x0701 unit mem addr 0).lichenFw 0x0702 unit mem addr row
    else
      let a := rMEM_ECC_ROW p
      let same := decide (s.fld a fMEM_ECC_ROW_MEM = mem ∧ s.fld a fMEM_ECC_ROW_BANK = bank ∧ s.fld a fMEM_ECC_ROW_ROW = row)
      let hits := if same then min (s.fld a fMEM_ECC_ROW_HITS + 1) 255 else 1
      let s3 := (((s2.setFld a fMEM_ECC_ROW_MEM mem).setFld a fMEM_ECC_ROW_BANK bank).setFld a fMEM_ECC_ROW_ROW row).setFld a
        fMEM_ECC_ROW_HITS hits
      if hits = 3 then s3.lichenFw 0x0702 unit mem addr (row + 2 ^ 16 * hits) else s3
  | none =>
    if 0x4800000000 ≤ k ∧ k < 0x4804000000 then
      let c := (k - 0x4800000000) / 0x2000000
      let o := (k - 0x4800000000) % 0x2000000
      let w := o / 0x100000
      let row := o % 0x100000 / 512
      let s1 := s.count (if double then rSS_ECC_UE_CNT c else rSS_ECC_CE_CNT c)
      let s2 := (s1.setFld (rSS_ECC_ADDR c) fSS_ECC_ADDR_UE (b2n double)).setFld (rSS_ECC_ADDR c) fSS_ECC_ADDR_OFFSET (o / 8 * 8)
      if double then (s2.lichenFw 0x0701 (0x10 + c) w o 0).lichenFw 0x0702 (0x10 + c) w o row
      else
        let a := rSS_ECC_ROW c
        let same := decide (s.fld a fSS_ECC_ROW_WAY = w ∧ s.fld a fSS_ECC_ROW_ROW = row)
        let hits := if same then min (s.fld a fSS_ECC_ROW_HITS + 1) 255 else 1
        let s3 := ((s2.setFld a fSS_ECC_ROW_WAY w).setFld a fSS_ECC_ROW_ROW row).setFld a fSS_ECC_ROW_HITS hits
        if hits = 3 then s3.lichenFw 0x0702 (0x10 + c) w o (row + 2 ^ 16 * hits) else s3
    else if double ∧ k < 2 ^ 36 then s.lichenFw 0x0703 (bitsOf k 14 12) (k % 2 ^ 32) (k / 2 ^ 32) 0
    else s

/-- R232: a read of `n` bytes at a place: the data, or none for a double-bit error. Single-bit errors are corrected, counted,
and wait for their write-back. -/
def State.readMem (s : State) (k n : Nat) : Option (List Byte) × State :=
  if s.eccDouble k n then (none, s.noteEcc k true)
  else
    let singles := s.eccSingles k n
    let s1 := singles.foldl (fun t w => t.noteEcc w false) s
    (some (s.bytes k n), { s1 with writeBacks := s1.writeBacks ++ singles })

/-- R187: a write to a granule ends the reservations on it. -/
def State.breakResv (s : State) (k n : Nat) : State :=
  { s with resv := s.resv.filter (fun (x : Nat × Nat) => decide (k + n ≤ x.1 ∨ x.1 + 64 ≤ k)) }

/-- R232: a write of bytes at a place: none where it covers part of a word with a double-bit error. -/
def State.writeMem (s : State) (k : Nat) (b : List Byte) : Option State :=
  let n := b.length
  if s.ecc.any (fun (x : Nat × Nat) => x.2 == 2 && decide (x.1 < k + n ∧ k < x.1 + 8) && !decide (k ≤ x.1 ∧ x.1 + 8 ≤ k + n))
  then none
  else
    let s1 := s.setBytes k b
    let s2 := { s1 with ecc := s1.ecc.filter (fun (x : Nat × Nat) => !decide (x.1 < k + n ∧ k < x.1 + 8)) }
    some (s2.breakResv k n)

/-- R188: a write by the context `who`, which leaves the context's own reservations. -/
def State.writeMemOwn (s : State) (who k : Nat) (b : List Byte) : Option State :=
  (s.writeMem k b).map (fun t => { t with resv := s.resv.filter (fun (x : Nat × Nat) =>
    x.2 == who || decide (k + b.length ≤ x.1 ∨ x.1 + 64 ≤ k)) })

/-- R178: a masked write by the context `who`: only the bytes marked are written. -/
def State.writeMasked (s : State) (who k : Nat) : List Byte → List Bool → Option State
  | b :: bs, true :: ms => (s.writeMemOwn who k [b]).bind (fun t => t.writeMasked who (k + 1) bs ms)
  | _ :: bs, false :: ms => s.writeMasked who (k + 1) bs ms
  | _, _ => some s

/-- R232: ECC_CORRECTED_WRITEBACK. The oldest corrected word is written back, unless a write has replaced it. -/
def execEccCorrectedWriteback (s : State) : Out :=
  match s.writeBacks with
  | [] => done s
  | w :: rest => done { s with
      writeBacks := rest
      ecc := s.ecc.filter (fun (x : Nat × Nat) => !(x.1 == w && x.2 == 1)) }

/-- R14: a read of `n` bytes at a DPA that leads to memory from first byte to last. -/
def State.dpaRead (s : State) (spareOk : Bool) (dpa n : Nat) : Option (List Byte) × State :=
  match s.target spareOk dpa, s.target spareOk (dpa + (n - 1)) with
  | .mem k, .mem _ => s.readMem k n
  | _, _ => (none, s)

/-- R14: a write of bytes at a DPA that leads to memory from first byte to last. -/
def State.dpaWrite (s : State) (spareOk : Bool) (dpa : Nat) (b : List Byte) : Option State :=
  match s.target spareOk dpa, s.target spareOk (dpa + (b.length - 1)) with
  | .mem k, .mem _ => s.writeMem k b
  | _, _ => none

/-! ### Banks and ways -/

/-- R231: BANK_ON of a core is written: banks asked on that are off start powering up, banks asked off that are on start
closing. -/
def State.setBankOn (s : State) (p : Nat) (v : Nat) : State :=
  let go (s : State) (b : Nat) : State :=
    let k := 16 * p + b
    let trans (t : State) (x : Option BankTrans) : State :=
      let t1 := { t with banks := match x with | some y => Cells.put t.banks k y | none => Cells.erase t.banks k }
      let m := t1.fld (rLS_PWR_STAT p) fLS_PWR_STAT_TRANS
      t1.setFld (rLS_PWR_STAT p) fLS_PWR_STAT_TRANS
        (if x.isSome then (if bitOf m b then m else m + 2 ^ b) else (if bitOf m b then m - 2 ^ b else m))
    if bitOf v b then
      if s.bankOn p b then (if (s.bankTrans k).isSome then trans s none else s)
      else if (s.bankTrans k).isSome then s else trans s (some ⟨true, s.time.ns⟩)
    else if s.bankOn p b ∧ (s.bankTrans k).isNone then trans s (some ⟨false, s.time.ns⟩)
    else s
  (List.range 12).foldl go (s.setFld (rLS_PWR_CTL p) fLS_PWR_CTL_BANK_ON v)

/-- One cluster's cache. -/
def State.cache (s : State) (c : Nat) : Cache := Cells.get (fun _ => {}) s.caches c
/-- The state with one cluster's cache replaced. -/
def State.setCache (s : State) (c : Nat) (x : Cache) : State := { s with caches := Cells.set (fun _ => {}) s.caches c x }

/-- R208, R455: the lines of one way are dropped. -/
def State.dropWay (s : State) (c w : Nat) : State :=
  let x := s.cache c
  s.setCache c { x with lines := (x.lines.map (fun (y : Nat × List CacheLine) =>
    (y.1, y.2.filter (fun l => l.way != w)))).filter (fun y => !y.2.isEmpty) }

/-- A way's transition bit. -/
def State.setWayTrans (s : State) (c w : Nat) (x : Option BankTrans) : State :=
  let k := 256 + 16 * c + w
  let t1 := { s with banks := match x with | some y => Cells.put s.banks k y | none => Cells.erase s.banks k }
  let m := t1.fld (rSS_WAY_STAT c) fSS_WAY_STAT_TRANS
  t1.setFld (rSS_WAY_STAT c) fSS_WAY_STAT_TRANS
    (if x.isSome then (if bitOf m w then m else m + 2 ^ w) else (if bitOf m w then m - 2 ^ w else m))

/-- R212, R231: SS_WAY_CFG of a cluster is written. The code 0b11 leaves a way as it is, a way that leaves CACHE drops its
lines, a way that is asked off or on starts its transition, and a failed way is never powered (R464). -/
def State.setWayCfg (s : State) (c v : Nat) : State :=
  let go (s : State) (w : Nat) : State :=
    let m := bitsOf v (2 * w + 1) (2 * w)
    let old := s.wayMode c w
    let k := 256 + 16 * c + w
    if m = 3 ∨ m = old ∨ (m ≠ 0 ∧ (16 * c + w) ∈ s.reh.failedWays) then s
    else
      let s1 := if old = 2 then s.dropWay c w else s
      let s2 := s1.setFld (rSS_WAY_CFG c) ⟨2 * w + 1, 2 * w⟩ m
      if m = 0 then (if s2.wayOn c w then s2.setWayTrans c w (some ⟨false, s.time.ns⟩) else s2)
      else if s2.wayOn c w then (if (s2.bankTrans k).isSome then s2.setWayTrans c w none else s2)
      else if (s2.bankTrans k).isSome then s2 else s2.setWayTrans c w (some ⟨true, s.time.ns⟩)
  (List.range 16).foldl go s

/-- The memory without the bytes of [lo, hi): they read as zero. -/
def State.zeroRange (s : State) (lo hi : Nat) : State :=
  { s with
    mem := s.mem.filter (fun (x : Nat × Byte) => !decide (lo ≤ x.1 ∧ x.1 < hi))
    ecc := s.ecc.filter (fun (x : Nat × Nat) => !decide (lo ≤ x.1 ∧ x.1 < hi)) }

/-- R230: BANK_POWER_UP_DONE of a bank of core slot `b`, or of a way of a cluster: it is on and reads zeros. -/
def execBankPowerUpDone (way : Bool) (u : Fin 9) (i : Fin 16) (s : State) : Out :=
  if way then
    let c := u.val
    match s.bankTrans (256 + 16 * c + i.val) with
    | some t =>
      if t.up ∧ t.since + 2548 ≤ s.time.ns then
        let s1 := (s.setWayTrans c i.val none).zeroRange (0x4800000000 + c * 0x2000000 + i.val * 0x100000)
          (0x4800000000 + c * 0x2000000 + (i.val + 1) * 0x100000)
        let s2 := s1.setFld (rSS_WAY_STAT c) ⟨i.val, i.val⟩ 1
        done (if s2.wayMode c i.val = 0 then s2.setWayTrans c i.val (some ⟨false, s.time.ns⟩) else s2)
      else done s
    | none => done s
  else
    let p := s.phys u.val
    match s.bankTrans (16 * p + i.val) with
    | some t =>
      if t.up ∧ t.since + 1524 ≤ s.time.ns then
        let s1 := { s with banks := Cells.erase s.banks (16 * p + i.val) }
        let s2 := s1.zeroRange (corePlace p (i.val * 0x40000)) (corePlace p ((i.val + 1) * 0x40000))
        let s3 := (s2.setFld (rLS_PWR_STAT p) ⟨i.val, i.val⟩ 1).setFld (rLS_PWR_STAT p) ⟨12 + i.val, 12 + i.val⟩ 0
        done (s3.setBankOn p (s3.fld (rLS_PWR_CTL p) fLS_PWR_CTL_BANK_ON))
      else done s
    | none => done s

/-- R229: reads or writes of a bank or way are in flight: a remote access not yet answered, or an entry of the core's
scoreboard that overlaps the bank. -/
def State.bankBusy (s : State) (p i : Nat) : Bool :=
  ((Cells.get (fun _ => {}) s.sb p).entries.any (fun (x : Nat × SbEntry) =>
    decide (0 < x.2.w + x.2.r ∧ x.2.lo < (i + 1) * 0x40000 ∧ i * 0x40000 < x.2.hi))) ||
  s.remotes.any (fun r => !r.answered && (match s.target true r.dpa with
    | .mem k => decide (corePlace p (i * 0x40000) ≤ k ∧ k < corePlace p ((i + 1) * 0x40000))
    | _ => false))

/-- R229: a remote access to a way is in flight, or a fill for it. -/
def State.wayBusy (s : State) (c i : Nat) : Bool :=
  s.remotes.any (fun r => !r.answered && decide (0x4800000000 + c * 0x2000000 + i * 0x100000 ≤ r.dpa ∧
    r.dpa < 0x4800000000 + c * 0x2000000 + (i + 1) * 0x100000))

/-- R229: BANK_SWITCH_OFF, in the first cycle that meets every condition. Its contents are lost. -/
def execBankSwitchOff (way : Bool) (u : Fin 9) (i : Fin 16) (s : State) : Out :=
  if way then
    let c := u.val
    match s.bankTrans (256 + 16 * c + i.val) with
    | some t =>
      if !t.up ∧ !s.wayBusy c i.val then
        done ((s.setWayTrans c i.val none).setFld (rSS_WAY_STAT c) ⟨i.val, i.val⟩ 0)
      else done s
    | none => done s
  else
    let p := s.phys u.val
    match s.bankTrans (16 * p + i.val) with
    | some t =>
      if !t.up ∧ !s.bankBusy p i.val then
        let s1 := { s with banks := Cells.erase s.banks (16 * p + i.val) }
        done ((s1.setFld (rLS_PWR_STAT p) ⟨i.val, i.val⟩ 0).setFld (rLS_PWR_STAT p) ⟨12 + i.val, 12 + i.val⟩ 0)
      else done s
    | none => done s

/-- R229: POWER_DOWN_WITHDRAWN, 4,096 core cycles after a power-down request that has not been met. -/
def execPowerDownWithdrawn (way : Bool) (u : Fin 9) (i : Fin 16) (s : State) : Out :=
  if way then
    let c := u.val
    match s.bankTrans (256 + 16 * c + i.val) with
    | some t =>
      if !t.up ∧ t.since + 4096 ≤ s.time.ns then
        done (((s.setWayTrans c i.val none).setFld (rSS_PWR_FAIL c) ⟨i.val, i.val⟩ 1).lichenFw 0x0106 (0x10 + c) i.val 0 0)
      else done s
    | none => done s
  else
    let p := s.phys u.val
    match s.bankTrans (16 * p + i.val) with
    | some t =>
      if !t.up ∧ t.since + 4096 ≤ s.time.ns then
        let s1 := { s with banks := Cells.erase s.banks (16 * p + i.val) }
        done (((s1.setFld (rLS_PWR_STAT p) ⟨12 + i.val, 12 + i.val⟩ 0).setFld (rLS_PWR_FAIL p) ⟨i.val, i.val⟩ 1).lichenFw
          0x0106 u.val i.val 0 0)
      else done s
    | none => done s

/-! ### The clusters' caches -/

/-- R208: the ways of a cluster that serve as cache now. -/
def State.cacheWays (s : State) (c : Nat) : List Nat :=
  (List.range 16).filter (fun w => s.wayMode c w == 2 && s.wayOn c w && !((s.cache c).fencedWays.contains w))

/-- R211: an invalidation that covers a line. -/
def Invalidation.covers (x : Invalidation) (line : Nat) : Bool :=
  x.all || decide (x.line ≤ line ∧ line < x.line + x.lines)

/-- R208, R211: the line of a set that serves a cacheable read of line `line`, if it hits. -/
def State.cacheLine (s : State) (c line : Nat) : Option CacheLine :=
  (Cells.get (fun _ => []) (s.cache c).lines (line % 16384)).find? (fun l =>
    l.tag == line / 16384 && !((s.cache c).fencedWays.contains l.way) && !((s.cache c).running.any (fun v => v.covers line)))

/-- R208: a line becomes the most recently used of its set. -/
def State.cacheTouch (s : State) (c line : Nat) (l : CacheLine) : State :=
  let x := s.cache c
  let set := Cells.get (fun _ => []) x.lines (line % 16384)
  s.setCache c { x with lines := Cells.set (fun _ => []) x.lines (line % 16384) (l :: set.filter (fun y => y.tag != l.tag)) }

/-- R208: the way that a miss takes: a cache way that holds no line of the set, or that of the least recently used line. -/
def State.victimWay (s : State) (c line : Nat) : Nat :=
  let set := Cells.get (fun _ => []) (s.cache c).lines (line % 16384)
  match (s.cacheWays c).find? (fun w => !(set.any (fun l => l.way == w))) with
  | some w => w
  | none => ((set.filter (fun l => (s.cacheWays c).contains l.way)).getLast?.map (·.way)).getD 0

/-- R208: a line is allocated in a way. -/
def State.cacheAlloc (s : State) (c line way : Nat) (d : List Byte) : State :=
  let x := s.cache c
  let set := Cells.get (fun _ => []) x.lines (line % 16384)
  let set1 := (⟨line / 16384, way, d⟩ : CacheLine) :: set.filter (fun y => y.way != way && y.tag != line / 16384)
  s.setCache c { x with lines := Cells.set (fun _ => []) x.lines (line % 16384) set1 }

/-- R208: a cacheable read of `n` bytes within one 64-byte line of DDR4, with its fill where it misses (a DMA engine's and a
frond's reads; log entry 15). -/
def State.cachedRead (s : State) (c dpa n : Nat) : Option (List Byte) × State :=
  let line := dpa / 64
  if (s.cacheWays c).isEmpty then s.readMem dpa n
  else match s.cacheLine c line with
    | some l => (some ((l.data.drop (dpa % 64)).take n), (s.cacheTouch c line l).count (rSS_HIT_CNT c))
    | none =>
      let s1 := s.count (rSS_MISS_CNT c)
      match s1.readMem (64 * line) 64 with
      | (none, s2) => (none, s2)
      | (some d, s2) => (some ((d.drop (dpa % 64)).take n), s2.cacheAlloc c line (s2.victimWay c line) d)

/-- R208: a write that passes through a cache goes through to DDR4 and updates a line that it hits. -/
def State.cachedWrite (s : State) (c dpa : Nat) (b : List Byte) : Option State :=
  match s.writeMem dpa b with
  | none => none
  | some s1 =>
    match s1.cacheLine c (dpa / 64) with
    | none => some s1
    | some l => some (s1.cacheTouch c (dpa / 64)
        { l with data := l.data.take (dpa % 64) ++ b ++ l.data.drop (dpa % 64 + b.length) })

/-- R211: an invalidation starts: the lines that it covers leave the cache. -/
def State.startInv (s : State) (c : Nat) (v : Invalidation) : State :=
  let x := s.cache c
  s.setCache c { x with
    running := some { v with since := s.time.ns, seq := x.seq }
    lines := (x.lines.map (fun (y : Nat × List CacheLine) =>
      (y.1, y.2.filter (fun l => !(v.covers (l.tag * 16384 + y.1)))))).filter (fun y => !y.2.isEmpty) }

/-- R211, R218: the address of the status register of an invalidation's source. -/
def State.invStat (s : State) (c source : Nat) : Nat :=
  if source = 9 then rSS_INV_STAT c else rCORE_SS_INV_STAT (s.phys source)

/-- R211: a GO from a source: it starts, is queued, or is refused where the source already has a request queued. -/
def State.invGo (s : State) (c source : Nat) : State :=
  let (lo, hi) := if source = 9 then (rSS_INV_LO c, rSS_INV_HI c)
    else (rCORE_SS_INV_LO (s.phys source), rCORE_SS_INV_HI (s.phys source))
  let v : Invalidation :=
    { source := source
      all := s.flag hi fCORE_SS_INV_HI_ALL
      line := (s.fld lo fCORE_SS_INV_LO_ADDR * 64 + s.fld hi fCORE_SS_INV_HI_ADDR_HI * 2 ^ 32) / 64
      lines := s.fld hi fCORE_SS_INV_HI_LINES }
  let x := s.cache c
  if x.queued.any (fun q => q.source == source) then s.setFld (s.invStat c source) fCORE_SS_INV_STAT_REFUSED 1
  else
    let s1 := s.setFld (s.invStat c source) fCORE_SS_INV_STAT_BUSY 1
    if x.running.isNone then s1.startInv c v else s1.setCache c { x with queued := x.queued ++ [v] }

/-- R211: SS_INVALIDATE_GO from a core slot to its own cluster, or (source 9) from the Prompter to cluster `c`. -/
def execSsInvalidateGo (source : Fin 10) (c : Fin 2) (s : State) : Out :=
  done (s.invGo (if source.val = 9 then c.val else clusterOf source.val) source.val)

/-- R211: SS_INVALIDATE_DONE, L + 16 core cycles after the start, or 16,400 for ALL; the next queued request starts. -/
def execSsInvalidateDone (c : Fin 2) (s : State) : Out :=
  let x := s.cache c.val
  match x.running with
  | none => done s
  | some v =>
    if v.since + (if v.all then 16400 else v.lines + 16) ≤ s.time.ns then
      let more := x.queued.any (fun q => q.source == v.source)
      let s1 := if more then s else s.setFld (s.invStat c.val v.source) fCORE_SS_INV_STAT_BUSY 0
      match x.queued with
      | [] => done (s1.setCache c.val { x with running := none })
      | q :: rest => done ((s1.setCache c.val { x with running := none, queued := rest }).startInv c.val q)
    else done s

/-- R208, R211, R212: CACHE_FILL. The oldest DDR4 read for a miss returns: it is delivered to its remote access, and allocated
unless a running invalidation that started after it covers its line, or its way has left CACHE. -/
def execCacheFill (c : Fin 2) (s : State) : Out :=
  let x := s.cache c.val
  match x.fills with
  | [] => done s
  | f :: rest =>
    let s1 := s.setCache c.val { x with fills := rest }
    match s1.readMem (64 * f.line) 64 with
    | (none, s2) => done { s2 with remotes := s2.remotes.map (fun (r : RemoteAccess) =>
        if r.id = f.access then { r with answered := true, failed := true, waiting := false } else r) }
    | (some d, s2) =>
      let s3 := { s2 with remotes := s2.remotes.map (fun (r : RemoteAccess) =>
        if r.id = f.access then
          { r with answered := true, waiting := false, answer := (d.drop (r.dpa % 64)).take r.len } else r) }
      let stale := x.running.any (fun v => v.covers f.line && decide (f.seq < v.seq))
      if stale || !(s3.cacheWays c.val).contains f.way then done (s3.count (rSS_NOFILL_CNT c.val))
      else done (s3.cacheAlloc c.val f.line f.way d)

end Sys2Proof.Machine
end

