-- ==== Sys2Proof/Machine/Scoreboard.lean ====
section
/-!
DEFINITION. The scoreboard (R219 to R227), NoC tags (R12), the switch of a logical index (R19), and remote-window accesses on
their way (R213 to R217).
-/
namespace Sys2Proof.Machine

/-! ### Indexed state -/

/-- One physical core's scoreboard. -/
def State.sboard (s : State) (p : Nat) : Scoreboard := Cells.get (fun _ => {}) s.sb p
/-- The state with one scoreboard replaced, and SB_STAT in step. -/
def State.setSboard (s : State) (p : Nat) (x : Scoreboard) : State :=
  let s1 := { s with sb := Cells.set (fun _ => {}) s.sb p x }
  (s1.setFld (rSB_STAT p) fSB_STAT_USED x.entries.length).setFld (rSB_STAT p) fSB_STAT_MERGED
    (x.entries.filter (fun (y : Nat × SbEntry) => y.2.merged)).length
/-- One physical core's VPP. -/
def State.core (s : State) (p : Nat) : VppCore := Cells.get (fun _ => {}) s.vpp p
/-- The state with one VPP replaced. -/
def State.setCore (s : State) (p : Nat) (x : VppCore) : State := { s with vpp := Cells.set (fun _ => {}) s.vpp p x }
/-- One task context. -/
def State.ctx (s : State) (p c : Nat) : VppCtx := Cells.get (fun _ => {}) (s.core p).ctxs c
/-- The state with one task context replaced. -/
def State.setCtx (s : State) (p c : Nat) (x : VppCtx) : State :=
  let k := s.core p
  s.setCore p { k with ctxs := Cells.set (fun _ => {}) k.ctxs c x }
/-- R191: the state of a context: 0 IDLE, 1 READY, 2 RUNNING, 3 WAITING. -/
def State.ctxSt (s : State) (p c : Nat) : Nat := s.fld (rVPP_CTX_STAT p) ⟨2 * c + 1, 2 * c⟩
/-- The state with a context in another state. -/
def State.setCtxSt (s : State) (p c st : Nat) : State := s.setFld (rVPP_CTX_STAT p) ⟨2 * c + 1, 2 * c⟩ st
/-- R191: context `c` is real-time. -/
def State.rtCtx (s : State) (p c : Nat) : Bool := bitOf (s.fld (rVPP_CTX_CTL p) fVPP_CTX_CTL_RTMASK) c

/-! ### Entries -/

/-- R219: an entry is in use. -/
def SbEntry.used (e : SbEntry) : Bool := decide (0 < e.w + e.r)

/-- Two half-open ranges overlap. -/
def overlaps (a b : Nat × Nat) : Bool := decide (a.1 < b.2 ∧ b.1 < a.2)

/-- R221: a read range waits on this entry. -/
def SbEntry.stopsRead (e : SbEntry) (r : Nat × Nat) : Bool := decide (0 < e.w) && overlaps r (e.lo, e.hi)

/-- R221: a write range waits on this entry. -/
def SbEntry.stopsWrite (e : SbEntry) (r : Nat × Nat) : Bool := e.used && overlaps r (e.lo, e.hi)

/-- R221: the entries that make these ranges wait, lowest number first. -/
def Scoreboard.blockers (b : Scoreboard) (ws rs : List (Nat × Nat)) : List (Nat × SbEntry) :=
  b.entries.filter (fun (x : Nat × SbEntry) => ws.any x.2.stopsWrite || rs.any x.2.stopsRead)

/-- R221: these ranges are clear. -/
def Scoreboard.clear (b : Scoreboard) (ws rs : List (Nat × Nat)) : Bool := (b.blockers ws rs).isEmpty

/-- One entry, in use or free. -/
def Scoreboard.entry (b : Scoreboard) (e : Nat) : SbEntry := Cells.get (fun _ => {}) b.entries e

/-- An entry with new content; an entry whose counts are both 0 is free and keeps nothing (R224, R225). -/
def Scoreboard.setEntry (b : Scoreboard) (e : Nat) (x : SbEntry) : Scoreboard :=
  { b with entries := Cells.set (fun _ => {}) b.entries e (if x.used then x else {}) }

/-- R224: an entry's counts with one more pending write or read. -/
def SbEntry.add (e : SbEntry) (write : Bool) : SbEntry :=
  if write then { e with w := e.w + 1 } else { e with r := e.r + 1 }

/-- R225: how much an entry grows when it is widened to cover a range. -/
def SbEntry.growth (e : SbEntry) (r : Nat × Nat) : Nat := (max e.hi r.2 - min e.lo r.1) - (e.hi - e.lo)

/-- R225: the in-use entry that grows least, the lowest index among equals. -/
def leastGrowth (r : Nat × Nat) : List (Nat × SbEntry) → Option (Nat × SbEntry)
  | [] => none
  | x :: l =>
    match leastGrowth r l with
    | none => some x
    | some y => if x.2.growth r ≤ y.2.growth r then some x else some y

/-- R224, R225: one range is placed: it joins an entry with its bounds, takes the lowest free entry (log entry 18), or is
merged. The third part is 1 for a merge. -/
def Scoreboard.place (b : Scoreboard) (r : Nat × Nat) (write : Bool) : Scoreboard × Ticket × Nat :=
  match b.entries.find? (fun (x : Nat × SbEntry) => x.2.lo == r.1 && x.2.hi == r.2) with
  | some x => (b.setEntry x.1 { x.2.add write with joined := true }, ⟨x.1, write⟩, 0)
  | none =>
    match (List.range 64).find? (fun e => !(b.entry e).used) with
    | some e => (b.setEntry e (SbEntry.add { lo := r.1, hi := r.2 } write), ⟨e, write⟩, 0)
    | none =>
      match leastGrowth r b.entries with
      | some x => (b.setEntry x.1 { x.2.add write with
          lo := min x.2.lo r.1
          hi := max x.2.hi r.2
          merged := true }, ⟨x.1, write⟩, 1)
      | none => (b, ⟨0, write⟩, 0)

/-- R225: ranges are placed one after another. -/
def Scoreboard.placeAll (b : Scoreboard) : List ((Nat × Nat) × Bool) → Scoreboard × List Ticket × Nat
  | [] => (b, [], 0)
  | (r, w) :: l =>
    let (b1, t, n) := b.place r w
    let (b2, ts, m) := b1.placeAll l
    (b2, t :: ts, n + m)

/-- R225: a range goes before another in ascending order of LO and then of HI. -/
def rangeLe (x y : (Nat × Nat) × Bool) : Bool := decide (x.1.1 < y.1.1) || (x.1.1 == y.1.1 && decide (x.1.2 ≤ y.1.2))

/-- Insertion into a list in the order of `rangeLe`. -/
def rangeInsert (x : (Nat × Nat) × Bool) : List ((Nat × Nat) × Bool) → List ((Nat × Nat) × Bool)
  | [] => [x]
  | y :: l => if rangeLe x y then x :: y :: l else y :: rangeInsert x l

/-- A list in the order of `rangeLe`. -/
def rangeSort (l : List ((Nat × Nat) × Bool)) : List ((Nat × Nat) × Bool) := l.foldr rangeInsert []

/-- R225: the order in which a registration's ranges are placed: those that join, then write ranges, then read ranges. -/
def Scoreboard.placing (b : Scoreboard) (ws rs : List (Nat × Nat)) : List ((Nat × Nat) × Bool) :=
  let all := rangeSort (ws.map (·, true)) ++ rangeSort (rs.map (·, false))
  let joins := fun (x : (Nat × Nat) × Bool) =>
    b.entries.any (fun (y : Nat × SbEntry) => y.2.lo == x.1.1 && y.2.hi == x.1.2)
  all.filter joins ++ all.filter (fun x => !joins x)

/-- R225: a registration whose ranges are clear is granted. -/
def State.sbGrant (s : State) (p agent : Nat) (ws rs : List (Nat × Nat)) : State :=
  let b := s.sboard p
  let (b1, ts, n) := b.placeAll (b.placing ws rs)
  let s1 := s.setSboard p { b1 with granted := Cells.put b1.granted agent (Cells.get (fun _ => []) b1.granted agent ++ ts) }
  s1.countBy (rSB_MERGE_CNT p) wholeReg n

/-- R221, R225: a bulk agent registers its ranges, at once if they are clear, and else it waits. Whether it was granted is the
second part. -/
def State.sbRegister (s : State) (p agent : Nat) (ws rs : List (Nat × Nat)) : State × Bool :=
  let b := s.sboard p
  if b.clear ws rs then (s.sbGrant p agent ws rs, true)
  else (s.setSboard p { b with waits := b.waits ++ [⟨.reg agent, ws, rs, s.time.ns, (s.reg (rSB_CFG p)).toNat, false, false⟩] }, false)

/-- R225: SB_REGISTER. -/
def execSbRegister (b : Fin 9) (agent : Nat) (ws rs : List (Nat × Nat)) (s : State) : Out :=
  done (s.sbRegister (s.phys b.val) agent ws rs).1

/-- R224: a ticket is given up: the count of its entry falls. -/
def State.sbRelease (s : State) (p agent : Nat) (t : Ticket) : State :=
  let b := s.sboard p
  let e := b.entry t.entry
  let held := Cells.get (fun _ => []) b.granted agent
  if t ∈ held then
    let e1 := if t.write then { e with w := e.w - 1 } else { e with r := e.r - 1 }
    let b1 := b.setEntry t.entry e1
    s.setSboard p { b1 with granted := Cells.set (fun _ => []) b1.granted agent (held.erase t) }
  else s

/-- R224: everything that an agent holds on a core is released. -/
def State.sbReleaseAll (s : State) (p agent : Nat) : State :=
  (Cells.get (fun _ => []) (s.sboard p).granted agent).foldl (fun u t => u.sbRelease p agent t) s

/-- R224: a registrant narrows its own entry to [lo, hi), which is ignored for a merged or joined entry. -/
def State.sbNarrow (s : State) (p e lo hi : Nat) : State :=
  let b := s.sboard p
  let x := b.entry e
  if x.merged ∨ x.joined ∨ !x.used then s
  else s.setSboard p (b.setEntry e { x with
    lo := max x.lo lo
    hi := min x.hi hi })

/-- R224: SB_RELEASE: a registrant gives up its count in an entry, or narrows its own range. -/
def execSbRelease (b : Fin 9) (agent : Nat) (entry : Fin 64) (write : Bool) (narrow : Option (Nat × Nat)) (s : State) : Out :=
  let p := s.phys b.val
  match narrow with
  | none => done (s.sbRelease p agent ⟨entry.val, write⟩)
  | some (lo, hi) =>
    if ⟨entry.val, write⟩ ∈ Cells.get (fun _ => []) (s.sboard p).granted agent then done (s.sbNarrow p entry.val lo hi)
    else done s

/-! ### Tags and the switch of an index -/

/-- R12: a requester takes a tag, or waits for one. -/
def State.takeTag (s : State) (r : Nat) : State × Bool :=
  let t := s.tag r
  if t.held < t.share then (s.setTag r { t with held := t.held + 1 }, true)
  else (s.setTag r { t with waiting := t.waiting + 1 }, false)

/-- R12: a requester's tag is free again. -/
def State.freeTag (s : State) (r : Nat) : State := let t := s.tag r; s.setTag r { t with held := t.held - 1 }

/-- R12: TAG_WAIT_ISSUE: a requester that waits for a tag obtains one and issues its oldest request. -/
def execTagWaitIssue (r : Fin 15) (s : State) : Out :=
  let t := s.tag r.val
  if 0 < t.waiting ∧ t.held < t.share then
    let s1 := s.setTag r.val { t with
      held := t.held + 1
      waiting := t.waiting - 1 }
    match s1.remotes.find? (fun (x : RemoteAccess) => x.slot == r.val && x.untagged) with
    | some x => done { s1 with remotes := s1.remotes.map (fun (y : RemoteAccess) =>
        if y.id = x.id then { y with untagged := false } else y) }
    | none => done s1
  else done s

/-! ### Remote-window accesses -/

/-- R215, R216: an access of core slot `b`, context `c`, is issued. -/
def State.issueRemote (s : State) (b c : Nat) (op : RemoteOp) (dpa len : Nat) (data : List Byte) (mask : List Bool)
    (cached : Bool) : State :=
  let (s1, ok) := s.takeTag b
  let x : RemoteAccess := { id := s.remoteCount, slot := b, ctx := c, op := op, dpa := dpa, len := len, data := data,
                            mask := mask, cached := cached, untagged := !ok }
  let s2 := { s1 with
    remotes := s1.remotes ++ [x]
    remoteCount := s1.remoteCount + 1 }
  let a := rCORE_RWIN_STAT (s.phys b)
  if op = .store then s2.setFld a fCORE_RWIN_STAT_POSTED (s2.fld a fCORE_RWIN_STAT_POSTED + 1) else s2

/-- The access with its outcome. -/
def State.answerRemote (s : State) (id : Nat) (ok : Bool) (d : List Byte) : State :=
  { s with remotes := s.remotes.map (fun (r : RemoteAccess) =>
      if r.id = id then { r with
        answered := true
        waiting := false
        failed := !ok
        answer := d } else r) }

/-- The access waits. -/
def State.holdRemote (s : State) (id : Nat) : State :=
  { s with remotes := s.remotes.map (fun (r : RemoteAccess) => if r.id = id then { r with waiting := true } else r) }

/-- R188: where the monitor of a granule is: how many reservations it keeps, and the places it covers. -/
def monitorOf (k : Nat) : Nat × Nat × Nat :=
  if 0x4800000000 ≤ k ∧ k < 0x4804000000 then
    (32, 0x4800000000 + (k - 0x4800000000) / 0x2000000 * 0x2000000, 0x2000000)
  else (16, corePlace ((k - 0x4000000000) / 0x10000000000) 0, 0x680000)

/-- R187, R188: a reservation of `who` on the granule of place `k`; a full monitor evicts its oldest one. -/
def State.reserve (s : State) (who k : Nat) : State :=
  let l := s.resv.filter (fun (x : Nat × Nat) => x.2 != who)
  let (n, lo, len) := monitorOf k
  let here := fun (x : Nat × Nat) => decide (lo ≤ x.1 ∧ x.1 < lo + len)
  let l1 := if n ≤ (l.filter here).length then
      match (l.filter here).head? with
      | some o => l.erase o
      | none => l
    else l
  { s with resv := l1 ++ [(k / 64 * 64, who)] }

/-- R188: the reservation of a context is cleared. -/
def State.dropResv (s : State) (who : Nat) : State :=
  { s with resv := s.resv.filter (fun (x : Nat × Nat) => x.2 != who) }

/-- R215, R217: an access is performed at a place of memory. -/
def State.performRemote (s : State) (r : RemoteAccess) (k : Nat) : State :=
  let who := 4 * s.phys r.slot + r.ctx
  match r.op with
  | .load =>
    if r.cached ∧ r.dpa < 2 ^ 36 then
      let c := clusterOf r.slot
      let line := r.dpa / 64
      if r.dpa % 64 + r.len ≤ 64 ∧ !(s.cacheWays c).isEmpty ∧ (s.cacheLine c line).isNone then
        let x := s.cache c
        let s1 := (s.setCache c { x with
          fills := x.fills ++ [⟨x.seq, line, s.victimWay c line, r.id⟩]
          seq := x.seq + 1 }).count (rSS_MISS_CNT c)
        s1.holdRemote r.id
      else
        let n := min r.len (64 - r.dpa % 64)
        match s.cachedRead c r.dpa n with
        | (none, s1) => s1.answerRemote r.id false []
        | (some d, s1) =>
          if n = r.len then s1.answerRemote r.id true d
          else match s1.cachedRead c (r.dpa + n) (r.len - n) with
            | (none, s2) => s2.answerRemote r.id false []
            | (some e, s2) => s2.answerRemote r.id true (d ++ e)
    else match s.readMem k r.len with
      | (none, s1) => s1.answerRemote r.id false []
      | (some d, s1) => s1.answerRemote r.id true d
  | .store =>
    let w := if r.cached ∧ r.dpa < 2 ^ 36 ∧ r.dpa % 64 + r.len ≤ 64 ∧ r.mask.all id then s.cachedWrite (clusterOf r.slot) r.dpa r.data
      else if r.mask.all id then s.writeMemOwn who k r.data
      else s.writeMasked who k r.data r.mask
    match w with
    | none => s.answerRemote r.id false []
    | some s1 => s1.answerRemote r.id true []
  | .tas =>
    match s.readMem k 2 with
    | (none, s1) => s1.answerRemote r.id false []
    | (some d, s1) =>
      match s1.writeMem k [1, 0] with
      | none => s1.answerRemote r.id false []
      | some s2 => s2.answerRemote r.id true d
  | .ldrs =>
    match s.readMem k r.len with
    | (none, s1) => s1.answerRemote r.id false []
    | (some d, s1) => (s1.reserve who k).answerRemote r.id true d
  | .stcd =>
    if (k / 64 * 64, who) ∈ s.resv then
      match s.writeMem k r.data with
      | none => (s.dropResv who).answerRemote r.id false []
      | some s1 => (s1.dropResv who).answerRemote r.id true [1]
    else (s.dropResv who).answerRemote r.id true [0]

/-- R217, R221: the ranges that a remote access to a core checks: writes and reads, as words of the target. -/
def RemoteAccess.ranges (r : RemoteAccess) (w : Nat) : List (Nat × Nat) × List (Nat × Nat) :=
  let x := (w, w + (r.len + 1) / 2)
  match r.op with
  | .load => ([], [x])
  | .store => ([x], [])
  | _ => ([x], [x])

/-- The target core and word of a DPA in a core window, if it lies in one. -/
def State.windowWord (s : State) (dpa : Nat) : Option (Nat × Nat) :=
  if 0x4000000000 ≤ dpa ∧ dpa < 0x4009000000 then
    some (s.phys ((dpa - 0x4000000000) / 0x1000000), (dpa - 0x4000000000) % 0x1000000 / 2)
  else none

/-- R14, R217: an access at its target: a bus error, a wait on the target's scoreboard or a rising bank, or the access. -/
def State.arriveRemote (s : State) (r : RemoteAccess) : State :=
  match s.target false r.dpa, s.target false (r.dpa + (r.len - 1)) with
  | .bad, _ => s.answerRemote r.id false []
  | _, .bad => s.answerRemote r.id false []
  | .reg _, _ => s.answerRemote r.id false []
  | _, .reg _ => s.answerRemote r.id false []
  | .wait, _ => s.holdRemote r.id
  | _, .wait => s.holdRemote r.id
  | .mem k, .mem _ =>
    match s.windowWord r.dpa with
    | none => s.performRemote r k
    | some (p, w) =>
      let (ws, rs) := r.ranges w
      let b := s.sboard p
      if b.clear ws rs then s.performRemote r k
      else if b.waits.any (fun x => x.who == .remote r.id) then s
      else (s.setSboard p { b with
        waits := b.waits ++ [⟨.remote r.id, ws, rs, s.time.ns, (s.reg (rSB_CFG p)).toNat, false, false⟩] }).holdRemote r.id

/-- R215: accesses of one core to one target core are performed in issue order. -/
def State.remoteFirst (s : State) (r : RemoteAccess) : Bool :=
  !(s.remotes.any (fun (x : RemoteAccess) => decide (x.id < r.id) && x.slot == r.slot && !x.answered &&
    decide (x.dpa / 0x1000000 = r.dpa / 0x1000000)))

/-- R217: REMOTE_ACCESS_ARRIVE of the access with this number. -/
def execRemoteAccessArrive (id : Nat) (s : State) : Out :=
  match s.remotes.find? (fun (r : RemoteAccess) => r.id == id) with
  | none => done s
  | some r => if r.answered ∨ r.untagged ∨ !s.remoteFirst r then done s else done (s.arriveRemote r)

/-- R216: REMOTE_STORE_ACK of the posted store with this number. -/
def execRemoteStoreAck (id : Nat) (s : State) : Out :=
  match s.remotes.find? (fun (r : RemoteAccess) => r.id == id) with
  | none => done s
  | some r =>
    if r.op = .store ∧ r.answered then
      let p := s.phys r.slot
      let s1 := { s with remotes := s.remotes.filter (fun (x : RemoteAccess) => x.id != id) }
      let s2 := s1.freeTag r.slot
      let s3 := s2.setFld (rCORE_RWIN_STAT p) fCORE_RWIN_STAT_POSTED (s2.fld (rCORE_RWIN_STAT p) fCORE_RWIN_STAT_POSTED - 1)
      if r.failed then
        let s4 := ((s3.setFld (rCORE_RWIN_STAT p) fCORE_RWIN_STAT_PERR 1).setReg (rCORE_RWIN_ERR_LO p)
          (BitVec.ofNat 32 r.dpa)).setReg (rCORE_RWIN_ERR_HI p) (BitVec.ofNat 32 (r.dpa / 2 ^ 32))
        done (s4.setCtx p r.ctx { s4.ctx p r.ctx with perr := true })
      else done s3
    else done s

/-! ### Waits -/

/-- R223: the wait that proceeds next: of those that are clear, the first that began, a VPP access before a registration that
began with it. -/
def Scoreboard.nextClear (b : Scoreboard) : Option SbWait :=
  let l := b.waits.filter (fun w => b.clear w.writes w.reads)
  match l with
  | [] => none
  | x :: _ => some ((l.find? (fun y => y.since == x.since && (match y.who with | .reg _ => false | _ => true))).getD x)

/-- R223: SB_WAIT_CLEAR: the first waiter that is clear proceeds. A VPP bundle then issues by VPP_BUNDLE_ISSUE. -/
def execSbWaitClear (b : Fin 9) (s : State) : Out :=
  let p := s.phys b.val
  let x := s.sboard p
  match x.nextClear with
  | none => done s
  | some w =>
    let s1 := s.setSboard p { x with waits := x.waits.erase w }
    match w.who with
    | .vpp _ => done (s1.countBy (rSB_VWAIT_CYC p) wholeReg (s.time.ns - w.since))
    | .reg agent => done (s1.sbGrant p agent w.writes w.reads)
    | .remote id =>
      match s1.remotes.find? (fun (r : RemoteAccess) => r.id == id) with
      | none => done s1
      | some r => done (s1.arriveRemote r)

/-- R190, R381: a deadline miss of a context, which its script's count shows. -/
def State.deadlineMiss (s : State) (p c : Nat) : State :=
  let s1 := s.setFld (rVPP_DL_MISS p) ⟨28 + c, 28 + c⟩ 1
  let b := s.slotOf p
  { s1.countBy (rVPP_DL_MISS p) fVPP_DL_MISS_COUNT 1 with
    scripts := s1.scripts.map (fun (x : Nat × Script) =>
      if x.2.decl.cores.any (fun d => d.core == b && bitOf d.ctxs c) then (x.1, { x.2 with misses := x.2.misses + 1 }) else x) }

/-- R191: the enabled deadline of a context has passed. -/
def State.deadlinePast (s : State) (p c : Nat) : Bool :=
  bitOf (s.fld (rVPP_CTX_CTL p) fVPP_CTX_CTL_DLEN) c &&
    decide (0 ≤ signed 32 (s.now + (2 ^ 32 - (s.reg (rVPP_CTX_DL p c)).toNat)))

/-- R226: SB_TIMEOUT of the `i`-th wait of a core. -/
def execSbTimeout (b : Fin 9) (i : Nat) (s : State) : Out :=
  let p := s.phys b.val
  let x := s.sboard p
  match x.waits[i]? with
  | none => done s
  | some w =>
    if w.since + w.limit ≤ s.time.ns ∧ !w.timed then
      let kind := match w.who with | .vpp _ => 0 | .remote _ => 1 | .reg _ => 2
      let entry := ((x.blockers w.writes w.reads).head?.map (·.1)).getD 0
      let s1 := s.count (rSB_TIMEOUT_CNT p)
      let s2 := (s1.setFld (rSB_FAULT p) fSB_FAULT_KIND kind).setFld (rSB_FAULT p) fSB_FAULT_ENTRY entry
      let stay := s2.setSboard p { x with waits := x.waits.set i { w with
        timed := true
        reported := true } }
      let gone := s2.setSboard p { x with waits := x.waits.erase w }
      match w.who with
      | .vpp c =>
        if s.rtCtx p c then done (if w.reported then stay else stay.deadlineMiss p c)
        else
          let word := (x.blockers w.writes w.reads).foldl (fun m (y : Nat × SbEntry) =>
            (w.writes ++ w.reads).foldl (fun m r => if overlaps r (y.2.lo, y.2.hi) then min m (max r.1 y.2.lo) else m) m) (2 ^ 24)
          done (gone.setCtx p c { gone.ctx p c with timedOut := some word })
      | .remote id => done (gone.answerRemote id false [])
      | .reg _ => done stay
    else done s

/-- R190: VPP_DEADLINE_MISS: a real-time context that waits past its enabled deadline, once for each wait. -/
def execVppDeadlineMiss (b : Fin 9) (c : Fin 4) (s : State) : Out :=
  let p := s.phys b.val
  if s.rtCtx p c.val ∧ s.deadlinePast p c.val then
    let x := s.sboard p
    match x.waits.findIdx? (fun w => w.who == .vpp c.val && !w.reported) with
    | some i =>
      match x.waits[i]? with
      | some w => done ((s.setSboard p { x with waits := x.waits.set i { w with reported := true } }).deadlineMiss p c.val)
      | none => done s
    | none =>
      let y := s.ctx p c.val
      if y.regWait.isSome ∧ !y.regReported then done ((s.setCtx p c.val { y with regReported := true }).deadlineMiss p c.val)
      else done s
  else done s

end Sys2Proof.Machine
end

