-- ==== Sys2Proof/Machine/Links.lean ====
section
/-!
DEFINITION. Messages of the peer links: classes, credits, routes, and handing a message to a link (R355 to R363).
-/
namespace Sys2Proof.Machine

/-- R356: the class of a message type: 0 REQ, 1 RSP, 2 CTL, 3 the dedicated slot of LINIT and LINIT_ACK (R358); none for a
type that is not listed. -/
def msgClass (type : Nat) : Option Nat :=
  if type ∈ [0x01, 0x02, 0x10, 0x11] then some 0
  else if type ∈ [0x03, 0x04, 0x12] then some 1
  else if type ∈ [0x20, 0x21, 0x22, 0x30, 0x31, 0x32, 0x38, 0x39, 0x40, 0x41] then some 2
  else if type = 0x48 ∨ type = 0x49 then some 3 else none

/-- R355: the flits of a message. -/
def LinkMsg.flits (m : LinkMsg) : Nat := 1 + m.len

/-- R362: the module's number. -/
def State.modId (s : State) : Nat := s.fld rEPL_FAB_CFG fEPL_FAB_CFG_MOD_ID

/-- R372: the field of EPL_CRED and EPL_RXBUF of a class. -/
def classFld (c : Nat) : Fld := ⟨10 * c + 9, 10 * c⟩

/-- R360: the state of a link. -/
def State.linkSt (s : State) (l : Nat) : Nat := s.fld (rEPL_STAT l) fEPL_STAT_STATE

/-- R353, R358: a message leaves by a link: it spends a credit for each flit and takes the next groups of 7 flits. -/
def State.transmit (s : State) (l : Nat) (m : LinkMsg) : State :=
  let x := s.link l
  let n := (m.flits + 6) / 7
  let x1 := { x with
    tx := x.tx ++ [m]
    txSeq := (x.txSeq + n) % 4096
    replayBuf := min 128 (x.replayBuf + n) }
  match msgClass m.type with
  | some c =>
    if c < 3 then
      let s1 := s.setLink l { x1 with out := x1.out.set c (x1.out.getD c 0 + m.flits) }
      s1.setFld (rEPL_CRED l) (classFld c) (s1.fld (rEPL_CRED l) (classFld c) - m.flits)
    else s.setLink l x1
  | none => s.setLink l x1

/-- R358: a message is handed to a link, and waits there while its class has no credits. -/
def State.handLink (s : State) (l : Nat) (m : LinkMsg) : State :=
  let x := s.link l
  let c := (msgClass m.type).getD 3
  if c = 3 then s.transmit l m
  else if m.flits ≤ s.fld (rEPL_CRED l) (classFld c) ∧ !(x.txWait.any (fun y => (msgClass y.type).getD 3 == c)) then s.transmit l m
  else s.setLink l { x with txWait := x.txWait ++ [m] }

/-- R358: waiting messages leave as credits allow, each class in order. -/
def State.drainWait (s : State) (l : Nat) : List LinkMsg → List Nat → State
  | [], _ => s
  | m :: ms, blocked =>
    let c := (msgClass m.type).getD 3
    if c ∉ blocked ∧ m.flits ≤ s.fld (rEPL_CRED l) (classFld c) then
      let s1 := s.setLink l { s.link l with txWait := (s.link l).txWait.erase m }
      State.drainWait (s1.transmit l m) l ms blocked
    else State.drainWait s l ms (c :: blocked)

/-- R363: the link by which a message for a module leaves, 6 for the module itself, none without a usable route. -/
def State.routeOf (s : State) (dest : Nat) : Option Nat :=
  if dest = s.modId then some 6
  else
    let l := (s.reg (rEPL_ROUTE dest)).toNat % 8
    if dest < 24 ∧ l < 6 ∧ s.linkSt l = 3 then some l else none

/-- R363: a message goes on its way; none where it is UNREACHABLE. A message for the module itself is delivered locally. -/
def State.sendMsg (s : State) (m : LinkMsg) : Option State :=
  match s.routeOf m.dest with
  | none => none
  | some l =>
    if l = 6 then some (s.setLink 6 { s.link 6 with rx := (s.link 6).rx ++ [m] })
    else some (s.handLink l m)

/-- A message of this module, with `spec` as bytes 16 to 31. -/
def State.message (s : State) (type dest tag : Nat) (spec : List Byte) (data : List Byte) : LinkMsg :=
  { type := type, dest := dest, src := s.modId, len := (data.length + 31) / 32, tag := tag,
    spec := spec ++ List.replicate (16 - spec.length) 0, data := data }

/-- R357: a request leaves; the link keeps it until its response returns. None where it is UNREACHABLE. -/
def State.sendReq (s : State) (m : LinkMsg) (kind chan bytes pos : Nat) : Option State :=
  match s.routeOf m.dest with
  | none => none
  | some l =>
    match s.sendMsg m with
    | none => none
    | some s1 => some (s1.setLink l { s1.link l with reqs := (s1.link l).reqs ++ [⟨m.tag, m.dest, kind, chan, bytes, pos⟩] })

/-- R358: the place of a message that leaves the receive buffer is freed. -/
def State.freeRx (s : State) (l : Nat) (m : LinkMsg) : State :=
  let x := s.link l
  let s1 := s.setLink l { x with rx := x.rx.erase m }
  match msgClass m.type with
  | some c =>
    if c < 3 ∧ l < 6 then
      let y := s1.link l
      let s2 := s1.setLink l { y with freed := y.freed.set c ((y.freed.getD c 0 + m.flits) % 1024) }
      s2.setFld (rEPL_RXBUF l) (classFld c) (s2.fld (rEPL_RXBUF l) (classFld c) - m.flits)
    else s1
  | none => s1

/-- R357: the oldest message of a type's class in a receive buffer, if it is of this type. -/
def State.headMsg (s : State) (l type : Nat) : Option LinkMsg :=
  match (s.link l).rx.find? (fun m => msgClass m.type == msgClass type) with
  | some m => if m.type = type then some m else none
  | none => none

/-- A number in bytes `o` to `o + n - 1` of a message's header flit (16 to 31). -/
def LinkMsg.field (m : LinkMsg) (o n : Nat) : Nat := ofLeBytes ((m.spec.drop (o - 16)).take n)

end Sys2Proof.Machine
end

