-- ==== Sys2Proof/Machine/Dataflow.lean ====
section
/-!
DEFINITION. Buffer handles and handle queues (R270 to R275), and barriers (R280 to R285).
-/
namespace Sys2Proof.Machine

/-! ### Owners -/

/-- The script in a slot. -/
def State.script (s : State) (n : Nat) : Option Script := Cells.find s.scripts n

/-- The state with a script slot replaced. -/
def State.setScript (s : State) (n : Nat) (x : Script) : State := { s with scripts := Cells.put s.scripts n x }

/-- R289: the script that uses a context of a logical core. -/
def State.ctxScript (s : State) (b c : Nat) : Option Nat :=
  (s.scripts.find? (fun (x : Nat × Script) => x.2.decl.cores.any (fun d => d.core == b && bitOf d.ctxs c))).map (·.1)

/-- R272: the script for which an agent acts; none for the Prompter and the rehearsal engine, which may use every pool. -/
def State.agentScript (s : State) : Agent → Option (Option Nat)
  | .core b c => some (s.ctxScript b.val c.val)
  | _ => none

/-- R272: the agent may use what belongs to script slot `owner`. -/
def State.owns (s : State) (a : Agent) (owner : Nat) : Bool :=
  match s.agentScript a with
  | none => true
  | some n => n == some owner

/-- R272: the holder that an agent is recorded as. -/
def holderOf : Agent → Nat
  | .core b _ => b.val
  | _ => 0xE

/-- The key under which an agent's results are kept. -/
def State.agentKey (s : State) : Agent → Nat
  | .core b c => 4 * s.phys b.val + c.val
  | _ => 64

/-! ### Handles -/

/-- R271: the table entry of a handle, where its pool is enabled and has that index. -/
def State.handleEntry (s : State) (h : Nat) : Option Nat :=
  let p := h / 4096 % 16
  let i := h % 4096
  if p ≠ 0 ∧ s.flag (rHP_CFG p) fHP_CFG_EN ∧ i < s.fld (rHP_CFG p) fHP_CFG_SIZE then
    some ((s.fld (rHP_BASE p) fHP_BASE_FIRST + i) % 16384)
  else none

/-- R272: the state of a buffer: 0 FREE, 1 QUEUED, 2 HELD. -/
def State.bufState (s : State) (e : Nat) : Nat := s.fld (rHB_ENTRY1 e) fHB_ENTRY1_STATE

/-- R272: a buffer enters another state, with its holder. -/
def State.setBuf (s : State) (e st holder : Nat) : State :=
  (s.setFld (rHB_ENTRY1 e) fHB_ENTRY1_STATE st).setFld (rHB_ENTRY1 e) fHB_ENTRY1_HOLDER holder

/-- R275: a buffer's DPA and size. -/
def State.bufAddr (s : State) (e : Nat) : Nat × Nat :=
  ((s.reg (rHB_ENTRY0 e)).toNat + s.fld (rHB_ENTRY1 e) fHB_ENTRY1_ADDR_HI * 2 ^ 32, s.fld (rHB_ENTRY2 e) fHB_ENTRY2_SIZE)

/-- R294: the counters of a pool change by these amounts (FREE, QUEUED, HELD). -/
def State.poolMove (s : State) (p : Nat) (free queued held : Int) : State :=
  let add (s : State) (a : Nat) (f : Fld) (d : Int) : State := s.setFld a f (((s.fld a f : Int) + d).toNat)
  add (add (add s (rHP_CNT p) fHP_CNT_FREE free) (rHP_CNT p) fHP_CNT_HELD held) (rHP_QCNT p) fHP_QCNT_QUEUED queued

/-- R271: a pool's free list; a pool from which nothing has been taken is free in order of index. -/
def State.freeList (s : State) (p : Nat) : List Nat := Cells.get (fun _ => []) s.pools p

/-- R272: a handle queue. -/
def State.hq (s : State) (q : Nat) : List Nat := Cells.get (fun _ => []) s.hqueues q

/-- The state with a handle queue's content replaced, and its FILL in step. -/
def State.setHq (s : State) (q : Nat) (l : List Nat) : State :=
  { s with hqueues := Cells.set (fun _ => []) s.hqueues q l }.setFld (rHQ_STAT q) fHQ_STAT_FILL l.length

/-- R273: a refusal; NOT_HELD and WRONG_POOL are counted. -/
def State.hqRefuse (s : State) (status : Nat) : HqResult × State :=
  ({ status := status }, if status = 3 ∨ status = 4 then s.count rHQ_BADOP_CNT else s)

/-- R272: ALLOC: a FREE buffer of pool `p` becomes HELD. `ok` says that the issuer owns the pool. -/
def State.hqAlloc (s : State) (ok : Bool) (holder p : Nat) : HqResult × State :=
  if !ok ∨ p = 0 ∨ 15 < p ∨ !s.flag (rHP_CFG p) fHP_CFG_EN then s.hqRefuse 5
  else match s.freeList p with
    | [] => s.hqRefuse 1
    | i :: rest =>
      let e := (s.fld (rHP_BASE p) fHP_BASE_FIRST + i) % 16384
      let s1 := { s with pools := Cells.set (fun _ => []) s.pools p rest }
      let s2 := (s1.setBuf e 2 holder).poolMove p (-1) 0 1
      (⟨0, p * 4096 + i, (s2.bufAddr e).1, (s2.bufAddr e).2⟩, s2)

/-- R272: PUSH: a HELD buffer goes to the tail of queue `q`. -/
def State.hqPush (s : State) (ok : Bool) (q h : Nat) : HqResult × State :=
  if !ok ∨ !s.flag (rHQ_CFG q) fHQ_CFG_EN then s.hqRefuse 5
  else match s.handleEntry h with
    | none => s.hqRefuse 3
    | some e =>
      if s.bufState e ≠ 2 then s.hqRefuse 3
      else if h / 4096 ≠ s.fld (rHQ_CFG q) fHQ_CFG_POOL then s.hqRefuse 4
      else if 256 ≤ (s.hq q).length then s.hqRefuse 2
      else (⟨0, 0, 0, 0⟩, ((s.setHq q (s.hq q ++ [h])).setBuf e 1 0).poolMove (h / 4096) 0 1 (-1))

/-- R272: POP: the head of queue `q` becomes HELD. -/
def State.hqPop (s : State) (ok : Bool) (holder q : Nat) : HqResult × State :=
  if !ok ∨ !s.flag (rHQ_CFG q) fHQ_CFG_EN then s.hqRefuse 5
  else match s.hq q with
    | [] => s.hqRefuse 1
    | h :: rest =>
      let e := (s.handleEntry h).getD 0
      let s1 := ((s.setHq q rest).setBuf e 2 holder).poolMove (h / 4096) 0 (-1) 1
      (⟨0, h, (s1.bufAddr e).1, (s1.bufAddr e).2⟩, s1)

/-- R272: FREE: a HELD buffer returns to its pool. -/
def State.hqFree (s : State) (ok : Bool) (h : Nat) : HqResult × State :=
  if !ok then s.hqRefuse 5
  else match s.handleEntry h with
    | none => s.hqRefuse 3
    | some e =>
      if s.bufState e ≠ 2 then s.hqRefuse 3
      else
        let p := h / 4096
        let s1 := { s with pools := Cells.set (fun _ => []) s.pools p (s.freeList p ++ [h % 4096]) }
        (⟨0, 0, 0, 0⟩, (s1.setBuf e 0 0).poolMove p 1 0 (-1))

/-- R272: FILL: the fill of a queue. -/
def State.hqFill (s : State) (ok : Bool) (q : Nat) : HqResult × State :=
  if !ok ∨ !s.flag (rHQ_CFG q) fHQ_CFG_EN then s.hqRefuse 5 else (⟨0, (s.hq q).length, 0, 0⟩, s)

/-- R275: the issuer's copies of the result registers are written. -/
def State.noteHq (a : Agent) (x : HqResult × State) : State :=
  { x.2 with hqp := Cells.set (fun _ => {}) x.2.hqp (x.2.agentKey a) x.1 }

/-- R272, R296: the agent may use a pool: it is its script's, and the pool is not fenced (number 0x3100 + p). -/
def State.poolOk (s : State) (a : Agent) (p : Nat) : Bool :=
  s.owns a (s.fld (rHP_CFG p) fHP_CFG_OWNER) && !(s.host.fenced.contains (0x3100 + p))

/-- R272: the agent may use a queue and the queue's pool. -/
def State.queueOk (s : State) (a : Agent) (q : Nat) : Bool :=
  s.owns a (s.fld (rHQ_CFG q) fHQ_CFG_OWNER) && !(s.host.fenced.contains (0x3100 + s.fld (rHQ_CFG q) fHQ_CFG_POOL))

/-- R272: HQ_ALLOC. -/
def execHqAlloc (a : Agent) (p : Fin 16) (s : State) : Out :=
  done (State.noteHq a (s.hqAlloc (s.poolOk a p.val) (holderOf a) p.val))
/-- R272: HQ_PUSH. -/
def execHqPush (a : Agent) (q : Fin 256) (h : Half) (s : State) : Out :=
  done (State.noteHq a (s.hqPush (s.queueOk a q.val) q.val h.toNat))
/-- R272: HQ_POP. -/
def execHqPop (a : Agent) (q : Fin 256) (s : State) : Out :=
  done (State.noteHq a (s.hqPop (s.queueOk a q.val) (holderOf a) q.val))
/-- R272: HQ_FREE. -/
def execHqFree (a : Agent) (h : Half) (s : State) : Out :=
  done (State.noteHq a (s.hqFree (s.poolOk a (h.toNat / 4096)) h.toNat))
/-- R272: HQ_FILL. -/
def execHqFill (a : Agent) (q : Fin 256) (s : State) : Out :=
  done (State.noteHq a (s.hqFill (s.queueOk a q.val) q.val))

/-- R271, R288: a pool with every buffer FREE, in order of index. -/
def State.poolReset (s : State) (p : Nat) : State :=
  let n := s.fld (rHP_CFG p) fHP_CFG_SIZE
  let first := s.fld (rHP_BASE p) fHP_BASE_FIRST
  let s1 := { s with pools := Cells.set (fun _ => []) s.pools p (List.range n) }
  let s2 := (List.range n).foldl (fun t i => t.setBuf ((first + i) % 16384) 0 0) s1
  let s3 := (s2.hqueues.map (·.1)).foldl (fun t q => t.setHq q ((t.hq q).filter (fun h => h / 4096 != p))) s2
  ((s3.setFld (rHP_CNT p) fHP_CNT_FREE n).setFld (rHP_CNT p) fHP_CNT_HELD 0).setFld (rHP_QCNT p) fHP_QCNT_QUEUED 0

/-! ### Barriers -/

/-- One barrier, beyond its registers. -/
def State.bar (s : State) (b : Nat) : Barrier := Cells.get (fun _ => {}) s.bars b
/-- The state with one barrier replaced. -/
def State.setBar (s : State) (b : Nat) (x : Barrier) : State := { s with bars := Cells.set (fun _ => {}) s.bars b x }
/-- R280: the current generation. -/
def State.barGen (s : State) (b : Nat) : Nat := s.fld (rBAR_STAT b) fBAR_STAT_GEN
/-- R280: the state of a barrier: 0 OPEN, 1 COMPLETE, 2 BROKEN. -/
def State.barSt (s : State) (b : Nat) : Nat := s.fld (rBAR_STAT b) fBAR_STAT_STATE

/-- R280, R281: the next generation: ARRIVED 0, OPEN, GEN one more. -/
def State.barNext (s : State) (b : Nat) : State :=
  let s1 := s.setFld (rBAR_STAT b) fBAR_STAT_GEN ((s.barGen b + 1) % 256)
  let s2 := (s1.setFld (rBAR_STAT b) fBAR_STAT_STATE 0).setFld (rBAR_STAT b) fBAR_STAT_ARRIVED 0
  s2.setBar b { broken := (s.bar b).broken }

/-- R283, R284: a barrier releases; a late release is counted. -/
def State.barRelease (s : State) (b : Nat) (late : Bool) : State :=
  s.barNext b |> fun t => if late then t.count (rBAR_LATE_CNT b) else t

/-- R280: BAR_CFG.EN is set to 1. -/
def State.barReset (s : State) (b : Nat) : State := s.barNext b

/-- R280: BAR_RESET: Prompter firmware writes BAR_CFG with EN = 1. -/
def execBarReset (b : Fin 32) (cfg : Word) (s : State) : Out :=
  let s1 := s.setReg (rBAR_CFG b.val) (cfg &&& 0xF7FFFFFF)
  done (if getF cfg fBAR_CFG_EN = 1 then s1.barReset b.val else s1)

/-- R284: HOME holds a module's arrival; when it holds all of them it sends RELEASE with T and takes it itself. -/
def State.homeArrive (s : State) (b gen m : Nat) : State :=
  if gen ≠ s.barGen b ∨ s.barSt b = 2 then s
  else
    let x := s.bar b
    let x1 := { x with
      first := some (x.first.getD s.time.ns)
      modules := if m ∈ x.modules then x.modules else x.modules ++ [m] }
    let s1 := s.setBar b x1
    if s.fld (rBAR_CFG b) fBAR_CFG_FAB_MODS ≤ x1.modules.length then
      let t := s.now + s.fld rBAR_FAB_MARGIN fBAR_FAB_MARGIN_NS
      let s2 := (x1.modules.filter (fun k => k != s.modId)).foldl (fun u k =>
        (u.sendMsg (u.message 0x31 k 0 (leBytes 1 b ++ leBytes 1 gen ++ leBytes 2 0 ++ leBytes 8 t) [])).getD u) s1
      s2.setBar b { x1 with releaseAt := some t }
    else s1

/-- R283, R284: the local arrivals of a generation are complete. -/
def State.barComplete (s : State) (b : Nat) : State :=
  let s1 := s.setFld (rBAR_STAT b) fBAR_STAT_STATE 1
  if s.flag (rBAR_CFG b) fBAR_CFG_FAB then
    let home := s.fld (rBAR_CFG b) fBAR_CFG_HOME
    if home = s.modId then s1.homeArrive b (s.barGen b) s.modId
    else (s1.sendMsg (s1.message 0x30 home 0 (leBytes 1 b ++ leBytes 1 (s.barGen b)) [])).getD s1
  else if s.flag (rBAR_CFG b) fBAR_CFG_MODE then
    match (s.bar b).cue with
    | some limit => s1.barRelease b (decide (limit < s.now))
    | none => s1
  else s1

/-- R281: an arrival. -/
def State.barArrive (s : State) (a : Agent) (b gen : Nat) : State :=
  let note (t : State) (x : Arrival) : State := { t with arrivals := Cells.set (fun _ => {}) t.arrivals (t.agentKey a) x }
  if !s.flag (rBAR_CFG b) fBAR_CFG_EN ∨ !s.owns a (s.fld (rBAR_CFG b) fBAR_CFG_OWNER) then
    note s { bar := b, gen := gen, noAccess := true }
  else if gen ≠ s.barGen b then (note s { bar := b, gen := gen, stale := true }).count rBAR_STALE_CNT
  else
    let s1 := note s { bar := b, gen := gen }
    if s.barSt b ≠ 0 then s1
    else
      let n := s1.fld (rBAR_STAT b) fBAR_STAT_ARRIVED + 1
      let s2 := s1.setFld (rBAR_STAT b) fBAR_STAT_ARRIVED n
      let s3 := s2.setBar b { s2.bar b with first := some ((s2.bar b).first.getD s.time.ns) }
      if s.fld (rBAR_CFG b) fBAR_CFG_PARTS ≤ n then s3.barComplete b else s3

/-- R281: BAR_ARRIVE. -/
def execBarArrive (a : Agent) (b : Fin 32) (gen : Byte) (s : State) : Out := done (s.barArrive a b.val gen.toNat)

/-- R283: BAR_COUNT_RELEASE: a COUNT-mode barrier whose arrivals are complete releases; a fabric barrier releases once T has
come (R284). -/
def execBarCountRelease (b : Fin 32) (s : State) : Out :=
  if s.barSt b.val = 1 then
    if s.flag (rBAR_CFG b.val) fBAR_CFG_FAB then
      match (s.bar b.val).releaseAt with
      | some t => done (if t ≤ s.now then s.barRelease b.val false else s)
      | none => done s
    else done (if s.flag (rBAR_CFG b.val) fBAR_CFG_MODE then s else s.barRelease b.val false)
  else done s

/-- R275, R282: what a read of CORE_BAR_WAIT returns, none while it waits: RESULT and GEN. -/
def State.barWait (s : State) (a : Agent) : Option Word :=
  let x := Cells.get (fun _ => {}) s.arrivals (s.agentKey a)
  let ans (r : Nat) : Option Word := some (BitVec.ofNat 32 (r * 2 ^ 30 + s.barGen x.bar * 256))
  if x.noAccess then ans 3
  else if x.stale then ans 2
  else if s.barGen x.bar = x.gen then (if s.barSt x.bar = 2 then ans 1 else none)
  else if (s.bar x.bar).broken = some x.gen then ans 1 else ans 0

/-- R282: BAR_WAIT: the answer of the read, in `host.busData`; the read waits while there is none. -/
def execBarWait (b : Fin 8) (c : Fin 4) (s : State) : Out :=
  match s.barWait (.core b c) with
  | some w => done { s with host := { s.host with
      busData := w
      busError := false } }
  | none => done s

/-- R285: a generation breaks here: waiters are released with BROKEN and an event is recorded. -/
def State.barBreak (s : State) (b missing : Nat) : State :=
  let s1 := s.setFld (rBAR_STAT b) fBAR_STAT_STATE 2
  let s2 := s1.setBar b { s1.bar b with
    broken := some (s.barGen b)
    releaseAt := none }
  s2.lichenFw 0x0904 b (s.barGen b) missing 0

/-- R285: HOME breaks a generation and sends BROKEN to every module it can reach. -/
def State.barBreakHome (s : State) (b : Nat) : State :=
  let mods := (s.bar b).modules
  let all := (List.range 24).filter (fun m => m != s.modId && (s.routeOf m).isSome)
  let missing := ((List.range 24).filter (fun m => !(mods.contains m))).foldl (fun n m => n + 2 ^ m) 0
  let s1 := all.foldl (fun u m => (u.sendMsg (u.message 0x32 m 0 (leBytes 1 b ++ leBytes 1 (s.barGen b)) [])).getD u) s
  s1.barBreak b missing

/-- R285: BAR_TIMEOUT: TMO_US after the first arrival of a generation that has not completed. -/
def execBarTimeout (b : Fin 32) (s : State) : Out :=
  match (s.bar b.val).first with
  | some t =>
    if s.flag (rBAR_CFG b.val) fBAR_CFG_FAB ∧ s.barSt b.val ≠ 2 ∧ (s.bar b.val).releaseAt.isNone ∧
        t + s.fld (rBAR_TMO b.val) fBAR_TMO_TMO_US * 1000 ≤ s.time.ns then
      if s.fld (rBAR_CFG b.val) fBAR_CFG_HOME = s.modId then done (s.barBreakHome b.val)
      else done (s.barBreak b.val 0)
    else done s
  | none => done s

/-- R283: the BARRIER_RELEASE cue action: TIME + TOL of the cue. None where the barrier is not a CUE-mode barrier. -/
def State.barCue (s : State) (b limit : Nat) : State :=
  if s.barSt b = 1 then s.barRelease b (decide (limit < s.now))
  else s.setBar b { s.bar b with cue := some limit }

end Sys2Proof.Machine
end

