-- ==== Sys2Proof/Machine/DmaDesc.lean ====
section
/-!
DEFINITION. The DMA descriptor: its fields, its sides, and the checks before the first byte (R239 to R243, R264).
-/
namespace Sys2Proof.Machine

/-- R239, R240: one side of a descriptor. -/
structure Side where
  kind : Nat
  addr : Nat
  width : Nat
  cache : Bool
  c0 : Nat
  c1 : Nat
  c2 : Nat
  s0 : Int
  s1 : Int
  s2 : Int
  /-- The fields D5 to D8 or D9 to D12 are all zero. -/
  noLoops : Bool
  deriving DecidableEq, Repr

/-- A field of a descriptor. -/
def dfield (d : List Nat) (n hi lo : Nat) : Nat := bitsOf (d.getD n 0) hi lo

/-- R239: the source or the destination of a descriptor. -/
def descSide (d : List Nat) (dst : Bool) : Side :=
  let a := if dst then 3 else 1
  let l := if dst then 9 else 5
  { kind := dfield d (a + 1) 31 29
    addr := d.getD a 0 + dfield d (a + 1) 7 0 * 2 ^ 32
    width := 2 ^ dfield d (a + 1) 28 26
    cache := bitOf (d.getD (a + 1) 0) 25
    c0 := dfield d l 15 0 + 1
    c1 := dfield d l 31 16 + 1
    c2 := dfield d (l + 1) 15 0 + 1
    s0 := signed 16 (dfield d (l + 1) 31 16)
    s1 := signed 24 (dfield d (l + 2) 23 0)
    s2 := signed 32 (d.getD (l + 3) 0)
    noLoops := d.getD l 0 == 0 && d.getD (l + 1) 0 == 0 && d.getD (l + 2) 0 == 0 && d.getD (l + 3) 0 == 0 }

/-- R240: the elements of a side. -/
def Side.count (x : Side) : Nat := x.c0 * x.c1 * x.c2

/-- R240: the length of a side's stream. -/
def Side.stream (x : Side) : Nat := x.count * x.width

/-- R240: the address of element `i` of a side, in stream order. -/
def Side.elemAddr (x : Side) (i : Nat) : Int :=
  (x.addr : Int) + (i % x.c0 : Nat) * x.s0 + (i / x.c0 % x.c1 : Nat) * x.s1 + (i / (x.c0 * x.c1) : Nat) * x.s2

/-- R240: the address of byte `p` of a side's stream. -/
def Side.byteAddr (x : Side) (p : Nat) : Int := x.elemAddr (p / x.width) + (p % x.width : Nat)

/-- The span of the elements of a box of loop indices: lowest address, and highest address plus the width. -/
def Side.box (x : Side) (a0 b0 a1 b1 a2 b2 : Nat) : Int × Int :=
  let lo (a b : Nat) (s : Int) : Int := if s < 0 then (b : Int) * s else (a : Int) * s
  let hi (a b : Nat) (s : Int) : Int := if s < 0 then (a : Int) * s else (b : Int) * s
  ((x.addr : Int) + lo a0 b0 x.s0 + lo a1 b1 x.s1 + lo a2 b2 x.s2,
    (x.addr : Int) + hi a0 b0 x.s0 + hi a1 b1 x.s1 + hi a2 b2 x.s2 + (x.width : Int))

/-- R242: the bounding range of a side. -/
def Side.bounds (x : Side) : Int × Int := x.box 0 (x.c0 - 1) 0 (x.c1 - 1) 0 (x.c2 - 1)

/-- R253: the bounding range of the elements from `k` on; none where there are none. -/
def Side.boundsFrom (x : Side) (k : Nat) : Option (Int × Int) :=
  if x.count ≤ k then none
  else
    let i0 := k % x.c0
    let i1 := k / x.c0 % x.c1
    let i2 := k / (x.c0 * x.c1)
    let join (a b : Int × Int) : Int × Int := (min a.1 b.1, max a.2 b.2)
    let b := x.box i0 (x.c0 - 1) i1 i1 i2 i2
    let b1 := if i1 + 1 < x.c1 then join b (x.box 0 (x.c0 - 1) (i1 + 1) (x.c1 - 1) i2 i2) else b
    some (if i2 + 1 < x.c2 then join b1 (x.box 0 (x.c0 - 1) 0 (x.c1 - 1) (i2 + 1) (x.c2 - 1)) else b1)

/-- R239: XFORM, and its kinds. -/
def xform (d : List Nat) : Nat := dfield d 0 19 16
/-- R239: an FRC transform: encoding or decoding. -/
def isFrc (x : Nat) : Bool := decide (1 ≤ x ∧ x ≤ 8)
/-- R264: the FRC format of a transform. -/
def frcFormat (x : Nat) : Nat := if x ≤ 4 then x else x - 4
/-- R239: TYPE. -/
def descType (d : List Nat) : Nat := dfield d 13 18 16
/-- R241: UNPACK. -/
def unpack (d : List Nat) : Bool := bitOf (d.getD 0 0) 15

/-- R239, R214: a DPA side that names the own window of the core that the engine belongs to is treated as LOCAL. -/
def State.ownSide (s : State) (e : Nat) (x : Side) : Side :=
  let n := (x.addr - 0x4000000000) / 0x1000000
  if x.kind = 2 ∧ e < 9 ∧ 0x4000000000 ≤ x.addr ∧ n ≤ 8 ∧ s.phys n = e then
    { x with
      kind := 0
      addr := (x.addr - 0x4000000000) % 0x1000000 }
  else x

/-- R243: a memmove, for which an overlap is legal. -/
def isMemmove (d : List Nat) (a b : Side) : Bool :=
  !unpack d && xform d == 0 && a.width == b.width && a.c1 == 1 && a.c2 == 1 && b.c1 == 1 && b.c2 == 1 &&
    decide (a.s0 = a.width ∧ b.s0 = b.width)

/-- R242, check 0x4: every element address is a multiple of the width. -/
def Side.aligned (x : Side) : Bool :=
  x.kind == 3 || (x.addr % x.width == 0 && (x.c0 == 1 || decide (x.s0 % x.width = 0)) &&
    (x.c1 == 1 || decide (x.s1 % x.width = 0)) && (x.c2 == 1 || decide (x.s2 % x.width = 0)))

/-- R242, check 0x1: a reserved field is nonzero, or a KIND, WIDTH, XFORM, TYPE, PEER_KIND or PEER_MOD is illegal. -/
def check1 (d : List Nat) : Bool :=
  let x := xform d
  dfield d 0 12 0 != 0 || dfield d 2 24 8 != 0 || dfield d 4 24 8 != 0 || dfield d 7 31 24 != 0 ||
  dfield d 11 31 24 != 0 || dfield d 13 31 28 != 0 || dfield d 13 23 22 != 0 || dfield d 13 19 19 != 0 ||
  dfield d 14 7 7 != 0 || dfield d 15 23 16 != 0 ||
  decide (4 < dfield d 2 31 29) || decide (4 < dfield d 4 31 29) || decide (4 < dfield d 2 28 26) ||
  decide (4 < dfield d 4 28 26) || decide (0xA < x) || decide (3 < descType d) || decide (1 < dfield d 14 6 5) ||
  decide (23 < dfield d 14 4 0) ||
  (x == 0 && d.getD 13 0 != 0) || (isFrc x && (dfield d 13 27 20 != 0 || dfield d 13 15 0 != 0)) ||
  (dfield d 14 7 0 != 0 && dfield d 2 31 29 != 4 && dfield d 4 31 29 != 4)

/-- R242, check 0x7: the FRC rules of R264 and R119. A USB side names a stream and not an address (log entry 52). -/
def check7 (d : List Nat) (a b : Side) : Bool :=
  let x := xform d
  let f := frcFormat x
  let (plain, comp) := if x ≤ 4 then (a, b) else (b, a)
  isFrc x && (comp.kind != 1 || !comp.noLoops || comp.addr % frcBlock f != 0 || decide (plain.s0 ≠ plain.width) ||
    plain.c0 * plain.width % frcUnit f != 0 || (plain.kind != 3 && plain.addr % frcUnit f != 0) || decide (plain.s1 % frcUnit f ≠ 0) ||
    decide (plain.s2 % frcUnit f ≠ 0) || decide (typeBytes (descType d) * 8 ≠ frcWidth f))

/-- R242, check 0x8: the NB4 rules. -/
def check8 (d : List Nat) (a b : Side) : Bool :=
  let x := xform d
  let (peer, loc) := if x = 9 then (b, a) else (a, b)
  (x == 9 || x == 0xA) && (peer.kind != 4 || descType d == 3 || loc.width != typeBytes (descType d) || !peer.noLoops)

/-- R243, check 0x9: source and destination overlap where that is not legal. -/
def check9 (d : List Nat) (a b : Side) : Bool :=
  let (x, y) := (a.bounds, b.bounds)
  a.kind == b.kind && (a.kind == 0 || a.kind == 1 || a.kind == 2) && decide (x.1 < y.2 ∧ y.1 < x.2) && !isMemmove d a b

/-- R242, check 0x5: a LOCAL side lies wholly within the local store, X memory or Y memory. -/
def Side.localOk (x : Side) : Bool :=
  let (lo, hi) := x.bounds
  x.kind != 0 || decide (0 ≤ lo ∧ hi ≤ 0x600000) || decide (0x600000 ≤ lo ∧ hi ≤ 0x640000) ||
    decide (0x640000 ≤ lo ∧ hi ≤ 0x680000)

/-- R242: the first check that a descriptor fails on engine `e` (9 the hub), 0 where it passes all. -/
def State.descCheck (s : State) (e : Nat) (d : List Nat) : Nat :=
  let a := s.ownSide e (descSide d false)
  let b := s.ownSide e (descSide d true)
  let x := xform d
  let accepted (y : Side) : Bool := if e < 9 then decide (y.kind ≤ 2) else decide (1 ≤ y.kind ∧ y.kind ≤ 4)
  let cacheOk (y : Side) : Bool := !y.cache || (decide (e < 9) && y.kind == 1)
  let tvaOk (y : Side) : Bool := y.kind != 1 || decide (0 ≤ y.bounds.1 ∧ y.bounds.2 ≤ 2 ^ 40)
  if check1 d then 1
  else if !accepted a || !accepted b || !cacheOk a || !cacheOk b then 2
  else if (x == 0 && !unpack d && a.stream != b.stream) || (unpack d && a.count != b.count) || (unpack d && x != 0) then 3
  else if !a.aligned || !b.aligned then 4
  else if !a.localOk || !b.localOk then 5
  else if !tvaOk a || !tvaOk b then 6
  else if check7 d a b then 7
  else if check8 d a b then 8
  else if check9 d a b then 9
  else 0

/-! ### Atoms: what moves as one -/

/-- R241, R264, R265: how a descriptor moves its bytes: source and destination bytes of one atom, and the number of atoms. An
atom is an element of an unpacked transfer, the larger width of a packed one, an FRC unit, or an NB4 block (R259). -/
structure Atoms where
  src : Nat
  dst : Nat
  count : Nat
  deriving DecidableEq, Repr

/-- The atoms of a descriptor. -/
def descAtoms (d : List Nat) (a b : Side) : Atoms :=
  let x := xform d
  let f := frcFormat x
  let tb := typeBytes (descType d)
  if isFrc x then
    if x ≤ 4 then ⟨frcUnit f, frcBlock f, a.stream / frcUnit f⟩ else ⟨frcBlock f, frcUnit f, b.stream / frcUnit f⟩
  else if x = 9 then ⟨64 * tb, 36, (a.stream + 64 * tb - 1) / (64 * tb)⟩
  else if x = 0xA then ⟨36, 64 * tb, (b.stream + 64 * tb - 1) / (64 * tb)⟩
  else if unpack d then ⟨a.width, b.width, a.count⟩
  else ⟨max a.width b.width, max a.width b.width, a.stream / max a.width b.width⟩

/-- R241: a destination element formed in the holding register from a source element. -/
def reshape (sext : Bool) (n : Nat) (b : List Byte) : List Byte :=
  if n ≤ b.length then b.take n
  else b ++ List.replicate (n - b.length) (if sext ∧ bitOf ((b.getLast?.getD 0).toNat) 7 then 0xFF else 0)

/-- What an atom's source bytes become, and how many FRC elements were saturated. -/
def atomOut (d : List Nat) (lv : List Nat) (seq : Nat) (dstBytes : Nat) (b : List Byte) : List Byte × Nat :=
  let x := xform d
  let t := descType d
  if x = 0 then (if unpack d then reshape (bitOf (d.getD 0 0) 14) dstBytes b else b, 0)
  else if x ≤ 4 then (frcEncode x t b, 0)
  else if x ≤ 8 then frcDecode (x - 4) t b
  else (nb4Encode lv (signed 16 (dfield d 13 15 0)) (dfield d 13 21 20) seq (elems t b), 0)

end Sys2Proof.Machine
end

