-- ==== Sys2Proof/Machine/Dma.lean ====
section
/-!
DEFINITION. The DMA engines (R236 to R267): descriptor rings, translation, movement, faults, completion, abort, shadows, posts
and mailboxes. Engines 0 to 8 are those of the physical cores, 9 is the hub's.
-/
namespace Sys2Proof.Machine

/-! ### Channels -/

/-- One channel. -/
def State.chan (s : State) (e n : Nat) : DmaChan := Cells.get (fun _ => {}) s.dma (64 * e + n)
/-- The state with one channel replaced. -/
def State.setChan (s : State) (e n : Nat) (x : DmaChan) : State := { s with dma := Cells.set (fun _ => {}) s.dma (64 * e + n) x }
/-- The state with one channel changed. -/
def State.modChan (s : State) (e n : Nat) (f : DmaChan → DmaChan) : State := s.setChan e n (f (s.chan e n))

/-- R236: an engine has this channel. -/
def chanOk (e n : Nat) : Bool := decide (e < 9 ∧ n < 16) || decide (e = 9 ∧ n < 64)

/-- The physical engine of a slot: 0 to 8 a core slot, 9 the hub. -/
def State.engine (s : State) (b : Nat) : Nat := if b < 9 then s.phys b else 9

/-- R219: the number by which a channel registers. -/
def chanAgent (e n : Nat) : Nat := if e < 9 then 16 + n else 64 + n

/-- R268: a field of the live configuration. -/
def State.chCfg (s : State) (e n : Nat) (f : Fld) : Nat := s.fld (rDMA_CH_CFG e n) f

/-- R252: the channel is enabled. -/
def State.chEn (s : State) (e n : Nat) : Bool := s.flag (rDMA_CH_CTL e n) fDMA_CH_CTL_EN

/-- R272: the script that owns a channel. -/
def State.chanScript (s : State) (e n : Nat) : Option Nat :=
  (s.scripts.find? (fun (x : Nat × Script) =>
    if e < 9 then x.2.decl.cores.any (fun d => d.core == s.slotOf e && bitOf d.channels n)
    else x.2.hubChans.contains n)).map (·.1)

/-- The sides of a channel's descriptor, as the engine sees them; the compressed side of an FRC transfer runs on linearly. -/
def State.chSides (s : State) (e n : Nat) : Side × Side :=
  let d := (s.chan e n).desc
  let a := s.ownSide e (descSide d false)
  let b := s.ownSide e (descSide d true)
  let x := xform d
  let run (y : Side) (bytes : Nat) : Side := { y with
    width := 16
    c0 := bytes / 16
    s0 := 16 }
  if isFrc x then
    let f := frcFormat x
    if x ≤ 4 then (a, run b (a.stream / frcUnit f * frcBlock f)) else (run a (b.stream / frcUnit f * frcBlock f), b)
  else (a, b)

/-- The atoms of a channel's descriptor. -/
def State.chAtoms (s : State) (e n : Nat) : Atoms :=
  let d := (s.chan e n).desc
  descAtoms d (s.ownSide e (descSide d false)) (s.ownSide e (descSide d true))

/-- R259: POS, SIDX and DIDX of a channel show what has been written. -/
def State.notePos (s : State) (e n : Nat) : State :=
  let (a, b) := s.chSides e n
  let t := s.chAtoms e n
  let k := (s.chan e n).pos
  let p := k * t.dst
  let word (x : Side) (i : Nat) : Word × Word :=
    (BitVec.ofNat 32 (i % x.c0 + i / x.c0 % x.c1 % 65536 * 65536), BitVec.ofNat 32 (i / (x.c0 * x.c1) % 65536))
  let si := word a (k * t.src / a.width)
  let di := word b (p / b.width)
  let s1 := (s.setReg (rDMA_CH_POS_LO e n) (BitVec.ofNat 32 p)).setReg (rDMA_CH_POS_HI e n) (BitVec.ofNat 32 (p / 2 ^ 32 % 65536))
  (((s1.setReg (rDMA_CH_SIDX0 e n) si.1).setReg (rDMA_CH_SIDX1 e n) si.2).setReg (rDMA_CH_DIDX0 e n) di.1).setReg
    (rDMA_CH_DIDX1 e n) di.2

/-! ### The fault queue and stops -/

/-- R255: an entry into FAULT or HALT is posted; a channel's outstanding entry is replaced in place. -/
def State.postFault (s : State) (e n : Nat) (err kind : Nat) (dst : Bool) (addr : Nat) : State :=
  let x : FaultEntry := ⟨if e < 9 then s.slotOf e else 0xF, n, err, kind, dst, s.chCfg e n fDMA_CH_CFG_ASID, addr⟩
  let q := s.hub.faultQ
  let q1 := if q.any (fun y => y.engine == x.engine && y.chan == n) then
      q.map (fun y => if y.engine = x.engine ∧ y.chan = n then x else y)
    else q ++ [x]
  { s with hub := { s.hub with faultQ := q1 } }

/-- R268: ERR_LO and ERR_HI name an address. -/
def State.noteErrAddr (s : State) (e n : Nat) (kind : Nat) (ctrl : Bool) (addr : Nat) : State :=
  (s.setReg (rDMA_CH_ERR_LO e n) (BitVec.ofNat 32 addr)).setReg (rDMA_CH_ERR_HI e n)
    (BitVec.ofNat 32 (kind * 2 ^ 29 + b2n ctrl * 2 ^ 28 + addr / 2 ^ 32 % 256))

/-- R242, R254: the channel enters HALT. -/
def State.dmaHalt (s : State) (e n err kind : Nat) (dst : Bool) (addr : Nat) : State :=
  let s1 := s.modChan e n (fun x => { x with
    st := .halt
    err := err
    faultDst := dst
    faultKind := kind
    stopErr := none })
  s1.postFault e n err kind dst addr

/-- R503: a control access has failed. -/
def State.dmaCtrlFail (s : State) (e n : Nat) (a : CtrlAccess) (addr : Nat) : State :=
  let s1 := (s.noteErrAddr e n (if e < 9 then 0 else 2) true addr).modChan e n (fun x => { x with ctrl := some a })
  s1.dmaHalt e n 1 5 (a != .fetch) addr

/-! ### Control accesses -/

/-- R244: the address of the ring slot at HEAD: a byte offset of the core's word space, or a DPA. -/
def State.ringSlot (s : State) (e n : Nat) : Nat :=
  let h := (s.chan e n).head
  let base := (s.reg (rDMA_CH_RING_LO e n)).toNat + (if e < 9 then 0 else s.fld (rDMA_CH_RING_HI e n) fDMA_CH_RING_HI_BASE_HI * 2 ^ 32)
  if e < 9 then 0x600000 + 2 * (base % 65536) + 64 * h else base + 64 * h

/-- A read of an engine's ring or queue memory. -/
def State.ctrlRead (s : State) (e addr n : Nat) : Option (List Byte) × State :=
  if e < 9 then
    match s.coreWord e (addr / 2) with
    | .mem k => s.readMem k n
    | _ => (none, s)
  else s.dpaRead false addr n

/-- A write of an engine's ring or queue memory. -/
def State.ctrlWrite (s : State) (e addr : Nat) (b : List Byte) : Option State :=
  if e < 9 then
    match s.coreWord e (addr / 2) with
    | .mem k => s.writeMem k b
    | _ => none
  else s.dpaWrite false addr b

/-- Sixteen 32-bit fields, little-endian. -/
def fieldsOf (b : List Byte) : List Nat := (List.range 16).map (fun i => ofLeBytes ((b.drop (4 * i)).take 4))

/-! ### Hand-over, kick, fetch -/

/-- R263: the shadows are copied at once; a new ring base sets HEAD to 0. -/
def State.dmaHandover (s : State) (e n : Nat) : State :=
  let lo := s.reg (rDMA_CH_RING_LO_SH e n)
  let hi := s.reg (rDMA_CH_RING_HI_SH e n)
  let moved := lo != s.reg (rDMA_CH_RING_LO e n) || hi != s.reg (rDMA_CH_RING_HI e n)
  let cfg := s.reg (rDMA_CH_CFG_SH e n)
  let s1 := ((s.setReg (rDMA_CH_CFG e n) (setF cfg fDMA_CH_CFG_BUF_MAX (max 1 (getF cfg fDMA_CH_CFG_BUF_MAX)))).setReg
    (rDMA_CH_PACE e n) (s.reg (rDMA_CH_PACE_SH e n))).setReg (rDMA_CH_RING_LO e n) lo
  let s2 := (s1.setReg (rDMA_CH_RING_HI e n) hi).setFld (rDMA_CH_SHCTL e n) fDMA_CH_SHCTL_SEALED 0
  if moved then s2.modChan e n (fun x => { x with
    head := 0
    newRing := !(x.st == .idle) }) else s2

/-- R263: DMA_SHADOW_HANDOVER: a sealed set with AT_DESC = 1 hands over at a descriptor boundary. -/
def State.dmaBoundary (s : State) (e n : Nat) : State :=
  if s.flag (rDMA_CH_SHCTL e n) fDMA_CH_SHCTL_SEALED ∧ s.flag (rDMA_CH_SHCTL e n) fDMA_CH_SHCTL_AT_DESC ∧
      (s.chan e n).st = .idle ∧ !(s.chan e n).fetching then s.dmaHandover e n
  else s

/-- R263: DMA_SHADOW_HANDOVER of a channel of an engine slot. -/
def execDmaShadowHandover (b : Fin 10) (n : Fin 64) (s : State) : Out :=
  done (if chanOk (s.engine b.val) n.val then s.dmaBoundary (s.engine b.val) n.val else s)

/-- R263: DMA_SHADOW_SEAL: SHCTL.SEAL is written. -/
def State.dmaSeal (s : State) (e n : Nat) : State := s.setFld (rDMA_CH_SHCTL e n) fDMA_CH_SHCTL_SEALED 1

/-- R263: DMA_SHADOW_SEAL. -/
def execDmaShadowSeal (b : Fin 10) (n : Fin 64) (s : State) : Out :=
  done (if chanOk (s.engine b.val) n.val then s.dmaSeal (s.engine b.val) n.val else s)

/-- R244, R245: a KICK or launch reaches an enabled channel: LAUNCH_PEND is set, and an IDLE channel fetches. -/
def State.dmaLaunch (s : State) (e n : Nat) : State :=
  if s.chEn e n then
    s.modChan e n (fun x => { x with
      launchPend := true
      fetching := x.fetching || x.st == .idle })
  else s

/-- R244: DMA_KICK. -/
def execDmaKick (b : Fin 10) (n : Fin 64) (s : State) : Out :=
  done (if chanOk (s.engine b.val) n.val then s.dmaLaunch (s.engine b.val) n.val else s)

/-- R244: DMA_DESC_FETCH: the fetch at HEAD returns. -/
def State.dmaFetch (s : State) (e n : Nat) : State :=
  let x := s.chan e n
  if !x.fetching ∨ x.st ≠ .idle then s
  else
    let a := s.ringSlot e n
    match s.ctrlRead e a 64 with
    | (none, s1) => (s1.modChan e n (fun y => { y with fetching := false })).dmaCtrlFail e n .fetch a
    | (some b, s1) =>
      let d := fieldsOf b
      if !bitOf (d.getD 0 0) 31 then s1.modChan e n (fun y => { y with fetching := false })
      else s1.modChan e n (fun y => { y with
        fetching := false
        desc := d
        gen := dfield d 0 30 23
        slotAddr := a
        slotIdx := y.head
        newRing := false
        pos := 0
        started := false
        status := none
        stage := 0
        collided := false
        stale := y.stale + y.unacked
        unacked := 0
        err := 0
        check := 0
        nb4Seq := dfield d 13 27 24
        nb4Open := false
        nb4Stopped := false
        nb4Done := false
        st := if bitOf (d.getD 0 0) 20 ∧ !y.launchPend then .waitLaunch else .run })

/-- R244: DMA_DESC_FETCH. -/
def execDmaDescFetch (b : Fin 10) (n : Fin 64) (s : State) : Out :=
  done (if chanOk (s.engine b.val) n.val then s.dmaFetch (s.engine b.val) n.val else s)

/-! ### Ranges -/

/-- The words that a byte range of the core word space touches. -/
def wordsOf (r : Int × Int) : Nat × Nat := (r.1.toNat / 2, (r.2.toNat + 1) / 2)

/-- R253: the core, write ranges and read ranges that a channel's descriptor registers, from source and destination element
`a` and `b` on. -/
def State.chRanges (s : State) (e n a b : Nat) : Option (Nat × List (Nat × Nat) × List (Nat × Nat)) :=
  let (x, y) := s.chSides e n
  if e < 9 then
    let ws := if y.kind = 0 then ((y.boundsFrom b).map wordsOf).toList else []
    let rs := if x.kind = 0 then ((x.boundsFrom a).map wordsOf).toList else []
    if ws.isEmpty ∧ rs.isEmpty then none else some (e, ws, rs)
  else if y.kind = 2 then
    match y.boundsFrom b, s.windowWord y.addr with
    | some (lo, hi), some (p, w) =>
      let o : Int := (w : Int) * 2 - (y.addr : Int)
      if 0 ≤ lo + o ∧ hi + o ≤ 0x680000 then some (p, [wordsOf (lo + o, hi + o)], []) else none
    | _, _ => none
  else none

/-- R224, R253: the ranges of a stopped channel are narrowed to what it has not yet read or written. -/
def State.chNarrow (s : State) (e n : Nat) : State :=
  let x := s.chan e n
  let (a, b) := s.chSides e n
  let t := s.chAtoms e n
  match s.chRanges e n (x.pos * t.src / a.width) (x.pos * t.dst / b.width) with
  | none => s
  | some (p, ws, rs) =>
    (Cells.get (fun _ => []) (s.sboard p).granted (chanAgent e n)).foldl (fun u k =>
      match (if k.write then ws else rs) with
      | [] => u.sbRelease p (chanAgent e n) k
      | r :: _ => u.sbNarrow p k.entry r.1 r.2) s

/-- R253: everything that a channel holds is released. -/
def State.chRelease (s : State) (e n : Nat) : State :=
  let x := s.chan e n
  let s1 := s.sbReleaseAll x.ticketCore (chanAgent e n)
  let b := s1.sboard x.ticketCore
  if x.regWait then s1.setSboard x.ticketCore { b with waits := b.waits.filter (fun w => w.who != .reg (chanAgent e n)) } else s1

/-! ### Start -/

/-- R110, R367: a narrow transfer opens with the announcement of its table. None where the peer is UNREACHABLE. -/
def State.nb4Announce (s : State) (e n : Nat) : Option State :=
  let d := (s.chan e n).desc
  let lv := s.levels (dfield d 13 21 20)
  let body := (lv.drop 1).map (fun l => BitVec.ofNat 8 l) ++ leBytes 1 (dfield d 13 21 20) ++ leBytes 1 (dfield d 13 27 24)
  (s.sendMsg (s.message 0x10 (dfield d 14 4 0) n (leBytes 1 (dfield d 3 5 0)) (body ++ List.replicate (32 - body.length) 0))).map
    (fun t => t.modChan e n (fun x => { x with levels := lv }))

/-- R242, R245, R253: DMA_DESC_START: the channel starts its descriptor, after its launch where it waits for one. -/
def State.dmaStart (s : State) (e n : Nat) : State :=
  let x := s.chan e n
  let d := x.desc
  if x.started ∨ x.status.isSome ∨ !(x.st == .run || (x.st == .waitLaunch && x.launchPend)) then s
  else
    let s1 := s.modChan e n (fun y => { y with
      st := .run
      launchPend := if bitOf (d.getD 0 0) 20 then false else y.launchPend })
    let c := s1.descCheck e d
    if c ≠ 0 then
      let s2 := (s1.modChan e n (fun y => { y with check := c })).count (rDMA_ENG_REFUSE_CNT e)
      s2.dmaHalt e n (if c = 9 then 3 else 4) 0 false 0
    else
      let s2 := s1.modChan e n (fun y => { y with
        started := true
        levels := s.levels (dfield d 13 21 20) })
      let s3 := match s2.chRanges e n 0 0 with
        | none => s2
        | some (p, ws, rs) =>
          let (t, ok) := s2.sbRegister p (chanAgent e n) ws rs
          t.modChan e n (fun y => { y with
            ticketCore := p
            regWait := !ok })
      let s4 := if xform d = 0xA then s3.setFld (rDMA_CH_NB4 e n) fDMA_CH_NB4_EXPECT (dfield d 13 27 24) else s3
      if xform d = 9 then
        match s4.nb4Announce e n with
        | some s5 => s5
        | none => s4.modChan e n (fun y => { y with stopErr := some (5, true, d.getD 3 0) })
      else s4

/-- R242: DMA_DESC_START. -/
def execDmaDescStart (b : Fin 10) (n : Fin 64) (s : State) : Out :=
  done (if chanOk (s.engine b.val) n.val then s.dmaStart (s.engine b.val) n.val else s)

/-! ### Translation -/

/-- R257: the fault of a page-table entry, 0 where it translates. -/
def ptFault (v : Nat) (write : Bool) : Nat :=
  if bitsOf v 63 36 ≠ 0 ∨ bitsOf v 20 3 ≠ 0 then 4
  else if bitOf v 2 then 3 else if !bitOf v 0 then 1 else if write ∧ !bitOf v 1 then 2 else 0

/-- R257: the place of a page-table entry. -/
def State.ptPlace (s : State) (asid page : Nat) : Nat :=
  s.fld (rHUB_PT_BASE_LO asid) fHUB_PT_BASE_LO_BASE * 2 ^ 22 + s.fld (rHUB_PT_BASE_HI asid) fHUB_PT_BASE_HI_BASE_HI * 2 ^ 32 + 8 * page

/-- Why an access does not go on: it waits, it needs a page walk, it faults with a kind, or it ends in a bus error with kind 5
or an ECC error with kind 6. -/
inductive Stop where
  | wait
  | walk (page : Nat)
  | fault (kind : Nat)
  | bad (kind : Nat)
  deriving DecidableEq, Repr

/-- R257, R258: a TVA through the translation cache. -/
def State.translate (s : State) (asid tva : Nat) (write : Bool) : Except Stop Nat :=
  let page := tva / 2 ^ 21 % 2 ^ 19
  match s.hub.tlb.find? (fun x => x.1 == asid && x.2.1 == page) with
  | none => .error (.walk page)
  | some x =>
    let k := ptFault x.2.2 write
    if k ≠ 0 then .error (.fault k) else .ok (bitsOf x.2.2 35 21 * 2 ^ 21 + tva % 2 ^ 21)

/-- R14, R232: bytes of a target, as an access of a DMA engine. -/
def State.targetRead (s : State) (t : Target) (n : Nat) : Except Stop (List Byte) × State :=
  match t with
  | .mem k =>
    match s.readMem k n with
    | (some b, s1) => (.ok b, s1)
    | (none, s1) => (.error (.bad 6), s1)
  | .wait => (.error .wait, s)
  | _ => (.error (.bad 5), s)

/-- R14, R232: bytes are written at a target. -/
def State.targetWrite (s : State) (t : Target) (b : List Byte) : Except Stop State :=
  match t with
  | .mem k => match s.writeMem k b with | some s1 => .ok s1 | none => .error (.bad 5)
  | .wait => .error .wait
  | _ => .error (.bad 5)

/-- An element of a LOCAL, TVA or DPA side is read. -/
def State.readElem (s : State) (e asid : Nat) (x : Side) (a : Nat) : Except Stop (List Byte) × State :=
  if x.kind = 0 then
    match s.coreWord e (a / 2) with
    | .mem k => s.targetRead (.mem (k + a % 2)) x.width
    | t => s.targetRead t x.width
  else if x.kind = 1 then
    match s.translate asid a false with
    | .error t => (.error t, s)
    | .ok d =>
      if x.cache then
        match s.cachedRead (clusterOf (s.slotOf e)) d x.width with
        | (some b, s1) => (.ok b, s1)
        | (none, s1) => (.error (.bad 6), s1)
      else s.targetRead (s.target false d) x.width
  else s.targetRead (s.target false a) x.width

/-- An element of a LOCAL, TVA or DPA side is written. -/
def State.writeElem (s : State) (e asid : Nat) (x : Side) (a : Nat) (b : List Byte) : Except Stop State :=
  if x.kind = 0 then
    match s.coreWord e (a / 2) with
    | .mem k => s.targetWrite (.mem (k + a % 2)) b
    | t => s.targetWrite t b
  else if x.kind = 1 then
    match s.translate asid a true with
    | .error t => .error t
    | .ok d =>
      if x.cache then
        match s.cachedWrite (clusterOf (s.slotOf e)) d b with
        | some s1 => .ok s1
        | none => .error (.bad 5)
      else s.targetWrite (s.target false d) b
  else s.targetWrite (s.target false a) b

/-- The elements from `i` up, `n` of them: their bytes, or the stop and the address where it came. -/
def State.readElems (s : State) (e asid : Nat) (x : Side) (i : Nat) : Nat → Except (Stop × Nat) (List Byte) × State
  | 0 => (.ok [], s)
  | n + 1 =>
    let a := (x.elemAddr i).toNat
    match s.readElem e asid x a with
    | (.error t, s1) => (.error (t, a), s1)
    | (.ok b, s1) =>
      match s1.readElems e asid x (i + 1) n with
      | (.error t, s2) => (.error t, s2)
      | (.ok c, s2) => (.ok (b ++ c), s2)

/-- The elements from `i` up, `n` of them, are written from a string of bytes, which may end inside the last one. -/
def State.writeElems (s : State) (e asid : Nat) (x : Side) (i : Nat) : Nat → List Byte → Except (Stop × Nat) State
  | 0, _ => .ok s
  | n + 1, b =>
    if b.isEmpty then .ok s
    else
      let a := (x.elemAddr i).toNat
      match s.writeElem e asid x a (b.take x.width) with
      | .error t => .error (t, a)
      | .ok s1 => s1.writeElems e asid x (i + 1) n (b.drop x.width)

/-! ### Movement -/

/-- R243: the atoms of a memmove whose destination lies above its source go from the highest down; every other transfer goes
in stream order. -/
def State.atomIndex (s : State) (e n : Nat) (k : Nat) : Nat :=
  let d := (s.chan e n).desc
  let (a, b) := s.chSides e n
  let t := s.chAtoms e n
  if a.kind = b.kind ∧ a.kind ≤ 2 ∧ isMemmove d a b ∧ a.addr < b.addr ∧ b.bounds.1 < a.bounds.2 then t.count - 1 - k else k

/-- The source bytes of atom `k`: the last NB4 block may be short. -/
def State.atomRead (s : State) (e n k : Nat) : Except (Stop × Nat) (List Byte) × State :=
  let (a, _) := s.chSides e n
  let t := s.chAtoms e n
  if a.kind = 3 then
    let have_ := Cells.get (fun _ => []) s.usb.outData n
    if have_.length < t.src then (.error (.wait, a.addr), s)
    else (.ok (have_.take t.src), { s with usb := { s.usb with outData := Cells.set (fun _ => []) s.usb.outData n (have_.drop t.src) } })
  else
    let i := k * t.src / a.width
    s.readElems e (s.chCfg e n fDMA_CH_CFG_ASID) a i (min (t.src / a.width) (a.count - i))

/-- Where the destination is a peer: the bytes of an atom with their addresses. -/
def peerBytes (x : Side) (p : Nat) : List Byte → List (Nat × Byte)
  | [] => []
  | b :: bs => ((x.byteAddr p).toNat, b) :: peerBytes x (p + 1) bs

/-- R237: bytes at consecutive addresses within one aligned 64-byte line form one burst. -/
def bursts : List (Nat × Byte) → List (Nat × List Byte)
  | [] => []
  | (a, b) :: l =>
    match bursts l with
    | [] => [(a, [b])]
    | (a', bs) :: r => if a' = a + 1 ∧ a' % 64 ≠ 0 then (a, b :: bs) :: r else (a, [b]) :: (a', bs) :: r

/-- R357, R365: a burst leaves as a WR message; none where the peer is UNREACHABLE. -/
def State.sendWr (s : State) (e n : Nat) (x : Nat × List Byte) : Option State :=
  let d := (s.chan e n).desc
  let m := s.message 1 (dfield d 14 4 0) s.hub.nextTag (leBytes 2 x.2.length) x.2
  let m := { m with
    kind := dfield d 14 6 5 == 1
    asid := s.chCfg e n fDMA_CH_CFG_ASID
    addr := x.1 }
  let s1 := { s with hub := { s.hub with nextTag := (s.hub.nextTag + 1) % 65536 } }
  (s1.sendReq m 1 n x.2.length x.1).map (fun t => t.modChan e n (fun y => { y with unacked := y.unacked + 1 }))

/-- The bytes of an atom go to the destination. -/
def State.atomWrite (s : State) (e n k : Nat) (b : List Byte) : Except (Stop × Nat) State :=
  let (_, y) := s.chSides e n
  let t := s.chAtoms e n
  let d := (s.chan e n).desc
  if y.kind = 3 then
    let data := Cells.set (fun _ => []) s.usb.inData n (Cells.get (fun _ => []) s.usb.inData n ++ b)
    .ok ({ s with usb := { s.usb with inData := data } }.modChan e n (fun z => { z with unacked := z.unacked + 1 }))
  else if y.kind = 4 then
    if xform d = 9 then
      let idx := leBytes 1 (dfield d 3 5 0) ++ leBytes 1 1 ++ leBytes 2 0 ++ leBytes 4 k
      match s.sendMsg (s.message 0x11 (dfield d 14 4 0) n idx b) with
      | some s1 => .ok s1
      | none => .error (.bad 5, d.getD 3 0)
    else
      (bursts (peerBytes y (k * t.dst) b)).foldl (fun r x =>
        match r with
        | .error z => .error z
        | .ok u => match u.sendWr e n x with | some v => .ok v | none => .error (.bad 5, x.1)) (.ok s)
  else
    match s.writeElems e (s.chCfg e n fDMA_CH_CFG_ASID) y (k * t.dst / y.width) ((b.length + y.width - 1) / y.width) b with
    | .error z => .error z
    | .ok s1 => .ok (s1.modChan e n (fun z => { z with unacked := z.unacked + 1 }))

/-- R254, R257, R259: a stop on one side of a channel. -/
def State.noteStop (s : State) (e n : Nat) (dst : Bool) (x : Stop × Nat) : State :=
  match x.1 with
  | .wait => s
  | .walk page => s.modChan e n (fun y => { y with walk := some ⟨s.chCfg e n fDMA_CH_CFG_ASID, page, dst, dst, x.2⟩ })
  | .fault k => s.modChan e n (fun y => { y with stopFault := some (k, dst, x.2) })
  | .bad k => s.modChan e n (fun y => { y with stopErr := some (k, dst, x.2) })

/-- R247: the completion point, once the last write is issued, or acknowledged with BARRIER = 1. -/
def State.dmaPoint (s : State) (e n : Nat) : State :=
  let x := s.chan e n
  let barrier := bitOf (x.desc.getD 0 0) 22
  if x.started ∧ x.status.isNone ∧ x.st = .run ∧ (s.chAtoms e n).count ≤ x.pos ∧
      (!barrier ∨ (x.unacked = 0 ∧ (xform x.desc ≠ 9 ∨ x.nb4Done))) then
    s.modChan e n (fun y => { y with status := some 0 })
  else s

/-- An atom of the stream is moved. Whether it went is the second part. -/
def State.moveAtom (s : State) (e n : Nat) : State × Bool :=
  let x := s.chan e n
  let k := s.atomIndex e n x.pos
  match s.atomRead e n k with
  | (.error z, s1) => (s1.noteStop e n false z, false)
  | (.ok b, s1) =>
    let (o, clamped) := atomOut x.desc x.levels (x.nb4Seq + x.pos) (s.chAtoms e n).dst b
    match s1.atomWrite e n k o with
    | .error z => (s.noteStop e n true z, false)
    | .ok s2 =>
      ((s2.countBy (rDMA_ENG_FRC_CLAMP_CNT e) wholeReg clamped).modChan e n (fun y => { y with pos := y.pos + 1 }), true)

/-- Up to `k` atoms are moved, until one stops. -/
def State.moveAtoms (s : State) (e n : Nat) : Nat → State
  | 0 => s
  | k + 1 =>
    if (s.chAtoms e n).count ≤ (s.chan e n).pos then s
    else match s.moveAtom e n with
      | (s1, true) => s1.moveAtoms e n k
      | (s1, false) => s1

/-- R251: the watched queue makes the channel pause, or lets it run again. -/
def State.paceStops (s : State) (e n : Nat) : Bool :=
  let fill := (s.hq (s.fld (rDMA_CH_PACE e n) fDMA_CH_PACE_QID)).length
  let mode := s.fld (rDMA_CH_PACE e n) fDMA_CH_PACE_MODE
  let stop := s.fld (rDMA_CH_PACE e n) fDMA_CH_PACE_STOP
  (mode == 1 && decide (stop ≤ fill)) || (mode == 2 && decide (fill ≤ stop))

/-- R357: the reads of the next atoms of a PEER source leave as RD messages. -/
def State.sendReads (s : State) (e n k : Nat) : State :=
  let x := s.chan e n
  let (a, _) := s.chSides e n
  let t := s.chAtoms e n
  let k := min k (t.count - x.pos)
  let addrs := (List.range (k * t.src)).map (fun p => ((a.byteAddr (x.pos * t.src + p)).toNat, (0 : Byte)))
  let go (r : State × Nat × Bool) (c : Nat × List Byte) : State × Nat × Bool :=
    let (u, off, ok) := r
    let m := u.message 2 (dfield x.desc 14 4 0) u.hub.nextTag (leBytes 2 c.2.length) []
    let m := { m with
      kind := dfield x.desc 14 6 5 == 1
      asid := u.chCfg e n fDMA_CH_CFG_ASID
      addr := c.1 }
    let u1 := { u with hub := { u.hub with nextTag := (u.hub.nextTag + 1) % 65536 } }
    match u1.sendReq m 2 n c.2.length off with
    | some v => (v.modChan e n (fun y => { y with peerLeft := y.peerLeft + 1 }), off + c.2.length, ok)
    | none => (u1.modChan e n (fun y => { y with stopErr := some (5, false, c.1) }), off, false)
  if k = 0 then s
  else ((bursts addrs).foldl go (s.modChan e n (fun y => { y with
    peerAtoms := k
    peerGot := [] }), 0, true)).1

/-- R237: DMA_READ_RETURN: data of the next atoms, at most `k`, returns and is written. -/
def State.dmaRead (s : State) (e n k : Nat) : State :=
  let x := s.chan e n
  let granted := !(x.regWait && (Cells.get (fun _ => []) (s.sboard x.ticketCore).granted (chanAgent e n)).isEmpty)
  if !x.started ∨ x.st ≠ .run ∨ x.status.isSome ∨ !granted ∨ x.walk.isSome ∨ x.stopFault.isSome ∨ x.stopErr.isSome ∨ x.nb4Stopped ∨
      xform x.desc = 0xA then s
  else
    let s1 := s.modChan e n (fun y => { y with regWait := false })
    if s1.paceStops e n then s1.modChan e n (fun y => { y with st := .paced })
    else if (s1.chSides e n).1.kind = 4 then (if x.peerLeft = 0 then s1.sendReads e n k else s1)
    else ((s1.moveAtoms e n k).notePos e n).dmaPoint e n

/-- R237: DMA_READ_RETURN. -/
def execDmaReadReturn (b : Fin 10) (n : Fin 64) (k : Nat) (s : State) : Out :=
  done (if chanOk (s.engine b.val) n.val then s.dmaRead (s.engine b.val) n.val k else s)

/-- R357: peer read data of a channel returns; when all of it is there, the atoms are written in order. -/
def State.dmaPeerData (s : State) (e n off : Nat) (b : List Byte) : State :=
  let s1 := s.modChan e n (fun y => { y with
    peerLeft := y.peerLeft - 1
    peerGot := y.peerGot ++ [(off, b)] })
  let x := s1.chan e n
  if x.peerLeft ≠ 0 ∨ x.st ≠ .run then s1
  else
    let byte (p : Nat) : Byte :=
      ((x.peerGot.find? (fun c => decide (c.1 ≤ p ∧ p < c.1 + c.2.length))).map (fun c => c.2.getD (p - c.1) 0)).getD 0
    let t := s1.chAtoms e n
    let go (u : State) (j : Nat) : State :=
      if (u.chan e n).stopErr.isSome ∨ (u.chan e n).stopFault.isSome ∨ (u.chan e n).walk.isSome then u
      else
        let src := (List.range t.src).map (fun p => byte (j * t.src + p))
        match u.atomWrite e n (u.chan e n).pos (atomOut x.desc x.levels 0 t.dst src).1 with
        | .error z => u.noteStop e n true z
        | .ok v => v.modChan e n (fun y => { y with pos := y.pos + 1 })
    let s2 := (List.range x.peerAtoms).foldl go s1
    ((s2.modChan e n (fun y => { y with
      peerAtoms := 0
      peerGot := [] })).notePos e n).dmaPoint e n

/-- R247: a write acknowledgement of a channel is counted; those of earlier descriptors come first. -/
def State.dmaAck (s : State) (e n : Nat) : State :=
  let x := s.chan e n
  if 0 < x.stale then s.modChan e n (fun y => { y with stale := y.stale - 1 })
  else if 0 < x.unacked then (s.modChan e n (fun y => { y with unacked := y.unacked - 1 })).dmaPoint e n
  else s

/-- R247: DMA_WRITE_ACK of a write inside the module. -/
def execDmaWriteAck (b : Fin 10) (n : Fin 64) (s : State) : Out :=
  done (if chanOk (s.engine b.val) n.val then s.dmaAck (s.engine b.val) n.val else s)

/-! ### Completion -/

/-- R246: the channel has finished its completion steps: ranges released, HEAD advanced, the next slot fetched. -/
def State.dmaFinish (s : State) (e n : Nat) : State :=
  let s0 := s.chRelease e n
  let x := s0.chan e n
  let size := 2 ^ min 8 (s0.chCfg e n fDMA_CH_CFG_RING_LOG2)
  let s1 := if bitOf (x.desc.getD 0 0) 21 then
      (if e < 9 then s0.raiseInt (s0.slotOf e) n
       else { s0 with hub := { s0.hub with prompterInts := if (1 + n) ∈ s0.hub.prompterInts then s0.hub.prompterInts
                               else s0.hub.prompterInts ++ [1 + n] } })
    else s0
  let s2 := s1.modChan e n (fun y => { y with
    st := .idle
    head := if y.newRing then 0 else if x.fw then y.head else (y.head + 1) % size
    lastStatus := y.status.getD 0
    lastCollided := y.collided
    started := false
    status := none
    stage := 0
    regWait := false
    walk := none
    stopFault := none
    stopErr := none
    fw := false
    ctrl := none })
  let s3 := s2.dmaBoundary e n
  s3.modChan e n (fun y => { y with fetching := s3.chEn e n && !x.fw })

/-- R248: HANDLE goes to HQ, or to FAILQ where STATUS is not OK; a full queue holds the channel in POSTING. -/
def State.dmaPush (s : State) (e n : Nat) : State :=
  let x := s.chan e n
  if bitOf (x.desc.getD 0 0) 13 then
    let q := if x.status = some 0 then dfield x.desc 14 15 8 else s.chCfg e n fDMA_CH_CFG_FAILQ
    let ok := match s.chanScript e n with
      | none => true
      | some k => k == s.fld (rHQ_CFG q) fHQ_CFG_OWNER
    let (r, s1) := s.hqPush ok q (dfield x.desc 14 31 16)
    if r.status = 2 then s.modChan e n (fun y => { y with st := .posting })
    else s1.dmaFinish e n
  else s.dmaFinish e n

/-- R249: the bytes of a completion record. -/
def State.cqRecord (s : State) (n : Nat) (prod log2 : Nat) : List Byte :=
  let x := s.chan 9 n
  let bytes := x.pos * (s.chAtoms 9 n).dst
  let failq := bitOf (x.desc.getD 0 0) 13 && x.status != some 0
  leBytes 2 (dfield x.desc 15 15 0) ++ leBytes 1 (n + 128 * (prod / 2 ^ log2 % 2)) ++ leBytes 1 (x.status.getD 0) ++
    leBytes 1 x.gen ++ leBytes 1 (b2n x.collided + 2 * b2n failq) ++ leBytes 2 x.slotIdx ++ leBytes 6 bytes ++
    leBytes 2 (if bitOf (x.desc.getD 0 0) 13 then dfield x.desc 14 31 16 else 0)

/-- R249: the hub channel writes its completion record, unless its queue is full. -/
def State.dmaRecord (s : State) (n : Nat) : State :=
  let q := s.chCfg 9 n fDMA_CH_CFG_CQ
  let log2 := s.fld (rHUB_CQ_BASE_HI q) fHUB_CQ_BASE_HI_SIZE_LOG2
  let prod := s.fld (rHUB_CQ_PROD q) fHUB_CQ_PROD_PROD
  let cons := s.fld (rHUB_CQ_CONS q) fHUB_CQ_CONS_CONS
  if (prod + 65536 - cons) % 65536 = 2 ^ log2 then
    let s1 := if (s.chan 9 n).st = .posting then s else s.count rHUB_CQ_FULL_CNT
    s1.modChan 9 n (fun y => { y with st := .posting })
  else
    let a := s.fld (rHUB_CQ_BASE_LO q) fHUB_CQ_BASE_LO_BASE * 64 + s.fld (rHUB_CQ_BASE_HI q) fHUB_CQ_BASE_HI_BASE_HI * 2 ^ 32 +
      16 * (prod % 2 ^ log2)
    match s.dpaWrite false a (s.cqRecord n prod log2) with
    | none => s.dmaCtrlFail 9 n .record a
    | some s1 => ((s1.setFld (rHUB_CQ_PROD q) fHUB_CQ_PROD_PROD ((prod + 1) % 65536)).modChan 9 n (fun y => { y with
        stage := 2
        st := .run })).dmaPush 9 n

/-- R246: the atomic write-back of D0 and D15, or the collision. -/
def State.dmaWriteBack (s : State) (e n : Nat) : State :=
  let x := s.chan e n
  match x.status with
  | none => s
  | some st =>
    if x.stage ≠ 0 ∨ x.st ≠ .run then s
    else if x.fw then (s.modChan e n (fun y => { y with stage := 2 })).dmaPush e n
    else
      match s.ctrlRead e x.slotAddr 4, s.ctrlRead e (x.slotAddr + 60) 4 with
      | (some d0, _), (some d15, _) =>
        let v := ofLeBytes d0
        let next (u : State) (col : Bool) : State :=
          let u1 := u.modChan e n (fun y => { y with
            stage := 1
            collided := col })
          if e < 9 then (u1.modChan e n (fun y => { y with stage := 2 })).dmaPush e n else u1
        if bitsOf v 30 23 ≠ x.gen then next (s.count (rDMA_CH_COLL_CNT e n)) true
        else
          match (s.ctrlWrite e x.slotAddr (leBytes 4 (v % 2 ^ 31))).bind (fun u =>
              u.ctrlWrite e (x.slotAddr + 60) (leBytes 4 (ofLeBytes d15 % 2 ^ 24 + st * 2 ^ 24))) with
          | none => s.dmaCtrlFail e n .writeBack x.slotAddr
          | some s1 => next s1 false
      | _, _ => s.dmaCtrlFail e n .writeBack x.slotAddr

/-- R246: DMA_RING_WRITEBACK. A core channel then pushes its handle and raises its interrupt. -/
def execDmaRingWriteback (b : Fin 10) (n : Fin 64) (s : State) : Out :=
  done (if chanOk (s.engine b.val) n.val then s.dmaWriteBack (s.engine b.val) n.val else s)

/-- R249: DMA_CQ_RECORD_POST of a hub channel whose write-back is done. -/
def execDmaCqRecordPost (n : Fin 64) (s : State) : Out :=
  let x := s.chan 9 n.val
  done (if x.status.isSome ∧ x.stage = 1 ∧ x.st = .run then s.dmaRecord n.val else s)

/-- R248: DMA_POSTING_RESUME: a channel in POSTING finds space, or waits on. -/
def execDmaPostingResume (b : Fin 10) (n : Fin 64) (s : State) : Out :=
  let e := s.engine b.val
  let x := s.chan e n.val
  if x.st = .posting then done (if x.stage = 1 then s.dmaRecord n.val else s.dmaPush e n.val) else done s

/-- R251: DMA_PACE_RESUME. -/
def execDmaPaceResume (b : Fin 10) (n : Fin 64) (s : State) : Out :=
  let e := s.engine b.val
  let fill := (s.hq (s.fld (rDMA_CH_PACE e n.val) fDMA_CH_PACE_QID)).length
  let start := s.fld (rDMA_CH_PACE e n.val) fDMA_CH_PACE_START
  let mode := s.fld (rDMA_CH_PACE e n.val) fDMA_CH_PACE_MODE
  if (s.chan e n.val).st = .paced ∧ (mode = 0 ∨ mode = 3 ∨ (mode = 1 ∧ fill ≤ start) ∨ (mode = 2 ∧ start ≤ fill)) then
    done (s.modChan e n.val (fun y => { y with st := .run }))
  else done s

/-! ### Errors and faults -/

/-- R254: DMA_BUS_ERROR: a channel that has met a bus error enters HALT once its issued writes are acknowledged. -/
def execDmaBusError (b : Fin 10) (n : Fin 64) (s : State) : Out :=
  let e := s.engine b.val
  let x := s.chan e n.val
  match x.stopErr with
  | some (kind, dst, addr) =>
    if x.unacked = 0 ∧ x.st = .run then
      let sk := (if dst then (s.chSides e n.val).2 else (s.chSides e n.val).1).kind
      done (((s.noteErrAddr e n.val sk false addr).notePos e n.val).dmaHalt e n.val 1 kind dst addr)
    else done s
  | none => done s

/-- R257, R258: what the page-table read of a channel's miss returned: an entry that translates is cached, any other stops the
channel with its fault, and an ECC error stops it with a bus error. -/
def State.ptWalked (s : State) (e n : Nat) (w : Walk) : Option (List Byte) → State
  | none => s.modChan e n (fun y => { y with stopErr := some (6, w.dst, w.addr) })
  | some bs =>
    let v := ofLeBytes bs
    let k := ptFault v w.write
    let s3 := if ptFault v false = 0 then
        { s with hub := { s.hub with tlb := (s.hub.tlb ++ [(w.asid, w.page, v)]).drop (s.hub.tlb.length + 1 - 4096) } }
      else s
    if k = 0 then s3
    else
      let s4 := if k = 4 then s3.lichenFw 0x0601 w.asid w.page (v % 2 ^ 32) (v / 2 ^ 32) else s3
      s4.modChan e n (fun y => { y with stopFault := some (k, w.dst, w.addr) })

/-- R258: the page-table read of a channel's miss. -/
def State.ptRead (s : State) (e n : Nat) (w : Walk) : Option (List Byte) × State :=
  ((s.count rHUB_TVA_MISS_CNT).modChan e n (fun y => { y with walk := none })).dpaRead false (s.ptPlace w.asid w.page) 8

/-- R258: DMA_PT_WALK: the page-table read of a channel's miss returns and is cached, or yields a fault. -/
def execDmaPtWalk (b : Fin 10) (n : Fin 64) (s : State) : Out :=
  let e := s.engine b.val
  match (s.chan e n.val).walk with
  | none => done s
  | some w => done ((s.ptRead e n.val w).2.ptWalked e n.val w (s.ptRead e n.val w).1)

/-- R259: DMA_TRANSLATION_FAULT: the channel enters FAULT at its stop point once the writes before it have landed. -/
def execDmaTranslationFault (b : Fin 10) (n : Fin 64) (s : State) : Out :=
  let e := s.engine b.val
  let x := s.chan e n.val
  match x.stopFault with
  | some (kind, dst, addr) =>
    if x.unacked = 0 ∧ x.st = .run then
      let s1 := ((s.notePos e n.val).chNarrow e n.val).noteErrAddr e n.val 1 false addr
      let s2 := s1.modChan e n.val (fun y => { y with
        st := .fault
        err := 2
        faultKind := kind
        faultDst := dst
        stopFault := none })
      done (s2.postFault e n.val 2 kind dst addr)
    else done s
  | none => done s

/-- R250: the completion status of an error. -/
def errStatus (err : Nat) : Nat := if err = 1 then 2 else if err = 3 then 3 else if err = 4 then 4 else if err = 5 then 5 else 1

/-- R260, R256, R265, R503: RESUME. -/
def State.dmaResume (s : State) (e n : Nat) : State :=
  let x := s.chan e n
  match x.st, x.ctrl with
  | .fault, _ => s.modChan e n (fun y => { y with
      st := .run
      err := 0
      faultKind := 0 })
  | .halt, some a => s.modChan e n (fun y => { y with
      st := if a = .fetch then .idle else .run
      err := 0
      ctrl := none
      fetching := y.fetching || a == .fetch })
  | .halt, none =>
    if x.err = 5 then
      let s1 := s.modChan e n (fun y => { y with
        st := .run
        err := 0
        nb4Seq := s.fld (rDMA_CH_NB4 e n) fDMA_CH_NB4_EXPECT })
      let body := leBytes 1 x.nb4Chan ++ leBytes 1 1 ++ leBytes 2 0 ++ leBytes 4 x.pos
      (s1.sendMsg (s1.message 0x12 x.nb4Mod n body [])).getD s1
    else s.modChan e n (fun y => { y with
      st := .run
      status := some (errStatus x.err) })
  | _, _ => s

/-- R260: DMA_RESUME. -/
def execDmaResume (b : Fin 10) (n : Fin 64) (s : State) : Out :=
  done (if chanOk (s.engine b.val) n.val then s.dmaResume (s.engine b.val) n.val else s)

/-- R262, R368, R503: ABORT. -/
def State.dmaAbort (s : State) (e n : Nat) : State :=
  let x := s.chan e n
  let res (r : Nat) (f : DmaChan → DmaChan) : State :=
    (s.setFld (rDMA_CH_CTL e n) fDMA_CH_CTL_EN 0).modChan e n (fun y => { f y with abortRes := r })
  match x.st, x.ctrl with
  | .halt, some .fetch => res 1 (fun y => { y with
      st := .idle
      ctrl := none })
  | .halt, some .writeBack =>
    let t := res 2 (fun y => { y with
      st := .run
      stage := if e < 9 then 2 else 1
      ctrl := none })
    if e < 9 then t.dmaPush e n else t
  | .halt, some .record => (res 2 (fun y => { y with
      st := .run
      stage := 2
      ctrl := none })).dmaPush e n
  | .halt, none =>
    let t := res 1 (fun y => { y with
      st := .run
      status := some (errStatus x.err) })
    if x.err = 5 then
      let body := leBytes 1 x.nb4Chan ++ leBytes 1 2 ++ leBytes 2 0 ++ leBytes 4 x.pos
      (t.sendMsg (t.message 0x12 x.nb4Mod n body [])).getD t
    else t
  | .aborting, _ => res 1 id
  | .idle, _ => res 3 id
  | .posting, _ => res 2 id
  | _, _ =>
    if x.status.isSome then res 2 id
    else res 1 (fun y => { y with
      st := .aborting
      walk := none
      stopFault := none
      stopErr := none
      peerAtoms := 0
      peerGot := [] })

/-- R262: DMA_ABORT. -/
def execDmaAbort (b : Fin 10) (n : Fin 64) (s : State) : Out :=
  done (if chanOk (s.engine b.val) n.val then s.dmaAbort (s.engine b.val) n.val else s)

/-- R262: DMA_ABORT_DONE: an ABORTING channel whose issued writes are all acknowledged completes with ABORTED. -/
def State.dmaAbortDone (s : State) (e n : Nat) : State :=
  let x := s.chan e n
  if x.st = .aborting ∧ x.unacked = 0 ∧ x.peerLeft = 0 then
    (s.notePos e n).modChan e n (fun y => { y with
      st := .run
      status := some 1 })
  else s

/-- R262: DMA_ABORT_DONE. -/
def execDmaAbortDone (b : Fin 10) (n : Fin 64) (s : State) : Out :=
  done (if chanOk (s.engine b.val) n.val then s.dmaAbortDone (s.engine b.val) n.val else s)

/-! ### Invalidation and retirement -/

/-- R258: entries of the translation cache are invalidated; BUSY is set. -/
def State.tvaInv (s : State) (asid page : Nat) (all : Bool) : State :=
  let s1 := { s with hub := { s.hub with
    tlb := s.hub.tlb.filter (fun x => !(x.1 == asid && (all || x.2.1 == page)))
    inv := some (asid, page, all) } }
  s1.setFld rHUB_TVA_INV_STAT fHUB_TVA_INV_STAT_BUSY 1

/-- R258: TVA_INVALIDATE: HUB_TVA_INV is written with GO. -/
def execTvaInvalidate (v : Word) (s : State) : Out :=
  let s1 := s.setReg rHUB_TVA_INV (v &&& 0x7C07FFFF)
  done (s1.tvaInv (getF v fHUB_TVA_INV_ASID) (getF v fHUB_TVA_INV_PAGE) (getF v fHUB_TVA_INV_ALL == 1))

/-- R258: no access of an address space is outstanding (log entry 20: counted by address space, not by entry). -/
def State.asidQuiet (s : State) (asid : Nat) : Bool :=
  s.dma.all (fun (x : Nat × DmaChan) =>
    (x.2.unacked == 0 && x.2.stale == 0) || s.chCfg (x.1 / 64) (x.1 % 64) fDMA_CH_CFG_ASID != asid)

/-- R258: TVA_INVALIDATE_DONE. -/
def execTvaInvalidateDone (s : State) : Out :=
  match s.hub.inv with
  | some (asid, _, _) =>
    if s.asidQuiet asid then
      done ({ s with hub := { s.hub with inv := none } }.setFld rHUB_TVA_INV_STAT fHUB_TVA_INV_STAT_BUSY 0)
    else done s
  | none => done s

/-- The page-table entries that map a frame: address space, page and value. -/
def State.mappings (s : State) (frame : Nat) : List (Nat × Nat × Nat) :=
  (List.range 16).flatMap (fun a =>
    let base := s.ptPlace a 0
    (s.mem.filterMap (fun (x : Nat × Byte) =>
      if base ≤ x.1 ∧ x.1 < base + 2 ^ 22 ∧ x.1 % 8 = 0 then
        let v := s.num x.1 8
        if bitOf v 0 ∧ bitsOf v 35 21 = frame then some (a, (x.1 - base) / 8, v) else none
      else none)))

/-- R261: every entry that maps a frame gets a new value, and the translation cache loses it. -/
def State.remap (s : State) (l : List (Nat × Nat × Nat)) (f : Nat → Nat) : State :=
  l.foldl (fun t x => (t.setNum (t.ptPlace x.1 x.2.1) 8 (f x.2.2)).tvaInv x.1 x.2.1 false) s

/-- A DDR4 frame is copied to another; its uncorrectable lines stay uncorrectable there (R466). -/
def State.copyFrame (s : State) (frame spare : Nat) : State :=
  let cells := s.mem.filter (fun (x : Nat × Byte) => decide (x.1 / 2 ^ 21 = frame))
  let bad := s.ecc.filter (fun (x : Nat × Nat) => decide (x.1 / 2 ^ 21 = frame) && x.2 == 2)
  let kept := s.ecc.filter (fun (x : Nat × Nat) => decide (x.1 / 2 ^ 21 ≠ frame ∧ x.1 / 2 ^ 21 ≠ spare))
  let cleared := { s with
    mem := s.mem.filter (fun (x : Nat × Byte) => decide (x.1 / 2 ^ 21 ≠ spare))
    ecc := bad.foldl (fun e (x : Nat × Nat) => Cells.set (fun _ => 0) e (spare * 2 ^ 21 + x.1 % 2 ^ 21) 2) kept }
  cells.foldl (fun t (x : Nat × Byte) => t.setByte (spare * 2 ^ 21 + x.1 % 2 ^ 21) x.2) cleared

/-- R261, R466: a withdrawn frame that no access uses any more is copied to the spare frame, the entries `l` that mapped it map
the spare one, and the channels that faulted on it are resumed. -/
def State.pageMove (s : State) (l : List (Nat × Nat × Nat)) (frame spare : Nat) : State :=
  let s2 := (s.copyFrame frame spare).remap l (fun v =>
    (if bitOf v 2 then v - 4 else v) - frame * 2 ^ 21 + spare * 2 ^ 21)
  let s3 := { s2 with hub := { s2.hub with inv := none } }.setFld rHUB_TVA_INV_STAT fHUB_TVA_INV_STAT_BUSY 0
  let s4 := (if l.isEmpty then [(0, 0, 0)] else l).foldl (fun t x => t.lichenFw 0x0409 x.1 x.2.1 frame spare) s3
  (s4.hub.faultQ.filter (fun f => f.kind == 3 && l.any (fun x => x.1 == f.asid && x.2.1 == f.addr / 2 ^ 21))).foldl
    (fun t f => t.dmaResume (if f.engine = 0xF then 9 else t.phys f.engine) f.chan) s4

/-- R261, R466: PAGE_RETIRE: a frame is withdrawn. While accesses to it are outstanding its entries are marked RETIRED and
invalidated; then it is moved to the spare frame. -/
def State.pageRetire (s : State) (frame spare : Nat) : State :=
  let l := s.mappings frame
  let s1 := s.remap l (fun v => if bitOf v 2 then v else v + 4)
  if l.all (fun x => s1.asidQuiet x.1) then s1.pageMove l frame spare else s1

/-- R261: PAGE_RETIRE. -/
def execPageRetire (frame spare : Fin 32768) (s : State) : Out := done (s.pageRetire frame.val spare.val)

/-- R255: the head entry of the fault queue is removed. -/
def State.fqPop (s : State) : State := { s with hub := { s.hub with faultQ := s.hub.faultQ.drop 1 } }

/-- R255: FAULT_QUEUE_POP. -/
def execFaultQueuePop (s : State) : Out := done s.fqPop

/-! ### Posts and mailboxes -/

/-- R266: the poster's registers CTL, STAT and TMO; poster 0 to 8 a physical core, 16 the Prompter. -/
def postReg (p i : Nat) : Nat :=
  if p = 16 then rHUB_POST_CTL + 4 * i else rDMA_POST_CTL p + 4 * i

/-- R266: the message of a post: 64 bytes of X memory, or HUB_POST_DATA. -/
def State.postMsg (s : State) (p ofs : Nat) : List Byte :=
  if p = 16 then (List.range 16).flatMap (fun k => leBytes 4 (s.reg (rHUB_POST_DATA k)).toNat)
  else s.bytes (corePlace p (0x300000 + ofs / 32 * 32)) 64

/-- R266: POST_CTL is written with GO. -/
def State.post (s : State) (p : Nat) (v : Word) : State :=
  let s1 := s.setReg (postReg p 0) (v &&& 0x0F00FFFF)
  let target := getF v ⟨27, 24⟩
  if target < 8 ∨ target = 0xE then
    let l := Cells.get (fun _ => []) s1.hub.posts p
    let x : Post := ⟨target, s1.postMsg p (getF v ⟨15, 0⟩), s1.time.ns⟩
    { s1 with hub := { s1.hub with posts := Cells.set (fun _ => []) s1.hub.posts p (l ++ [x]) } }.setFld (postReg p 1) ⟨2, 2⟩ 1
  else s1.setFld (postReg p 1) ⟨1, 0⟩ 2

/-- The poster of a slot: 0 to 8 a core slot, 9 the Prompter. -/
def State.poster (s : State) (b : Nat) : Nat := if b < 9 then s.phys b else 16

/-- R266: DMA_POST. -/
def execDmaPost (b : Fin 10) (v : Word) (s : State) : Out := done (s.post (s.poster b.val) v)

/-- R266: the post in progress ends with a result; the next one begins. -/
def State.postEnd (s : State) (p result : Nat) : State :=
  let l := (Cells.get (fun _ => []) s.hub.posts p).drop 1
  let l1 := match l with
    | [] => []
    | x :: r => { x with since := s.time.ns } :: r
  let s1 := { s with hub := { s.hub with posts := Cells.set (fun _ => []) s.hub.posts p l1 } }
  (s1.setFld (postReg p 1) ⟨1, 0⟩ result).setFld (postReg p 1) ⟨2, 2⟩ (b2n (!l1.isEmpty))

/-- R266: the mailbox of a target: a physical core, or 16 the Prompter's. -/
def State.boxOf (s : State) (target : Nat) : Nat := if target = 0xE then 16 else s.phys target

/-- R266: MAILBOX_ARRIVE: the message of a poster lands, unless its target is full. -/
def execMailboxArrive (b : Fin 10) (s : State) : Out :=
  let p := s.poster b.val
  match Cells.get (fun _ => []) s.hub.posts p with
  | [] => done s
  | x :: _ =>
    let k := s.boxOf x.target
    let box := Cells.get (fun _ => []) s.hub.boxes k
    if box.length < (if k = 16 then 32 else 8) then
      let s1 := { s with hub := { s.hub with
        boxes := Cells.set (fun _ => []) s.hub.boxes k (box ++ [x.msg])
        prompterInts := if k = 16 ∧ 0 ∉ s.hub.prompterInts then s.hub.prompterInts ++ [0] else s.hub.prompterInts } }
      done (s1.postEnd p 0)
    else done s

/-- R266: POST_TIMEOUT: a post that is still refused after DMA_POST_TMO core cycles reports FULL. -/
def execPostTimeout (b : Fin 10) (s : State) : Out :=
  let p := s.poster b.val
  match Cells.get (fun _ => []) s.hub.posts p with
  | [] => done s
  | x :: _ => done (if x.since + (s.reg (postReg p 2)).toNat ≤ s.time.ns then s.postEnd p 1 else s)

/-- R269: the head slot of a mailbox is freed. -/
def State.mbxPop (s : State) (k : Nat) : State :=
  { s with hub := { s.hub with boxes := Cells.set (fun _ => []) s.hub.boxes k ((Cells.get (fun _ => []) s.hub.boxes k).drop 1) } }

/-- R269: MBX_POP of a core slot's mailbox, or (9) the Prompter's. -/
def execMbxPop (b : Fin 10) (s : State) : Out := done (s.mbxPop (s.poster b.val))

end Sys2Proof.Machine
end

