-- ==== Sys2Proof/Machine/PeerLinks.lean ====
section
/-!
DEFINITION. The peer links (R352 to R372): flit groups, retransmission, credits, the link reset protocol, windows, messages,
time sync (R36 to R39), heartbeats.
-/
namespace Sys2Proof.Machine

/-! ### Link state -/

/-- R360, R370: a link enters a state; leaving UP is counted, and a change is posted to the host. -/
def State.setLinkSt (s : State) (l st : Nat) : State :=
  let old := s.linkSt l
  if old = st then s
  else
    let s1 := s.setFld (rEPL_STAT l) fEPL_STAT_STATE st
    let s2 := if old = 3 then s1.count (rEPL_DOWN_CNT l) else s1
    s2.postEvent 0x0007 255 l st

/-- R285, R370: an open fabric barrier that counts on a module breaks when the link to it fails. -/
def State.peerFails (s : State) (m : Nat) : State :=
  (List.range 32).foldl (fun t b =>
    if t.flag (rBAR_CFG b) fBAR_CFG_FAB ∧ t.flag (rBAR_CFG b) fBAR_CFG_EN ∧ t.barSt b ≠ 2 ∧ (t.bar b).first.isSome then
      (if t.fld (rBAR_CFG b) fBAR_CFG_HOME = t.modId then t.barBreakHome b
       else if t.fld (rBAR_CFG b) fBAR_CFG_HOME = m then t.barBreak b (2 ^ m) else t)
    else t) s

/-- R371: the neighbour of a link. -/
def State.neighbour (s : State) (l : Nat) : Nat := s.fld (rEPL_STAT l) fEPL_STAT_PEER_MOD

/-- R360: the link goes DOWN. A DOWN after GOODBYE is sleep, and no failure. -/
def State.linkDown (s : State) (l : Nat) : State :=
  let up := s.linkSt l == 3
  let s1 := s.setLinkSt l 0
  if up then s1.peerFails (s.neighbour l) else s1

/-- R254, R361: a request that left by a link ends in a bus error to its requester. -/
def State.failReq (s : State) (r : LinkReq) : State :=
  if r.kind = 1 ∨ r.kind = 2 then
    s.modChan 9 r.chan (fun x => { x with
      unacked := if r.kind = 1 then x.unacked - 1 else x.unacked
      peerLeft := if r.kind = 2 then x.peerLeft - 1 else x.peerLeft
      stopErr := some (5, r.kind == 1, r.pos) })
  else s

/-- R361: steps 1 to 4 of the link reset protocol. Messages that wait to leave end with it. -/
def State.linkReset (s : State) (l cause : Nat) : State :=
  let x := s.link l
  let s1 := s.setLinkSt l 4
  let s1 := if s.linkSt l = 3 then s1.peerFails (s.neighbour l) else s1
  let sizes := x.peerSize.getD [512, 512, 64]
  let s2 := (List.range 3).foldl (fun t c =>
    (t.setFld (rEPL_CRED l) (classFld c) (sizes.getD c 0)).setFld (rEPL_RXBUF l) (classFld c) 0) s1
  let total := x.out.foldl (· + ·) 0
  let s3 := s2.countBy (rEPL_RECLAIM_CNT l) wholeReg total
  let s4 := x.reqs.foldl (fun t r => t.failReq r) s3
  s4.setLink l { s4.link l with
    txSeq := 0
    ackSeq := 4095
    rxSeq := 0
    nak := false
    replayBuf := 0
    resends := 0
    out := [0, 0, 0]
    credSeen := [0, 0, 0]
    freed := [0, 0, 0]
    part := []
    txWait := []
    reqs := []
    cause := cause
    reclaimReq := x.out.getD 0 0
    reclaimOther := x.out.getD 1 0 + x.out.getD 2 0 }

/-- R361, step 5: the link retrains. -/
def State.retrain (s : State) (l : Nat) : State := s.setLinkSt l 1

/-- R361: EPL_LINK_RESET: the protocol ends and the link retrains, once every whole message in its buffer has been delivered. -/
def execEplLinkReset (l : Fin 6) (s : State) : Out :=
  done (if s.linkSt l.val = 4 ∧ (s.link l.val).rx.isEmpty then s.retrain l.val else s)

/-- R361: EPL_RESET_WRITE: EPL_CTL.RESET is written. -/
def execEplResetWrite (l : Fin 6) (s : State) : Out :=
  done (if s.linkSt l.val = 0 ∨ s.linkSt l.val = 5 then s else s.linkReset l.val 4)

/-- R361: EPL_TRAILER_TIMEOUT: 16 µs without a good trailer. -/
def execEplTrailerTimeout (l : Fin 6) (s : State) : Out :=
  done (if s.linkSt l.val = 3 ∧ (s.link l.val).lastTrailer + 16000 ≤ s.time.ns then s.linkReset l.val 1 else s)

/-- R360: EPL_SIGNAL_DETECT: signal on the lanes of an enabled link that was DOWN. -/
def execEplSignalDetect (l : Fin 6) (s : State) : Out :=
  let s1 := s.setLink l.val { s.link l.val with signal := true }
  if s.linkSt l.val = 0 ∧ s.flag (rEPL_CTL l.val) fEPL_CTL_EN ∧ s.modId < 24 ∧ s.awake then done (s1.retrain l.val) else done s1

/-- R356, R361: a link-init message of this module. -/
def State.initMsg (s : State) (l type : Nat) : LinkMsg :=
  s.message type (s.neighbour l) 0 (leBytes 2 512 ++ leBytes 2 512 ++ leBytes 1 64 ++ leBytes 3 0 ++
    leBytes 4 (s.fld rEPL_FAB_CFG fEPL_FAB_CFG_EPOCH)) []

/-- R360: EPL_TRAIN_DONE: lane lock and deskew are complete, and LINIT is sent. -/
def execEplTrainDone (l : Fin 6) (s : State) : Out :=
  if s.linkSt l.val = 1 then
    let s1 := s.setLinkSt l.val 2
    let s2 := s1.transmit l.val (s1.initMsg l.val 0x48)
    done (s2.setLink l.val { s2.link l.val with
      lastTrailer := s.time.ns
      lastAck := s.time.ns })
  else done s

/-! ### Groups -/

/-- R355: the message whose header and data flits these are. -/
def msgOfFlits (arrival : Nat) : List (BitVec 256) → LinkMsg
  | [] => { type := 0, dest := 0, src := 0, len := 0 }
  | h :: data =>
    let b := leBytes 32 h.toNat
    let num (o n : Nat) : Nat := ofLeBytes ((b.drop o).take n)
    { type := num 0 1, dest := num 1 1 % 32, src := num 2 1 % 32, len := num 3 1, tag := num 4 2, kind := bitOf (num 6 1) 7,
      asid := num 6 1 % 16, addr := num 8 5, spec := b.drop 16, data := data.flatMap (fun d => leBytes 32 d.toNat),
      arrival := arrival }

/-- R355: the reserved fields of a header flit are 0. -/
def headerOk (h : BitVec 256) : Bool :=
  let b := leBytes 32 h.toNat
  let num (o n : Nat) : Nat := ofLeBytes ((b.drop o).take n)
  num 1 1 < 24 && num 2 1 < 24 && num 3 1 ≤ 9 && bitsOf (num 6 1) 6 4 == 0 && num 7 1 == 0 && num 13 3 == 0

/-- R356: the fields of a message keep its table. -/
def LinkMsg.ok (m : LinkMsg) : Bool :=
  let n := m.field 16 2
  let span := decide (1 ≤ n ∧ n ≤ 256 ∧ m.addr % 256 + n ≤ 256)
  if m.type = 0x01 then decide (1 ≤ m.len ∧ m.len ≤ 8 ∧ n ≤ 32 * m.len) && span
  else if m.type = 0x02 then m.len == 0 && span
  else if m.type = 0x03 then m.len == 0 && decide (m.field 16 1 ≤ 4)
  else if m.type = 0x04 then decide (m.len ≤ 8 ∧ m.field 16 1 ≤ 4)
  else if m.type = 0x10 then m.len == 1 && decide (m.field 16 1 < 64)
  else if m.type = 0x11 then
    decide (1 ≤ m.len ∧ m.field 16 1 < 64 ∧ 1 ≤ m.field 17 1 ∧ m.field 17 1 ≤ 8 ∧ 36 * m.field 17 1 ≤ 32 * m.len)
  else if m.type = 0x12 then m.len == 0 && decide (m.field 16 1 < 64 ∧ m.field 17 1 ≤ 3)
  else if m.type = 0x30 ∨ m.type = 0x31 ∨ m.type = 0x32 then m.len == 0 && decide (m.field 16 1 < 32)
  else if m.type = 0x38 ∨ m.type = 0x39 then decide (m.len ≤ 1)
  else m.len == 0

/-- R356, R363: the answer to a request that is not performed: WR_ACK or RD_DATA with a status. -/
def State.denyMsg (s : State) (m : LinkMsg) (status : Nat) : State :=
  if m.type = 0x01 then (s.sendMsg (s.message 0x03 m.src m.tag (leBytes 1 status) [])).getD s
  else if m.type = 0x02 then (s.sendMsg (s.message 0x04 m.src m.tag (leBytes 1 status) [])).getD s
  else if m.type = 0x10 ∨ m.type = 0x11 then
    (s.sendMsg (s.message 0x12 m.src (m.field 16 1) (leBytes 1 m.tag ++ leBytes 1 2) [])).getD s
  else s

/-- R358: places of a class are taken in the receive buffer. -/
def State.useRx (s : State) (l c n : Nat) : State := s.setFld (rEPL_RXBUF l) (classFld c) (s.fld (rEPL_RXBUF l) (classFld c) + n)

/-- R356, R363, R369: a whole message has arrived by a link. -/
def State.acceptMsg (s : State) (l : Nat) (replay : Bool) (fl : List (BitVec 256)) : State :=
  let m := msgOfFlits s.now fl
  let freed (t : State) (c : Nat) : State :=
    let y := t.link l
    t.setLink l { y with freed := y.freed.set c ((y.freed.getD c 0 + m.flits) % 1024) }
  match msgClass m.type with
  | none => s.count rEPL_BADMSG_CNT
  | some c =>
    if !headerOk (fl.headD 0) ∨ !m.ok then
      let s1 := s.count rEPL_BADMSG_CNT
      (if c < 3 then freed s1 c else s1).denyMsg m 4
    else if c = 3 then s.setLink l { s.link l with slot := some m }
    else if m.type ∈ [0x20, 0x21, 0x22] ∧ replay then
      freed { s.count (rEPL_TS_MISS_CNT l) with time := { s.time with sync := { s.time.sync with
        missed := s.time.sync.missed + 1
        running := false } } } c
    else if m.dest ≠ s.modId then
      let s1 := freed s c
      match s1.sendMsg m with
      | some s2 => s2
      | none => s1.denyMsg m 3
    else (s.useRx l c m.flits).setLink l { (s.useRx l c m.flits).link l with rx := (s.link l).rx ++ [m] }

/-- R353, R355: the flits of a group in order: a header starts a message, data goes on with it. -/
def State.acceptFlits (s : State) (l : Nat) (replay : Bool) : List (Nat × BitVec 256) → State
  | [] => s
  | (k, f) :: r =>
    let x := s.link l
    let part := if k = 1 then [f] else if k = 2 ∧ !x.part.isEmpty then x.part ++ [f] else x.part
    let s1 := s.setLink l { x with part := part }
    let want := match part with
      | [] => 99
      | h :: _ => 1 + h.toNat / 2 ^ 24 % 256
    let s2 := if k ≠ 0 ∧ (part.length = want ∨ (k = 1 ∧ 10 < want)) then
        (s1.setLink l { s1.link l with part := [] }).acceptMsg l replay part
      else s1
    s2.acceptFlits l replay r

/-- R353, R358: the ACK and CREDITS of a good trailer. -/
def State.acceptTrailer (s : State) (l : Nat) (g : FlitGroup) : State :=
  let x := s.link l
  let left := (x.txSeq + 8191 - g.ack.toNat) % 4096
  let adv := decide (left < x.replayBuf)
  let x1 := { x with
    lastTrailer := s.time.ns
    ackSeq := if adv then g.ack.toNat else x.ackSeq
    replayBuf := if adv then left else x.replayBuf
    resends := if adv then 0 else x.resends
    lastAck := if adv ∨ x.replayBuf = 0 then s.time.ns else x.lastAck }
  let s1 := s.setLink l x1
  let s2 := (List.range 3).foldl (fun t c =>
    let y := t.link l
    let d := (g.credits.getD c 0 + 1024 - y.credSeen.getD c 0) % 1024
    (t.setLink l { y with
      credSeen := y.credSeen.set c (g.credits.getD c 0)
      out := y.out.set c (y.out.getD c 0 - d) }).setFld (rEPL_CRED l) (classFld c) (t.fld (rEPL_CRED l) (classFld c) + d)) s1
  s2.drainWait l (s2.link l).txWait []

/-- R354: a resend, or the reset protocol after sixteen in a row. -/
def State.resend (s : State) (l : Nat) : State :=
  let x := s.link l
  let s1 := (s.count (rEPL_REPLAY_CNT l)).setLink l { x with
    resends := x.resends + 1
    lastAck := s.time.ns }
  if 16 ≤ x.resends + 1 then s1.linkReset l 2 else s1

/-- R354: EPL_GROUP_RX. -/
def State.groupRx (s : State) (l : Nat) (g : FlitGroup) : State :=
  if s.linkSt l ≠ 2 ∧ s.linkSt l ≠ 3 then s
  else if !g.good ∨ g.kinds.any (· == 3) then
    (s.count (rEPL_CRC_ERR_CNT l)).setLink l { s.link l with nak := true }
  else
    let s1 := s.acceptTrailer l g
    let s2 := if g.nak ∧ 0 < (s1.link l).replayBuf then s1.resend l else s1
    let x := s2.link l
    if g.seq.toNat ≠ x.rxSeq then s2
    else (s2.setLink l { x with
      rxSeq := (x.rxSeq + 1) % 4096
      nak := false }).acceptFlits l g.replay (g.kinds.zip g.flits)

/-- R354: EPL_GROUP_RX. -/
def execEplGroupRx (l : Fin 6) (g : FlitGroup) (s : State) : Out := done (s.groupRx l.val g)

/-- R354: EPL_REPLAY_TIMEOUT: ACK has not advanced for 4 µs while groups are unacknowledged. -/
def execEplReplayTimeout (l : Fin 6) (s : State) : Out :=
  let x := s.link l.val
  done (if s.linkSt l.val = 3 ∧ 0 < x.replayBuf ∧ x.lastAck + 4000 ≤ s.time.ns then s.resend l.val else s)

/-! ### Windows and memory messages -/

/-- R365: a window admits a message. -/
def State.winAdmits (s : State) (w : Nat) (m : LinkMsg) (n : Nat) (write : Bool) : Bool :=
  let c := s.reg (rEPL_WIN_CTL w)
  getF c fEPL_WIN_CTL_VALID == 1 && bitOf (s.fld (rEPL_WIN_SRC w) fEPL_WIN_SRC_SRC) m.src &&
    (getF c fEPL_WIN_CTL_KIND == b2n m.kind) && (m.kind || getF c fEPL_WIN_CTL_ASID == m.asid) &&
    decide (s.fld (rEPL_WIN_BASE w) fEPL_WIN_BASE_BASE * 2 ^ 20 ≤ m.addr ∧
      m.addr + n ≤ (s.fld (rEPL_WIN_LIMIT w) fEPL_WIN_LIMIT_LIMIT + 1) * 2 ^ 20) &&
    (!write || getF c fEPL_WIN_CTL_WR == 1)

/-- R365: some window admits a message. -/
def State.admits (s : State) (m : LinkMsg) (n : Nat) (write : Bool) : Bool :=
  (List.range 16).any (fun w => s.winAdmits w m n write)

/-- R365: a refused request is counted; at most one event per second is recorded. -/
def State.winDenied (s : State) (l : Nat) (m : LinkMsg) : State :=
  let s1 := s.count rEPL_WIN_DENY_CNT
  let last := Cells.get (fun _ => none) s1.marks 0
  if last.any (fun t => decide (s.time.ns < t + 1000000000)) then s1
  else ({ s1 with marks := Cells.put s1.marks 0 (some s.time.ns) }).lichenFw 0x0905 l m.src (m.addr % 2 ^ 32) m.type

/-- R257, R365: the DPA that a message names; a TVA is translated through its page table. -/
def State.linkAddr (s : State) (m : LinkMsg) (write : Bool) : Option Nat :=
  if m.kind then some m.addr
  else
    let v := match s.hub.tlb.find? (fun x => x.1 == m.asid && x.2.1 == m.addr / 2 ^ 21) with
      | some x => x.2.2
      | none => s.num (s.ptPlace m.asid (m.addr / 2 ^ 21)) 8
    if ptFault v write = 0 then some (bitsOf v 35 21 * 2 ^ 21 + m.addr % 2 ^ 21) else none

/-- R217: an access to a core's stores waits on that core's scoreboard. -/
def State.linkWaits (s : State) (dpa n : Nat) (write : Bool) : Bool :=
  match s.windowWord dpa with
  | none => false
  | some (p, w) =>
    let r := (w, w + (n + 1) / 2)
    !((s.sboard p).clear (if write then [r] else []) (if write then [] else [r]))

/-- R365: the answer to a WR: it leaves the receive buffer, and WR_ACK returns its status. -/
def State.wrReply (s : State) (l : Nat) (m : LinkMsg) (status : Nat) : State :=
  let t := s.freeRx l m
  (t.sendMsg (t.message 0x03 m.src m.tag (leBytes 1 status) [])).getD t

/-- R365: the answer to an RD: it leaves the receive buffer, and RD_DATA returns its status and data. -/
def State.rdReply (s : State) (l : Nat) (m : LinkMsg) (status : Nat) (d : List Byte) : State :=
  let t := s.freeRx l m
  (t.sendMsg (t.message 0x04 m.src m.tag (leBytes 1 status) (d ++ List.replicate ((32 - d.length % 32) % 32) 0))).getD t

/-- R365: the answer to a WR after the write, which gives no state where it fails. -/
def State.wrDone (s : State) (l : Nat) (m : LinkMsg) : Option State → State
  | none => s.wrReply l m 2
  | some t => t.wrReply l m 0

/-- R365: the answer to an RD after the read. -/
def State.rdDone (s : State) (l : Nat) (m : LinkMsg) : Option (List Byte) → State
  | none => s.rdReply l m 2 []
  | some d => s.rdReply l m 0 d

/-- R365: WR: the oldest request of a link, if it is a write, is performed or refused and answered with WR_ACK. -/
def execWr (l : Fin 7) (s : State) : Out :=
  match s.headMsg l.val 0x01 with
  | none => done s
  | some m =>
    let n := m.field 16 2
    if !s.admits m n true then done ((s.winDenied l.val m).wrReply l.val m 1)
    else match s.linkAddr m true with
      | none => done (s.wrReply l.val m 2)
      | some dpa =>
        if s.linkWaits dpa n true then done s
        else done (s.wrDone l.val m (s.dpaWrite false dpa (m.data.take n)))

/-- R365: RD: the oldest request of a link, if it is a read, is answered with RD_DATA. -/
def execRd (l : Fin 7) (s : State) : Out :=
  match s.headMsg l.val 0x02 with
  | none => done s
  | some m =>
    let n := m.field 16 2
    if !s.admits m n false then done ((s.winDenied l.val m).rdReply l.val m 1 [])
    else match s.linkAddr m false with
      | none => done (s.rdReply l.val m 2 [])
      | some dpa =>
        if s.linkWaits dpa n false then done s
        else done ((s.dpaRead false dpa n).2.rdDone l.val m (s.dpaRead false dpa n).1)

/-- R355: the request that a response answers, with its link; a response without one is dropped. -/
def State.takeReq (s : State) (m : LinkMsg) : Option (LinkReq × State) :=
  (List.range 7).findSome? (fun l =>
    ((s.link l).reqs.find? (fun r => r.tag == m.tag && r.dest == m.src)).map (fun r =>
      (r, s.setLink l { s.link l with reqs := (s.link l).reqs.erase r })))

/-- R357: WR_ACK: status returns to the requesting channel. -/
def execWrAck (l : Fin 7) (s : State) : Out :=
  match s.headMsg l.val 0x03 with
  | none => done s
  | some m =>
    let s1 := s.freeRx l.val m
    match s1.takeReq m with
    | none => done s1
    | some (r, s2) => if m.field 16 1 = 0 then done (s2.dmaAck 9 r.chan) else done (s2.failReq r)

/-- R357: RD_DATA: data and status return to the requesting channel. -/
def execRdData (l : Fin 7) (s : State) : Out :=
  match s.headMsg l.val 0x04 with
  | none => done s
  | some m =>
    let s1 := s.freeRx l.val m
    match s1.takeReq m with
    | none => done s1
    | some (r, s2) =>
      if m.field 16 1 = 0 then done (s2.dmaPeerData 9 r.chan r.pos (m.data.take r.bytes)) else done (s2.failReq r)

/-! ### Narrow transfers -/

/-- R112, R265: a receiving channel halts before the block that it would write next. -/
def State.skew (s : State) (n : Nat) : State :=
  let x := s.chan 9 n
  let s1 := ((s.count rNB4_SKEW_CNT).notePos 9 n).setFld (rDMA_CH_NB4 9 n) fDMA_CH_NB4_EXPECT (x.nb4Seq % 16)
  let addr := ((s1.chSides 9 n).2.byteAddr (x.pos * (s1.chAtoms 9 n).dst)).toNat
  let s2 := (s1.noteErrAddr 9 n (s1.chSides 9 n).2.kind false addr).dmaHalt 9 n 5 0 true addr
  (s2.sendMsg (s2.message 0x12 x.nb4Mod n (leBytes 1 x.nb4Chan ++ leBytes 1 0 ++ leBytes 2 0 ++ leBytes 4 x.pos) [])).getD s2

/-- R367: a channel waits for a narrow transfer. -/
def State.nb4Waits (s : State) (n : Nat) : Bool :=
  let x := s.chan 9 n
  xform x.desc == 0xA && x.started && x.status.isNone && (x.st == .run || x.st == .fault || x.st == .halt)

/-- R112, R367: NB4_ANN: the table announced is compared with the receiver's copy. -/
def execNb4Ann (l : Fin 7) (s : State) : Out :=
  match s.headMsg l.val 0x10 with
  | none => done s
  | some m =>
    let n := m.field 16 1
    let s1 := s.freeRx l.val m
    if !s.admits m 1 true ∧ m.src ≠ s.modId ∨ !s.nb4Waits n then done (s1.denyMsg m 2)
    else
      let tsel := ((m.data.getD 7 0).toNat)
      let lv := s.levels (dfield (s.chan 9 n).desc 13 21 20)
      let same := decide (m.data.take 7 = (lv.drop 1).map (fun x => BitVec.ofNat 8 x)) &&
        tsel == dfield (s.chan 9 n).desc 13 21 20
      let s2 := s1.modChan 9 n (fun x => { x with
        nb4Open := true
        nb4Chan := m.tag % 256
        nb4Mod := m.src
        levels := lv })
      done (if same then s2 else s2.skew n)

/-- R111, R112: one block of a narrow transfer, with index `i`. Whether the message can go on is the second part. -/
def State.nb4Block (s : State) (n i : Nat) (b : List Byte) : State × Bool :=
  let x := s.chan 9 n
  let d := x.desc
  if i < x.pos ∨ x.st = .halt then (s, true)
  else if x.st ≠ .run ∨ x.stopErr.isSome ∨ x.stopFault.isSome ∨ x.walk.isSome then (s, false)
  else
    let h := ofLeBytes (b.take 4)
    if bitsOf h 27 24 ≠ x.nb4Seq % 16 ∨ bitsOf h 23 20 ≠ dfield d 13 21 20 ∨ bitsOf h 31 28 ≠ 0 ∨ i ≠ x.pos then (s.skew n, true)
    else
      let t := s.chAtoms 9 n
      let y := (s.chSides 9 n).2
      let len := min t.dst (y.stream - i * t.dst)
      let (o, rsvd, clip) := nb4Decode x.levels (signed 16 (dfield d 13 15 0)) (descType d) (len / typeBytes (descType d)) b
      match s.atomWrite 9 n i o with
      | .error z => (s.noteStop 9 n true z, false)
      | .ok s1 =>
        let s2 := (s1.countBy rNB4_RSVD_CNT wholeReg rsvd).countBy rNB4_CLIP_CNT wholeReg clip
        let s3 := (s2.modChan 9 n (fun z => { z with
          pos := z.pos + 1
          nb4Seq := (z.nb4Seq + 1) % 16 })).notePos 9 n
        if t.count ≤ i + 1 then
          let s4 := (s3.sendMsg (s3.message 0x12 x.nb4Mod n (leBytes 1 x.nb4Chan ++ leBytes 1 3 ++ leBytes 2 0 ++
            leBytes 4 (i + 1)) [])).getD s3
          (s4.dmaPoint 9 n, true)
        else (s3, true)

/-- R111: the blocks of a message in order. -/
def State.nb4Blocks (s : State) (n i : Nat) : Nat → List Byte → State × Bool
  | 0, _ => (s, true)
  | k + 1, b =>
    match s.nb4Block n i (b.take 36) with
    | (s1, true) => s1.nb4Blocks n (i + 1) k (b.drop 36)
    | (s1, false) => (s1, false)

/-- R111, R112: NB4_DATA. A message that meets a fault stays in the buffer, and its credits with it. -/
def execNb4Data (l : Fin 7) (s : State) : Out :=
  match s.headMsg l.val 0x11 with
  | none => done s
  | some m =>
    let n := m.field 16 1
    if !s.nb4Waits n ∨ !(s.chan 9 n).nb4Open then done ((s.freeRx l.val m).denyMsg m 2)
    else match s.nb4Blocks n (m.field 20 4) (m.field 17 1) m.data with
      | (s1, true) => done (s1.freeRx l.val m)
      | (s1, false) => done s1

/-- R368: NB4_CTL steers the sending channel. -/
def execNb4Ctl (l : Fin 7) (s : State) : Out :=
  match s.headMsg l.val 0x12 with
  | none => done s
  | some m =>
    let n := m.field 16 1
    let s1 := s.freeRx l.val m
    let x := s1.chan 9 n
    if xform x.desc ≠ 9 ∨ !x.started ∨ x.status.isSome then done s1
    else
      let act := m.field 17 1
      done (if act = 0 then s1.modChan 9 n (fun y => { y with nb4Stopped := true })
        else if act = 1 then s1.modChan 9 n (fun y => { y with
          nb4Stopped := false
          pos := m.field 20 4 })
        else if act = 2 then s1.modChan 9 n (fun y => { y with status := some 1 })
        else (s1.modChan 9 n (fun y => { y with nb4Done := true })).dmaPoint 9 n)

/-! ### Time sync -/

/-- R36, R369: TIME_SYNC_TIMER: every 1 ms. An exchange that has brought no reply is missed, and two in a row clear ALIGN_OK;
the module sends TS_SYNC to its neighbours, of which its children answer (log entry 21). -/
def execTimeSyncTimer (s : State) : Out :=
  let x := s.time.sync
  if s.time.ns < x.started + 1000000 ∨ !s.awake then done s
  else
    let missed := if x.running then x.missed + 1 else 0
    let s1 := { s with time := { s.time with sync := { x with
      running := x.parent.isSome
      started := s.time.ns
      missed := missed
      good := if x.running then 0 else x.good } } }
    let s2 := match x.parent with
      | some l => if x.running then s1.count (rEPL_TS_MISS_CNT l) else s1
      | none => s1
    let s3 := if 2 ≤ missed then s2.loseAlign else s2
    done ((List.range 6).foldl (fun t l =>
      if t.linkSt l = 3 ∧ x.parent ≠ some l then t.handLink l (t.message 0x20 (t.neighbour l) 0 (leBytes 8 t.now) []) else t) s3)

/-- R36, R369: TS_SYNC from the parent carries t1; the child takes t2 at its arrival and sends TS_DREQ with t3. -/
def execTsSync (l : Fin 7) (s : State) : Out :=
  match s.headMsg l.val 0x20 with
  | none => done s
  | some m =>
    let s1 := s.freeRx l.val m
    if s.time.sync.parent = some l.val then
      let s2 := { s1 with time := { s1.time with sync := { s1.time.sync with
        t1 := m.field 16 8
        t2 := m.arrival
        t3 := some s.now } } }
      done (s2.handLink l.val (s2.message 0x21 m.src 0 (leBytes 8 s.now) []))
    else done s1

/-- R369: TS_DREQ: the parent takes t4 at its arrival and sends TS_DRSP. -/
def execTsDreq (l : Fin 7) (s : State) : Out :=
  match s.headMsg l.val 0x21 with
  | none => done s
  | some m =>
    let s1 := s.freeRx l.val m
    done (s1.handLink l.val (s1.message 0x22 m.src 0 (leBytes 8 m.arrival) []))

/-- R36, R37, R39: the correction of an exchange. -/
def State.correct (s : State) (t4 : Nat) : State :=
  let x := s.time.sync
  match x.t3 with
  | none => s
  | some t3 =>
    let off : Int := asr (((x.t2 : Int) - (x.t1 : Int)) - ((t4 : Int) - (t3 : Int))) 1
    let good := if -8 ≤ off ∧ off ≤ 8 then x.good + 1 else 0
    let s1 := { s with time := { s.time with sync := { x with
      running := false
      missed := 0
      t3 := none
      good := good } } }
    let s2 := if 2 ≤ good then s1.setFld rCUE_STATUS fCUE_STATUS_ALIGN_OK 1
      else if off < -10 ∨ 10 < off then s1.loseAlign else s1
    if -1000 ≤ off ∧ off ≤ 1000 then s2.setFld rCUE_SLEW fCUE_SLEW_SLEW (wrapTo 24 (-off))
    else if off < 0 then s2.jumpTo (s2.now + off.natAbs)
    else s2.hold off.toNat

/-- R36: TS_DRSP carries t4; the child corrects itself. -/
def execTsDrsp (l : Fin 7) (s : State) : Out :=
  match s.headMsg l.val 0x22 with
  | none => done s
  | some m =>
    let s1 := s.freeRx l.val m
    done (if s.time.sync.parent = some l.val then s1.correct (m.field 16 8) else s1)

/-! ### Fabric barriers -/

/-- R284: BAR_ARR: a module's share of a generation arrives at HOME. -/
def execBarArr (l : Fin 7) (s : State) : Out :=
  match s.headMsg l.val 0x30 with
  | none => done s
  | some m =>
    let s1 := s.freeRx l.val m
    let b := m.field 16 1
    done (if s1.flag (rBAR_CFG b) fBAR_CFG_FAB ∧ s1.fld (rBAR_CFG b) fBAR_CFG_HOME = s1.modId then
      s1.homeArrive b (m.field 17 1) m.src else s1)

/-- R284: BAR_REL carries T: the module releases at T (BAR_COUNT_RELEASE), or on arrival if T has passed. -/
def execBarRel (l : Fin 7) (s : State) : Out :=
  match s.headMsg l.val 0x31 with
  | none => done s
  | some m =>
    let s1 := s.freeRx l.val m
    let b := m.field 16 1
    let t := m.field 20 8
    if m.field 17 1 ≠ s1.barGen b ∨ s1.barSt b = 2 then done s1
    else if t < s1.now then done (s1.barRelease b true)
    else done ((s1.setFld (rBAR_STAT b) fBAR_STAT_STATE 1).setBar b { s1.bar b with releaseAt := some t })

/-- R285: BAR_BROKEN. -/
def execBarBroken (l : Fin 7) (s : State) : Out :=
  match s.headMsg l.val 0x32 with
  | none => done s
  | some m =>
    let s1 := s.freeRx l.val m
    let b := m.field 16 1
    done (if m.field 17 1 = s1.barGen b ∧ s1.barSt b ≠ 2 then s1.barBreak b 0 else s1)

/-! ### Heartbeats, sleep, link initialisation -/

/-- R370: HEARTBEAT_TIMER of a link. -/
def execHeartbeatTimer (l : Fin 6) (s : State) : Out :=
  let x := s.link l.val
  if s.linkSt l.val = 3 ∧ x.lastSent + s.fld (rEPL_CTL l.val) fEPL_CTL_HB_US * 1000 ≤ s.time.ns then
    let body := leBytes 1 s.power.st.num ++ leBytes 3 0 ++ leBytes 4 (s.fld rEPL_FAB_CFG fEPL_FAB_CFG_EPOCH)
    let s1 := s.setLink l.val { x with lastSent := s.time.ns }
    done (s1.handLink l.val (s1.message 0x40 (s.neighbour l.val) 0 body []))
  else done s

/-- R370: HEARTBEAT keeps PEER_ALIVE, and sets EPOCH_MISMATCH on a differing epoch. -/
def execHeartbeat (l : Fin 7) (s : State) : Out :=
  match s.headMsg l.val 0x40 with
  | none => done s
  | some m =>
    if l.val = 6 then done (s.freeRx 6 m)
    else
      let s1 := (s.freeRx l.val m).setFld (rEPL_STAT l.val) fEPL_STAT_PEER_ALIVE 1
      let s2 := s1.setLink l.val { s1.link l.val with lastBeat := s.time.ns }
      done (if m.field 20 4 % 2 ^ 24 ≠ s.fld rEPL_FAB_CFG fEPL_FAB_CFG_EPOCH then
        s2.setFld (rEPL_STAT l.val) fEPL_STAT_EPOCH_MISMATCH 1 else s2)

/-- R370: PEER_ALIVE_TIMEOUT: no HEARTBEAT for 3 × HB_US while the link is UP. -/
def execPeerAliveTimeout (l : Fin 6) (s : State) : Out :=
  if s.linkSt l.val = 3 ∧ s.flag (rEPL_STAT l.val) fEPL_STAT_PEER_ALIVE ∧
      (s.link l.val).lastBeat + 3 * s.fld (rEPL_CTL l.val) fEPL_CTL_HB_US * 1000 ≤ s.time.ns then
    let s1 := s.setFld (rEPL_STAT l.val) fEPL_STAT_PEER_ALIVE 0
    let s2 := if s.flag (rEPL_STAT l.val) fEPL_STAT_ASLEEP then s1 else s1.lichenFw 0x0906 l.val (s.neighbour l.val) 0 0
    done (s2.peerFails (s.neighbour l.val))
  else done s

/-- R371: GOODBYE sets ASLEEP; an open fabric barrier that counts on the module still breaks. -/
def execGoodbye (l : Fin 7) (s : State) : Out :=
  match s.headMsg l.val 0x41 with
  | none => done s
  | some m =>
    if l.val = 6 then done (s.freeRx 6 m)
    else done (((s.freeRx l.val m).setFld (rEPL_STAT l.val) fEPL_STAT_ASLEEP 1).peerFails (s.neighbour l.val))

/-- R361, R362: LINIT announces the peer's sizes, module number and epoch. While the link is UP it starts the reset protocol;
sizes that differ from those announced before are a kind-7 violation (R359). -/
def execLinit (l : Fin 6) (s : State) : Out :=
  let x := s.link l.val
  match x.slot with
  | none => done s
  | some m =>
    if m.type ≠ 0x48 then done s
    else
      let s1 := s.setLink l.val { x with slot := none }
      if s.linkSt l.val = 3 then done (s1.linkReset l.val 5)
      else if s.linkSt l.val ≠ 2 then done s
      else if m.src = s.modId ∨ 24 ≤ m.src then
        done ((s1.setLinkSt l.val 5).setFld (rEPL_STAT l.val) fEPL_STAT_PEER_MOD m.src)
      else
        let sizes := [m.field 16 2, m.field 18 2, m.field 20 1]
        let old := x.peerSize
        let s2 := s1.setFld (rEPL_STAT l.val) fEPL_STAT_PEER_MOD m.src
        if old.any (fun o => o != sizes) then
          done ((s2.setLink l.val { s2.link l.val with peerSize := some sizes }).linkReset l.val 3)
        else if !x.rx.isEmpty then done s
        else
          let s3 := s2.setLink l.val { s2.link l.val with peerSize := some sizes }
          let s4 := (List.range 3).foldl (fun t c => t.setFld (rEPL_CRED l.val) (classFld c) (sizes.getD c 0)) s3
          let s5 := if m.field 24 4 % 2 ^ 24 ≠ s.fld rEPL_FAB_CFG fEPL_FAB_CFG_EPOCH then
            s4.setFld (rEPL_STAT l.val) fEPL_STAT_EPOCH_MISMATCH 1 else s4
          done (s5.transmit l.val (s5.initMsg l.val 0x49))

/-- R361: LINIT_ACK: the link is UP, and a reset is recorded with its cause and the reclaimed counts. -/
def execLinitAck (l : Fin 6) (s : State) : Out :=
  let x := s.link l.val
  match x.slot with
  | none => done s
  | some m =>
    if m.type ≠ 0x49 ∨ s.linkSt l.val ≠ 2 then done s
    else
      let s1 := s.setLink l.val { x with
        slot := none
        lastBeat := s.time.ns
        lastSent := s.time.ns
        lastTrailer := s.time.ns
        cause := 0 }
      let s2 := ((s1.setLinkSt l.val 3).setFld (rEPL_STAT l.val) fEPL_STAT_ASLEEP 0).setFld (rEPL_STAT l.val) fEPL_STAT_PEER_ALIVE 1
      done (if x.cause = 0 then s2 else s2.lichenFw 0x0903 l.val x.cause x.reclaimReq x.reclaimOther)

/-- R366: EPL_WIN_LOCK: LOCK makes the four registers of a window read-only until reset. -/
def execEplWinLock (w : Fin 16) (s : State) : Out := done (s.setFld (rEPL_WIN_CTL w.val) fEPL_WIN_CTL_LOCK 1)

end Sys2Proof.Machine
end

