-- ==== Sys2Proof/Machine/CueQueues.lean ====
section
/-!
DEFINITION. Cue queues (R41 to R50): entries, pushing, firing, late policies, flush and resume; and the cue actions that need
no other unit (NOP, HOST_EVENT, the NoC windows).
-/
namespace Sys2Proof.Machine

/-- R41: the entries a queue holds at most. -/
def queueCap : QueueId → Nat
  | .core _ => 64
  | .hub => 256
  | .port _ => 8
  | .aon => 4

/-- R41: the base of a queue's register group (a core queue's under its logical index). -/
def queueGroup : QueueId → Nat
  | .core b => blkCore b.val + 0x800
  | .hub => blkBase 0x32 + 0x800
  | .port p => blkBase 0x20 + 0x800 + 0x20 * p.val
  | .aon => blkBase 0x41 + 0x800

/-- R42: the entry that four entry words spell. -/
def CueEntry.ofWords (w0 w1 w2 w3 : Word) : CueEntry :=
  { time := w0.toNat + w1.toNat * 2 ^ 32
    op := bitsOf w2.toNat 5 0
    late := bitsOf w2.toNat 7 6
    fab := bitOf w2.toNat 8
    period := bitsOf w2.toNat 31 10
    arg := w3.toNat }

/-- R42: bit 73 of an entry, which is reserved. -/
def entryReserved (w2 : Word) : Bool := bitOf w2.toNat 9

/-- R42: entry word `k` of an entry. -/
def CueEntry.word (e : CueEntry) : Nat → Word
  | 0 => BitVec.ofNat 32 e.time
  | 1 => BitVec.ofNat 32 (e.time / 2 ^ 32)
  | 2 => BitVec.ofNat 32 (e.op + e.late * 2 ^ 6 + b2n e.fab * 2 ^ 8 + e.period * 2 ^ 10)
  | _ => BitVec.ofNat 32 e.arg

/-- R43, R315, R316, R390: whether an entry's OP, ARG and LATE are legal for its queue. -/
def legalEntry (s : State) (q : QueueId) (e : CueEntry) : Bool :=
  e.late != 3 &&
  (match e.op, q with
    | 0x00, _ => true
    | 0x01, .core _ => bitsOf e.arg 5 0 ≤ 15
    | 0x01, .hub => true
    | 0x02, .core _ => bitsOf e.arg 4 0 == 0
    | 0x03, .core _ => true
    | 0x04, .core _ => true
    | 0x05, .hub => true
    | 0x06, .hub => true
    | 0x07, .hub => true
    | 0x08, .port _ => bitsOf e.arg 3 0 ≤ 11 && bitsOf e.arg 15 8 != 0
    | 0x09, .port _ => s.fld (rINT_WL (bitsOf e.arg 7 0)) fINT_WL_COUNT != 0
    | 0x0A, .port _ => bitsOf e.arg 7 6 == 0 && e.arg / 2 ^ 10 == 0
    | 0x0B, .hub => true
    | 0x0C, .aon => true
    | 0x0D, .hub => 0x8000 ≤ bitsOf e.arg 15 0
    | _, _ => false)

/-- R45: an entry goes in front of every entry that fires after it: of later TIME, or of equal TIME where it is a WINGS_APPLY
and the other is not. -/
def CueEntry.before (e x : CueEntry) : Bool :=
  e.time < x.time || (e.time == x.time && e.op == 0x0B && x.op != 0x0B)

/-- R41, R45: an entry put into a queue in order. -/
def insertEntry (e : CueEntry) : List CueEntry → List CueEntry
  | [] => [e]
  | x :: l => if e.before x then e :: x :: l else x :: insertEntry e l

/-- R42: a periodic entry's next instance. -/
def CueEntry.again (e : CueEntry) : CueEntry :=
  { e with time := e.time + e.period * 1000, counted := false, jumped := false }

/-- R44: a periodic entry's first future instance. -/
def CueEntry.firstFuture (e : CueEntry) (now : Nat) : CueEntry :=
  let p := e.period * 1000
  { e with time := e.time + ((now - e.time) / p + 1) * p, counted := false, jumped := false }

/-- R33: the lateness tolerance in ns. -/
def State.tol (s : State) : Nat := s.fld rCUE_LATE_TOL fCUE_LATE_TOL_TOL

/-- R44, R37: an entry is late. -/
def State.isLate (s : State) (e : CueEntry) : Bool := e.jumped || e.time + s.tol < s.now

/-- R321: the port's watch unit is enabled and watches a stream that may be watched. -/
def State.watching (s : State) (p : Nat) : Bool :=
  s.flag (rINT_WATCH_CFG p) fINT_WATCH_CFG_EN &&
    s.flag (rINT_STR_CFG (4 * p + s.fld (rINT_WATCH_CFG p) fINT_WATCH_CFG_STREAM)) fINT_STR_CFG_WATCH

/-- R416, R467: the clocks of a core slot's cluster are gated. -/
def State.coreGated (s : State) (b : Nat) : Bool :=
  (s.cluster (clusterOf b)).tripped || (s.cluster (clusterOf b)).unlocked

/-- R416: the queue is that of a core whose clocks are gated. -/
def State.targetGated (s : State) : QueueId → Bool
  | .core b => s.coreGated b.val
  | _ => false

/-- R19, R457: the index is being switched or quiesced, so its cue entries are held. -/
def State.indexHeld (s : State) (b : Nat) : Bool :=
  s.switching == some b || s.reh.swap.any (fun x => x.logical == b)

/-- R47, R321: whether a queue fires in the present power state. -/
def State.queueRuns (s : State) (q : QueueId) : Bool :=
  match s.power.st with
  | .sleep | .waking =>
    match q with
    | .aon => true
    | .port p => s.watching p.val
    | _ => false
  | .dark => q == .aon
  | _ =>
    match q with
    | .core b => !s.indexHeld b.val
    | _ => true

/-- R45: an armed Wings set applies at or before `t` and has not yet applied. -/
def State.wingsDue (s : State) (t : Nat) : Bool :=
  s.wings.any (fun (x : Nat × WingsSet) => x.2.st == .armed && x.2.isp.isNone && decide (x.2.time ≤ t ∧ x.2.time ≤ s.now) &&
    (x.2.fabric == 0 || x.2.committed))

/-- R40: a fabric action waits for alignment. -/
def State.fabWaits (s : State) (e : CueEntry) : Bool := e.fab && !s.flag rCUE_STATUS fCUE_STATUS_ALIGN_OK

/-- R44: the head of a queue that may start now: due, not held back, and not late under a policy that keeps it from firing. -/
def State.firing (s : State) (q : QueueId) (op : Nat) : Option CueEntry :=
  match (s.cq q.num).entries with
  | [] => none
  | e :: _ =>
    if e.op = op ∧ !(s.cq q.num).halted ∧ e.time ≤ s.now ∧ !s.holding ∧ s.queueRuns q ∧ !s.fabWaits e ∧
        (op = 0x0B ∨ !s.wingsDue e.time) ∧ (e.late = 0 ∨ !s.isLate e) ∧
        !s.targetGated q then some e else none

/-- R44: the head entry leaves its queue; a periodic one is put back. -/
def CueQueue.pop (q : CueQueue) (next : CueEntry → CueEntry) : CueQueue :=
  match q.entries with
  | [] => q
  | e :: l => { q with entries := if e.period = 0 then l else insertEntry (next e) l }

/-- R44: a late entry under FIRE is counted once, and its lateness noted. -/
def State.countLate (s : State) (q : QueueId) (e : CueEntry) : State :=
  let c := s.cq q.num
  (s.setCq q.num { c with lateNotes := c.lateNotes ++ [(e.owner, s.now - e.time)] }).count rCUE_LATE_CNT

/-- R44: a cue fires. `eff` is the action on the state whose queue no longer holds the entry, or none while the target is
busy. -/
def State.fire (s : State) (q : QueueId) (op : Nat) (eff : CueEntry → State → Option State) : State :=
  match s.firing q op with
  | none => s
  | some e =>
    let s1 := if s.isLate e ∧ !e.counted then s.countLate q e else s
    (eff e (s1.setCq q.num ((s1.cq q.num).pop CueEntry.again))).getD s

/-- R48: MISSED of a queue and CUE_MISS_CNT count one entry. -/
def State.countMiss (s : State) (q : QueueId) : State :=
  (s.count rCUE_MISS_CNT).countBy (rCUEQ_STAT (queueGroup q)) fCUEQ_STAT_MISSED 1

/-- R44: the queue halts at its head entry, with Lichen record 0x0A05. -/
def State.haltQueue (s : State) (q : QueueId) (e : CueEntry) : State :=
  let s1 := (s.countMiss q).setCq q.num { (s.countMiss q).cq q.num with halted := true }
  s1.lichenHw 0x0A05 q.num e.op (e.time % 2 ^ 32) (s.now - e.time)

/-- R46: an entry is pushed: refused, treated at once by its late policy, or put into the queue. -/
def State.pushCue (s : State) (q : QueueId) (e : CueEntry) (rsv : Bool) : State :=
  let c := s.cq q.num
  if queueCap q ≤ c.entries.length ∨ rsv ∨ !legalEntry s q e then
    s.setFld (rCUEQ_STAT (queueGroup q)) fCUEQ_STAT_REFUSED 1
  else if e.time + s.tol < s.now then
    if e.late = 0 then
      (s.setCq q.num { c with entries := insertEntry { e with counted := true } c.entries }).countLate q e
    else if e.late = 1 then
      let s1 := s.countMiss q
      if e.period = 0 then s1 else s1.setCq q.num { c with entries := insertEntry (e.firstFuture s.now) c.entries }
    else
      (s.setCq q.num { c with entries := e :: c.entries }).haltQueue q e
  else s.setCq q.num { c with entries := insertEntry e c.entries }

/-- R46: CUEQ_PUSH, a write of `w` to CUEQ_ENTRY3. -/
def execCueqPush (q : QueueId) (w : Word) (s : State) : Out :=
  let c := s.cq q.num
  done (s.pushCue q (CueEntry.ofWords c.w0 c.w1 c.w2 w) (entryReserved c.w2))

/-- R48: CUEQ_FLUSH. -/
def execCueqFlush (q : QueueId) (s : State) : Out :=
  done (s.setCq q.num { s.cq q.num with entries := [], halted := false })

/-- R48: CUEQ_RESUME drops the halted head entry. -/
def execCueqResume (q : QueueId) (s : State) : Out :=
  let c := s.cq q.num
  done (if c.halted then s.setCq q.num { c with entries := c.entries.tail, halted := false } else s)

/-- R47: CUE_PREWAKE ungates the owning unit 256 ns before the head is due. -/
def execCuePrewake (q : QueueId) (s : State) : Out :=
  match (s.cq q.num).entries with
  | [] => done s
  | e :: _ =>
    if s.power.st = .idle ∧ e.time ≤ s.now + 256 ∧ q.num ∉ s.power.ungated then
      done { s with power := { s.power with ungated := s.power.ungated ++ [q.num] } }
    else done s

/-- R44: CUE_LATE applies the late policy of a head that has not started by TIME + TOL. -/
def execCueLate (q : QueueId) (s : State) : Out :=
  let c := s.cq q.num
  match c.entries with
  | [] => done s
  | e :: l =>
    if !c.halted ∧ s.isLate e ∧ !s.holding ∧ s.queueRuns q ∧ !s.fabWaits e then
      if e.late = 0 then
        done (if e.counted then s
              else (s.setCq q.num { c with entries := { e with counted := true } :: l }).countLate q e)
      else if e.late = 1 then
        let s1 := s.countMiss q
        done (s1.setCq q.num (c.pop (fun x => x.firstFuture s.now)))
      else done (s.haltQueue q e)
    else done s

/-- R43: NOP fires and does nothing. -/
def execNop (q : QueueId) (s : State) : Out := done (s.fire q 0x00 (fun _ s => some s))

/-- R390: HOST_EVENT posts an event record on EP3 IN. -/
def execHostEvent (s : State) : Out :=
  done (s.fire .hub 0x0D (fun e s =>
    let (i, s1) := s.free Config.cueEventField
    let (p, s2) := s1.free Config.cueEventField
    some (s2.postEvent (bitsOf e.arg 15 0) e.owner (i % 256) p)))

/-- R51: NOC_WINDOW_OPEN opens a booked window. -/
def execNocWindowOpen (s : State) : Out :=
  done (s.fire .hub 0x06 (fun e s =>
    let w := bitsOf e.arg 3 0
    let x := s.window w
    some (if x.booked then s.setWindow w { x with opened := some s.time.ns } else s)))

/-- R51: NOC_WINDOW_CLOSE closes a window. -/
def execNocWindowClose (s : State) : Out :=
  done (s.fire .hub 0x07 (fun e s =>
    let w := bitsOf e.arg 3 0
    some (s.setWindow w { s.window w with opened := none })))

/-- R288: a script's entries leave a queue. -/
def CueQueue.dropOwner (q : CueQueue) (slot : Nat) : CueQueue := { q with entries := q.entries.filter (fun e => e.owner != slot) }

/-- R288: a script's entries leave every queue. -/
def State.dropCues (s : State) (slot : Nat) : State :=
  { s with cueq := s.cueq.map (fun (x : Nat × CueQueue) => (x.1, x.2.dropOwner slot)) }

end Sys2Proof.Machine
end

