-- ==== Sys2Proof/Machine/Frond.lean ====
section
/-!
DEFINITION. The frond: jobs and their checks, weight blocks, the exact arithmetic of a pass, the output stage, halts
(R62 to R93, R101 to R105), and the rhizome chain (R276 to R279).
-/
namespace Sys2Proof.Machine

/-! ### A job's fields (R84) -/

/-- A field of a job's descriptor. -/
def FrondJob.f (j : FrondJob) (k hi lo : Nat) : Nat := bitsOf (j.d.getD k 0) hi lo
/-- A real-time job. -/
def FrondJob.rt (j : FrondJob) : Bool := j.f 0 27 27 == 1
/-- G. -/
def FrondJob.g (j : FrondJob) : Nat := 32 * 2 ^ j.f 0 21 20
/-- R64: Kp. -/
def FrondJob.kp (j : FrondJob) : Nat := if j.f 0 19 19 = 0 then 256 else 512
/-- M. -/
def FrondJob.m (j : FrondJob) : Nat := j.f 1 31 16 + 1
/-- N. -/
def FrondJob.n (j : FrondJob) : Nat := j.f 1 15 8 + 1
/-- The number of K-tiles. -/
def FrondJob.kt (j : FrondJob) : Nat := j.f 2 11 0 + 1
/-- R71: the groups of K-tile `t`. -/
def FrondJob.groups (j : FrondJob) (t : Nat) : Nat := if t + 1 = j.kt then j.f 1 7 3 else j.kp / j.g
/-- The activation zero point. -/
def FrondJob.za (j : FrondJob) : Int := signed 9 (j.f 0 17 9)
/-- OUT_FMT: 0 int8, 1 uint8, 2 int16, 3 RAW48. -/
def FrondJob.fmt (j : FrondJob) : Nat := j.f 9 27 26
/-- WSRC. -/
def FrondJob.wsrc (j : FrondJob) : Nat := j.f 7 9 8
/-- The lookup table is in use (R76). -/
def FrondJob.lutEn (j : FrondJob) : Bool := j.f 9 22 22 == 1 && j.fmt != 3
/-- R104: lines of one block, and blocks of K-tile `t`. -/
def FrondJob.blockBytes (j : FrondJob) : Nat := 64 + (if j.f 0 19 19 = 0 then j.g * 16 else j.g * 8)
/-- R104: blocks of K-tile `t`. -/
def FrondJob.blocks (j : FrondJob) (t : Nat) : Nat := (j.n + 15) / 16 * j.groups t
/-- R104: the weight address of K-tile `t`: a DPA, or (WSRC 0) a byte address in the core word space. -/
def FrondJob.tileAddr (j : FrondJob) (t : Nat) : Nat :=
  (if j.wsrc = 0 then 2 * j.f 6 21 0 else j.d.getD 6 0 + j.f 7 7 0 * 2 ^ 32) + t * j.f 7 31 10 * 64
/-- TILE_W. -/
def FrondJob.tileW (j : FrondJob) : Nat := j.f 11 23 16 + 1
/-- R79: the pooling window, 0 without pooling. -/
def FrondJob.pool (j : FrondJob) : Nat := match j.f 9 25 24 with | 0 => 0 | 2 => 3 | _ => 2
/-- R78: ARGMAX. -/
def FrondJob.argmax (j : FrondJob) : Bool := j.f 9 23 23 == 1

/-- R79, R80: output rows, and words of one. -/
def FrondJob.outRows (j : FrondJob) : Nat :=
  if j.pool = 0 then j.m else ((j.tileW - j.pool) / 2 + 1) * ((j.m / j.tileW - j.pool) / 2 + 1)
/-- R76, R78, R80: words of an output row. -/
def FrondJob.outWords (j : FrondJob) : Nat :=
  if j.fmt = 3 then 3 * j.n else if j.argmax then 2 else if j.fmt = 2 then j.n else (j.n + 1) / 2

/-- R86: the bounding range of the activations, as words [lo, hi). -/
def FrondJob.actRange (j : FrondJob) : Nat × Nat :=
  let a := j.f 3 21 0
  let hiOf (t : Nat) := a + (j.m - 1) * j.f 4 15 0 + t * j.f 5 21 0 + j.groups t * j.g / 2
  (a, if j.kt = 1 then hiOf 0 else max (hiOf (j.kt - 1)) (hiOf (j.kt - 2)))
/-- R86: the bounding range of the bias, if there is one. -/
def FrondJob.biasRange (j : FrondJob) : List (Nat × Nat) :=
  if j.f 8 24 24 = 1 then [(j.f 8 23 0, j.f 8 23 0 + 3 * j.n)] else []
/-- R77: the words of the lookup table, if there is one. -/
def FrondJob.lutRange (j : FrondJob) : List (Nat × Nat) :=
  if j.lutEn then [(0x320000 + j.f 13 31 16, 0x320000 + j.f 13 31 16 + 128)] else []
/-- R86: the bounding range of local-store weights, if they are. -/
def FrondJob.weightRange (j : FrondJob) : List (Nat × Nat) :=
  if j.wsrc = 0 then
    let hiOf (t : Nat) := j.tileAddr t / 2 + j.blocks t * j.blockBytes / 2
    [(j.tileAddr 0 / 2, if j.kt = 1 then hiOf 0 else max (hiOf (j.kt - 1)) (hiOf (j.kt - 2)))]
  else []
/-- R80, R86: the bounding range of the output. -/
def FrondJob.outRange (j : FrondJob) : Nat × Nat :=
  (j.f 12 23 0, j.f 12 23 0 + (j.outRows - 1) * j.f 13 15 0 + j.outWords)
/-- R87: the read ranges of a job. -/
def FrondJob.reads (j : FrondJob) : List (Nat × Nat) := j.actRange :: j.biasRange ++ j.lutRange ++ j.weightRange

/-- A range lies in one memory of a core (local store, X or Y). -/
def inOneMemory (r : Nat × Nat) : Bool :=
  [(0, 0x300000), (0x300000, 0x320000), (0x320000, 0x340000)].any (fun (x : Nat × Nat) => decide (x.1 ≤ r.1 ∧ r.2 ≤ x.2))

/-- R77: the bounds of the output type. -/
def outBounds (fmt : Nat) : Int × Int :=
  match fmt with | 0 => (-128, 127) | 1 => (0, 255) | _ => (-32768, 32767)

/-- R86: the first condition that a descriptor fails, 0 for none (0xB is tested before a descriptor is read). -/
def FrondJob.check (j : FrondJob) : Nat :=
  let zo := signed 16 (j.f 10 15 0)
  let lo := signed 16 (j.f 10 31 16)
  let hi := signed 16 (j.f 11 15 0)
  let b := outBounds j.fmt
  if j.f 0 21 20 = 3 ∨ j.wsrc = 3 ∨ j.f 0 31 28 ≠ 0 ∨ j.f 1 2 0 ≠ 0 ∨ j.f 2 31 12 ≠ 0 ∨ j.f 3 31 22 ≠ 0 ∨ j.f 4 31 16 ≠ 0 ∨
      j.f 5 31 22 ≠ 0 ∨ j.f 8 31 25 ≠ 0 ∨ j.f 9 31 28 ≠ 0 ∨ j.f 11 31 24 ≠ 0 ∨ j.f 12 31 24 ≠ 0 ∨ j.f 14 31 16 ≠ 0 ∨
      j.f 15 31 16 ≠ 0 then 1
  else if j.f 1 7 3 = 0 ∨ j.kp / j.g < j.f 1 7 3 then 2
  else if 1 < j.kt ∧ 256 < j.m then 3
  else if (if j.f 0 18 18 = 1 then j.za < -128 ∨ 127 < j.za else j.za < 0) then 4
  else if j.fmt ≠ 3 ∧ ¬ (lo ≤ zo ∧ zo ≤ hi ∧ b.1 ≤ lo ∧ hi ≤ b.2) then 5
  else if j.f 9 22 22 = 1 ∧ 2 ≤ j.fmt then 6
  else if (j.argmax ∧ j.pool ≠ 0) ∨ ((j.argmax ∨ j.pool ≠ 0) ∧ j.fmt = 3) then 7
  else if j.pool ≠ 0 ∧ (j.m % j.tileW ≠ 0 ∨ j.tileW < j.pool ∨ j.m / j.tileW < j.pool) then 8
  else if 0x300000 < j.actRange.2 ∨ j.biasRange.any (fun r => !inOneMemory r) ∨ (j.lutEn ∧ 0xFF80 < j.f 13 31 16) ∨
      !inOneMemory j.outRange then 9
  else if j.reads.any (fun r => overlaps r j.outRange) then 10
  else 0

/-! ### A core's own memory, as the frond reads and writes it -/

/-- R201, R230: where `n` words from word `w` of a core lead: bad if any does, else waiting if any does. -/
def State.coreSpan (s : State) (p w n : Nat) : Target :=
  let l := s.coreWord p w :: s.coreWord p (w + (n - 1)) ::
    ((List.range 12).filter (fun b => decide (w < (b + 1) * 0x40000 ∧ b * 0x40000 < w + n))).map (fun b => s.coreWord p (b * 0x40000))
  if l.contains .bad then .bad else if l.contains .wait then .wait else s.coreWord p w

/-- A read of `n` bytes from word `w` of a core. -/
def State.coreRead (s : State) (p w n : Nat) : Option (List Byte) × State :=
  match s.coreSpan p w ((n + 1) / 2) with
  | .mem k => s.readMem k n
  | _ => (none, s)

/-- A write of bytes from word `w` of a core. -/
def State.coreWrite (s : State) (p w : Nat) (b : List Byte) : Option State :=
  match s.coreSpan p w ((b.length + 1) / 2) with
  | .mem k => s.writeMem k b
  | _ => none

/-! ### Indexed state -/

/-- One physical core's frond. -/
def State.frond (s : State) (p : Nat) : FrondSt := Cells.get (fun _ => {}) s.fronds p

/-- R88: the state with a frond replaced, and its registers in step. -/
def State.setFrond (s : State) (p : Nat) (x : FrondSt) : State :=
  let s1 := { s with fronds := Cells.set (fun _ => {}) s.fronds p x }
  let s2 := s1.setFld (rFROND_Q_STAT p) fFROND_Q_STAT_DEPTH x.queue.length
  let s3 := s2.setFld (rFROND_STATUS p) fFROND_STATUS_BUSY (b2n (x.cur.isSome || x.saved.isSome || !x.drain.isEmpty))
  let s4 := s3.setFld (rFROND_STATUS p) fFROND_STATUS_HALTED (b2n (!x.halted.isEmpty))
  match x.halted with
  | [] => s4
  | j :: _ =>
    let (err, pass, addr) := j.bad.getD (0, 0, 0)
    let s5 := s4.setFld (rFROND_STATUS p) fFROND_STATUS_ERR err
    let s6 := s5.setReg (rFROND_ERR_INFO p) (BitVec.ofNat 32 (pass % 4096 * 2 ^ 16 + j.ofs))
    (s6.setReg (rFROND_ERR_ADDR_LO p) (BitVec.ofNat 32 addr)).setReg (rFROND_ERR_ADDR_HI p) (BitVec.ofNat 32 (addr / 2 ^ 32))

/-- R93: a frond that is held fenced. -/
def State.frondFenced (s : State) (b : Nat) : Bool := s.host.fenced.contains b

/-! ### Pushes (R85, R86) -/

/-- R86: a push is refused. While a job is halted the error registers describe it (R91). -/
def State.frondRefuse (s : State) (b err check ofs : Nat) : State :=
  let p := s.phys b
  let s1 := (s.setFld (rFROND_Q_STAT p) fFROND_Q_STAT_REFUSED 1).raiseInt b 18
  if (s.frond p).halted.isEmpty then
    (s1.setFld (rFROND_STATUS p) fFROND_STATUS_ERR err).setReg (rFROND_ERR_INFO p) (BitVec.ofNat 32 (check * 2 ^ 28 + ofs))
  else s1

/-- R85: the queue is full. -/
def State.frondFull (s : State) (b : Nat) : Bool := decide (16 ≤ (s.frond (s.phys b)).queue.length)

/-- R85, R86: a descriptor at X-memory word offset `ofs` is copied, checked, and refused or queued. -/
def State.frondPush (s : State) (b ofs : Nat) : State :=
  let p := s.phys b
  if ofs % 32 ≠ 0 then s.frondRefuse b 1 0xB ofs
  else if s.frondFull b then s.frondRefuse b 4 0 ofs
  else match s.readMem (corePlace p (0x300000 + ofs)) 64 with
    | (none, s1) => s1.frondRefuse b 3 0 ofs
    | (some bytes, s1) =>
      let j : FrondJob := { ofs := ofs, d := (List.range 16).map (fun (i : Nat) => ofLeBytes ((bytes.drop (4 * i)).take 4)) }
      if j.check ≠ 0 then s1.frondRefuse b 1 j.check ofs
      else
        let x := s1.frond p
        s1.setFrond p { x with queue := x.queue ++ [j] }

/-- R85: FROND_JOB_Q_WRITE. -/
def execFrondJobQWrite (b : Fin 9) (w : Word) (s : State) : Out := done (s.frondPush b.val (getF w fFROND_JOB_Q_DESC_OFS))

/-! ### The rhizome chain (R276 to R279) -/

/-- R276: the physical cores in the order of the ring. -/
def ringOrder : List Nat := [0, 1, 3, 2, 8, 6, 7, 5, 4]

/-- R276: the frond of a physical core is a member of chain `id`. -/
def State.chainMember (s : State) (p id : Nat) : Bool :=
  s.flag (rCHAIN_CFG p) fCHAIN_CFG_EN && s.fld (rCHAIN_CFG p) fCHAIN_CFG_ID == id && !s.frondFenced (s.slotOf p)

/-- R276, R277: the next member downstream of a physical core. -/
def State.chainNext (s : State) (p : Nat) : Option Nat :=
  let id := s.fld (rCHAIN_CFG p) fCHAIN_CFG_ID
  let i := (ringOrder.findIdx? (· == p)).getD 0
  ((ringOrder.drop (i + 1)) ++ ringOrder.take i).find? (fun q => s.chainMember q id)

/-- A chain buffer. -/
def State.chainBuf (s : State) (p : Nat) : List ChainTile := Cells.get (fun _ => []) s.chain p

/-- R278: a chain buffer with new content: a slot whose tile has been forwarded and loaded or discarded is free. -/
def State.setChainBuf (s : State) (p : Nat) (l : List ChainTile) : State :=
  let l1 := l.filter (fun t => !(t.forwarded && t.consumed))
  { s with chain := Cells.set (fun _ => []) s.chain p l1 }.setFld (rCHAIN_STAT p) fCHAIN_STAT_FULL
    (l1.filter (fun (t : ChainTile) => !t.filling)).length

/-- R278: a job still expects the tile at a DPA. -/
def FrondJob.expects (j : FrondJob) (dpa : Nat) : Bool :=
  j.wsrc == 2 && !j.fallback && (List.range j.kt).any (fun t => decide (j.pass ≤ t) && j.tileAddr t == dpa)

/-- R278: tiles that match no queued job of the member are discarded. -/
def State.chainSweep (s : State) (p : Nat) : State :=
  let x := s.frond p
  let js := x.queue ++ x.cur.toList ++ x.saved.toList
  s.setChainBuf p ((s.chainBuf p).map (fun (t : ChainTile) =>
    if t.filling ∨ js.any (fun j => j.expects t.dpa) then t else { t with consumed := true }))

/-- R278: CHAIN_TILE_ARRIVE: the tile on its way into a member's buffer has arrived whole. -/
def execChainTileArrive (b : Fin 9) (s : State) : Out :=
  let p := s.phys b.val
  done ((s.setChainBuf p ((s.chainBuf p).map (fun (t : ChainTile) => { t with filling := false }))).chainSweep p)

/-- R277, R278: CHAIN_TILE_FORWARD: the oldest tile that has not been forwarded moves on once the next member has a free slot;
the last member before the head, or a head without members, has none to send it to. -/
def execChainTileForward (b : Fin 9) (s : State) : Out :=
  let p := s.phys b.val
  match (s.chainBuf p).find? (fun t => !t.forwarded && !t.filling) with
  | none => done s
  | some t =>
    let sent := (s.chainBuf p).map (fun (y : ChainTile) => if y = t then { y with forwarded := true } else y)
    match s.chainNext p with
    | some q =>
      if s.flag (rCHAIN_CFG q) fCHAIN_CFG_HEAD then done (s.setChainBuf p sent)
      else if 2 ≤ (s.chainBuf q).length then done s
      else done ((s.setChainBuf p sent).setChainBuf q (s.chainBuf q ++ [⟨t.dpa, t.data, true, false, false⟩]))
    | none => done (s.setChainBuf p sent)

/-- R279: CHAIN_WAIT_EXPIRE: the member's job has waited CHAIN_WAIT × 256 core cycles for its tile. -/
def execChainWaitExpire (b : Fin 9) (s : State) : Out :=
  let p := s.phys b.val
  let x := s.frond p
  match x.cur with
  | none => done s
  | some j =>
    let there := (s.chainBuf p).any (fun t => t.dpa == j.tileAddr j.pass && !t.filling)
    if s.chainMember p (s.fld (rCHAIN_CFG p) fCHAIN_CFG_ID) ∧ !s.flag (rCHAIN_CFG p) fCHAIN_CFG_HEAD ∧ j.wsrc = 2 ∧
        !j.fallback ∧ j.plane.isEmpty ∧ j.pass < j.kt ∧ !there ∧
        j.since + s.fld (rCHAIN_CFG p) fCHAIN_CFG_WAIT * 256 ≤ s.time.ns then
      done ((s.setFrond p { x with cur := some { j with fallback := true } }).chainSweep p)
    else done s

/-! ### Leaving the queue (R69, R87) -/

/-- R69: the job that leaves the queue next: the first real-time job, or else the first job. -/
def FrondSt.next (x : FrondSt) : Option FrondJob :=
  match x.queue.find? FrondJob.rt with
  | some j => some j
  | none => x.queue.head?

/-- Every job of a frond. -/
def FrondSt.jobs (x : FrondSt) : List FrondJob := x.queue ++ x.cur.toList ++ x.saved.toList ++ x.drain ++ x.halted

/-- R220: the lowest of the numbers under which jobs in flight register that is unused. -/
def FrondSt.freeAgent (x : FrondSt) : Option Nat := [0, 1, 2].find? (fun a => x.jobs.all (fun j => j.agent != some a))

/-- R87: a registration of this agent has been granted. -/
def State.granted (s : State) (p agent : Nat) : Bool := !(Cells.get (fun _ => []) (s.sboard p).granted agent).isEmpty

/-- R87: the job `j` of the queue asks to leave it: its ranges are registered, or wait. The second part is the job once it has
left, with its lookup table loaded (R77). -/
def State.frondLeave (s : State) (p : Nat) (j : FrondJob) : State × Option FrondJob :=
  let x := s.frond p
  let go (s : State) (j : FrondJob) : State × Option FrondJob :=
    let y := s.frond p
    let s1 := s.setFrond p { y with queue := y.queue.filter (fun (q : FrondJob) => q.agent != j.agent) }
    let j1 := { j with since := s.time.ns }
    if j.lutEn then
      match s1.coreRead p (0x320000 + j.f 13 31 16) 256 with
      | (some t, s2) => (s2, some { j1 with lut := t })
      | (none, s2) => (s2, some { j1 with bad := some (3, 0, 0x320000 + j.f 13 31 16) })
    else (s1, some j1)
  match j.agent with
  | some a => if s.granted p a then go s j else (s, none)
  | none =>
    match x.freeAgent with
    | none => (s, none)
    | some a =>
      let j1 := { j with agent := some a }
      let i := (x.queue.findIdx? (· == j)).getD 0
      let (s1, ok) := (s.setFrond p { x with queue := x.queue.set i j1 }).sbRegister p a [j.outRange] j.reads
      if ok then go s1 j1 else (s1, none)

/-- R87: FROND_JOB_START. -/
def execFrondJobStart (b : Fin 9) (s : State) : Out :=
  let p := s.phys b.val
  let x := s.frond p
  match x.next with
  | none => done s
  | some j =>
    if x.cur.isSome ∨ !x.halted.isEmpty ∨ s.frondFenced b.val ∨ (x.saved.isSome ∧ !j.rt) then done s
    else match s.frondLeave p j with
      | (s1, none) => done s1
      | (s1, some j1) => done (s1.setFrond p { s1.frond p with cur := some j1 })

/-- R69: FROND_RT_PREEMPT: a queued real-time job takes the idle plane; the batch job resumes later at its next pass, whose tile
loads again. -/
def execFrondRtPreempt (b : Fin 9) (s : State) : Out :=
  let p := s.phys b.val
  let x := s.frond p
  match x.cur, x.queue.find? FrondJob.rt with
  | some c, some j =>
    if c.rt ∨ c.bad.isSome ∨ x.saved.isSome ∨ !x.halted.isEmpty ∨ s.frondFenced b.val then done s
    else match s.frondLeave p j with
      | (s1, none) => done s1
      | (s1, some j1) => done (s1.setFrond p { s1.frond p with
          cur := some j1
          saved := some { c with plane := [] } })
  | _, _ => done s

/-- R69: the displaced batch job resumes once no real-time job is queued. -/
def FrondSt.settle (x : FrondSt) (ns : Nat) : FrondSt :=
  if x.cur.isNone ∧ x.halted.isEmpty ∧ x.queue.all (fun j => !j.rt) then
    { x with
      cur := x.saved.map (fun j => { j with since := ns })
      saved := none }
  else x

/-! ### Halts (R89 to R91) -/

/-- R91: every byte of a core's words [lo, hi) is undefined. -/
def State.scramble (s : State) (p lo : Nat) : Nat → State
  | 0 => s
  | n + 1 =>
    match s.coreWord p lo with
    | .mem k =>
      let (x, s1) := s.free Config.haltedByte
      let (y, s2) := s1.free Config.haltedByte
      (s2.setBytes k [x, y]).scramble p (lo + 1) n
    | _ => s.scramble p (lo + 1) n

/-- R91: a job with an error halts; what its output range holds is undefined. -/
def State.frondHalt (s : State) (b : Nat) (j : FrondJob) : State :=
  let p := s.phys b
  let x := s.frond p
  let out := fun (q : FrondJob) => q.agent == j.agent
  let s1 := s.setFrond p { x with
    cur := x.cur.filter (fun q => !out q)
    saved := x.saved.filter (fun q => !out q)
    drain := x.drain.filter (fun q => !out q)
    halted := x.halted ++ [j] }
  let r := j.outRange
  (s1.scramble p r.1 (r.2 - r.1)).raiseInt b 18

/-- R90: FROND_BUS_ERROR: a job for which a fetch or a write has ended in a bus error halts. -/
def execFrondBusError (b : Fin 9) (s : State) : Out :=
  let x := s.frond (s.phys b.val)
  match (x.drain ++ x.cur.toList ++ x.saved.toList).find? (fun j => j.bad.isSome) with
  | some j => done (s.frondHalt b.val j)
  | none => done s

/-! ### Weight blocks (R89, R101 to R105, R206, R207) -/

/-- R208: `n` bytes at a DPA of DDR4, read through a cluster's cache line by line. -/
def State.cachedBytes (s : State) (c dpa : Nat) : Nat → Nat → Option (List Byte) × State
  | 0, _ => (some [], s)
  | fuel + 1, n =>
    if n = 0 then (some [], s)
    else
      let m := min n (64 - dpa % 64)
      match s.cachedRead c dpa m with
      | (none, s1) => (none, s1)
      | (some d, s1) =>
        match s1.cachedBytes c (dpa + m) fuel (n - m) with
        | (none, s2) => (none, s2)
        | (some e, s2) => (some (d ++ e), s2)

/-- R207: a weight read at a DPA by the frond in core slot `b`: its own cluster's shared store, or DDR4. -/
def State.weightRead (s : State) (b dpa n : Nat) : Option (List Byte) × State :=
  let c := clusterOf b
  if 0x4800000000 + c * 0x2000000 ≤ dpa ∧ dpa < 0x4800000000 + c * 0x2000000 + 0x1000000 then s.dpaRead true dpa n
  else if dpa + n ≤ 2 ^ 36 then s.cachedBytes c dpa (n / 64 + 2) n
  else (none, s)

/-- R102: the control bits of a block: bit 15 of each weight-sum halfword. -/
def controlBits (blk : List Byte) : Nat :=
  (List.range 16).foldl (fun n c => n + b2n (bitOf ((blk.getD (33 + 2 * c) 0).toNat) 7) * 2 ^ c) 0

/-- R89, R105: a block carries the job's group size, the tag of its place, and reserved bits of 0. -/
def FrondJob.blockOk (j : FrondJob) (i : Nat) (blk : List Byte) : Bool :=
  let b := controlBits blk
  bitsOf b 1 0 == j.f 0 21 20 && bitsOf b 5 2 == (j.f 0 3 0 + i) % 16 && bitsOf b 15 6 == 0

/-- R104: the number in the job of block `k` of K-tile `t`. -/
def FrondJob.blockNo (j : FrondJob) (t k : Nat) : Nat := t * ((j.n + 15) / 16 * (j.kp / j.g)) + k

/-- R66, R207, R277, R278: the bytes of the next block of the tile that loads: none while they are not there, or an error. -/
def State.nextBlock (s : State) (b : Nat) (j : FrondJob) : Option (Option (List Byte)) × State :=
  let p := s.phys b
  let k := j.plane.length
  let addr := j.tileAddr j.pass + k * j.blockBytes
  let head := s.flag (rCHAIN_CFG p) fCHAIN_CFG_HEAD
  let viaDpa (s : State) : Option (Option (List Byte)) × State :=
    if s.target true addr = .wait then (none, s)
    else let (d, s1) := s.weightRead b addr j.blockBytes
      (some d, s1)
  if j.wsrc = 0 then
    if s.coreSpan p (addr / 2) (j.blockBytes / 2) = .wait then (none, s)
    else let (d, s1) := s.coreRead p (addr / 2) j.blockBytes
      (some d, s1)
  else if j.wsrc = 1 ∨ j.fallback ∨ !s.flag (rCHAIN_CFG p) fCHAIN_CFG_EN then viaDpa s
  else if head then (if k = 0 ∧ 2 ≤ (s.chainBuf p).length then (none, s) else viaDpa s)
  else match (s.chainBuf p).find? (fun t => t.dpa == j.tileAddr j.pass && !t.filling) with
    | some t => (some (some ((t.data.drop (k * j.blockBytes)).take j.blockBytes)), s)
    | none => (none, s)

/-- R277 to R279: the whole tile is in the plane: a head puts it into its chain buffer, a member has loaded it from its own, and
a tile that was read in place of a chain tile is counted. -/
def State.tileLoaded (s : State) (p : Nat) (j : FrondJob) : State :=
  if j.wsrc ≠ 2 ∨ !s.flag (rCHAIN_CFG p) fCHAIN_CFG_EN then s
  else if s.flag (rCHAIN_CFG p) fCHAIN_CFG_HEAD then
    s.setChainBuf p (s.chainBuf p ++ [⟨j.tileAddr j.pass, j.plane.flatten, false, false, true⟩])
  else if j.fallback then s.count (rCHAIN_LATE_CNT p)
  else s.setChainBuf p ((s.chainBuf p).map (fun (t : ChainTile) =>
    if t.dpa = j.tileAddr j.pass then { t with consumed := true } else t))

/-- R89: FROND_WEIGHT_BLOCK_LOAD: the next block enters the idle plane and is checked. -/
def execFrondWeightBlockLoad (b : Fin 9) (s : State) : Out :=
  let p := s.phys b.val
  let x := s.frond p
  match x.cur with
  | none => done s
  | some j =>
    if j.bad.isSome ∨ j.kt ≤ j.pass ∨ j.blocks j.pass ≤ j.plane.length ∨ !x.halted.isEmpty then done s
    else
      let addr := j.tileAddr j.pass + j.plane.length * j.blockBytes
      let shown := if j.wsrc = 0 then addr / 2 else addr
      match s.nextBlock b.val j with
      | (none, s1) => done s1
      | (some none, s1) => done (s1.setFrond p { s1.frond p with cur := some { j with bad := some (3, j.pass, shown) } })
      | (some (some blk), s1) =>
        if j.blockOk (j.blockNo j.pass j.plane.length) blk then
          let j1 := { j with plane := j.plane ++ [blk] }
          let s2 := s1.setFrond p { s1.frond p with cur := some j1 }
          done (if j1.plane.length = j.blocks j.pass then s2.tileLoaded p j1 else s2)
        else done (s1.frondHalt b.val { j with bad := some (2, j.pass, shown) })

/-! ### The arithmetic of a pass (R70 to R81) -/

/-- R103: the weight of product `p`, column `c` of a block. -/
def FrondJob.weight (j : FrondJob) (blk : List Byte) (p c : Nat) : Int :=
  if j.f 0 19 19 = 0 then signed 8 (blk.getD (64 + p * 16 + c) 0).toNat
  else signed 4 ((blk.getD (64 + p / 2 * 16 + c) 0).toNat / 16 ^ (p % 2))

/-- An activation as stored. -/
def FrondJob.act (j : FrondJob) (b : Byte) : Int := if j.f 0 18 18 = 1 then signed 8 b.toNat else b.toNat

/-- R74: the column accumulator and the bias addition saturate at 48 bits. -/
def sat48 (i : Int) : Int × Bool :=
  let c := clampInt (-(2 ^ 47)) (2 ^ 47 - 1) i
  (c, c != i)

/-- R72: the group accumulator of one group at its end. -/
def FrondJob.groupAcc (j : FrondJob) (blk acts : List Byte) (c : Nat) : Int :=
  let wsum := signed 15 (ofLeBytes ((blk.drop (32 + 2 * c)).take 2))
  (List.range j.g).foldl (fun ga p => ga + j.act (acts.getD p 0) * j.weight blk p c) (-j.za * wsum)

/-- R74: one group added to a column accumulator. -/
def FrondJob.addGroup (j : FrondJob) (blk acts : List Byte) (c : Nat) (a : Int × Bool) : Int × Bool :=
  let scale := ofLeBytes ((blk.drop (2 * c)).take 2)
  let (v, sat) := sat48 (a.1 + asr (j.groupAcc blk acts c * scale) (j.f 0 8 4))
  (v, a.2 || sat)

/-- R81: one activation row of a pass over column `col`. -/
def FrondJob.column (j : FrondJob) (acts : List Byte) (col : Nat) (a : Int × Bool) : Int × Bool :=
  let n := j.groups j.pass
  (List.range n).foldl (fun a gi => j.addGroup (j.plane.getD (col / 16 * n + gi) []) (acts.drop (gi * j.g)) (col % 16) a) a

/-- R75, R82: what one output value adds to the statistics: CLIP, ZERO, SAT. -/
structure OutStat where
  clip : Nat := 0
  zero : Nat := 0
  sat : Nat := 0
  deriving DecidableEq, Repr

/-- R75: steps 1 to 5 for one value: the value written (step-5 value, or y for RAW48) and its statistics. -/
def FrondJob.output (j : FrondJob) (bias : Option Int) (a : Int × Bool) : Int × OutStat :=
  let (y, f) := match bias with
    | some b => let (v, g) := sat48 (a.1 + b); (v, a.2 || g)
    | none => a
  if j.fmt = 3 then (y, { sat := b2n f })
  else
    let t := asr (y * j.f 9 15 0) (j.f 9 21 16)
    let v := t + signed 16 (j.f 10 15 0)
    let c := clampInt (signed 16 (j.f 10 31 16)) (signed 16 (j.f 11 15 0)) v
    let k := (c - (outBounds j.fmt).1).toNat
    let c1 : Int := if j.lutEn then
        (let b := (j.lut.getD k 0).toNat
         if j.fmt = 0 then signed 8 b else b)
      else c
    (c1, { clip := b2n (c != v), zero := b2n (t == 0 && y != 0), sat := b2n f })

/-- R78: the largest value of a row and its column; ties go to the lowest. -/
def argmaxOf : List Int → Nat → Int × Nat → Int × Nat
  | [], _, best => best
  | v :: l, i, best => argmaxOf l (i + 1) (if best.1 < v then (v, i) else best)

/-- R79: one pooled value of column `c` at window row `wy`, window column `wx`. -/
def FrondJob.pooled (j : FrondJob) (rows : List (List Int)) (wy wx c : Nat) : Int :=
  let at2 (dy dx : Nat) : Int := (rows.getD ((2 * wy + dy) * j.tileW + 2 * wx + dx) []).getD c 0
  let all := (List.range j.pool).flatMap (fun dy => (List.range j.pool).map (fun dx => at2 dy dx))
  if j.f 9 25 24 = 3 then asr (all.foldl (· + ·) 0) 2
  else all.foldl max (at2 0 0)

/-- R78, R79: step 6. -/
def FrondJob.reduce (j : FrondJob) (rows : List (List Int)) : List (List Int) :=
  if j.pool = 0 then rows
  else
    let ow := (j.tileW - j.pool) / 2 + 1
    (List.range j.outRows).map (fun r => (List.range j.n).map (fun c => j.pooled rows (r / ow) (r % ow) c))

/-- R76, R78, R80: the bytes of an output row. -/
def FrondJob.rowBytes (j : FrondJob) (row : List Int) : List Byte :=
  if j.fmt = 3 then row.flatMap (fun v => leBytes 6 (wrapTo 48 v))
  else if j.argmax then
    let (v, i) := argmaxOf row.tail 1 (row.headD 0, 0)
    leBytes 2 (wrapTo 16 v) ++ leBytes 2 i
  else if j.fmt = 2 then row.flatMap (fun v => leBytes 2 (wrapTo 16 v))
  else (row.map (fun v => BitVec.ofNat 8 (wrapTo 8 v))) ++ (if row.length % 2 = 1 then [0] else [])

/-- The activation bytes of each row of a pass from row `m` up, or the word address of a row that cannot be read. -/
def State.actRows (s : State) (p : Nat) (j : FrondJob) (m : Nat) : Nat → Except Nat (List (List Byte)) × State
  | 0 => (.ok [], s)
  | n + 1 =>
    let w := j.f 3 21 0 + m * j.f 4 15 0 + j.pass * j.f 5 21 0
    match s.coreRead p w (j.groups j.pass * j.g) with
    | (none, s1) => (.error w, s1)
    | (some d, s1) =>
      match s1.actRows p j (m + 1) n with
      | (.error e, s2) => (.error e, s2)
      | (.ok l, s2) => (.ok (d :: l), s2)

/-- R75: the biases, one for each column, or an error. -/
def State.biases (s : State) (p : Nat) (j : FrondJob) : Except Nat (List (Option Int)) × State :=
  if j.f 8 24 24 = 0 then (.ok (List.replicate j.n none), s)
  else match s.coreRead p (j.f 8 23 0) (6 * j.n) with
    | (none, s1) => (.error (j.f 8 23 0), s1)
    | (some d, s1) => (.ok ((List.range j.n).map (fun (c : Nat) => some (signed 48 (ofLeBytes ((d.drop (6 * c)).take 6))))), s1)

/-- R80: output rows are written from row `m` up; the word address of the first that cannot be, if any. -/
def State.writeRows (s : State) (p : Nat) (j : FrondJob) (m : Nat) : List (List Int) → State × Option Nat
  | [] => (s, none)
  | row :: l =>
    let w := j.f 12 23 0 + m * j.f 13 15 0
    match s.coreWrite p w (j.rowBytes row) with
    | none => (s, some w)
    | some s1 => s1.writeRows p j (m + 1) l

/-- R82: the statistics of a job's values. -/
def State.frondStats (s : State) (p : Nat) (j : FrondJob) (l : List OutStat) : State :=
  let k := j.f 0 25 22
  let sum (f : OutStat → Nat) := (l.map f).foldl (· + ·) 0
  (((s.countBy (rFROND_STAT_VALS p k) wholeReg l.length).countBy (rFROND_STAT_CLIP p k) wholeReg (sum (·.clip))).countBy
    (rFROND_STAT_ZERO p k) wholeReg (sum (·.zero))).countBy (rFROND_STAT_SAT p k) wholeReg (sum (·.sat))

/-- R87: the read ranges that a job holds are released. -/
def State.frondReleaseReads (s : State) (p agent : Nat) : State :=
  ((Cells.get (fun _ => []) (s.sboard p).granted agent).filter (fun t => !t.write)).foldl (fun u t => u.sbRelease p agent t) s

/-- R75 to R82: the last pass has given these column accumulators: the rows go through the output stage and are written. -/
def State.frondOutput (s : State) (p : Nat) (j : FrondJob) (acc : List (List (Int × Bool))) : State :=
  let fail (s : State) (e : Nat) : State :=
    s.setFrond p { s.frond p with cur := some { j with bad := some (3, j.pass, e) } }
  match s.biases p j with
  | (.error e, s1) => fail s1 e
  | (.ok bs, s1) =>
    let outs := acc.map (fun (row : List (Int × Bool)) => (row.zip bs).map (fun (x : (Int × Bool) × Option Int) => j.output x.2 x.1))
    let s2 := s1.frondStats p j (outs.flatten.map (·.2))
    let rows := j.reduce (outs.map (fun (r : List (Int × OutStat)) => r.map (·.1)))
    let (s3, e) := s2.writeRows p j 0 rows
    let j1 := { j with
      pass := j.pass + 1
      plane := []
      acc := []
      bad := e.map (fun w => (3, j.pass, w)) }
    let x := s3.frond p
    let s4 := s3.frondReleaseReads p (j.agent.getD 0)
    s4.setFrond p (FrondSt.settle { x with
      cur := none
      drain := x.drain ++ [j1] } s.time.ns)

/-- R66, R81: FROND_PASS_START: the planes swap and the pass runs over every activation row. -/
def execFrondPassStart (b : Fin 9) (s : State) : Out :=
  let p := s.phys b.val
  let x := s.frond p
  match x.cur with
  | none => done s
  | some j =>
    let waits := [j.actRange] ++ j.biasRange ++ [j.outRange]
    if j.bad.isSome ∨ j.kt ≤ j.pass ∨ j.plane.length < j.blocks j.pass ∨ !x.halted.isEmpty ∨
        waits.any (fun (r : Nat × Nat) => s.coreSpan p r.1 (r.2 - r.1) == .wait) then done s
    else match s.actRows p j 0 j.m with
      | (.error e, s1) => done (s1.setFrond p { s1.frond p with cur := some { j with bad := some (3, j.pass, e) } })
      | (.ok rows, s1) =>
        let start := if j.pass = 0 then List.replicate j.m (List.replicate j.n ((0 : Int), false)) else j.acc
        let acc := (rows.zip start).map (fun (x : List Byte × List (Int × Bool)) =>
          ((List.range j.n).zip x.2).map (fun (y : Nat × (Int × Bool)) => j.column x.1 y.1 y.2))
        if j.pass + 1 = j.kt then done (s1.frondOutput p j acc)
        else done (s1.setFrond p { s1.frond p with cur := some { j with
          pass := j.pass + 1
          plane := []
          acc := acc
          since := s.time.ns } })

/-! ### The end of a job -/

/-- R83: the clip threshold of a finished job. -/
def State.clipTest (s : State) (b : Nat) (j : FrondJob) : State :=
  let p := s.phys b
  let k := j.f 0 25 22
  let vals := (s.reg (rFROND_STAT_VALS p k)).toNat
  let clip := (s.reg (rFROND_STAT_CLIP p k)).toNat
  let thr := j.f 14 15 0
  if thr ≠ 0 ∧ vals * thr < clip * 65536 ∧ !bitOf (s.fld (rFROND_CLIP_EVT p) fFROND_CLIP_EVT_SET) k then
    let s1 := (s.setFld (rFROND_CLIP_EVT p) ⟨k, k⟩ 1).raiseInt b 17
    let owner := ((s.scripts.find? (fun (x : Nat × Script) => x.2.decl.cores.any (fun d => d.core == b))).map (·.1)).getD 255
    s1.postEvent 0x0001 owner k b
  else s

/-- R87: FROND_JOB_COMPLETE: the last output row of the oldest job in the output stage is written. -/
def execFrondJobComplete (b : Fin 9) (s : State) : Out :=
  let p := s.phys b.val
  let x := s.frond p
  match x.drain with
  | [] => done s
  | j :: rest =>
    if j.bad.isSome then done s
    else
      let s1 := (s.setFrond p { x with drain := rest }).sbReleaseAll p (j.agent.getD 0)
      let s2 := (s1.countWrap (rFROND_DONE_CNT p) wholeReg).setFld (rFROND_STATUS p) fFROND_STATUS_LAST_TAG (j.f 15 15 0)
      let s3 := if j.f 0 26 26 = 1 then s2.raiseInt b.val 16 else s2
      done (s3.clipTest b.val j)

/-- R91: the error registers read NONE and 0 when no halted job remains. -/
def State.frondErrClear (s : State) (p : Nat) : State :=
  if (s.frond p).halted.isEmpty then
    (((s.setFld (rFROND_STATUS p) fFROND_STATUS_ERR 0).setReg (rFROND_ERR_INFO p) 0).setReg (rFROND_ERR_ADDR_LO p) 0).setReg
      (rFROND_ERR_ADDR_HI p) 0
  else s

/-- R91: the oldest halted job of core slot `b` is dropped and its ranges are released. -/
def State.frondResume (s : State) (b : Nat) : State :=
  let p := s.phys b
  let x := s.frond p
  match x.halted with
  | [] => s
  | j :: rest =>
    let s1 := s.sbReleaseAll p (j.agent.getD 0)
    ((s1.setFrond p (FrondSt.settle { x with halted := rest } s.time.ns)).frondErrClear p).chainSweep p

/-- R91: FROND_RESUME. -/
def execFrondResume (b : Fin 9) (s : State) : Out := done (s.frondResume b.val)

/-- A registration that waits is given up. -/
def State.sbWithdraw (s : State) (p agent : Nat) : State :=
  let b := s.sboard p
  (s.setSboard p { b with waits := b.waits.filter (fun w => w.who != .reg agent) }).sbReleaseAll p agent

/-- R88, R91: every queued job and every halted job is removed. -/
def State.frondFlush (s : State) (p : Nat) : State :=
  let x := s.frond p
  let agents := (x.queue ++ x.halted).filterMap (fun j => j.agent)
  let s1 := agents.foldl (fun u a => u.sbWithdraw p a) s
  ((s1.setFrond p (FrondSt.settle { x with
    queue := []
    halted := [] } s.time.ns)).frondErrClear p).chainSweep p

/-- R88: FROND_FLUSH. -/
def execFrondFlush (b : Fin 9) (s : State) : Out := done (s.frondFlush (s.phys b.val))

end Sys2Proof.Machine
end

