-- ==== Sys2Proof/Machine/Lichen.lean ====
section
/-!
DEFINITION. The Lichen event recorder (R470 to R482): requests by firmware, the writing of a record, the position found at
start-up, rate limits, operating seconds.
-/
namespace Sys2Proof.Machine

/-- R480, R482: a write of LCH_REQ asks for a record of `code` with the parameters that LCH_P0 to LCH_P3 hold. -/
def State.lichenAsk (s : State) (code : Nat) (ongoing : Bool) : State :=
  if code ∈ hardwareOnly then s.setFld rLCH_REQ_STAT fLCH_REQ_STAT_HWCODE 1
  else
    let r := s.lichenReq false ongoing code (s.reg (rLCH_P 0)).toNat (s.reg (rLCH_P 1)).toNat (s.reg (rLCH_P 2)).toNat
      (s.reg (rLCH_P 3)).toNat
    if r.2 then r.1.setFld rLCH_REQ_STAT fLCH_REQ_STAT_REFUSED 1 else r.1

/-- R482: LICHEN_REQUEST. -/
def execLichenRequest (code : Nat) (ongoing : Bool) (s : State) : Out := done (s.lichenAsk code ongoing)

/-- R470: a slot that reads 0xFF in every byte is erased. -/
def State.slotErased (s : State) (n : Nat) : Bool := (s.bytes (lichenPlace n) 32).all (· == 0xFF)

/-- R472: a slot holds a complete record. -/
def State.slotComplete (s : State) (n : Nat) : Bool := s.byte (lichenPlace n + 3) == 0x5A

/-- R468, R390: records of these groups are echoed as host events. -/
def echoed (code : Nat) : Bool :=
  let g := code / 256
  g == 1 || g == 2 || g == 3 || g == 4 || g == 8

/-- R470: the bytes of the record that a request makes in slot `n`. -/
def State.recordBytes (s : State) (r : LichenReq) (n commit : Nat) : List Byte :=
  let sup := Cells.get (fun _ => 0) s.lichen.supp r.code
  lichenBytes r.code (b2n r.ongoing + 2 * b2n (255 < sup) + 4 * b2n r.hw) commit n r.seconds s.sec.pwrCyc (min sup 255)
    r.p0 r.p1 r.p2 r.p3

/-- The bytes that a slot is left with when its read-back does not match (free values). -/
def tornBytes (t : Nat) : Nat → List Byte
  | 0 => []
  | n + 1 => Config.tornByte t n :: tornBytes t n

/-- R472: LICHEN_RECORD_WRITE. The recorder writes the oldest request into the next slot; `ok` says whether the read-back
matched. A torn slot is never rewritten, and the record is retried once in the next slot. -/
def execLichenRecordWrite (ok : Bool) (s : State) : Out :=
  let L := s.lichen
  match L.queue with
  | [] => done s
  | r :: rest =>
    if !L.ready ∨ L.full then done s
    else if 131008 ≤ L.next then
      done (State.endArea { s with lichen := { L with endCode := some (L.endCode.getD r.code) } })
    else if ok then
      let s1 := s.setBytes (lichenPlace L.next) (s.recordBytes r L.next 0x5A)
      let s2 := { s1 with lichen := { L with
        queue := rest
        next := L.next + 1
        supp := Cells.set (fun _ => 0) L.supp r.code 0 } }
      done (if echoed r.code then s2.postEvent 0x0009 255 0 r.code else s2)
    else
      let s1 := s.setBytes (lichenPlace L.next) (tornBytes s.freeTick 3 ++ [0xFF] ++ tornBytes (s.freeTick + 1) 28)
      done { s1 with
        freeTick := s.freeTick + 2
        lichen := { L with
          queue := if r.retried then rest else { r with retried := true } :: rest
          next := L.next + 1 } }

/-- R473: binary search for the first erased slot of [lo, hi), with as many halvings as `fuel` gives. -/
def State.findErased (s : State) : Nat → Nat → Nat → Nat
  | 0, lo, _ => lo
  | fuel + 1, lo, hi =>
    if hi ≤ lo then lo
    else
      let m := (lo + hi) / 2
      if s.slotErased m then s.findErased fuel lo m else s.findErased fuel (m + 1) hi

/-- R478: the first erased slot of the end area, from `n` up. -/
def State.firstEndSlot (s : State) : Nat → Nat → Nat
  | 0, n => n
  | k + 1, n => if s.slotErased n then n else s.firstEndSlot k (n + 1)

/-- R473: LICHEN_POSITION_FIND, at start-up. -/
def execLichenPositionFind (s : State) : Out :=
  let n := s.findErased 18 0 131008
  let L := s.lichen
  if n < 131008 then done { s with lichen := { L with next := n, ready := true } }
  else if s.slotComplete 131071 ∧ s.num (lichenPlace 131071) 2 = 0x0AFF then
    done { s with lichen := { L with next := 131072, ready := true, full := true } }
  else done { s with lichen := { L with next := s.firstEndSlot 63 131008, ready := true } }

/-- R475: LICHEN_TOKEN_REFILL. Every 3,600 operating seconds each code's bucket gains one token. -/
def execLichenTokenRefill (s : State) : Out :=
  let L := s.lichen
  if L.lastRefill + 3600 ≤ L.opsec then
    done { s with lichen := { L with
      lastRefill := L.lastRefill + 3600
      taken := (L.taken.map (fun (x : Nat × Nat) => (x.1, x.2 - 1))).filter (fun x => x.2 != 0) } }
  else done s

/-- R471: OPSEC_TICK. -/
def execOpsecTick (s : State) : Out :=
  let n := s.lichen.opsec + 1
  done { s with lichen := { s.lichen with
    opsec := n
    opsecSaved := if n % 3600 = 0 then n else s.lichen.opsecSaved } }

/-- R477: at DARK entry the recorder writes the summaries, and the operating seconds are saved (R471). -/
def State.lichenDark (s : State) : State :=
  let s1 := if s.lichen.ready ∧ !s.lichen.full then s.writeSummaries 131008 false s.lichen.supp else s
  { s1 with lichen := { s1.lichen with opsecSaved := s1.lichen.opsec } }

/-- R474: on UV_SHUTDOWN every queued request moves into the suppressed counts, and 0x0103 is written first. -/
def State.lichenUv (s : State) (mv : Nat) : State :=
  let s1 := s.suppressQueue s.lichen.queue
  let s2 := { s1 with lichen := { s1.lichen with queue := [] } }
  s2.lichenHw 0x0103 mv 0 0 0

/-- R482: LCH_STAT as it reads. -/
def State.lchStat (s : State) : Word :=
  BitVec.ofNat 32 (b2n s.lichen.full * 2 ^ 31 + b2n s.lichen.ready * 2 ^ 30 + s.lichen.queue.length * 2 ^ 25 + s.lichen.next)

end Sys2Proof.Machine
end

