-- ==== Sys2Proof/Machine/VppRegs.lean ====
section
/-!
DEFINITION. The registers of a task context by their numbers (R145 to R148), and starting and halting a VPP.
-/
namespace Sys2Proof.Machine

/-- R145, R148: what a numbered register holds before anything is written. -/
def vppReset (n : Nat) : Nat := if n = 0x36 then 0x320000 else if n = 0x3B then 0x300000 else 0

/-- R145: the width of a numbered register. -/
def regWidth (n : Nat) : Nat :=
  if n < 0x18 then 16 else if n < 0x20 then 8 else if n < 0x32 then 16 else if n < 0x37 then 24
  else if n = 0x3B ∨ n = 0x39 then 24 else 32

/-- R147: a register of more than 16 bits moves as two words; R145 gives the control registers 32 bits. -/
def regWide (n : Nat) : Bool := decide (0x32 ≤ n)

/-- The stored value of a numbered register of a context. -/
def VppCtx.raw (x : VppCtx) (n : Nat) : Nat := Cells.get vppReset x.r n

/-- The context with the stored value of a numbered register replaced. -/
def VppCtx.setRaw (x : VppCtx) (n v : Nat) : VppCtx := { x with r := Cells.set vppReset x.r n (v % 2 ^ regWidth n) }

/-- The number of MODE, STATUS, FAULT_ADDR, FAULT_LANE, SP and SP_LIM (R146). -/
abbrev nMODE : Nat := 0x37
/-- STATUS. -/
abbrev nSTATUS : Nat := 0x38
/-- FAULT_ADDR. -/
abbrev nFADDR : Nat := 0x39
/-- FAULT_LANE. -/
abbrev nFLANE : Nat := 0x3A
/-- SP. -/
abbrev nSP : Nat := 0x36
/-- SP_LIM. -/
abbrev nSPLIM : Nat := 0x3B

/-- A bit of STATUS (R148): 0 Z, 1 N, 2 C, 3 V, 8 ASAT, 9 ALOSS, 16 LP0, 17 LP1, 18 IE, 19 INTRAP, 20 PINF. -/
def VppCtx.stat (x : VppCtx) (i : Nat) : Bool := bitOf (x.raw nSTATUS) i

/-- A number with one bit set to a value. -/
def putBit (n i : Nat) (v : Bool) : Nat :=
  if bitOf n i then (if v then n else n - 2 ^ i) else if v then n + 2 ^ i else n

/-- The context with a bit of STATUS set to a value. -/
def VppCtx.setStat (x : VppCtx) (i : Nat) (v : Bool) : VppCtx := x.setRaw nSTATUS (putBit (x.raw nSTATUS) i v)

/-- R192: FEAT0 to FEAT3 of a physical core. -/
def State.feat (s : State) (p k : Nat) : Nat :=
  if k = 0 then 0x01004204 else if k = 1 then 0x0C100808 else if k = 2 then 0x20081040
  else p * 256 + (if s.slotOf p < 8 then s.slotOf p else 0xF)

/-- R148: VPP_MODE as it reads. -/
def State.modeWord (s : State) (p c : Nat) : Nat :=
  (s.ctx p c).raw nMODE % 16 + b2n (s.rtCtx p c) * 256 + b2n (s.core p).emu * 512

/-- R148: STATUS as it reads in a context: bits 11:10 name it. -/
def State.statusWord (s : State) (p c : Nat) : Nat :=
  let v := (s.ctx p c).raw nSTATUS
  v - bitsOf v 11 10 * 1024 + c * 1024

/-- R146: a numbered register of a context as it reads. -/
def State.getR (s : State) (p c n : Nat) : Nat :=
  if n = nMODE then s.modeWord p c else if n = nSTATUS then s.statusWord p c
  else if 0x3C ≤ n then s.feat p (n - 0x3C) else (s.ctx p c).raw n

/-- R148: the STATUS that a write of `v` under `mask` leaves: IE and the flags are written, ASAT and ALOSS are cleared. -/
def statusWrite (old mask v : Nat) : Nat :=
  let set (n i : Nat) : Nat := if bitOf mask i then putBit n i (bitOf v i) else n
  let clr (n i : Nat) : Nat := if bitOf mask i && bitOf v i then putBit n i false else n
  clr (clr (set (set (set (set (set old 0) 1) 2) 3) 18) 8) 9

/-- A number with the bits of a mask replaced. -/
def maskedNat (old mask v : Nat) : Nat := (old &&& (mask ^^^ 0xFFFFFFFF)) ||| (v &&& mask)

/-- R147, R148: a numbered register of a context is written by core program, under a mask of its bits. -/
def VppCtx.writeR (x : VppCtx) (n mask v : Nat) : VppCtx :=
  if n = nMODE then x.setRaw nMODE (maskedNat (x.raw nMODE) (mask % 16) v)
  else if n = nSTATUS then x.setRaw nSTATUS (statusWrite (x.raw nSTATUS) mask v)
  else if n = nFADDR ∨ n = nFLANE ∨ 0x3C ≤ n then x
  else x.setRaw n (maskedNat (x.raw n) mask v)

/-- The state with a numbered register of a context written. -/
def State.setR (s : State) (p c n mask v : Nat) : State := s.setCtx p c ((s.ctx p c).writeR n mask v)

/-- R148: the VPP issues nothing. -/
def State.halted (s : State) (p : Nat) : Bool := s.flag (rVPP_CTL p) fVPP_CTL_HALTED

/-- R148: VPP_CTL.HALT. -/
def State.vppHalt (s : State) (p : Nat) : State := s.setFld (rVPP_CTL p) fVPP_CTL_HALTED 1

/-- The contexts of a core that are not IDLE. -/
def State.liveCtxs (s : State) (p : Nat) : List Nat := (List.range 4).filter (fun c => s.ctxSt p c != 0)

/-- R148: VPP_PC as it reads: the program counter of the context that runs or ran last. -/
def State.vppPc (s : State) (p : Nat) : Nat := (s.ctx p (s.core p).cur).pc

/-- R148, R149: a write of VPP_PC while halted. With every context IDLE it is where context 0 will start (log entry 31). -/
def State.setVppPc (s : State) (p v : Nat) : State :=
  let c := if (s.liveCtxs p).isEmpty then 0 else (s.core p).cur
  let s1 := s.setCore p { s.core p with cur := c }
  s1.setCtx p c { s1.ctx p c with pc := v % 2 ^ 24 / 16 * 16 }

/-- R148, R189: VPP_CTL.START: issue starts at VPP_PC; with every context IDLE, context 0 becomes READY there. -/
def State.vppStart (s : State) (p : Nat) : State :=
  let s1 := if (s.liveCtxs p).isEmpty then
      let s0 := s.setCtx p 0 { s.ctx p 0 with pc := s.vppPc p }
      s0.setCtxSt p 0 1
    else s
  (s1.setCore p { s1.core p with trapHalt := false }).setFld (rVPP_CTL p) fVPP_CTL_HALTED 0

/-- R148: VPP_START, a write of VPP_CTL.START by Prompter firmware. -/
def execVppStart (b : Fin 9) (s : State) : Out := done (s.vppStart (s.phys b.val))

/-- R148: VPP_HALT, a write of VPP_CTL.HALT. -/
def execVppHalt (b : Fin 9) (s : State) : Out := done (s.vppHalt (s.phys b.val))

/-- R170: VPP_INT_SET, a write of VPP_INT_SET. -/
def execVppIntSet (b : Fin 9) (w : Word) (s : State) : Out :=
  let a := rVPP_INT_PEND (s.phys b.val)
  done (s.setReg a (s.reg a ||| w))

/-- A context becomes IDLE: what its stalled bundle waits for no longer concerns it. -/
def State.ctxStop (s : State) (p c : Nat) : State :=
  let x := s.ctx p c
  let b := s.sboard p
  let s1 := (s.setCtx p c { x with
    stall := []
    timedOut := none
    regWait := none
    regReported := false }).setSboard p { b with waits := b.waits.filter (fun w => w.who != .vpp c) }
  s1.setCtxSt p c 0

end Sys2Proof.Machine
end

