-- ==== Sys2Proof/Machine/Scripts.lean ====
section
/-!
DEFINITION. Running scripts: faults (R288), stops and suspension (R290, R423), and the refilling of cue queues from cue sheets
(R49, R50).
-/
namespace Sys2Proof.Machine

/-- R289: the contexts that a script uses, as logical core and context. -/
def Script.contexts (x : Script) : List (Nat × Nat) :=
  x.decl.cores.flatMap (fun d => ((List.range 4).filter (fun c => bitOf d.ctxs c)).map (fun c => (d.core, c)))

/-- R289: the channels that a script owns, as engine slot (0 to 7 a core, 9 the hub) and channel. -/
def Script.channels (x : Script) : List (Nat × Nat) :=
  x.decl.cores.flatMap (fun d => ((List.range 16).filter (fun n => bitOf d.channels n)).map (fun n => (d.core, n))) ++
    x.hubChans.map (fun n => (9, n))

/-- The contexts of a script stop. Other contexts of a VPP that a halt has stopped with them go on (log entry 31). -/
def State.stopContexts (s : State) (x : Script) : State :=
  x.contexts.foldl (fun (t : State) y =>
    let p := t.phys y.1
    let t0 := t.ctxStop p y.2
    let t1 := t0.setCore p { t0.core p with trapHalt := false }
    if (t1.liveCtxs p).isEmpty then t1 else t1.setFld (rVPP_CTL p) fVPP_CTL_HALTED 0) s

/-- R262, R267: the channels of a script are aborted. -/
def State.abortChannels (s : State) (x : Script) : State :=
  x.channels.foldl (fun (t : State) y => t.dmaAbort (t.engine y.1) y.2) s

/-- R288: every buffer of a script's pools returns to FREE. -/
def State.freePools (s : State) (x : Script) : State := x.pools.foldl State.poolReset s

/-- A halted frond job belongs to the script in whose X range its descriptor lies (R99, R289). -/
def Script.ownsJob (x : Script) (b ofs : Nat) : Bool :=
  x.decl.cores.any (fun d => d.core == b && decide (64 * d.x.1 ≤ ofs ∧ ofs < 64 * d.x.2))

/-- R91, R288: halted frond jobs of a script are dropped, oldest first, as far as they head the list. -/
def State.dropHalted (s : State) (x : Script) (b : Nat) : Nat → State
  | 0 => s
  | k + 1 =>
    match (Cells.get (fun _ => {}) s.fronds (s.phys b)).halted with
    | j :: _ => if x.ownsJob b j.ofs then (s.frondResume b).dropHalted x b k else s
    | [] => s

/-- R288: the script in a slot faults, with its halt cause and the logical core concerned. -/
def State.scriptFault (s : State) (n cause core : Nat) : State :=
  match s.script n with
  | none => s
  | some x =>
    if x.st = .faulted then s
    else
      let s1 := (s.dropCues n).stopContexts x
      let s2 := x.decl.cores.foldl (fun (t : State) d => t.dropHalted x d.core 4) s1
      let s3 := s2.abortChannels x
      let s4 := x.bars.foldl (fun (t : State) b => t.barBreak b 0) s3
      let s5 := s4.freePools x
      (s5.setScript n { x with
        st := .faulted
        faults := x.faults + 1
        haltCause := cause
        anchor := none
        pushed := []
        stopAt := none
        requests := [] }).postEvent 0x0002 n core cause

/-- R174, R288: the script whose context has halted a VPP, if one has. -/
def State.haltedScript (s : State) (n : Nat) : Option (Nat × Nat) :=
  match s.script n with
  | none => none
  | some x =>
    (x.contexts.find? (fun y =>
      let p := s.phys y.1
      s.halted p && (s.core p).trapHalt && (s.core p).cur == y.2)).map
      (fun y => (y.1, bitsOf ((s.ctx (s.phys y.1) y.2).raw nSTATUS) 31 24))

/-- R288: the script owns a pool that the audit has fenced. -/
def State.poolFenced (s : State) (n : Nat) : Bool :=
  match s.script n with
  | none => false
  | some x => x.pools.any (fun p => s.host.fenced.contains (0x3100 + p))

/-- R288: SCRIPT_FAULT of the script in a slot: one of its contexts has halted its VPP, or a pool of it is fenced. -/
def execScriptFault (n : Fin 128) (s : State) : Out :=
  match s.haltedScript n.val with
  | some (b, cause) => done (s.scriptFault n.val cause b)
  | none => done (if s.poolFenced n.val then s.scriptFault n.val (Config.haltCause 2) 0 else s)

/-- R290, R423: a script is stopped: its cue entries leave the queues, its contexts and channels stop. -/
def State.stopScript (s : State) (n : Nat) : State :=
  match s.script n with
  | none => s
  | some x =>
    if x.st ≠ .running then s
    else ((((s.dropCues n).stopContexts x).abortChannels x).freePools x).setScript n { x with
      st := .stopped
      anchor := none
      pushed := []
      stopAt := none
      requests := [] }

/-- R290: a script with SLEEP_RESUME = 1 is suspended: it stays RUNNING with its shares. -/
def State.suspendScript (s : State) (n : Nat) : State :=
  match s.script n with
  | none => s
  | some x =>
    if x.st ≠ .running then s
    else ((((s.dropCues n).stopContexts x).abortChannels x).freePools x).setScript n { x with
      anchor := none
      pushed := [] }

/-! ### Cue sheets (R49, R50) -/

/-- R41: the queue that a queue id names. -/
def queueOfId (q : Nat) : Option QueueId :=
  if h : q < 8 then some (.core ⟨q, h⟩)
  else if q = 0x10 then some .hub
  else if h : 0x20 ≤ q ∧ q < 0x2C then some (.port ⟨q - 0x20, by omega⟩)
  else if q = 0x30 then some .aon
  else none

/-- R49: the cue entry of a sheet entry with its TIME. -/
def sheetCue (e : SheetEntry) (time owner : Nat) : CueEntry :=
  { time := time
    op := bitsOf e.high 5 0
    late := bitsOf e.high 7 6
    fab := bitOf e.high 8
    period := bitsOf e.high 31 10
    arg := bitsOf e.high 63 32
    owner := owner }

/-- R49, R50: sheet entry `i` of the script in slot `n` is pushed if it is due within the next 4 ms and has not been pushed
yet. `pushed` counts the instances pushed of each entry. -/
def State.refillEntry (s : State) (n i : Nat) (e : SheetEntry) : State :=
  match s.script n with
  | none => s
  | some x =>
    match x.anchor, queueOfId e.queue with
    | some a, some q =>
      let k := x.pushed.getD i 0
      let t := a + e.offset + k * x.decl.period
      if (k = 0 ∨ 0 < x.decl.period) ∧ t ≤ s.now + 4000000 ∧ x.st = .running ∧
          (s.cq q.num).entries.length < queueCap q then
        let c := sheetCue e t n
        (s.pushCue q c (bitOf e.high 9)).setScript n { x with
          pushed := (x.pushed ++ List.replicate (i + 1 - x.pushed.length) 0).set i (k + 1) }
      else s
    | _, _ => s

/-- R50: the entries of a sheet, in order. -/
def State.refillFrom (s : State) (n : Nat) : Nat → List SheetEntry → State
  | _, [] => s
  | i, e :: l => (s.refillEntry n i e).refillFrom n (i + 1) l

/-- R50: every running script's sheet is topped up. -/
def State.refill (s : State) : State :=
  s.scripts.foldl (fun (t : State) (x : Nat × Script) => t.refillFrom x.1 0 x.2.decl.sheet) s

/-- R49: a script's cue sheet is bound at an anchor. -/
def State.bindSheet (s : State) (n a : Nat) : State :=
  match s.script n with
  | none => s
  | some x => (s.setScript n { x with
      st := .running
      anchor := some a
      pushed := [] }).refillFrom n 0 x.decl.sheet

/-- R348: the streams that a script drives are enabled while it runs. -/
def State.startStreams (s : State) (x : Script) : State :=
  x.decl.streams.foldl (fun (t : State) r => t.setFld (rSA_STR_CFG (r.getD 0 0).toNat) fSA_STR_CFG_EN 1) s

/-- R50: CUE_SHEET_REFILL. -/
def execCueSheetRefill (s : State) : Out := done s.refill

end Sys2Proof.Machine
end

