-- ==== Sys2Proof/Machine/Audit.lean ====
section
/-!
DEFINITION. The conservation audit (R294 to R296) over the pools that State counts: transaction tags, handles, scoreboard
entries, DMA buffer slots, peer-link credits and chain slots.
-/
namespace Sys2Proof.Machine

/-- R294: a pool whose equation is tested: its kind, its index, the expected and the found sum. -/
structure PoolSum where
  kind : Nat
  index : Nat
  expected : Nat
  found : Nat
  deriving DecidableEq, Repr

/-- A sum of natural numbers. -/
def sumNat (l : List Nat) : Nat := l.foldl (· + ·) 0

/-- R294, R296: the pools and their sums, those of fenced units left out. Fenced units are named as FENCE_UNIT names them: core
slots 0 to 8, 0x30 the hub, 0x3100 + p pool p. -/
def State.poolSums (s : State) : List PoolSum :=
  let out (u : Nat) : Bool := s.host.fenced.contains u
  ((List.range 15).filter (fun r => !(decide (r < 9) && out r) && !(r == 9 && out 0x30))).map
      (fun r => ⟨1, r, (s.tag r).share, max (s.tag r).held (s.tag r).share⟩) ++
  ((List.range 16).filter (fun p => s.flag (rHP_CFG p) fHP_CFG_EN && !out (0x3100 + p))).map
      (fun p => ⟨2, p, s.fld (rHP_CFG p) fHP_CFG_SIZE,
        s.fld (rHP_CNT p) fHP_CNT_FREE + s.fld (rHP_QCNT p) fHP_QCNT_QUEUED + s.fld (rHP_CNT p) fHP_CNT_HELD⟩) ++
  ((List.range 16).filter (fun p => s.flag (rHP_CFG p) fHP_CFG_EN && !out (0x3100 + p))).map
      (fun p => ⟨2, p, s.fld (rHP_QCNT p) fHP_QCNT_QUEUED,
        sumNat (((List.range 256).filter (fun q => s.flag (rHQ_CFG q) fHQ_CFG_EN && s.fld (rHQ_CFG q) fHQ_CFG_POOL == p)).map
          (fun q => s.fld (rHQ_STAT q) fHQ_STAT_FILL))⟩) ++
  ((List.range 9).filter (fun b => !out b)).map
      (fun b => ⟨3, b, 64, s.fld (rSB_STAT (s.phys b)) fSB_STAT_USED + (64 - (s.sboard (s.phys b)).entries.length)⟩) ++
  ((List.range 10).filter (fun b => !out (if b < 9 then b else 0x30))).map
      (fun b =>
        let e := s.engine b
        let total := if b = 9 then 2048 else 256
        let held := sumNat ((List.range 64).map (fun n => (s.chan e n).held))
        ⟨4, b, total, max total held⟩) ++
  ((List.range 6).filter (fun l => s.linkSt l == 3)).flatMap
      (fun l => (List.range 3).map (fun c =>
        ⟨7, 3 * l + c, ((s.link l).peerSize.getD [512, 512, 64]).getD c 0,
          s.fld (rEPL_CRED l) (classFld c) + (s.link l).out.getD c 0⟩)) ++
  ((List.range 9).filter (fun b => !out b)).map
      (fun b => ⟨8, b, 2, max 2 (s.chainBuf (s.phys b)).length⟩)

/-- R296: the hub DMA aborts all channels. -/
def State.abortHub (s : State) : State := (List.range 64).foldl (fun (t : State) n => t.dmaAbort 9 n) s

/-- R296: the unit that a violation concerns is fenced. -/
def State.auditFence (s : State) (x : PoolSum) : State :=
  match x.kind with
  | 1 => if x.index < 9 then s.fence x.index else (s.fence 0x30).abortHub
  | 2 => s.fence (0x3100 + x.index)
  | 4 => if x.index < 9 then s.fence x.index else (s.fence 0x30).abortHub
  | 7 => s.linkReset (x.index / 3) 3
  | _ => s.fence x.index

/-- R296: a violation is counted, latched and recorded, and its unit is fenced. -/
def State.violation (s : State) (x : PoolSum) : State :=
  let s1 := (s.setFld rAUD_VIOL fAUD_VIOL_KIND x.kind).setFld rAUD_VIOL fAUD_VIOL_INDEX x.index
  let s2 := (s1.setReg rAUD_VIOL_EXP (BitVec.ofNat 32 x.expected)).setReg rAUD_VIOL_FOUND (BitVec.ofNat 32 x.found)
  ((s2.count rAUD_VIOL_CNT).lichenHw (0x0800 + x.kind) x.index x.expected x.found (s.now % 2 ^ 32)).auditFence x

/-- R295, R296: one audit: every pool is sampled before a violation is acted on. -/
def State.audit (s : State) : State :=
  let bad := s.poolSums.filter (fun x => x.expected != x.found)
  (bad.foldl State.violation s).countWrap rAUD_RUN_CNT wholeReg

/-- R295: AUDIT_RUN, PERIOD_US after the last. -/
def execAuditRun (s : State) : Out :=
  let last := (Cells.get (fun _ => none) s.marks 1).getD 0
  if s.awake ∧ last + s.fld rAUD_CTL fAUD_CTL_PERIOD_US * 1000 ≤ s.time.ns then
    done { s with marks := Cells.put s.marks 1 (some s.time.ns) }.audit
  else done s

/-- R295: AUDIT_RUN_NOW, a write of AUD_CTL.RUN. -/
def execAuditRunNow (s : State) : Out := done s.audit

end Sys2Proof.Machine
end

