-- ==== Sys2Proof/Machine/PowerLimits.lean ====
section
/-!
DEFINITION. Operating points, the voltage loop, and the power, thermal and droop limiters (R409 to R418), with the PLLs.
-/
namespace Sys2Proof.Machine

/-- R411: nominal voltage of an operating point, mV. -/
def opNominal : Nat → Nat
  | 7 => 850 | 6 => 800 | 5 => 760 | 4 => 720 | 3 => 690 | 2 => 660 | 1 => 630 | _ => 600

/-- R411: the AVS floor of an operating point, mV. -/
def opFloor : Nat → Nat
  | 7 => 780 | 6 => 740 | 5 => 700 | 4 => 670 | 3 => 640 | 2 => 620 | 1 => 600 | _ => 580

/-- R419: the requested OP of a cluster. -/
def State.reqOp (s : State) (c : Nat) : Nat :=
  if c = 0 then s.fld rPWR_OP_REQ fPWR_OP_REQ_OP_C0 else s.fld rPWR_OP_REQ fPWR_OP_REQ_OP_C1

/-- The state with a cluster's requested OP replaced. -/
def State.setReqOp (s : State) (c op : Nat) : State :=
  if c = 0 then s.setFld rPWR_OP_REQ fPWR_OP_REQ_OP_C0 op else s.setFld rPWR_OP_REQ fPWR_OP_REQ_OP_C1 op

/-- R417: the effective OP is the lowest of the request and what the limiters allow. -/
def State.effOp (s : State) (c : Nat) : Nat :=
  min (s.reqOp c) (min (s.cluster c).powerOp (s.cluster c).thermOp)

/-- R419: bits of the limiters that hold a cluster. -/
def State.limBits (s : State) (c : Nat) : Nat :=
  b2n ((s.cluster c).powerOp < s.reqOp c) + 2 * b2n ((s.cluster c).thermOp < s.reqOp c) +
    4 * b2n (s.time.ns < (s.cluster c).droopUntil)

/-- R419: PWR_OP_EFF as it reads. -/
def State.opEffWord (s : State) : Word :=
  BitVec.ofNat 32 (s.effOp 0 + s.limBits 0 * 2 ^ 4 + s.effOp 1 * 2 ^ 8 + s.limBits 1 * 2 ^ 12)

/-- R418: the Lichen code of a hold of kind 0 cap, 1 thermal, 2 droop. -/
def holdCode : Nat → Nat
  | 0 => 0x0101 | 1 => 0x0201 | _ => 0x0104

/-- R418: a hold that lasted more than 10 ms is recorded, with a host event. -/
def State.recordHold (s : State) (kind c : Nat) (h : Hold) (ongoing : Bool) : State :=
  let ms := (h.ended.getD s.time.ns - h.since) / 1000000
  if h.ended.getD s.time.ns - h.since ≤ 10000000 then s
  else
    let s1 := (s.lichenReq false ongoing (holdCode kind) c h.request h.lowest ms).1
    let s2 := (s1.postEvent 0x0008 255 c ms).count rPWR_HOLD_CNT
    { s2 with power := { s2.power with holds := s2.power.holds ++ [(kind, c, h.request, h.lowest, ms)] } }

/-- The hold of one limiter of a cluster. -/
def ClusterPower.holdOf (x : ClusterPower) : Nat → Option Hold
  | 0 => x.capHold | 1 => x.thermHold | _ => x.droopHold

/-- The cluster with the hold of one limiter replaced. -/
def ClusterPower.setHold (x : ClusterPower) (kind : Nat) (h : Option Hold) : ClusterPower :=
  match kind with
  | 0 => { x with capHold := h } | 1 => { x with thermHold := h } | _ => { x with droopHold := h }

/-- R418: a limiter's hold starts, goes on or ends as it holds the cluster or not. -/
def State.updateHold (s : State) (kind c : Nat) (holding : Bool) : State :=
  let fresh : Hold := ⟨s.time.ns, s.reqOp c, s.effOp c, none⟩
  match (s.cluster c).holdOf kind with
  | none => if holding then s.setCluster c ((s.cluster c).setHold kind (some fresh)) else s
  | some h =>
    match h.ended, holding with
    | none, true => s.setCluster c ((s.cluster c).setHold kind (some { h with lowest := min h.lowest (s.effOp c) }))
    | none, false => s.setCluster c ((s.cluster c).setHold kind (some { h with ended := some s.time.ns }))
    | some _, true => (s.recordHold kind c h false).setCluster c ((s.cluster c).setHold kind (some fresh))
    | some _, false => s

/-- R417, R418, R494: after a change of request or limiter, holds and alerts follow for both clusters. -/
def State.settle (s : State) : State :=
  let go (s : State) (c : Nat) : State :=
    let capHeld := decide ((s.cluster c).powerOp < s.reqOp c)
    let thermHeld := decide ((s.cluster c).thermOp < s.reqOp c)
    let s1 := (s.updateHold 0 c capHeld).updateHold 1 c thermHeld
    let s2 := if capHeld then s1.alert 3 else s1
    if thermHeld then s2.alert 1 else s2
  go (go s 0) 1

/-- R409: PLL_LOCK. A cluster PLL that locks again ungates its cluster (R467). -/
def execPllLock (k : Fin 5) (s : State) : Out :=
  let s1 := { s with power := { s.power with
    locked := if k.val ∈ s.power.locked then s.power.locked else s.power.locked ++ [k.val] } }
  done (if k.val = 1 ∨ k.val = 2 then s1.setCluster (k.val - 1) { s1.cluster (k.val - 1) with unlocked := false } else s1)

/-- R467: PLL_LOCK_LOSS. Record 0x040A, and a cluster PLL's loss gates that cluster until relock. -/
def execPllLockLoss (k : Fin 5) (s : State) : Out :=
  let s1 := { s with power := { s.power with locked := s.power.locked.filter (· != k.val) } }
  let (m, s2) := s1.free Config.analogueFigure
  let (l, s3) := s2.free Config.analogueFigure
  let s4 := s3.lichenFw 0x040A (Config.checkNumber 2) k.val m l
  done (if k.val = 1 ∨ k.val = 2 then s4.setCluster (k.val - 1) { s4.cluster (k.val - 1) with unlocked := true } else s4)

/-- R412: OP_TRANSITION takes the next stage of a cluster's change to its effective OP: up, the voltage and then the
frequency; down, the frequency and then the voltage. -/
def execOpTransition (c : Fin 2) (s : State) : Out :=
  let x := s.cluster c.val
  let t := s.effOp c.val
  if x.clockOp < t then
    if x.voltOp < t then
      done ((s.setCluster c.val { x with voltOp := t }).setFld (rPWR_AVS c.val) fPWR_AVS_MV (opNominal t))
    else done (s.setCluster c.val { x with clockOp := t })
  else if t < x.clockOp then done (s.setCluster c.val { x with clockOp := t })
  else if x.voltOp ≠ t then
    done ((s.setCluster c.val { x with voltOp := t }).setFld (rPWR_AVS c.val) fPWR_AVS_MV (opNominal t))
  else done s

/-- R413: AVS_TICK, every 100 µs. `below`: the smallest monitored slack is below the upper guard band. `above`: it has stayed
above the lower guard band since the last tick. -/
def execAvsTick (c : Fin 2) (below above : Bool) (s : State) : Out :=
  let x := s.cluster c.val
  let mv := s.fld (rPWR_AVS c.val) fPWR_AVS_MV
  let put (s : State) (v : Nat) : State :=
    s.setFld (rPWR_AVS c.val) fPWR_AVS_MV (clampNat (opFloor x.voltOp) (opNominal x.voltOp + 50) v)
  if below then done (put (s.setCluster c.val { x with slackSince := none }) (mv + 5))
  else if above then
    match x.slackSince with
    | none => done (s.setCluster c.val { x with slackSince := some s.time.ns })
    | some t =>
      if t + 1000000 ≤ s.time.ns then done (put (s.setCluster c.val { x with slackSince := some s.time.ns }) (mv - 5))
      else done s
  else done (s.setCluster c.val { x with slackSince := none })

/-- R413, R418: DROOP_EVENT halves the cluster clock for at least 1 µs and counts it; stretches at least once per ms make a
hold. -/
def execDroopEvent (c : Fin 2) (s : State) : Out :=
  let x := s.cluster c.val
  let lapsed := x.droopHold.isSome ∧ x.lastDroop + 1000000 < s.time.ns
  let s0 := if lapsed then
      match x.droopHold with
      | some h => s.recordHold 2 c.val { h with ended := some (h.ended.getD x.lastDroop) } false
      | none => s
    else s
  let h : Hold := if lapsed then ⟨s.time.ns, s.reqOp c.val, s.effOp c.val, none⟩
    else x.droopHold.getD ⟨s.time.ns, s.reqOp c.val, s.effOp c.val, none⟩
  done ((s0.setCluster c.val { s0.cluster c.val with
    droopUntil := s.time.ns + 1000
    lastDroop := s.time.ns
    droopHold := some { h with lowest := min h.lowest (s.effOp c.val) } }).count rPWR_DROOP_CNT)

/-- The mean of the first `n` samples of a list (of all, where it holds fewer). -/
def meanOf (n : Nat) (l : List Nat) : Nat := (l.take n).sum / max 1 (l.take n).length

/-- R415: one limiter step down of a cluster. -/
def State.lowerCap (s : State) (c : Nat) : State :=
  (s.setCluster c { s.cluster c with powerOp := s.effOp c - 1 })

/-- R415, R417: one limiter step up of a cluster toward its request. -/
def State.raiseCap (s : State) (c : Nat) : State :=
  let p := (s.cluster c).powerOp + 1
  s.setCluster c { s.cluster c with powerOp := if s.reqOp c ≤ p then 7 else p }

/-- R415: POWER_LIMITER_SAMPLE, every 10 µs: input voltage in mV, current in 10 mA units, the clusters' rail currents. -/
def execPowerLimiterSample (mv curr c0 c1 : Nat) (s : State) : Out :=
  let p := mv * curr / 100
  let samples := (p :: s.power.samples).take 100
  let n := s.power.nSamples + 1
  let cap := 1000 * s.fld rPWR_CAP fPWR_CAP_CAP
  let s1 := { s with power := { s.power with samples := samples, nSamples := n } }
  let s2 := ((s1.setFld rPWR_IN fPWR_IN_MV mv).setFld rPWR_IN fPWR_IN_CURR curr).setReg rPWR_IN_AVG
    (BitVec.ofNat 32 (meanOf 100 samples))
  if 2 ≤ samples.length ∧ (samples.take 2).all (fun x => decide (5 * cap < 4 * x)) then
    done ((s2.setCluster 0 { s2.cluster 0 with powerOp := 0 }).setCluster 1
      { s2.cluster 1 with powerOp := 0 }).settle
  else if cap < meanOf 10 samples ∧ s.power.lastLower.all (fun l => decide (l + 10 ≤ n)) then
    let (tie, s3) := if c0 = c1 then s2.free Config.eitherCluster else (decide (c0 < c1), s2)
    let s4 := s3.lowerCap (b2n tie)
    done (State.settle { s4 with power := { s4.power with lastLower := some n } })
  else if 100 * meanOf 100 samples ≤ 95 * cap ∧ s.power.lastRaise.all (fun l => decide (l + 100 ≤ n)) ∧
      ((s.cluster 0).powerOp < s.reqOp 0 ∨ (s.cluster 1).powerOp < s.reqOp 1) then
    let held0 := decide ((s.cluster 0).powerOp < s.reqOp 0)
    let held1 := decide ((s.cluster 1).powerOp < s.reqOp 1)
    let (pick, s3) := if held0 && held1 then s2.free Config.eitherCluster else (held1, s2)
    let s4 := s3.raiseCap (b2n pick)
    done (State.settle { s4 with power := { s4.power with lastRaise := some n } })
  else done s2

/-- R467, R416: a sensor's reading, with the cross-check's substitute. Its neighbours are the other sensors of its cluster. -/
def State.clusterSensors (s : State) (c : Nat) : List Nat :=
  ((List.range 9).filter (fun p => (if p < 8 then p / 4 else clusterOf (s.slotOf 8)) == c)) ++ [9 + c]

/-- A sensor's reading as it came, in 0.1 °C. -/
def State.rawTemp (s : State) (i : Nat) : Int := Cells.get (fun _ => 0) s.power.temps i

/-- The hottest of some sensors' readings. -/
def State.hottest (s : State) : List Nat → Int
  | [] => -2731
  | i :: l => max (s.rawTemp i) (s.hottest l)

/-- R467: the temperature that R416 uses for a sensor. -/
def State.temp (s : State) (i : Nat) : Int :=
  if i ∈ s.power.tempSub then
    let c := if i ∈ s.clusterSensors 0 then 0 else 1
    s.hottest ((s.clusterSensors c).filter (· != i)) + 50
  else s.rawTemp i

/-- R419: the hottest sensor of 0 to `n`. -/
def State.hotSensor (s : State) : Nat → Nat
  | 0 => 0
  | n + 1 => if s.temp (s.hotSensor n) < s.temp (n + 1) then n + 1 else s.hotSensor n

/-- R423, R425: entry to SLEEP or DARK begins. -/
def State.beginEntry (s : State) (dark : Bool) (wakeT : Option Nat) (mask : Nat) : State :=
  let s1 := s.setFld rAON_WAKE_EN fAON_WAKE_EN_SRC mask
  { s1 with power := { s1.power with
      st := .entering
      prev := s.power.st
      entry := some ⟨dark, 1, wakeT, mask⟩ } }

/-- R416: throttling of one cluster. -/
def State.throttle (s : State) (c : Nat) : State :=
  let lim : Int := 10 * (s.fld rTHERM_CFG fTHERM_CFG_THROT_C : Int)
  let ts := (s.clusterSensors c).map s.temp
  let x := s.cluster c
  if ts.any (fun t => decide (lim < t)) then
    if x.lastTherm + 1000000 ≤ s.time.ns ∨ x.thermOp = 7 then
      s.setCluster c { x with thermOp := s.effOp c - 1, lastTherm := s.time.ns }
    else s
  else if x.thermOp < 7 ∧ ts.all (fun t => decide (t ≤ lim - 30)) ∧ x.lastTherm + 10000000 ≤ s.time.ns then
    s.setCluster c { x with
      thermOp := if s.reqOp c ≤ x.thermOp + 1 then 7 else x.thermOp + 1
      lastTherm := s.time.ns }
  else s

/-- R416: a trip of one cluster by a sensor, and its end. -/
def State.trip (s : State) (c sensor : Nat) : State :=
  let x := s.cluster c
  let lim : Int := 10 * (s.fld rTHERM_CFG fTHERM_CFG_TRIP_C : Int)
  let thr : Int := 10 * (s.fld rTHERM_CFG fTHERM_CFG_THROT_C : Int)
  if (sensor ∈ s.clusterSensors c ∨ sensor = 11) ∧ lim < s.temp sensor then
    if x.tripped then s
    else ((s.setCluster c { x with tripped := true }).lichenHw 0x0202 sensor (wrapTo 32 (s.temp sensor)) c 0).alert 2
  else if x.tripped ∧ (s.clusterSensors c).all (fun i => decide (s.temp i < thr)) then
    s.setCluster c { x with tripped := false }
  else s

/-- R416: THERMAL_CHECK, a reading of one sensor in 0.1 °C. -/
def execThermalCheck (sensor : Fin 14) (t : Int) (s : State) : Out :=
  let s1 := { s with power := { s.power with temps := Cells.set (fun _ => 0) s.power.temps sensor.val t } }
  let h := s1.hotSensor 13
  let s2 := (s1.setFld rTHERM_STAT fTHERM_STAT_SENSOR h).setFld rTHERM_STAT fTHERM_STAT_TEMP (wrapTo 16 (s1.temp h))
  let s3 := ((s2.throttle 0).throttle 1).settle
  let s4 := (s3.trip 0 sensor.val).trip 1 sensor.val
  let crit : Int := if sensor.val ≤ 11 then 1150 else 1100
  if crit < s4.temp sensor.val ∧ s4.power.st ≠ .dark ∧ !(s4.power.entry.any (fun e => e.dark)) then
    let s5 := s4.setReg rAON_RST_CAUSE (s4.reg rAON_RST_CAUSE ||| 0x40)
    let s6 := s5.lichenHw 0x0203 sensor.val (wrapTo 32 (s4.temp sensor.val)) 0 0
    done (s6.beginEntry true none (s6.fld rAON_WAKE_EN fAON_WAKE_EN_SRC))
  else done s4

/-- R418: LIMIT_HOLD_END. A hold (kind 0 cap, 1 thermal, 2 droop) that has ended is recorded and closed; one that has run for
24 h is recorded as ongoing, and its remainder is a new hold. -/
def execLimitHoldEnd (kind : Fin 3) (c : Fin 2) (s : State) : Out :=
  let x := s.cluster c.val
  match x.holdOf kind.val with
  | none => done s
  | some h =>
    let ended := if kind.val = 2 ∧ x.lastDroop + 1000000 < s.time.ns then some (h.ended.getD x.lastDroop) else h.ended
    if ended.isSome then
      let s1 := s.recordHold kind.val c.val { h with ended := ended } false
      done (s1.setCluster c.val ((s1.cluster c.val).setHold kind.val none))
    else if h.since + 86400000000000 ≤ s.time.ns then
      let s1 := s.recordHold kind.val c.val h true
      done (s1.setCluster c.val ((s1.cluster c.val).setHold kind.val (some { h with since := s.time.ns, lowest := s.effOp c.val })))
    else done s

/-- R423: at SLEEP entry the holds that still run are recorded as ongoing. -/
def State.recordOngoing (s : State) : State :=
  let go (s : State) (p : Nat × Nat) : State :=
    match (s.cluster p.2).holdOf p.1 with
    | none => s
    | some h =>
      let s1 := s.recordHold p.1 p.2 h h.ended.isNone
      s1.setCluster p.2 ((s1.cluster p.2).setHold p.1
        (if h.ended.isSome then none else some { h with since := s.time.ns, lowest := s.effOp p.2 }))
  [(0, 0), (1, 0), (2, 0), (0, 1), (1, 1), (2, 1)].foldl go s

end Sys2Proof.Machine
end

