-- ==== Sys2Proof/Machine/Wake.lean ====
section
/-!
DEFINITION. What a reset leaves (R25, R428) and what a wake source does (R422, R424 to R426).
-/
namespace Sys2Proof.Machine

/-- R25: control registers that belong to the AON domain: the cue trim, the AON wake queue, the trigger inputs (R317), the
limiters, the AON, Lichen and sideband blocks. -/
def aonRegister (a : Nat) : Bool :=
  a == rCUE_TRIM ||
  decide (rCUEQ_STAT (queueGroup .aon) ≤ a + 0x10 ∧ a < rCUEQ_STAT (queueGroup .aon) + 0x10) ||
  decide (rINT_TRIG_CFG 0 ≤ a ∧ a < rINT_TRIG_CNT 4) ||
  decide (rPWR_CAP ≤ a ∧ a ≤ rPWR_HOLD_CNT) ||
  decide (blkBase 0x41 ≤ a ∧ a < blkBase 0x42) || decide (blkBase 0x44 ≤ a ∧ a < blkBase 0x45) ||
  decide (blkBase 0x49 ≤ a ∧ a < blkBase 0x4A)

/-- R428: a reset of everything except the AON domain, with its bits of AON_RST_CAUSE. Fuses and the serial NOR, and with it
the boot state sector, keep what they hold. The module is in STARTING (R427). -/
def State.bootReset (s : State) (cause : Nat) : State :=
  let t : State :=
    { pending := s.pending
      regs := s.regs.filter (fun (x : Nat × Word) => aonRegister x.1)
      mem := s.mem.filter (fun (x : Nat × Byte) => norKey x.1)
      freeTick := s.freeTick
      time := {
        now := s.time.now
        frac := s.time.frac
        ns := s.time.ns
        crystal := s.time.crystal }
      cueq := s.cueq.filter (fun (x : Nat × CueQueue) => x.1 == 0x30)
      lichen := s.lichen
      trig := s.trig.map (fun (x : Nat × TrigIn) => (x.1, { x.2 with due := none }))
      smb := s.smb
      tap := s.tap
      power := {
        st := .starting
        prev := s.power.st
        temps := s.power.temps
        undervolt := s.power.undervolt
        uvNow := s.power.uvNow
        lowestMv := s.power.lowestMv
        pwrgd := s.power.pwrgd
        rstLow := s.power.rstLow
        wakeNLow := s.power.wakeNLow
        vbus := s.power.vbus
        vioLow := s.power.vioLow
        inserted := s.power.inserted
        alertAnswered := s.power.alertAnswered
        fsyncLevel := s.power.fsyncLevel }
      sec := {
        blown := s.sec.blown
        half := s.sec.half
        revoked := s.sec.revoked
        rollback := s.sec.rollback
        manifestHash := s.sec.manifestHash
        serial := s.sec.serial
        dieRev := s.sec.dieRev
        straps := s.sec.straps
        deviceKeys := s.sec.deviceKeys
        fuseRepairs := s.sec.fuseRepairs
        slotA := s.sec.slotA
        slotB := s.sec.slotB
        pwrCyc := s.sec.pwrCyc
        activeHours := s.sec.activeHours } }
  (t.setReg rAON_RST_CAUSE (t.reg rAON_RST_CAUSE ||| BitVec.ofNat 32 cause)).setFld rEPL_FAB_CFG fEPL_FAB_CFG_MOD_ID t.sec.straps

/-- R422: a wake source is enabled; WATCH does not wake from DARK. -/
def State.wakeEnabled (s : State) (src : Nat) : Bool :=
  bitOf (s.fld rAON_WAKE_EN fAON_WAKE_EN_SRC) src && !(src == 4 && s.power.st == .dark)

/-- R426: the wake cause is posted as a host event. -/
def State.postWake (s : State) (cause : Nat) : State := s.postEvent (Config.wakeEventCode % 2 ^ 16) 255 0 cause

/-- R422, R424, R425: an enabled wake source fires. Before the commit point it abandons an entry, after it it is latched; in
SLEEP it starts the wake sequence and in DARK the boot; while the input has put the module in DARK, only its recovery does (R430). -/
def State.wakeFire (s : State) (src : Nat) : State :=
  if !s.wakeEnabled src then s
  else
    let s1 := s.setReg rAON_WAKE_CAUSE (s.reg rAON_WAKE_CAUSE ||| BitVec.ofNat 32 (2 ^ src))
    match s.power.st with
    | .entering =>
      match s.power.entry with
      | some e =>
        if e.step ≤ 4 then
          let s2 := { s1 with power := { s1.power with
            st := .active
            prev := .entering
            entry := none } }
          (s2.lichenFw 0x0105 (2 ^ src) e.step (b2n e.dark) 0).postWake (2 ^ src)
        else { s1 with power := { s1.power with
          latched := if bitOf s.power.latched src then s.power.latched else s.power.latched + 2 ^ src } }
      | none => s1
    | .sleep => s.acceptWake src
    | .dark => if s.power.undervolt then s1 else s1.bootReset 0x10
    | .waking => s1
    | _ => s

end Sys2Proof.Machine
end

