-- ==== Sys2Proof/Machine/Intake.lean ====
section
/-!
DEFINITION. The camera intake (R297 to R323): ports and packets, the shape of frames, embedded data, the camera control buses,
frame sync, triggers, watch mode. A Frame Start, which may carry a Wings strobe, is in FrameStart.lean.
-/
namespace Sys2Proof.Machine

/-! ### Indexed state -/

/-- One receive port. -/
def State.port (s : State) (p : Nat) : PortState := Cells.get (fun _ => {}) s.ports p
/-- R302: the state with one port replaced, and FILL in step. -/
def State.setPort (s : State) (p : Nat) (x : PortState) : State :=
  let s1 := { s with ports := Cells.set (fun _ => {}) s.ports p x }
  s1.setFld (rINT_PORT_STAT p) fINT_PORT_STAT_FILL (((x.buf.map (·.bytes)).foldl (· + ·) 0 + 63) / 64)
/-- One stream. -/
def State.stream (s : State) (k : Nat) : StreamState := Cells.get (fun _ => {}) s.streams k
/-- The state with one stream replaced. -/
def State.setStream (s : State) (k : Nat) (x : StreamState) : State := { s with streams := Cells.set (fun _ => {}) s.streams k x }
/-- The state with a stream's open frame replaced. -/
def State.setFrame (s : State) (k : Nat) (f : OpenFrame) : State := s.setStream k { s.stream k with frame := some f }

/-! ### Frames -/

/-- A frame with a mark (R311) set. -/
def OpenFrame.mark (f : OpenFrame) (bit : Nat) : OpenFrame := if bitOf f.marks bit then f else { f with marks := f.marks + 2 ^ bit }
/-- HEIGHT as latched. -/
def OpenFrame.height (f : OpenFrame) : Nat := getF f.geom fINT_STR_GEOM_HEIGHT
/-- WIDTH as latched. -/
def OpenFrame.width (f : OpenFrame) : Nat := getF f.geom fINT_STR_GEOM_WIDTH

/-- R301, R321: stream `k` (of the module) receives: its port is enabled, and in SLEEP only a stream that is watched does. -/
def State.receives (s : State) (k : Nat) : Bool :=
  let p := k / 4
  getF (s.port p).cfg fINT_PORT_CFG_EN == 1 &&
  (match s.power.st with
    | .active | .idle | .entering => true
    | .sleep | .waking => s.watching p && s.fld (rINT_WATCH_CFG p) fINT_WATCH_CFG_STREAM == k % 4
    | _ => false)

/-- R299: the streams of a port to which a packet on a virtual channel belongs. -/
def State.streamsOn (s : State) (p vc : Nat) : List Nat :=
  ((List.range 4).map (fun k => 4 * p + k)).filter (fun k =>
    s.flag (rINT_STR_CFG k) fINT_STR_CFG_EN && s.fld (rINT_STR_CFG k) fINT_STR_CFG_VC == vc && s.receives k)

/-- R299: a packet that matches no enabled stream is counted and discarded. -/
def State.unmatched (s : State) (p : Nat) : State := s.count (rINT_PORT_UNMATCHED p)

/-- R303: a corrected header is counted. -/
def State.noteHeader (s : State) (p : Nat) (corrected : Bool) : State :=
  if corrected then s.count (rINT_PORT_ECC_CORR p) else s

/-- R309, R310: a row is handed to the port buffer; a frame that goes no further than the watch unit leaves nothing there. -/
def State.bufferRow (s : State) (k : Nat) (f : OpenFrame) (row bytes : Nat) (d : List Nat) : State :=
  let p := k / 4
  let x := s.port p
  if f.deliver then s.setPort p { x with buf := x.buf ++ [⟨k, f.fidx, row, d, s.time.now, bytes⟩] } else s

/-- R309: rows from the first undelivered one up to `hi` are synthesised by copying `d`. -/
def State.synthRows (s : State) (k hi : Nat) (d : List Nat) : State :=
  match (s.stream k).frame with
  | none => s
  | some f =>
    let n := hi - f.rows
    let s1 := (List.range n).foldl (fun t i => t.bufferRow k f (f.rows + i) 0 d) s
    let f1 := { f with
      rows := max f.rows hi
      synth := f.synth + n
      kept := if f.kept.isEmpty then f.kept else f.kept ++ List.replicate n d }
    (s1.setFrame k f1).countBy (rINT_STR_ROWS_SYN k) wholeReg n

/-- R312: the bytes of a frame record. -/
def OpenFrame.record (f : OpenFrame) (k : Nat) : List Byte :=
  leBytes 1 k ++ leBytes 1 f.ispSet ++ leBytes 2 f.marks ++ leBytes 4 f.fidx ++ leBytes 2 f.fnum ++ leBytes 2 f.synth ++
    leBytes 4 f.time

/-- R338: the stripe assembler's stream. -/
def State.saStream (s : State) (k : Nat) : SaStream := Cells.get (fun _ => {}) s.sa.streams k
/-- The state with a stream of the assembler replaced. -/
def State.setSaStream (s : State) (k : Nat) (x : SaStream) : State :=
  { s with sa := { s.sa with streams := Cells.set (fun _ => {}) s.sa.streams k x } }
/-- The state with one frame of the assembler changed. -/
def State.modSaFrame (s : State) (k fidx : Nat) (g : SaFrame → SaFrame) : State :=
  let x := s.saStream k
  s.setSaStream k { x with frames := x.frames.map (fun (f : SaFrame) => if f.fidx = fidx then g f else f) }

/-! ### The watch unit (R322, R323) -/

/-- R298: the bit depth of a data type. -/
def bitDepth (dt : Nat) : Nat :=
  match dt with | 0x2A => 8 | 0x2B => 10 | 0x2C => 12 | 0x2D => 14 | _ => 16

/-- R322: the value of one quad. -/
def quadOf (rows : List (List Nat)) (b qx qy : Nat) : Nat :=
  let v (y x : Nat) : Nat := (rows.getD y []).getD x 0
  (v (2 * qy) (2 * qx) + v (2 * qy) (2 * qx + 1) + v (2 * qy + 1) (2 * qx) + v (2 * qy + 1) (2 * qx + 1)) / 2 ^ (b - 6) % 256

/-- R322: the mean of one cell. -/
def cellMean (rows : List (List Nat)) (b c cx cy : Nat) : Nat :=
  let n := 2 ^ c
  let sum := (List.range n).foldl (fun t i => (List.range n).foldl (fun u j => u + quadOf rows b (cx * n + j) (cy * n + i)) t) 0
  sum / 2 ^ (2 * c) % 256

/-- R323: a trigger of the watch unit of port `p` for a frame, with its active cells. -/
def State.watchTrigger (s : State) (p fidx active : Nat) : State :=
  let s1 := ((s.setReg (rINT_WATCH_EVT_FIDX p) (BitVec.ofNat 32 fidx)).setTime (rINT_WATCH_EVT_LO p) s.time.now)
  let s2 := s1.setFld (rINT_WATCH_STAT p) fINT_WATCH_STAT_WOKE 1
  match s.power.st with
  | .sleep | .waking => (s2.setPort p { s2.port p with woke := some active }).wakeFire 4
  | _ => s2.postEvent 0x0004 255 p active

/-- R322: the watch unit measures a frame that has closed with no mark. -/
def State.watchMeasure (s : State) (p : Nat) (f : OpenFrame) : State :=
  let cfg := s.reg (rINT_WATCH_CFG p)
  let c := getF cfg fINT_WATCH_CFG_CELL_LOG2
  let b := bitDepth (getF f.cfg fINT_STR_CFG_DT)
  let gx := f.width / 2 / 2 ^ c
  let gy := f.height / 2 / 2 ^ c
  let means := (List.range (gx * gy)).map (fun (i : Nat) => cellMean f.kept b c (i % gx) (i / gx))
  let x := s.port p
  let valid := s.flag (rINT_WATCH_STAT p) fINT_WATCH_STAT_REF_VALID
  let thr := getF cfg fINT_WATCH_CFG_CELL_THR
  let alpha := getF cfg fINT_WATCH_CFG_ALPHA
  let refAt (i : Nat) : Int := x.ref.getD i 0
  let pairs := (List.range means.length).zip means
  let active := if valid then (pairs.filter (fun (y : Nat × Nat) => decide (thr < ((y.2 : Int) - refAt y.1).natAbs))).length else 0
  let ref := pairs.map (fun (y : Nat × Nat) =>
    if alpha = 0 ∨ !valid then y.2 else (refAt y.1 + asr ((y.2 : Int) - refAt y.1) alpha).toNat)
  let streak := if s.fld (rINT_WATCH_THR p) fINT_WATCH_THR_COUNT_THR ≤ active then x.streak + 1 else 0
  let hit := decide (streak = getF cfg fINT_WATCH_CFG_PERSIST_M1 + 1)
  let s1 := s.setPort p { x with
    ref := ref
    streak := if hit then 0 else streak }
  let s2 := s1.setFld (rINT_WATCH_STAT p) fINT_WATCH_STAT_REF_VALID 1
  let s3 := if valid then s2.setFld (rINT_WATCH_LAST p) fINT_WATCH_LAST_ACTIVE active else s2
  if hit then s3.watchTrigger p f.fidx active else s3

/-- R322: CELL_LOG2 as staging and the register keep it: 3 to 6, and no smaller than a grid of 64 cells a side allows. -/
def State.watchClamp (s : State) (p : Nat) (w : Word) : Word :=
  let k := 4 * p + getF w fINT_WATCH_CFG_STREAM
  let c0 := clampNat 3 6 (getF w fINT_WATCH_CFG_CELL_LOG2)
  let fits (c : Nat) : Bool := decide (s.fld (rINT_STR_GEOM k) fINT_STR_GEOM_WIDTH / 2 / 2 ^ c ≤ 64 ∧
    s.fld (rINT_STR_GEOM k) fINT_STR_GEOM_HEIGHT / 2 / 2 ^ c ≤ 64)
  setF w fINT_WATCH_CFG_CELL_LOG2 (([3, 4, 5, 6].find? (fun c => decide (c0 ≤ c) && fits c)).getD 6)

/-- R323: INT_WATCH_CFG of a port is written. -/
def State.writeWatchCfg (s : State) (p : Nat) (w : Word) : State :=
  let s1 := s.setReg (rINT_WATCH_CFG p) (s.watchClamp p w &&& 0xBFF8FF00)
  if getF w fINT_WATCH_CFG_EN = 1 then s1.setFld (rINT_WATCH_STAT p) fINT_WATCH_STAT_REF_VALID 0 else s1

/-- R323: WATCH_ENABLE: a write of INT_WATCH_CFG. -/
def execWatchEnable (p : Fin 12) (w : Word) (s : State) : Out := done (s.writeWatchCfg p.val w)

/-! ### Closing a frame -/

/-- R305 to R312: the open frame of stream `k` closes, with `trunc` where it has no Frame End. -/
def State.closeFrame (s : State) (k : Nat) (trunc : Bool) : State :=
  match (s.stream k).frame with
  | none => s
  | some f =>
    let s0 := s.synthRows k f.height (f.last.getD (List.replicate f.width 0))
    match (s0.stream k).frame with
    | none => s0
    | some g =>
      let g1 := if trunc then g.mark 5 else g
      let g2 := if g.good < g.height then g1.mark 0 else g1
      let g3 := if g.embLines ≠ getF g.cfg fINT_STR_CFG_EMB_LINES then g2.mark 10 else g2
      let s1 := s0.setStream k { s0.stream k with
        frame := none
        lastRecord := g3.record k }
      let s2 := s1.setReg (rINT_STR_LAST k) (BitVec.ofNat 32 (g3.marks * 2 ^ 16 + g3.fnum))
      let s3 := if g3.marks ≠ 0 then s2.count (rINT_STR_MARKED k) else s2
      let s4 := if bitOf g3.marks 9 then s3.count (rINT_STR_SETLATE k) else s3
      let s5 := if g3.deliver then s4.modSaFrame k g3.fidx (fun x => { x with record := some (g3.record k) }) else s4
      if g3.marks = 0 ∧ g3.kept.length = g3.height then s5.watchMeasure (k / 4) g3 else s5

/-- R321: a frame open at SLEEP entry or at wake is discarded without a record. -/
def State.discardFrames (s : State) : State :=
  { s with streams := s.streams.map (fun (x : Nat × StreamState) => (x.1, { x.2 with frame := none })) }

/-- R305: FRAME_END on a virtual channel of a port, with the sensor's frame number. -/
def execFrameEnd (p : Fin 12) (vc : Fin 16) (num : Half) (corrected : Bool) (s : State) : Out :=
  let s1 := s.noteHeader p.val corrected
  match s1.streamsOn p.val vc.val with
  | [] => done (s1.unmatched p.val)
  | l => done (l.foldl (fun t k =>
      match (t.stream k).frame with
      | none => t.count (rINT_STR_ORPHAN k)
      | some f => (if f.fnum ≠ 0 ∧ num.toNat ≠ f.fnum then t.setFrame k (f.mark 8) else t).closeFrame k false) s1)

/-- R305: FRAME_END_TIMEOUT. -/
def execFrameEndTimeout (k : Fin 48) (s : State) : Out :=
  match (s.stream k.val).frame with
  | none => done s
  | some f =>
    if f.ns + s.fld (rINT_STR_TMO k.val) fINT_STR_TMO_FE_TMO_US * 1000 ≤ s.time.ns then done (s.closeFrame k.val true) else done s

/-- R303: every open frame of a port is marked LINE_SEQ. -/
def State.markPort (s : State) (p : Nat) : State :=
  ((List.range 4).map (fun i => 4 * p + i)).foldl (fun t k =>
    match (t.stream k).frame with
    | some f => t.setFrame k (f.mark 7)
    | none => t) s

/-- R303: HS_BURST_DISCARD: the rest of a burst is discarded after an uncorrectable header, or a whole one after a
start-of-transmission error. -/
def execHsBurstDiscard (p : Fin 12) (sot : Bool) (s : State) : Out :=
  if getF (s.port p.val).cfg fINT_PORT_CFG_EN = 1 then
    done ((s.count (if sot then rINT_PORT_SOT_ERR p.val else rINT_PORT_ECC_UNC p.val)).markPort p.val)
  else done s

/-- R297: DESKEW_SEQUENCE. -/
def execDeskewSequence (p : Fin 12) (s : State) : Out :=
  if getF (s.port p.val).cfg fINT_PORT_CFG_EN = 1 then done (s.setFld (rINT_PORT_STAT p.val) fINT_PORT_STAT_DESKEWED 1)
  else done s

/-- R301: PORT_CFG_APPLY: all lanes of a port are in LP-11. -/
def execPortCfgApply (p : Fin 12) (s : State) : Out :=
  let w := s.reg (rINT_PORT_CFG p.val)
  let x := s.port p.val
  let s1 := s.setPort p.val { x with cfg := w }
  done (if getF w fINT_PORT_CFG_EN = 1 ∧ getF x.cfg fINT_PORT_CFG_EN = 0 then
      s1.setFld (rINT_PORT_STAT p.val) fINT_PORT_STAT_DESKEWED 0
    else s1)

/-- R299: UNMATCHED_PACKET. -/
def execUnmatchedPacket (p : Fin 12) (s : State) : Out :=
  if getF (s.port p.val).cfg fINT_PORT_CFG_EN = 1 then done (s.unmatched p.val) else done s

/-! ### Lines (R306 to R310) -/

/-- R308: LINE_START. -/
def execLineStart (p : Fin 12) (vc : Fin 16) (num : Half) (corrected : Bool) (s : State) : Out :=
  let s1 := s.noteHeader p.val corrected
  match s1.streamsOn p.val vc.val with
  | [] => done (s1.unmatched p.val)
  | l => done (l.foldl (fun t k =>
      match (t.stream k).frame with
      | none => t
      | some f =>
        if getF f.cfg fINT_STR_CFG_LNUM = 1 then
          t.setFrame k { f with
            lineNo := some num.toNat
            n0 := some (f.n0.getD num.toNat) }
        else t) s1)

/-- R306: one pixel group of a data type: its bytes, and how they unpack (the packing of MIPI CSI-2, log entry 22). -/
def groupBytes (dt : Nat) : Nat :=
  match dt with | 0x2A => 1 | 0x2B => 5 | 0x2C => 3 | 0x2D => 7 | _ => 2

/-- The pixels of one whole group. -/
def unpackGroup (dt : Nat) (b : List Nat) : List Nat :=
  let g (i : Nat) := b.getD i 0
  match dt with
  | 0x2A => [g 0]
  | 0x2B => (List.range 4).map (fun i => g i * 4 + g 4 / 4 ^ i % 4)
  | 0x2C => [g 0 * 16 + g 2 % 16, g 1 * 16 + g 2 / 16]
  | 0x2D => [g 0 * 64 + g 4 % 64, g 1 * 64 + (g 4 / 64 + g 5 % 16 * 4), g 2 * 64 + (g 5 / 16 + g 6 % 4 * 16), g 3 * 64 + g 6 / 4]
  | 0x2E => [g 0 * 256 + g 1]
  | _ => [g 0 + g 1 * 256]

/-- R306: the pixels of a line; trailing bytes that complete no group are discarded. -/
def unpackLine (dt : Nat) (b : List Byte) : List Nat :=
  let n := groupBytes dt
  (List.range (b.length / n)).flatMap (fun i => unpackGroup dt (((b.drop (n * i)).take n).map (·.toNat)))

/-- R306: a line padded or truncated to WIDTH. -/
def fitLine (width : Nat) (l : List Nat) : List Nat :=
  l.take width ++ List.replicate (width - l.length) (l.getLast?.getD 0)

/-- A discarded line is counted, and its frame marked. -/
def State.discardLine (s : State) (k bit : Nat) (f : OpenFrame) : State :=
  (s.setFrame k (f.mark bit)).count (rINT_STR_ROWS_DISC k)

/-- R308: the row that a line of a frame takes, or the mark under which it is discarded. -/
def OpenFrame.rowOf (f : OpenFrame) : Except Nat Nat :=
  if getF f.cfg fINT_STR_CFG_LNUM = 1 then
    match f.lineNo with
    | none => .error 7
    | some n =>
      let r := (n + 65536 - f.n0.getD n) % 65536
      if r < f.pos ∨ f.height ≤ r then .error 7 else .ok r
  else if f.height ≤ f.pos then .error 1 else .ok f.pos

/-- R306, R309, R310: an image line of the open frame of stream `k`. -/
def State.imageLine (s : State) (k : Nat) (f : OpenFrame) (b : List Byte) : State :=
  let p := k / 4
  let f1 := { f with lineNo := none }
  match f.rowOf with
  | .error bit => s.discardLine k bit f1
  | .ok r =>
    let width := f.width
    let used := ((s.port p).buf.map (·.bytes)).foldl (· + ·) 0
    if f.deliver ∧ 262144 < used + 2 * width then
      (s.setFrame k ({ f1 with pos := r + 1 }.mark 6)).count (rINT_PORT_DROP p)
    else
      let px := unpackLine (getF f.cfg fINT_STR_CFG_DT) b
      let d := fitLine width px
      let short := decide (px.length < width)
      let long := decide (width < px.length)
      let f2 := if short then f1.mark 2 else if long then f1.mark 3 else f1
      let s1 := if short ∨ long then s.count (rINT_STR_LINE_ADJ k) else s
      let s2 := (s1.setFrame k f2).synthRows k r (f.last.getD d)
      match (s2.stream k).frame with
      | none => s2
      | some g =>
        let watched := s.flag (rINT_WATCH_CFG p) fINT_WATCH_CFG_EN && s.fld (rINT_WATCH_CFG p) fINT_WATCH_CFG_STREAM == k % 4
        (s2.setFrame k { g with
          pos := r + 1
          rows := r + 1
          good := g.good + 1
          last := some d
          kept := if watched then g.kept ++ [d] else g.kept }).bufferRow k g r (2 * width) d

/-- R298 to R310: IMAGE_LINE, a long packet of an image data type. -/
def execImageLine (p : Fin 12) (vc : Fin 16) (dt : Fin 64) (b : List Byte) (crcOk corrected : Bool) (s : State) : Out :=
  let s1 := s.noteHeader p.val corrected
  let dtOf (k : Nat) : Nat := match (s1.stream k).frame with
    | some f => getF f.cfg fINT_STR_CFG_DT
    | none => s1.fld (rINT_STR_CFG k) fINT_STR_CFG_DT
  match (s1.streamsOn p.val vc.val).filter (fun k => dtOf k == dt.val) with
  | [] => done (s1.unmatched p.val)
  | l =>
    let s2 := if crcOk then s1 else s1.count (rINT_PORT_CRC_ERR p.val)
    done (l.foldl (fun t k =>
      match (t.stream k).frame with
      | none => t.count (rINT_STR_ORPHAN k)
      | some f =>
        let f1 := if crcOk then f else f.mark 4
        (t.setFrame k f1).imageLine k f1 b) s2)

/-- R307: the DPA of a stream's embedded-data buffer. -/
def embBase (k : Nat) : Nat := blkBase 0x20 + 0x10000 + 0x4000 * k

/-- R307: an embedded line of the open frame of stream `k`. -/
def State.embeddedLine (s : State) (k : Nat) (f : OpenFrame) (b : List Byte) : State :=
  let f1 := { f with embLines := f.embLines + 1 }
  if getF f.cfg fINT_STR_CFG_EMB_LINES ≤ f.embLines then s.discardLine k 10 f1
  else if 16384 < f.embPos + 8 then s.discardLine k 10 f1
  else
    let kept := min b.length (min 4096 (16384 - f.embPos - 4))
    let next := f.embPos + 4 + (kept + 3) / 4 * 4
    let s1 := (s.setNum (embBase k + f.embPos) 4 (kept + min b.length 65535 * 2 ^ 16)).setBytes (embBase k + f.embPos + 4) (b.take kept)
    let s2 := if next + 4 ≤ 16384 then s1.setNum (embBase k + next) 4 0 else s1
    let f2 := { f1 with embPos := next }
    if kept < b.length then s2.discardLine k 10 f2 else s2.setFrame k f2

/-- R307: EMBEDDED_LINE, a long packet of data type 0x12. -/
def execEmbeddedLine (p : Fin 12) (vc : Fin 16) (b : List Byte) (crcOk corrected : Bool) (s : State) : Out :=
  let s1 := s.noteHeader p.val corrected
  let embOf (k : Nat) : Nat := match (s1.stream k).frame with
    | some f => getF f.cfg fINT_STR_CFG_EMB_LINES
    | none => s1.fld (rINT_STR_CFG k) fINT_STR_CFG_EMB_LINES
  match (s1.streamsOn p.val vc.val).filter (fun k => embOf k != 0) with
  | [] => done (s1.unmatched p.val)
  | l =>
    let s2 := if crcOk then s1 else s1.count (rINT_PORT_CRC_ERR p.val)
    done (l.foldl (fun t k =>
      match (t.stream k).frame with
      | none => t.count (rINT_STR_ORPHAN k)
      | some f =>
        let f1 := if crcOk then f else f.mark 4
        (t.setFrame k f1).embeddedLine k f1 b) s2)

/-! ### SET marks (R320) -/

/-- R320: frame `n` of stream `k` is marked SET, now or when it opens. -/
def State.markSet (s : State) (k n : Nat) : State :=
  let x := s.stream k
  match x.frame with
  | some f =>
    if f.fidx = n then s.setFrame k (f.mark 9)
    else if n ∈ x.setMarks then s else s.setStream k { x with setMarks := x.setMarks ++ [n] }
  | none => if n ∈ x.setMarks then s else s.setStream k { x with setMarks := x.setMarks ++ [n] }

/-- R320: the frame index that a list counts its latency from: the open frame's, or that of the next Frame Start. -/
def State.listFrame (s : State) (k : Nat) : Nat :=
  let n := (s.reg (rINT_STR_FIDX k)).toNat
  if (s.stream k).frame.isSome then n else (n + 1) % 2 ^ 32

/-! ### Camera control buses (R313 to R315) -/

/-- One bus. -/
def State.bus (s : State) (b : Nat) : I2cBus := Cells.get (fun _ => {}) s.i2c b
/-- The state with one bus replaced, and BUSY in step. -/
def State.setBus (s : State) (b : Nat) (x : I2cBus) : State :=
  { s with i2c := Cells.set (fun _ => {}) s.i2c b x }.setFld (rI2C_STAT b) fI2C_STAT_BUSY (b2n (x.list.isSome || x.xfer.isSome))

/-- R314: a bus allows an access to `len` registers of a device. -/
def State.i2cAllowed (s : State) (b : Nat) (write : Bool) (dev a16 reg len : Nat) : Bool :=
  (List.range 16).any (fun e =>
    let lo := rI2C_ALLOW_LO b e
    s.flag lo fI2C_ALLOW_LO_VALID && (!write || s.flag lo fI2C_ALLOW_LO_W) && s.fld lo fI2C_ALLOW_LO_DEV == dev &&
      s.fld lo fI2C_ALLOW_LO_A16 == a16 && decide (s.fld lo fI2C_ALLOW_LO_REG_LO ≤ reg) &&
      decide (reg + len - 1 ≤ s.fld (rI2C_ALLOW_HI b e) fI2C_ALLOW_HI_REG_HI))

/-- R315: item `i` of the item table: device, width, register, data bytes. -/
def State.wlItem (s : State) (i : Nat) : Nat × Nat × Nat × Nat :=
  let hi := rWL_ITEM_HI (i % 4096)
  (s.fld hi fWL_ITEM_HI_DEV, s.fld hi fWL_ITEM_HI_A16, s.fld hi fWL_ITEM_HI_REG, s.fld hi fWL_ITEM_HI_LEN_M1 + 1)

/-- R315: the first item of a write list that a bus denies. -/
def State.deniedItem (s : State) (b n : Nat) : Option Nat :=
  (List.range (s.fld (rINT_WL n) fINT_WL_COUNT)).find? (fun i =>
    let (dev, a16, reg, len) := s.wlItem (s.fld (rINT_WL n) fINT_WL_FIRST + i)
    !(s.i2cAllowed b true dev a16 reg len))

/-- R315: RESULT of a bus. -/
def State.i2cResult (s : State) (b list item res : Nat) : State :=
  ((s.setFld (rI2C_STAT b) fI2C_STAT_LIST list).setFld (rI2C_STAT b) fI2C_STAT_ITEM item).setFld (rI2C_STAT b) fI2C_STAT_RESULT res

/-- R315: a bus is recovered with nine clocks and a STOP, and reports STUCK. -/
def State.i2cStuck (s : State) (b list item : Nat) : State := (s.i2cResult b list item 4).count (rI2C_RESET_CNT b)

/-- R320: the frames that a list marks when it ends badly. -/
def State.listFailed (s : State) (b n : Nat) : State :=
  let k := 4 * b + s.fld (rINT_WL n) fINT_WL_STREAM
  s.markSet k ((s.listFrame k + s.fld (rINT_WL n) fINT_WL_LAT) % 2 ^ 32)

/-- R315, R488: write list `n` starts on bus `b`: denied whole, stuck, or under way. -/
def State.i2cStartList (s : State) (b n : Nat) : State :=
  match s.deniedItem b n with
  | some i =>
    let (dev, _, reg, _) := s.wlItem (s.fld (rINT_WL n) fINT_WL_FIRST + i)
    (((s.i2cResult b n i 3).count (rI2C_DENY_CNT b)).lichenHw 0x0307 b n i (dev * 2 ^ 16 + reg)).listFailed b n
  | none =>
    if s.power.vioLow then (s.i2cStuck b n 0).listFailed b n
    else
      let k := 4 * b + s.fld (rINT_WL n) fINT_WL_STREAM
      let lat := s.fld (rINT_WL n) fINT_WL_LAT
      let s1 := if (s.stream k).frame.isSome then
          (s.markSet k ((s.listFrame k + lat) % 2 ^ 32)).markSet k ((s.listFrame k + 1 + lat) % 2 ^ 32)
        else s
      s1.setBus b { s1.bus b with list := some n }

/-- R315: a bus is busy, or not enabled, so a list waits. -/
def State.i2cBusy (s : State) (b : Nat) : Bool :=
  (s.bus b).list.isSome || (s.bus b).xfer.isSome || !s.flag (rI2C_CFG b) fI2C_CFG_EN

/-- R315: a transfer by firmware starts. -/
def State.i2cStartXfer (s : State) (b : Nat) (w : Word) : State :=
  let dev := getF w fI2C_XFER_DEV
  let reg := getF w fI2C_XFER_REG
  let len := getF w fI2C_XFER_LEN_M1 + 1
  if s.i2cAllowed b (getF w fI2C_XFER_RD == 0) dev (getF w fI2C_XFER_A16) reg len then
    if s.power.vioLow then (s.setFld (rI2C_STAT b) fI2C_STAT_RESULT 4).count (rI2C_RESET_CNT b)
    else s.setBus b { s.bus b with xfer := some w }
  else
    let (x, s1) := s.free Config.deniedTransfer
    let (y, s2) := s1.free Config.deniedTransfer
    ((s2.setFld (rI2C_STAT b) fI2C_STAT_RESULT 3).count (rI2C_DENY_CNT b)).lichenHw 0x0307 b x y (dev * 2 ^ 16 + reg)

/-- R315: I2C_XFER, a write of I2C_XFER with GO: it waits for a list in progress. -/
def State.i2cGo (s : State) (b : Nat) (w : Word) : State :=
  if (s.bus b).list.isSome ∨ (s.bus b).xfer.isSome then s.setBus b { s.bus b with waits := some w }
  else s.i2cStartXfer b w

/-- R315: I2C_XFER. -/
def execI2cXfer (b : Fin 12) (w : Word) (s : State) : Out :=
  let s1 := s.setReg (rI2C_XFER b.val) (w &&& 0x7FF0FFFF)
  done (if getF w fI2C_XFER_GO = 1 then s1.i2cGo b.val w else s1)

/-- A transfer that has waited starts. -/
def State.i2cNext (s : State) (b : Nat) : State :=
  match (s.bus b).waits with
  | some w => (s.setBus b { s.bus b with waits := none }).i2cStartXfer b w
  | none => s

/-- R315: I2C_LIST_COMPLETE: a list or transfer ends with OK, or with a NACK of the address or of data at an item; `rd` is the
data that a read returned. -/
def execI2cListComplete (b : Fin 12) (nack : Option (Fin 256 × Bool)) (rd : Word) (s : State) : Out :=
  let x := s.bus b.val
  let s1 := if nack.isSome then s.count (rI2C_NACK_CNT b.val) else s
  let res := match nack with | none => 0 | some (_, data) => if data then 2 else 1
  match x.list with
  | some n =>
    let item := match nack with | none => s.fld (rINT_WL n) fINT_WL_COUNT - 1 | some (i, _) => i.val
    let s2 := (s1.setBus b.val { x with list := none }).i2cResult b.val n item res
    done ((if nack.isSome then s2.listFailed b.val n else s2).i2cNext b.val)
  | none =>
    match x.xfer with
    | some w =>
      let s2 := (s1.setBus b.val { x with xfer := none }).setFld (rI2C_STAT b.val) fI2C_STAT_RESULT res
      let len := getF w fI2C_XFER_LEN_M1 + 1
      let s3 := if nack.isNone ∧ getF w fI2C_XFER_RD = 1 then
          s2.setReg (rI2C_XDATA b.val) (BitVec.ofNat 32 (rd.toNat % 2 ^ (8 * len)))
        else s2
      done (s3.i2cNext b.val)
    | none => done s

/-- R315: I2C_STUCK_TIMEOUT: SCL has been held low for longer than LOW_TMO_US, at item `i` of the list. -/
def execI2cStuckTimeout (b : Fin 12) (i : Fin 256) (s : State) : Out :=
  let x := s.bus b.val
  match x.list with
  | some n => done ((((s.setBus b.val { x with list := none }).i2cStuck b.val n i.val).listFailed b.val n).i2cNext b.val)
  | none =>
    match x.xfer with
    | some _ =>
      let s1 := (s.setBus b.val { x with xfer := none }).setFld (rI2C_STAT b.val) fI2C_STAT_RESULT 4
      done ((s1.count (rI2C_RESET_CNT b.val)).i2cNext b.val)
    | none => done s

/-! ### Frame sync (R316) -/

/-- One output. -/
def State.fsOut (s : State) (n : Nat) : FsyncOut := Cells.get (fun _ => {}) s.fsync n
/-- The state with one output replaced. -/
def State.setFsOut (s : State) (n : Nat) (x : FsyncOut) : State := { s with fsync := Cells.set (fun _ => {}) s.fsync n x }

/-- R316, R488: output `n` is driven active for `us` µs, unless the pulse is suppressed. -/
def State.fsyncPulse (s : State) (n us : Nat) : State :=
  let x := s.fsOut n
  let min := s.fld (rINT_FSYNC_CFG n) fINT_FSYNC_CFG_MIN_PERIOD_US
  let ends := s.time.ns + 1000 * (if min ≤ us then min - 1 else us)
  if !s.flag (rINT_FSYNC_CFG n) fINT_FSYNC_CFG_EN ∨ s.power.vioLow then s
  else match x.start with
    | some t =>
      if t = s.time.ns then s.setFsOut n { x with ends := some (max (x.ends.getD 0) ends) }
      else if s.time.ns < t + 1000 * min then
        (s.count (rINT_FSYNC_SUPP n)).lichenHw 0x0501 n ((s.time.ns - t) / 1000) min 0
      else s.setFsOut n ⟨some s.time.ns, some ends⟩
    | none => s.setFsOut n ⟨some s.time.ns, some ends⟩

/-- R316: FSYNC_PULSE_END. -/
def execFsyncPulseEnd (n : Fin 12) (s : State) : Out :=
  match (s.fsOut n.val).ends with
  | some t => if t ≤ s.time.ns then done (s.setFsOut n.val { s.fsOut n.val with ends := none }) else done s
  | none => done s

/-! ### Triggers (R317) -/

/-- R317: the width in µs for which a level must stay: in SLEEP and DARK in whole AON ticks of 32.768 kHz. -/
def State.glitch (s : State) (us : Nat) : Nat :=
  match s.power.st with
  | .sleep | .dark | .waking => ((us * 32768 + 999999) / 1000000 * 1000000 + 32767) / 32768
  | _ => us

/-- R317: TRIG_EDGE: input `n` changes to a level, at which it then stays for `us` µs. -/
def execTrigEdge (n : Fin 4) (fall : Bool) (us : Nat) (s : State) : Out :=
  let cfg := s.reg (rINT_TRIG_CFG n.val)
  let x : TrigIn := Cells.get (fun _ => {}) s.trig n.val
  if getF cfg fINT_TRIG_CFG_EN = 0 ∨ getF cfg fINT_TRIG_CFG_FALL ≠ b2n fall ∨ s.power.vioLow then done s
  else if us < s.glitch (getF cfg fINT_TRIG_CFG_GLITCH_US) ∨
      (match x.last with
        | some t => decide (s.time.ns < t + 1000000 * getF cfg fINT_TRIG_CFG_HOLDOFF_MS)
        | none => false) = true then
    done (s.countBy (rINT_TRIG_CNT n.val) fINT_TRIG_CNT_REJ 1)
  else
    let act := s.reg (rINT_TRIG_ACT n.val)
    let link := getF act fINT_TRIG_ACT_LINK = 1 ∧ s.awake
    let s1 := { s with trig := Cells.set (fun _ => {}) s.trig n.val { x with
      last := some s.time.ns
      due := if link then some (s.time.ns + 1000 * getF act fINT_TRIG_ACT_DELAY_US) else x.due } }
    let s2 := (((s1.countBy (rINT_TRIG_CNT n.val) fINT_TRIG_CNT_ACC 1).setTime (rINT_TRIG_CAP_LO n.val) s.time.now))
    let s3 := if getF cfg fINT_TRIG_CFG_HOSTEV = 1 then s2.postEvent 0x0005 255 n.val (s.time.now % 2 ^ 32) else s2
    done (if getF cfg fINT_TRIG_CFG_WAKE = 1 then s3.wakeFire 3 else s3)

/-- R317: TRIG_FSYNC_DELAY: DELAY_US after an accepted linked edge. -/
def execTrigFsyncDelay (n : Fin 4) (s : State) : Out :=
  let x : TrigIn := Cells.get (fun _ => {}) s.trig n.val
  let act := s.reg (rINT_TRIG_ACT n.val)
  match x.due with
  | some t =>
    if t ≤ s.time.ns then
      done ({ s with trig := Cells.set (fun _ => {}) s.trig n.val { x with due := none } }.fsyncPulse
        (getF act fINT_TRIG_ACT_FSYNC) (getF act fINT_TRIG_ACT_WIDTH_US))
    else done s
  | none => done s

/-! ### The camera I/O supply (R488) -/

/-- R488: VIO_CAM_LOSS: outputs are inactive, buses released, triggers held. A list in progress reports STUCK at the next list. -/
def execVioCamLoss (s : State) : Out :=
  done { s with
    power := { s.power with vioLow := true }
    fsync := s.fsync.map (fun (x : Nat × FsyncOut) => (x.1, { x.2 with ends := none })) }

/-- R488: VIO_CAM_RETURN. -/
def execVioCamReturn (s : State) : Out := done { s with power := { s.power with vioLow := false } }

end Sys2Proof.Machine
end

