-- ==== Sys2Proof/Machine/Sideband.lean ====
section
/-!
DEFINITION. The sideband: SMBus commands (R491 to R494), alerts, and JTAG (R495), with the life-cycle state that both show.
-/
namespace Sys2Proof.Machine

/-- R443: a bit of the life-cycle field reads as blown if either fuse of its pair is blown. -/
def SecState.isBlown (x : SecState) (i : Nat) : Bool := i ∈ x.blown || i ∈ x.half

/-- R443: TCOUNT, the number of blown toggles. -/
def SecState.tcount (x : SecState) : Nat := ((List.range 124).filter (fun i => x.isBlown (i + 2))).length

/-- R443, R445: the life-cycle state: 0 BLANK, 1 PROVISIONED, 2 FIELD, 3 SERVICE, 4 RETIRED. -/
def SecState.lifeCycle (x : SecState) : Nat :=
  if x.isBlown 127 then 4
  else if !x.isBlown 0 then 0
  else if !x.isBlown 1 then 1
  else if x.tcount % 2 = 0 then 2 else 3

/-- R444: JTAG debug, the full test engine and the emulation gate on request are unlocked. -/
def debugAllowed (lc : Nat) : Bool := lc == 0 || lc == 1 || lc == 3

/-- R444: the full test engine, fuse repair and the emulation gate on request. -/
def testAllowed (lc : Nat) : Bool := lc == 1 || lc == 3

/-- R493: ALERT_N is driven low. -/
def State.alertDriven (s : State) : Bool :=
  (s.reg rSIDE_ALERT_STAT &&& s.reg rSIDE_ALERT_MASK &&& ~~~(BitVec.ofNat 32 s.power.alertAnswered)) != 0

/-- R491, R494: the SMBus address. -/
def State.smbAddr (s : State) : Nat := 0x40 + s.sec.straps

/-- The state with an SMBus read answered. -/
def State.answer (s : State) (b : List Byte) : State := { s with smb := ⟨b, false⟩ }

/-- R427: AON_STATE.STATE of a power state. -/
def PState.code : PState → Nat
  | .active => 0 | .idle => 1 | .sleep => 2 | .dark => 3 | .entering => 4 | .waking => 5 | .starting => 6

/-- R492: the part number padded to 10 bytes. -/
def partNumber : List Byte := [0x57, 0x5A, 0x38, 0x34, 0x38, 0x2D, 0x4D, 0x36, 0x34, 0x00]

/-- R492: command 0x01, the identity block. -/
def execSmbIdentity (s : State) : Out :=
  done (s.answer (partNumber ++ leBytes 8 s.sec.serial ++ leBytes 1 s.sec.lifeCycle ++ leBytes 1 s.sec.straps ++
    leBytes 4 s.sec.version))

/-- R492: command 0x02, the power state. -/
def execSmbState (s : State) : Out := done (s.answer (leBytes 1 s.power.st.code))

/-- R492: command 0x10, VIN in mV. -/
def execSmbVin (s : State) : Out := done (s.answer (leBytes 2 (s.fld rPWR_IN fPWR_IN_MV)))

/-- R492: command 0x11, the input current in 10 mA units. -/
def execSmbCurrent (s : State) : Out := done (s.answer (leBytes 2 (s.fld rPWR_IN fPWR_IN_CURR)))

/-- R492: command 0x12, input power over 1 ms in 10 mW units. -/
def execSmbPower (s : State) : Out := done (s.answer (leBytes 2 ((s.reg rPWR_IN_AVG).toNat / 10)))

/-- R492: the die sensors are off in SLEEP and DARK, so sensor 12 is reported there. -/
def State.smbSensor (s : State) : Nat :=
  if s.power.st = .sleep ∨ s.power.st = .dark then 12 else s.hotSensor 13

/-- R492: command 0x20, the hottest temperature. -/
def execSmbTemp (s : State) : Out := done (s.answer (leBytes 2 (wrapTo 16 (s.temp s.smbSensor))))

/-- R492: command 0x21, its sensor. -/
def execSmbTempSensor (s : State) : Out := done (s.answer (leBytes 1 s.smbSensor))

/-- R492: command 0x30 read. -/
def execSmbAlertStatRead (s : State) : Out := done (s.answer (leBytes 1 (s.reg rSIDE_ALERT_STAT).toNat))

/-- R492: command 0x31 read. -/
def execSmbAlertMaskRead (s : State) : Out := done (s.answer (leBytes 1 (s.reg rSIDE_ALERT_MASK).toNat))

/-- R491: a write without the PEC that SIDE_CFG.PEC_REQ asks for is NACKed, discarded and counted. -/
def State.smbWrite (s : State) (pecOk : Bool) (eff : State → State) : State :=
  if s.flag rSIDE_CFG fSIDE_CFG_PEC_REQ ∧ !pecOk then
    { s.countBy rSIDE_ERR_CNT fSIDE_ERR_CNT_PEC 1 with smb := ⟨[], true⟩ }
  else { eff s with smb := ⟨[], false⟩ }

/-- R493: conditions that still hold, whose alert bits set again at once. -/
def State.alertConditions (s : State) : List Nat :=
  (if s.power.uvNow then [0] else []) ++
  (if (s.cluster 0).thermOp < s.reqOp 0 ∨ (s.cluster 1).thermOp < s.reqOp 1 then [1] else []) ++
  (if (s.cluster 0).tripped ∨ (s.cluster 1).tripped then [2] else []) ++
  (if (s.cluster 0).powerOp < s.reqOp 0 ∨ (s.cluster 1).powerOp < s.reqOp 1 then [3] else []) ++
  (if s.flag rSEC_BOOT fSEC_BOOT_RECOVERY then [4] else []) ++
  (if s.lichen.full then [5] else [])

/-- R493, R494: status bits written as 1 clear, and those whose condition still holds set again. -/
def State.clearAlerts (s : State) (v : Word) : State :=
  let s1 := s.setReg rSIDE_ALERT_STAT (s.reg rSIDE_ALERT_STAT &&& ~~~v)
  ((s.alertConditions).filter (fun k => bitOf v.toNat k)).foldl (fun t k => t.alert k) s1

/-- R492, R493: command 0x30 write. -/
def execSmbAlertStatClear (v : Byte) (pecOk : Bool) (s : State) : Out :=
  done (s.smbWrite pecOk (fun t => t.clearAlerts (v.setWidth 32)))

/-- R492, R494: command 0x31 write; bit 0 cannot be masked. -/
def execSmbAlertMaskWrite (v : Byte) (pecOk : Bool) (s : State) : Out :=
  done (s.smbWrite pecOk (fun t => t.setFld rSIDE_ALERT_MASK fSIDE_ALERT_MASK_MASK (v.toNat / 2)))

/-- R493: an Alert Response read returns the module's address and releases ALERT_N. -/
def execSmbAlertResponse (s : State) : Out :=
  if s.alertDriven then
    let bits := (s.reg rSIDE_ALERT_STAT &&& s.reg rSIDE_ALERT_MASK).toNat
    done ({ s with power := { s.power with alertAnswered := bits } }.answer (leBytes 1 s.smbAddr))
  else done { s with smb := ⟨[], true⟩ }

/-- R486: SMB_CLK held low for 30 ms resets the interface and counts a timeout. -/
def execSmbClockTimeout (s : State) : Out :=
  done { s.countBy rSIDE_ERR_CNT fSIDE_ERR_CNT_TIMEOUT 1 with smb := {} }

/-! ### JTAG -/

/-- R495: the TAP is held in reset in SLEEP and DARK. -/
def State.tapHeld (s : State) : Bool := s.power.st == .sleep || s.power.st == .dark || s.power.st == .waking

/-- R495: IDCODE, bits 31:28 replaced by the die revision. -/
def State.idcode (s : State) : Nat := 0x08480F3B % 2 ^ 28 + s.sec.dieRev % 16 * 2 ^ 28

/-- R495: JTAG_BYPASS. -/
def execJtagBypass (s : State) : Out :=
  done (if s.tapHeld then s else { s with tap := { s.tap with ir := .bypass, driving := false, tdo := 0 } })

/-- R495: JTAG_IDCODE. -/
def execJtagIdcode (s : State) : Out :=
  done (if s.tapHeld then s else { s with tap := { s.tap with ir := .idcode, driving := false, tdo := s.idcode } })

/-- R495: the TAP samples the pins and preloads the boundary register. -/
def TapState.doSample (t : TapState) (pins load : Nat) : TapState :=
  { t with ir := .sample, driving := false, tdo := pins, boundary := load }

/-- R495: JTAG_SAMPLE_PRELOAD: the pins as sampled, and the value shifted in. -/
def execJtagSamplePreload (pins load : Nat) (s : State) : Out :=
  done (if s.tapHeld then s else { s with tap := s.tap.doSample pins load })

/-- R495: EXTEST and its 1149.6 forms drive the pins only while RST_N is low, and act as SAMPLE otherwise. -/
def State.extest (s : State) (ir : TapIr) (pins load : Nat) : State :=
  if s.tapHeld then s
  else if s.power.rstLow then
    { s with tap := { ir := ir, driving := true, tdo := pins, boundary := load } }
  else { s with tap := s.tap.doSample pins load }

/-- R495: JTAG_EXTEST. -/
def execJtagExtest (pins load : Nat) (s : State) : Out := done (s.extest .extest pins load)
/-- R495: JTAG_EXTEST_PULSE. -/
def execJtagExtestPulse (pins load : Nat) (s : State) : Out := done (s.extest .pulse pins load)
/-- R495: JTAG_EXTEST_TRAIN. -/
def execJtagExtestTrain (pins load : Nat) (s : State) : Out := done (s.extest .train pins load)

/-- R495: JTAG_DEBUG_INSTRUCTION selects the bypass register where R444 does not permit debug; where it does, the debug unit
acts, and the spec does not say how. -/
def execJtagDebugInstruction (s : State) : Out :=
  if s.tapHeld then done s
  else if debugAllowed s.sec.lifeCycle then .refused .debugUnit
  else done { s with tap := { s.tap with ir := .bypass, driving := false, tdo := 0 } }

/-- R490: MODULE_INSERT. Both presence pins have mated, and the inrush limiter charges the input capacitance. -/
def execModuleInsert (s : State) : Out := done { s with power := { s.power with inserted := true } }

end Sys2Proof.Machine
end

