-- ==== Sys2Proof/Machine/RehStart.lean ====
section
/-!
DEFINITION. The start of a rehearsal slice (R452, R455): which identifiers of the catalogue name a slice, and the write of
REH_GO.
-/
namespace Sys2Proof.Machine

/-- R455: the identifier names a slice of the catalogue whose condition holds: the core in the spare slot, a shared-store way in
CACHE or OFF, a group of hub channels, a quarter of the barrier unit, an intake port, a peer link that is DOWN or disabled. -/
def State.sliceOk (s : State) (block : Nat) : Bool :=
  let n := block % 4096
  match block / 4096 with
  | 0 => decide (n < 48)
  | 1 => decide (n < 32) && !(bitsOf (s.reg (rSS_WAY_CFG (n / 16))).toNat (2 * (n % 16) + 1) (2 * (n % 16)) == 1)
  | 2 => decide (n < 8)
  | 3 => decide (n < 4)
  | 4 => decide (n < 12)
  | 5 => decide (n < 6) && (s.fld (rEPL_STAT n) fEPL_STAT_STATE == 0 || !(s.flag (rEPL_CTL n) fEPL_CTL_EN))
  | _ => false

/-- R455, R469: REH_GO with GO: one slice of BLOCK starts, with step 1 of R453. It starts in ACTIVE and IDLE only, in every
life-cycle state but RETIRED, while the engine is idle and not paused (R452). -/
def State.rehGo (s : State) (block : Nat) : State :=
  let s1 := s.setFld rREH_GO fREH_GO_BLOCK block
  if s.reh.slice.isNone && s.fld rREH_STAT fREH_STAT_STATE == 0 && !(s.flag rREH_CTL fREH_CTL_PAUSE) && s.awake &&
      !(s.sec.lifeCycle == 4) && s.sliceOk block then
    ({ s1 with reh := { s1.reh with slice := some { block := block, phase := 1, since := s.time.ns } } }.setFld rREH_STAT
      fREH_STAT_STATE 1).setFld rREH_STAT fREH_STAT_BLOCK block
  else s1

/-- R469: REH_GO, a write of REH_GO with GO = 1. -/
def execRehGo (block : Half) (s : State) : Out := done (s.rehGo block.toNat)

end Sys2Proof.Machine
end

