-- ==== Sys2Proof/Machine/Security.lean ====
section
/-!
DEFINITION. Images and their checks, the boot ROM, the locks, anti-rollback, the emulation gate, the signature engine and
attestation, and the write rights of the serial NOR (R432 to R451, R465).
-/
namespace Sys2Proof.Machine

/-! ### Images (R434, R435) -/

/-- Bytes of an image from offset `o`, by a reader of its bytes. -/
def imgBytes (rd : Nat → Byte) (o n : Nat) : List Byte := (List.range n).map (fun i => rd (o + i))

/-- A little-endian field of an image. -/
def imgNum (rd : Nat → Byte) (o n : Nat) : Nat := ofLeBytes (imgBytes rd o n)

/-- Whether every byte of a reserved range is 0. -/
def imgZero (rd : Nat → Byte) (o n : Nat) : Bool := (List.range n).all (fun i => rd (o + i) == 0)

/-- R434: the length of the header. -/
abbrev headerLen : Nat := 16896
/-- R434: BODY_LEN. -/
def imgBodyLen (rd : Nat → Byte) : Nat := imgNum rd 12 4
/-- R434: VERSION. -/
def imgVersion (rd : Nat → Byte) : Nat := imgNum rd 8 4
/-- R434: ROLLBACK. -/
def imgRollback (rd : Nat → Byte) : Nat := (rd 6).toNat
/-- R434: the body. -/
def imgBody (rd : Nat → Byte) : List Byte := imgBytes rd headerLen (imgBodyLen rd)
/-- R434: BODY_HASH. -/
def imgHash (rd : Nat → Byte) : List Byte := imgBytes rd 32 48

/-- R436: ROLE of a manifest entry. -/
def State.slotRole (s : State) (k : Nat) : Nat := (s.byte (norPlace (0x3000000 + 448 * k))).toNat
/-- R436: the RSA modulus of a manifest entry. -/
def State.slotRsa (s : State) (k : Nat) : List Byte := s.bytes (norPlace (0x3000000 + 448 * k + 4)) 384
/-- R436: the SLH-DSA public key of a manifest entry. -/
def State.slotSlh (s : State) (k : Nat) : List Byte := s.bytes (norPlace (0x3000000 + 448 * k + 388)) 48

/-- R436: the role bit that a KIND needs. -/
def kindRole (kind : Nat) : Nat := if kind = 1 then 0 else if kind = 2 then 1 else if kind = 3 then 2 else 3

/-- R435, check 1: the format. `lenOk` is the check of the length that the operation delivered. -/
def imgFormat (rd : Nat → Byte) (lenOk : Bool) (kind : Nat) : Bool :=
  lenOk && imgNum rd 0 4 == 0x4D495A57 && (rd 4).toNat == kind && decide (1 ≤ kind ∧ kind ≤ 5) && decide ((rd 5).toNat ≤ 3) &&
    (if kind ≤ 2 then decide (imgRollback rd ≤ 64) else imgRollback rd == 0) &&
    rd 7 == 0 && imgZero rd 24 8 && imgZero rd 80 48 && imgZero rd 16736 160

/-- R435: the checks in order, as SEC_SIG_STAT.RESULT codes: 0 OK, 1 BAD_RSA, 2 BAD_SLH, 3 BAD_HASH, 4 REVOKED, 5 ROLE,
6 ROLLBACK, 7 TARGET, 8 FORMAT. -/
def State.imageCheck (s : State) (rd : Nat → Byte) (lenOk : Bool) (kind : Nat) : Nat :=
  let slot := (rd 5).toNat
  let target := imgNum rd 16 8
  if !imgFormat rd lenOk kind then 8
  else if !bitOf (s.slotRole slot) (kindRole kind) then 5
  else if bitOf s.sec.revoked slot then 4
  else if (target ≠ 0 ∧ target ≠ s.sec.serial) ∨ (4 ≤ kind ∧ target = 0) then 7
  else if kind ≤ 2 ∧ imgRollback rd < s.sec.rollback then 6
  else if imgHash rd ≠ Config.sha384 (imgBody rd) then 3
  else if !Config.rsaVerify (s.slotRsa slot) (imgBytes rd 0 128) (imgBytes rd 128 384) then 1
  else if !Config.slhVerify (s.slotSlh slot) (imgBytes rd 0 128) (imgBytes rd 512 16224) then 2
  else 0

/-! ### Firmware slots (R432, R437) -/

/-- R432: a reader of the serial NOR from an offset. -/
def State.norReader (s : State) (o : Nat) : Nat → Byte := fun i => s.byte (norPlace (o + i))

/-- R432: where a slot's firmware image lies (0 A, 1 B). -/
def slotBase (k : Nat) : Nat := if k = 0 then 0 else 0x1800000

/-- R437: the boot state of a slot. -/
def State.fwSlot (s : State) (k : Nat) : FwSlot := if k = 0 then s.sec.slotA else s.sec.slotB

/-- The state with the boot state of a slot replaced. -/
def State.setFwSlot (s : State) (k : Nat) (x : FwSlot) : State :=
  { s with sec := if k = 0 then { s.sec with slotA := x } else { s.sec with slotB := x } }

/-- R437: VERSION as a slot's header holds it. -/
def State.slotVersion (s : State) (k : Nat) : Nat := imgVersion (s.norReader (slotBase k))

/-- R437: the slot that is tried first. -/
def State.firstSlot (s : State) : Nat :=
  if (s.fwSlot 0).mark = .bad then 1
  else if (s.fwSlot 1).mark = .bad then 0
  else if s.slotVersion 0 < s.slotVersion 1 then 1 else 0

/-- R435, R437: the result of a slot's firmware image at boot. -/
def State.slotCheck (s : State) (k : Nat) : Nat :=
  let rd := s.norReader (slotBase k)
  s.imageCheck rd (decide (headerLen + imgBodyLen rd ≤ 0x1700000)) 1

/-- R435, R439: the result of a slot's configuration image at boot. -/
def State.slotCfgCheck (s : State) (k : Nat) : Nat :=
  let rd := s.norReader (slotBase k + 0x1700000)
  s.imageCheck rd (decide (headerLen + imgBodyLen rd ≤ 0x100000)) 2

/-- R437: the boot ROM tries a slot. A slot that is marked BAD is not started (log entry 30). -/
def State.trySlot (s : State) (k : Nat) : State × Bool :=
  let x := s.fwSlot k
  if x.mark = .bad then (s, false)
  else
    let r := s.slotCheck k
    if r ≠ 0 then (s.lichenFw 0x0303 k r (s.slotVersion k) x.attempts, false)
    else if x.mark = .pending then
      if 3 ≤ x.attempts then (s.setFwSlot k { x with mark := .bad }, false)
      else (s.setFwSlot k { x with attempts := x.attempts + 1 }, true)
    else (s, true)

/-! ### The signed configuration (R439) -/

/-- R439: the registers that a configuration image may set. -/
def configTarget (a : Nat) : Bool :=
  (List.range 12).any (fun b => (List.range 16).any (fun e => a == rI2C_ALLOW_LO b e || a == rI2C_ALLOW_HI b e)) ||
    (List.range 12).any (fun n => a == rINT_FSYNC_CFG n) ||
    a == rEPL_ALLOW_BASE || a == rEPL_ALLOW_LIMIT || a == rPWR_CAP || a == rAON_WDOG

/-- R439: one item of the configuration is written: of FSYNC_CFG, PWR_CAP and AON_WDOG only the field that it may set. -/
def State.configWrite (s : State) (x : Nat × BitVec 32) : State :=
  let v := x.2.toNat
  if (List.range 12).any (fun n => x.1 == rINT_FSYNC_CFG n) then
    s.setFld x.1 fINT_FSYNC_CFG_MIN_PERIOD_US (max 100 (v % 2 ^ 24))
  else if x.1 = rPWR_CAP then
    let s1 := s.setFld rPWR_CAP fPWR_CAP_CEIL (min 190 (bitsOf v 23 16))
    s1.setFld rPWR_CAP fPWR_CAP_CAP (clampNat 20 (s1.fld rPWR_CAP fPWR_CAP_CEIL) (s1.fld rPWR_CAP fPWR_CAP_CAP))
  else if x.1 = rAON_WDOG then s.setFld rAON_WDOG fAON_WDOG_TIMEOUT_MS (max 1 (v % 2 ^ 16))
  else if x.1 = rEPL_ALLOW_BASE ∨ x.1 = rEPL_ALLOW_LIMIT then s.setFld x.1 fEPL_ALLOW_BASE_BASE v
  else s.setReg x.1 x.2

/-- R439: without a valid configuration every allow-list entry is invalid and the peer window region admits nothing. -/
def State.configClosed (s : State) : State :=
  let s1 := (List.range 192).foldl (fun (t : State) i => t.setFld (rI2C_ALLOW_LO (i / 16) (i % 16)) fI2C_ALLOW_LO_VALID 0) s
  (s1.setFld rEPL_ALLOW_BASE fEPL_ALLOW_BASE_BASE 0xFFFFF).setFld rEPL_ALLOW_LIMIT fEPL_ALLOW_LIMIT_LIMIT 0

/-- R439: the configuration of a slot is loaded, or found invalid. -/
def State.loadConfig (s : State) (k : Nat) : State :=
  let r := s.slotCfgCheck k
  let items := Config.configItems (imgBody (s.norReader (slotBase k + 0x1700000)))
  if r = 0 ∧ items.all (fun x => configTarget x.1) then
    (items.foldl State.configWrite s).setFld rSEC_BOOT fSEC_BOOT_CFG_VALID 1
  else (s.configClosed.lichenFw 0x0302 k r 0 0).setFld rSEC_BOOT fSEC_BOOT_CFG_VALID 0

/-! ### Repairs at boot (R463 to R465) -/

/-- R465: the field entry that ends with its marker at the place `m`. -/
def State.repairAt (s : State) (m : Nat) : RepairEntry :=
  let n (o k : Nat) : Nat := s.num (m - 31 + o) k
  { kind := n 0 1
    phys := n 1 1
    mem := n 2 1
    bank := n 3 1
    index := n 4 2
    spare := n 6 2 }

/-- R465: the valid field entries, in order. -/
def State.fieldRepairs (s : State) : List RepairEntry :=
  (s.mem.filter (fun (x : Nat × Byte) => decide (norPlace 0x3100000 ≤ x.1 ∧ x.1 < norPlace 0x3200000) && x.1 % 32 == 31 &&
    x.2 == 0xA5)).map (fun x => s.repairAt x.1)

/-- R465: the entries of the field repair map that have been written to, torn ones included: the next goes behind them. -/
def State.mapUsed (s : State) : Nat :=
  ((s.mem.filter (fun (x : Nat × Byte) => decide (norPlace 0x3100000 ≤ x.1 ∧ x.1 < norPlace 0x3200000))).map
    (fun x => (x.1 - norPlace 0x3100000) / 32 + 1)).foldl max 0

/-- R465: two entries have the same target. -/
def RepairEntry.same (a b : RepairEntry) : Bool :=
  a.kind == b.kind && a.phys == b.phys && a.mem == b.mem && a.bank == b.bank && a.index == b.index

/-- R465: a later entry for the same target supersedes an earlier one. -/
def inForce : List RepairEntry → List RepairEntry
  | [] => []
  | x :: l => if l.any (fun y => x.same y) then inForce l else x :: inForce l

/-- A skip entry put into its sorted list: the value excluded and whether it comes from fuses. -/
def skipInsert (x : Nat × Bool) : List (Nat × Bool) → List (Nat × Bool)
  | [] => [x]
  | y :: l => if x.1 ≤ y.1 then x :: y :: l else y :: skipInsert x l

/-- R463: a faulty row or column enters a skip list in place of the spare that takes its part; a fused entry is never
replaced. -/
def skipRepair (l : List (Nat × Bool)) (index spare : Nat) (fused : Bool) : List (Nat × Bool) :=
  if l.any (fun x => x.1 == index) then
    (l.map (fun x => if x.1 = index then (x.1, x.2 || fused) else x))
  else if l.any (fun x => x.1 == spare && !x.2) then skipInsert (index, fused) (l.filter (fun x => x.1 != spare))
  else l

/-- R463: the row skip list of a core. -/
def State.skipRows (s : State) (p : Nat) : List (Nat × Bool) :=
  let a := rFROND_REP_ROW p
  [(s.fld a fFROND_REP_ROW_SKIP0, s.flag a fFROND_REP_ROW_FUSE0), (s.fld a fFROND_REP_ROW_SKIP1, s.flag a fFROND_REP_ROW_FUSE1)]

/-- R463: the column skip list of a core. -/
def State.skipCols (s : State) (p : Nat) : List (Nat × Bool) :=
  let g (a : Nat) : List (Nat × Bool) :=
    [(s.fld a fFROND_REP_COL0_SKIP0, bitOf (s.fld a fFROND_REP_COL0_FUSE) 0),
     (s.fld a fFROND_REP_COL0_SKIP1, bitOf (s.fld a fFROND_REP_COL0_FUSE) 1)]
  g (rFROND_REP_COL0 p) ++ g (rFROND_REP_COL1 p)

/-- A FROND_REP word of two skip entries. -/
def skipWord (x y : Nat × Bool) : Word :=
  BitVec.ofNat 32 (x.1 % 512 + y.1 % 512 * 2 ^ 9 + b2n x.2 * 2 ^ 18 + b2n y.2 * 2 ^ 19)

/-- The state with the row skip list of a core replaced. -/
def State.setSkipRows (s : State) (p : Nat) (l : List (Nat × Bool)) : State :=
  s.setReg (rFROND_REP_ROW p) (skipWord (l.getD 0 (256, false)) (l.getD 1 (257, false)))

/-- The state with the column skip list of a core replaced. -/
def State.setSkipCols (s : State) (p : Nat) (l : List (Nat × Bool)) : State :=
  (s.setReg (rFROND_REP_COL0 p) (skipWord (l.getD 0 (256, false)) (l.getD 1 (257, false)))).setReg (rFROND_REP_COL1 p)
    (skipWord (l.getD 2 (258, false)) (l.getD 3 (259, false)))

/-- R461: a physical core is retired: it is marked, and an index that it serves moves onto the core in the spare slot if that
one is healthy, and is fenced otherwise. -/
def State.retireAtBoot (s : State) (p : Nat) : State :=
  let r := s.fld rREH_SPARE fREH_SPARE_RETIRED
  let s1 := s.setFld rREH_SPARE fREH_SPARE_RETIRED (if bitOf r p then r else r + 2 ^ p)
  let b := s1.slotOf p
  let spare := s1.phys 8
  if b = 8 then s1
  else if bitOf (s1.fld rREH_SPARE fREH_SPARE_RETIRED) spare then (s1.fence b).lichenFw 0x0408 b 0 0 0
  else { s1 with coreMap := Cells.set id s1.coreMap b spare }.setFld rREH_SPARE fREH_SPARE_PHYS p

/-- R463 to R465: one repair is applied. -/
def State.applyRepair (s : State) (fused : Bool) (e : RepairEntry) : State :=
  if e.kind = 1 ∧ e.phys < 9 then s.setSkipRows e.phys (skipRepair (s.skipRows e.phys) e.index e.spare fused)
  else if e.kind = 2 ∧ e.phys < 9 then s.setSkipCols e.phys (skipRepair (s.skipCols e.phys) e.index e.spare fused)
  else if e.kind = 4 ∧ 0x10 ≤ e.phys ∧ e.phys < 0x12 then
    { s with reh := { s.reh with failedWays := s.reh.failedWays ++ [16 * (e.phys - 0x10) + e.bank] } }
  else if e.kind = 5 ∧ e.phys < 9 then s.retireAtBoot e.phys
  else s

/-- R465: at boot the fuse repairs are applied first, then the field entries in force. -/
def State.applyRepairs (s : State) : State :=
  let field := inForce s.fieldRepairs
  let s1 := s.sec.fuseRepairs.foldl (fun (t : State) e => t.applyRepair true e) s
  let s2 := field.foldl (fun (t : State) e => t.applyRepair false e) s1
  { s2 with reh := { s2.reh with
    repairs := s.sec.fuseRepairs ++ field
    mapEntries := s.mapUsed } }

/-! ### Boot (R437 to R441) -/

/-- R39: until a fabric set names a time-tree parent, the module is its own time master from the end of start-up. -/
def State.standAlone (s : State) : State :=
  ((s.setFld rCUE_STATUS fCUE_STATUS_MASTER 1).setFld rCUE_STATUS fCUE_STATUS_HOPS 0).setFld rCUE_STATUS fCUE_STATUS_ALIGN_OK 1

/-- R427: STARTING ends. -/
def State.endStart (s : State) : State :=
  if s.power.st = .starting then
    { s with power := { s.power with
      st := .active
      prev := .starting } }.standAlone
  else s

/-- R443: pairs with only one fuse blown are completed, each with record 0x0305. -/
def State.completeFuses (s : State) : List Nat → State
  | [] => s
  | i :: l =>
    State.completeFuses ({ s with sec := { s.sec with
      blown := s.sec.blown ++ [i]
      half := s.sec.half.filter (· != i) } }.lichenFw 0x0305 Config.fuseField i 0 0) l

/-- The words of a hash written into a row of measurement registers. -/
def State.setHash (s : State) (a : Nat) (h : List Byte) : State :=
  (List.range 12).foldl (fun (t : State) k => t.setReg (a + 4 * k) (BitVec.ofNat 32 (ofLeBytes ((h.drop (4 * k)).take 4)))) s

/-- R441, R404: recovery boot, with the reason that record 0x0304 gives (1 manifest, 2 both slots, 3 forced). -/
def State.recoveryBoot (s : State) (reason : Nat) : State :=
  let s1 := (s.setFld rSEC_BOOT fSEC_BOOT_RECOVERY 1).setFld rSEC_BOOT fSEC_BOOT_FORCED (b2n (reason == 3))
  let s2 := ((((s1.setFld rUSB_CFG fUSB_CFG_SS_DIS 1).setFld rUSB_CFG fUSB_CFG_CONNECT 1).setFld rUSB_STAT fUSB_STAT_RECOVERY
    1).lichenFw 0x0304 reason 0 0 0).alert 4
  (s2.lichenFw 0x0A00 (s2.reg rAON_RST_CAUSE).toNat (s2.fld rSEC_BOOT fSEC_BOOT_SLOT) s2.sec.version s2.sec.lifeCycle).endStart

/-- R362: a strap value of 24 to 31 is recorded. -/
def State.noteStraps (s : State) : State := if 24 ≤ s.sec.straps then s.lichenFw 0x0907 s.sec.straps 0 0 0 else s

/-- R456: Prompter firmware keeps barrier 31 for itself: SWAP = 1, MODE = COUNT, PARTS = 1. -/
def State.swapBarrier (s : State) : State :=
  let a := rBAR_CFG 31
  ((((s.setFld a fBAR_CFG_SWAP 1).setFld a fBAR_CFG_MODE 0).setFld a fBAR_CFG_PARTS 1).setFld a fBAR_CFG_EN 1).barReset 31

/-- R199: the boot ROM writes and locks the Prompter's bounds before firmware starts. -/
def State.startPrompter (s : State) : State :=
  { s with prompt := { s.prompt with
    pc := Config.firmwareEntry
    bounds := (List.range 16).map (fun e => (e, Config.dpaBounds e))
    code := Config.codeRegion } }

/-- R437 to R439: hand-over to the firmware of a slot: measurements, LEVEL, configuration, lock, emulation gate, repairs. -/
def State.handOver (s : State) (k : Nat) (fallback : Bool) : State :=
  let rd := s.norReader (slotBase k)
  let s1 := ((s.setFld rSEC_BOOT fSEC_BOOT_SLOT k).setFld rSEC_BOOT fSEC_BOOT_FALLBACK (b2n fallback)).setFld rSEC_BOOT
    fSEC_BOOT_LEVEL (imgRollback rd)
  let s2 := s1.setHash (rSEC_MEAS_FW 0) (imgHash rd)
  let s3 := s2.loadConfig k
  let s4 := if s3.flag rSEC_BOOT fSEC_BOOT_CFG_VALID then
      s3.setHash (rSEC_MEAS_CFG 0) (imgHash (s.norReader (slotBase k + 0x1700000))) else s3
  let s5 := (s4.setFld rSEC_LOCK fSEC_LOCK_CFG 1).setFld rSEC_EMU_GATE fSEC_EMU_GATE_OPEN 0
  let s6 := { s5 with sec := { s5.sec with
    version := imgVersion rd
    handedOver := true } }
  ((s6.lichenFw 0x0A00 (s6.reg rAON_RST_CAUSE).toNat k (imgVersion rd) s6.sec.lifeCycle).applyRepairs.noteStraps).swapBarrier.startPrompter

/-- R431: the main rails are good, and PWRGD is high. -/
def State.powerGood (s : State) : State := { s with power := { s.power with pwrgd := true } }

/-- R437, R441: BOOT_ROM_START. `forced`: WAKE_N has been held low from RST_N release until 1 s after it.
PWRGD is high by then (R431). -/
def execBootRomStart (forced : Bool) (s : State) : Out :=
  if s.power.st ≠ .starting ∨ s.power.rstLow = true ∨ s.sec.handedOver = true then done s
  else
    let s1 := s.powerGood.completeFuses s.sec.half
    let blank := s1.sec.lifeCycle == 0
    let s2 := s1.setFld rSEC_BOOT fSEC_BOOT_MANIFEST_SKIPPED (b2n blank)
    if forced then done (s2.recoveryBoot 3)
    else if blank = false ∧ Config.sha384 (s2.bytes (norPlace 0x3000000) 1792) ≠ s2.sec.manifestHash then done (s2.recoveryBoot 1)
    else
      let a := s2.firstSlot
      let (s3, ok) := s2.trySlot a
      if ok then done (s3.handOver a false)
      else
        let (s4, ok2) := s3.trySlot (1 - a)
        done (if ok2 then s4.handOver (1 - a) true else s4.recoveryBoot 2)

/-! ### Confirmation and rollback (R437, R438) -/

/-- R432: the running slot, if firmware runs from one. -/
def State.runningSlot (s : State) : Option Nat := if s.sec.handedOver then some (s.fld rSEC_BOOT fSEC_BOOT_SLOT) else none

/-- R437: the running slot is marked CONFIRMED. -/
def State.confirmSlot (s : State) : State :=
  match s.runningSlot with
  | some k => s.setFwSlot k { s.fwSlot k with mark := .confirmed }
  | none => s

/-- R438: a write of SEC_RB_ADV: the counter rises to the lower of the level and the running image's own. -/
def State.rbAdvance (s : State) (level : Nat) : State :=
  let n := min level (s.fld rSEC_BOOT fSEC_BOOT_LEVEL)
  if s.sec.rollback < n then
    { s with sec := { s.sec with rollback := n } }.lichenFw 0x0306 s.sec.rollback n s.sec.version 0
  else s

/-- R437, R438: SLOT_CONFIRM. -/
def execSlotConfirm (level : Fin 128) (s : State) : Out :=
  done (if s.sec.handedOver then s.confirmSlot.rbAdvance level.val else s)

/-! ### Locks and the emulation gate -/

/-- R440: the boot lock is set, which ends STARTING (R427). -/
def State.lockBoot (s : State) : State := (s.setFld rSEC_LOCK fSEC_LOCK_BOOT 1).endStart

/-- R440: SEC_LOCK_BOOT. -/
def execSecLockBoot (s : State) : Out := done s.lockBoot

/-- R439: SEC_LOCK_CFG. -/
def execSecLockCfg (s : State) : Out := done (s.setFld rSEC_LOCK fSEC_LOCK_CFG 1)

/-- R194: a request to open the emulation gate is granted while the full test engine runs in PROVISIONED or SERVICE. -/
def State.emuRequest (s : State) : State :=
  if s.sec.fullTest && testAllowed s.sec.lifeCycle then s.setFld rSEC_EMU_GATE fSEC_EMU_GATE_OPEN 1 else s

/-- R194, R451: EMU_GATE_REQ. -/
def execEmuGateReq (s : State) : Out := done s.emuRequest

/-! ### Attestation (R447, R448) -/

/-- The bytes of a row of hash registers. -/
def State.hashBytes (s : State) (a : Nat) : List Byte :=
  (List.range 12).flatMap (fun k => leBytes 4 (s.reg (a + 4 * k)).toNat)

/-- R471, R479: Lichen records committed: complete slots below the next one. -/
def State.lichenCommitted (s : State) : Nat :=
  (s.mem.filter (fun (x : Nat × Byte) => decide (norPlace 0x3C00000 ≤ x.1 ∧ x.1 < norPlace 0x4000000) && x.1 % 32 == 3 &&
    x.2 == 0x5A)).length

/-- R447: the hardware part of a report, for a nonce and a firmware part. -/
def State.hardwarePart (s : State) (nonce fw : List Byte) : List Byte :=
  leBytes 2 1 ++ leBytes 1 s.sec.lifeCycle ++
    leBytes 1 (s.fld rSEC_BOOT fSEC_BOOT_MANIFEST_SKIPPED + 2 * s.fld rSEC_BOOT fSEC_BOOT_RECOVERY +
      4 * b2n s.sec.unsignedLoaded + 8 * s.fld rSEC_BOOT fSEC_BOOT_FALLBACK) ++
    leBytes 8 s.sec.serial ++ nonce ++ s.hashBytes (rSEC_MEAS_FW 0) ++ s.hashBytes (rSEC_MEAS_CFG 0) ++
    (s.sec.manifestHash ++ List.replicate (48 - s.sec.manifestHash.length) 0) ++
    leBytes 1 s.sec.rollback ++ leBytes 1 s.sec.revoked ++ leBytes 1 (s.fld rSEC_BOOT fSEC_BOOT_SLOT) ++
    leBytes 1 s.sec.tcount ++ leBytes 4 s.sec.version ++ leBytes 8 s.now ++ leBytes 4 s.sec.pwrCyc ++
    leBytes 4 s.lichenCommitted ++ Config.sha384 fw

/-- R447, R448: the whole report; in BLANK both signature fields hold zero bytes. -/
def State.report (s : State) (nonce fw : List Byte) : List Byte :=
  let hw := s.hardwarePart nonce fw
  hw ++ fw ++ (if s.sec.lifeCycle = 0 then List.replicate 16608 0 else Config.attestSign hw)

/-! ### The signature engine (R449, R451) -/

/-- R451: the DPA that SEC_SIG_ADDR names. -/
def State.sigAddr (s : State) : Nat := (s.reg rSEC_SIG_ADDR_LO).toNat + s.fld rSEC_SIG_ADDR_HI fSEC_SIG_ADDR_HI_ADDR * 2 ^ 32

/-- A reader of memory from a DPA; a byte that cannot be read reads as 0. -/
def State.dpaReader (s : State) (a : Nat) : Nat → Byte := fun i => (((s.dpaRead false (a + i) 1).1.getD []).head?).getD 0

/-- R451: a write of SEC_SIG_CTL with GO starts the engine. -/
def State.sigGo (s : State) (op : Nat) : State :=
  if s.sec.sigOp.isSome then s
  else { s.setFld rSEC_SIG_STAT fSEC_SIG_STAT_BUSY 1 with sec := { s.sec with sigOp := some op } }

/-- R449, R451: SIG_ENGINE_GO with OP `op`. -/
def execSigEngineGo (op : Fin 2) (s : State) : Out := done ((s.setFld rSEC_SIG_CTL fSEC_SIG_CTL_OP op.val).sigGo op.val)

/-- R435, R447, R451: SIG_ENGINE_DONE. A verification leaves its RESULT; an attestation writes the report after its input. -/
def execSigEngineDone (s : State) : Out :=
  match s.sec.sigOp with
  | none => done s
  | some op =>
    let s1 := { s.setFld rSEC_SIG_STAT fSEC_SIG_STAT_BUSY 0 with sec := { s.sec with sigOp := none } }
    let a := s.sigAddr
    let rd := s.dpaReader a
    if op = 0 then done (s1.setFld rSEC_SIG_STAT fSEC_SIG_STAT_RESULT (s.imageCheck rd true 3))
    else
      let n := 52 + 52 * imgNum rd 48 4
      let s2 := s1.setFld rSEC_SIG_STAT fSEC_SIG_STAT_RESULT 0
      done ((s2.dpaWrite false (a + n) (s.report (imgBytes rd 0 48) (imgBytes rd 48 (n - 48)))).getD s2)

/-! ### Write rights of the serial NOR (R432, R433, R480) -/

/-- R432: whether Prompter firmware may program or erase a byte of the serial NOR. -/
def State.norMay (s : State) (o : Nat) : Bool :=
  let lc := s.sec.lifeCycle
  if o < 0x1800000 then s.runningSlot != some 0
  else if o < 0x3000000 then s.runningSlot != some 1
  else if o < 0x3010000 then lc == 0 || lc == 1
  else if o < 0x3020000 then true
  else if o < 0x3100000 then false
  else if o < 0x3200000 then true
  else if o < 0x3210000 then lc == 1
  else false

/-- A byte programmed into flash: bits only go from 1 to 0. -/
def State.norProgram (s : State) (o : Nat) : List Byte → State
  | [] => s
  | b :: bs => State.norProgram (s.setByte (norPlace o) (s.byte (norPlace o) &&& b)) (o + 1) bs

/-- Flash erased: every byte of [o, o + n) reads 0xFF. -/
def State.norErase (s : State) (o n : Nat) : State :=
  { s with mem := s.mem.filter (fun (x : Nat × Byte) => !decide (norPlace o ≤ x.1 ∧ x.1 < norPlace (o + n))) }

/-- R433: a denied access: bus error and record 0x0309. -/
def State.norDenied (s : State) (erase : Bool) (o : Nat) : State :=
  { s with host := { s.host with busError := true } }.lichenHw 0x0309 o (b2n erase) 0 0

/-- R433: NOR_ACCESS, a program of `b` at `o`. -/
def State.norWrite (s : State) (o : Nat) (b : List Byte) : State :=
  if (List.range b.length).all (fun i => s.norMay (o + i) && decide (o + i < 2 ^ 26)) then
    { s.norProgram o b with host := { s.host with busError := false } }
  else s.norDenied false o

/-- R432, R433: the borders at which the right to erase changes. -/
def norBorders : List Nat := [0x1800000, 0x3000000, 0x3010000, 0x3020000, 0x3100000, 0x3200000, 0x3210000, 0x3220000, 0x3C00000]

/-- R433: NOR_ACCESS, an erase of `n` bytes at `o`. -/
def State.norClear (s : State) (o n : Nat) : State :=
  if (o :: norBorders.filter (fun x => decide (o < x ∧ x < o + n))).all (fun x => s.norMay x) && decide (o + n ≤ 2 ^ 26) then
    { s.norErase o n with host := { s.host with busError := false } }
  else s.norDenied true o

/-- R433: NOR_ACCESS by the Prompter. -/
def execNorAccess (x : NorAccess) (s : State) : Out :=
  match x with
  | .program o b => done (s.norWrite o.val b)
  | .erase o n => done (s.norClear o.val n)

end Sys2Proof.Machine
end

