-- ==== Sys2Proof/Machine/Stripe.lean ====
section
/-!
DEFINITION. The neural stripe pipeline (R326 to R347, R350, R351): slots and their borders, ready queues, completion.
-/
namespace Sys2Proof.Machine

/-! ### A frame's geometry -/

/-- H. -/
def SaFrame.h (f : SaFrame) : Nat := 8 * getF f.cfg fSA_STR_CFG_H_DIV8
/-- J. -/
def SaFrame.j (f : SaFrame) : Nat := (f.height + f.h - 1) / f.h
/-- HT. -/
def SaFrame.ht (f : SaFrame) : Nat := bitsOf f.halo.toNat 31 24
/-- HB. -/
def SaFrame.hb (f : SaFrame) : Nat := bitsOf f.halo.toNat 23 16
/-- HL. -/
def SaFrame.hl (f : SaFrame) : Nat := bitsOf f.halo.toNat 15 8
/-- HR. -/
def SaFrame.hr (f : SaFrame) : Nat := bitsOf f.halo.toNat 7 0
/-- Exchanged mode. -/
def SaFrame.xchg (f : SaFrame) : Bool := getF f.cfg fSA_STR_CFG_XCHG == 1
/-- The temporal reference is in use. -/
def SaFrame.refEn (f : SaFrame) : Bool := getF f.cfg fSA_STR_CFG_REF_EN == 1
/-- R327: R. -/
def SaFrame.r (f : SaFrame) : Nat := f.ht + f.h + f.hb
/-- STRIDE. -/
def SaFrame.stride (f : SaFrame) : Nat := getF f.geom fSA_STR_GEOM_STRIDE
/-- R327: words of a slot. -/
def SaFrame.slotWords (f : SaFrame) : Nat := 256 + f.r * f.stride + 64 * getF f.geom fSA_STR_GEOM_X64
/-- R330: the cores of the set, in ascending order. -/
def SaFrame.cores (f : SaFrame) : List Nat := (List.range 8).filter (fun b => bitOf (getF f.cfg fSA_STR_CFG_CORES) b)
/-- NSLOT. -/
def SaFrame.nslot (f : SaFrame) : Nat := getF f.cfg fSA_STR_CFG_NSLOT_M1 + 1

/-- R330: the core of the `n`-th stripe, and its slot, which the stripes of a core take in turn. -/
def SaFrame.place (f : SaFrame) (n : Nat) : Option (Nat × Nat) :=
  let l := f.cores
  if l.isEmpty then none else some (l.getD (n % l.length) 0, n / l.length % f.nslot)

/-- R129: the real element that element `u` takes its value from; none for the zero of zero mode. -/
def borderOf (mode : Nat) (len : Nat) (u : Int) : Option Nat :=
  if 0 ≤ u ∧ u < len then some u.toNat
  else match mode with
    | 1 => none
    | 2 =>
      if len = 1 then some 0
      else
        let v := (u % (2 * ((len : Int) - 1))).toNat
        some (if v < len then v else 2 * (len - 1) - v)
    | _ => some (clampInt 0 ((len : Int) - 1) u).toNat

/-- R328: a RAW stream applies the rule to each Bayer colour plane. -/
def SaFrame.source (f : SaFrame) (len : Nat) (u : Int) : Option Nat :=
  let mode := getF f.cfg fSA_STR_CFG_BORDER
  if f.raw then
    let p := (u % 2).toNat
    (borderOf mode ((len - p + 1) / 2) ((u - p) / 2)).map (fun m => 2 * m + p)
  else borderOf mode len u

/-- R327, R335: the slot rows that the assembler writes for stripe `j`. -/
def SaFrame.slotRows (f : SaFrame) (j : Nat) : List Nat := List.range (if f.xchg ∧ j + 1 < f.j then f.ht + f.h else f.r)

/-- The frame row from which slot row `r` of stripe `j` is written. -/
def SaFrame.rowSource (f : SaFrame) (j r : Nat) : Option Nat := f.source f.height (((j * f.h + r : Nat) : Int) - f.ht)

/-- R331: the stripes that need frame row `v`. -/
def SaFrame.stripesFor (f : SaFrame) (v : Nat) : List Nat :=
  (List.range f.j).filter (fun j => (f.slotRows j).any (fun r => f.rowSource j r == some v))

/-- The last frame row that stripe `j` needs. -/
def SaFrame.lastRow (f : SaFrame) (j : Nat) : Nat := ((f.slotRows j).filterMap (fun r => f.rowSource j r)).foldl max 0

/-- R327: the samples of a slot row, from those of its frame row. -/
def SaFrame.rowWords (f : SaFrame) (d : List Nat) : List Byte :=
  (List.range (f.hl + f.width + f.hr)).flatMap (fun x => leBytes 2 (match f.source f.width ((x : Int) - f.hl) with
    | some c => d.getD c 0
    | none => f.zval))

/-- R335: the exchange ranges of the slot that starts at a word. -/
def SaFrame.exchange (f : SaFrame) (lo : Nat) : List (Nat × Nat) :=
  if f.xchg then
    let x := lo + 256 + f.r * f.stride
    (f.xr.take (getF f.cfg fSA_STR_CFG_XRANGES)).map (fun (y : Nat × Nat) => (x + y.1, x + y.1 + y.2))
  else []

/-! ### Indexed state -/

/-- The number of a slot. -/
def slotKey (k core i : Nat) : Nat := 32 * k + 4 * core + i
/-- R221: the number under which a slot registers its ranges. -/
def slotAgent (key : Nat) : Nat := 128 + key
/-- A slot that is not FREE. -/
def State.saSlot (s : State) (key : Nat) : Option SaSlot := Cells.find s.sa.slots key
/-- The state with a slot replaced. -/
def State.setSaSlot (s : State) (key : Nat) (x : SaSlot) : State :=
  { s with sa := { s.sa with slots := Cells.put s.sa.slots key x } }
/-- A frame that the assembler has latched. -/
def State.saFrame (s : State) (k fidx : Nat) : Option SaFrame := (s.saStream k).frames.find? (fun f => f.fidx == fidx)
/-- R333: a core's ready queue. -/
def State.readyQ (s : State) (core : Nat) : List Nat := Cells.get (fun _ => []) s.sa.ready core
/-- The state with a ready queue replaced, and its DEPTH in step. -/
def State.setReadyQ (s : State) (core : Nat) (l : List Nat) : State :=
  { s with sa := { s.sa with ready := Cells.set (fun _ => []) s.sa.ready core l } }.setFld (rSA_RQ core) fSA_RQ_DEPTH l.length
/-- R351: a context's port registers. -/
def State.stripePort (s : State) (p c : Nat) : StripePort := Cells.get (fun _ => {}) s.sa.ports (4 * p + c)
/-- The state with a context's port registers replaced. -/
def State.setStripePort (s : State) (p c : Nat) (x : StripePort) : State :=
  { s with sa := { s.sa with ports := Cells.set (fun _ => {}) s.sa.ports (4 * p + c) x } }

/-- Streams in the order of their last service, with one that has just been served at the end. -/
def served (l : List Nat) (k : Nat) : List Nat := l.filter (· != k) ++ [k]
/-- The place of a stream in that order; one never served is first. -/
def servedAt (l : List Nat) (k : Nat) : Nat := match l.findIdx? (· == k) with | some i => i + 1 | none => 0

/-- R350: SA_STR_STAT of a stream, two bits a slot; where several cores hold a slot of one number, the highest code. -/
def State.saStat (s : State) (k : Nat) : Word :=
  BitVec.ofNat 32 ((List.range 4).foldl (fun n i =>
    n + ((List.range 8).foldl (fun m c => max m (((s.saSlot (slotKey k c i)).map (·.st)).getD 0)) 0) * 4 ^ i) 0)

/-! ### Frames and slots -/

/-- R326, R327: a Frame Start of stream `k` latches the assembler's registers and the ISP parameter block. -/
def State.saOpen (s : State) (k fidx height width : Nat) (raw : Bool) : State :=
  let x := s.saStream k
  let f : SaFrame :=
    { fidx := fidx
      height := height
      width := width
      cfg := s.reg (rSA_STR_CFG k)
      halo := s.reg (rSA_STR_HALO k)
      base := s.fld (rSA_STR_SLOT k) fSA_STR_SLOT_BASE
      geom := s.reg (rSA_STR_GEOM k)
      dl := (s.reg (rSA_STR_DL k)).toNat
      zval := s.fld (rSA_STR_ZVAL k) fSA_STR_ZVAL_ZVAL
      xr := (List.range 7).map (fun (i : Nat) => (s.fld (rSA_STR_XR_LO k i) fSA_STR_XR_LO_OFS, s.fld (rSA_STR_XR_HI k i) fSA_STR_XR_HI_LEN))
      isp := (List.range 256).map (fun (i : Nat) => bitsOf (s.reg (rSA_ISP k (i / 2))).toNat (16 * (i % 2) + 15) (16 * (i % 2)))
      raw := raw
      first := x.count }
  let old := x.frames.filter (fun g =>
    decide ((fidx + 2 ^ 32 - g.fidx) % 2 ^ 32 ≤ 2) || s.sa.slots.any (fun (y : Nat × SaSlot) => y.1 / 32 == k && y.2.fidx == g.fidx))
  s.setSaStream k { x with
    frames := old ++ [f]
    count := x.count + f.j }

/-- R224: the assembler gives up its hold on one range of a slot. -/
def State.saRelease (s : State) (key : Nat) (r : Nat × Nat) : State :=
  let p := s.phys (key / 4 % 8)
  let b := s.sboard p
  let l := Cells.get (fun _ => []) b.granted (slotAgent key)
  let exact := l.find? (fun t => (b.entry t.entry).lo == r.1 && (b.entry t.entry).hi == r.2)
  let cover := l.find? (fun t => decide ((b.entry t.entry).lo ≤ r.1 ∧ r.2 ≤ (b.entry t.entry).hi))
  match exact, cover with
  | some t, _ => s.sbRelease p (slotAgent key) t
  | none, some t => s.sbRelease p (slotAgent key) t
  | none, none => s

/-- R329: a slot becomes FREE. -/
def State.saFree (s : State) (key : Nat) : State :=
  let s1 := s.sbWithdraw (s.phys (key / 4 % 8)) (slotAgent key)
  let core := key / 4 % 8
  let s2 := { s1 with sa := { s1.sa with
    slots := Cells.erase s1.sa.slots key
    held := s1.sa.held.filter (· != key) } }
  if (s2.readyQ core).contains key then s2.setReadyQ core ((s2.readyQ core).filter (· != key)) else s2

/-- R327, R328: a row of words written into a slot; a word that leads nowhere is not written. -/
def State.saWrite (s : State) (core w : Nat) (b : List Byte) : State :=
  match s.coreWrite (s.phys core) w b with
  | some t =>
    let n := t.sa.bytes + b.length
    { t with sa := { t.sa with bytes := n % 64 } }.countBy rSA_WR_BYTES wholeReg (n / 64)
  | none => s

/-- R329: the slot at `lo` of a frame's stripe begins to fill: the ISP parameter block, and rows that are zero throughout. -/
def State.saBegin (s : State) (f : SaFrame) (core j lo : Nat) : State :=
  let s1 := s.saWrite core lo (f.isp.flatMap (leBytes 2))
  ((f.slotRows j).filter (fun r => (f.rowSource j r).isNone)).foldl (fun t r =>
    t.saWrite core (lo + 256 + r * f.stride) ((List.replicate (f.hl + f.width + f.hr) f.zval).flatMap (leBytes 2))) s1

/-- R329, R332, R347: the slot of stripe `j` is FILLING, or is made so; none while the row must wait. -/
def State.saSlotFor (s : State) (k : Nat) (f : SaFrame) (j : Nat) : State × Bool :=
  match f.place (f.first + j) with
  | none => (s, false)
  | some (core, i) =>
    let key := slotKey k core i
    let lo := f.base + i * f.slotWords
    let p := s.phys core
    let begin (s : State) (x : SaSlot) : State := (s.setSaSlot key { x with st := 1 }).saBegin f core j lo
    match s.saSlot key with
    | some x =>
      if x.fidx = f.fidx ∧ x.stripe = j then
        if x.st = 1 then (s, true)
        else if x.st = 0 ∧ s.granted p (slotAgent key) then (begin s x, true)
        else (s, false)
      else (s, false)
    | none =>
      let clash := s.sa.slots.any (fun (y : Nat × SaSlot) => y.1 / 32 == k && y.1 / 4 % 8 == core &&
        overlaps (lo, lo + f.slotWords) (y.2.lo, y.2.hi))
      if clash || s.switching == some core || s.host.fenced.contains core || s.coreSpan p lo f.slotWords == .wait then (s, false)
      else
        let x : SaSlot := { st := 0, fidx := f.fidx, stripe := j, lo := lo, hi := lo + f.slotWords, xr := f.exchange lo }
        let (s1, ok) := (s.setSaSlot key x).sbRegister p (slotAgent key) ((lo, x.hi) :: x.xr) []
        if ok then (begin s1 x, true) else (s1, false)

/-- R331: a frame row is written into the slot of stripe `j`. -/
def State.saPut (s : State) (k : Nat) (f : SaFrame) (v : Nat) (d : List Nat) (j : Nat) : State :=
  match f.place (f.first + j) with
  | none => s
  | some (core, i) =>
    let lo := f.base + i * f.slotWords
    let s1 := ((f.slotRows j).filter (fun r => f.rowSource j r == some v)).foldl (fun t r =>
      t.saWrite core (lo + 256 + r * f.stride) (f.rowWords d)) s
    match s1.saSlot (slotKey k core i) with
    | some x => s1.setSaSlot (slotKey k core i) { x with got := v + 1 }
    | none => s1

/-- R331: the oldest buffered row of every stream. -/
def State.oldestRows (s : State) : List BufRow :=
  (List.range 48).filterMap (fun k => (s.port (k / 4)).buf.find? (fun r => r.stream == k))

/-- A row leaves its port buffer. -/
def State.takeRow (s : State) (r : BufRow) : State :=
  let x := s.port (r.stream / 4)
  s.setPort (r.stream / 4) { x with buf := x.buf.erase r }

/-- R331: a row's key. -/
def State.rowKey (s : State) (r : BufRow) : Nat := r.key + ((s.saFrame r.stream r.fidx).map (·.dl)).getD 0

/-- The rows in the order in which the assembler tries them: earliest key first, then the stream served least recently. -/
def State.rowsInOrder (s : State) : List BufRow :=
  let le (x y : BufRow) : Bool :=
    let a := s.rowKey x
    let b := s.rowKey y
    decide (a < b) || (a == b && decide (servedAt s.sa.rowOrder x.stream ≤ servedAt s.sa.rowOrder y.stream))
  let ins (x : BufRow) (l : List BufRow) : List BufRow := l.takeWhile (fun y => !le x y) ++ x :: l.dropWhile (fun y => !le x y)
  s.oldestRows.foldr ins []

/-- R331, R332: the rows are tried in order; the first whose slots are there is moved. -/
def State.moveRow (s : State) : List BufRow → State
  | [] => s
  | r :: l =>
    match s.saFrame r.stream r.fidx with
    | none => s.takeRow r
    | some f =>
      if f.void then s.takeRow r
      else
        let js := f.stripesFor r.row
        let (s1, ok) := js.foldl (fun (t : State × Bool) j => let u := t.1.saSlotFor r.stream f j; (u.1, t.2 && u.2)) (s, true)
        let x := s1.saStream r.stream
        if ok then
          let s2 := s1.countBy (rSA_STR_SLOTWAIT r.stream) wholeReg (x.waits.elim 0 (fun t => s.time.ns - t))
          let s3 := (s2.setSaStream r.stream { x with waits := none }).takeRow r
          let s4 := js.foldl (fun t j => t.saPut r.stream f r.row r.samples j) s3
          { s4 with sa := { s4.sa with rowOrder := served s4.sa.rowOrder r.stream } }
        else (s1.setSaStream r.stream { x with waits := some (x.waits.getD s.time.ns) }).moveRow l

/-- R331: SA_ROW_WRITE. -/
def execSaRowWrite (s : State) : Out := done (s.moveRow s.rowsInOrder)

/-! ### Ready queues (R333, R337, R338) -/

/-- R337: the temporal reference may be read by a stripe. -/
def State.refOk (s : State) (k : Nat) (f : SaFrame) (j : Nat) : Bool :=
  f.refEn && (match s.saFrame k ((f.fidx + 2 ^ 32 - 1) % 2 ^ 32) with
    | none => false
    | some g => !g.void && (List.range g.j).all (fun i =>
        let shift := if g.xchg then g.hb else 0
        let lo : Int := (i * g.h : Nat) - (shift : Int)
        let hi : Int := if i + 1 = g.j then (g.height : Int) else lo + g.h
        let meets := decide (((j * f.h : Nat) : Int) - f.ht < hi ∧ lo < ((j * f.h + f.h + f.hb : Nat) : Int))
        !meets || Cells.find g.stripes i == some 0))

/-- R333, R337, R338: an entry may enter its ready queue. -/
def State.mayQueue (s : State) (key : Nat) (x : SaSlot) (f : SaFrame) : Bool :=
  let k := key / 32
  (x.stripe == 0 || f.handle.isSome) &&
  (!f.refEn || (match s.saFrame k ((f.fidx + 2 ^ 32 - 2) % 2 ^ 32) with
    | some g => g.void || decide (g.j ≤ x.stripe) || (Cells.find g.stripes x.stripe).isSome
    | none => true)) &&
  (decide (x.stripe + 1 < f.j) || f.record.isSome) &&
  decide ((s.readyQ (key / 4 % 8)).length < 32)

/-- R329, R337: a READY slot's entry enters its ready queue, or is held. -/
def State.saQueue (s : State) (key : Nat) : State :=
  let k := key / 32
  match s.saSlot key with
  | none => s
  | some x =>
    match s.saFrame k x.fidx with
    | none => s
    | some f =>
      if s.mayQueue key x f then
        let ok := s.refOk k f x.stripe
        let s1 := (s.setSaSlot key { x with refOk := ok }).setReadyQ (key / 4 % 8) (s.readyQ (key / 4 % 8) ++ [key])
        if f.refEn ∧ !ok then (s1.count (rSA_STR_REFMISS k)).modSaFrame k f.fidx (fun g => { g with refMiss := true }) else s1
      else { s with sa := { s.sa with held := s.sa.held ++ [key] } }

/-- Entries held back are tried again. -/
def State.saSettle (s : State) : State :=
  s.sa.held.foldl (fun t key => t.saQueue key) { s with sa := { s.sa with held := [] } }

/-- R329: SLOT_READY: a slot's last write has landed. -/
def execSlotReady (k : Fin 48) (b : Fin 8) (i : Fin 4) (s : State) : Out :=
  let key := slotKey k.val b.val i.val
  match s.saSlot key with
  | none => done s
  | some x =>
    match s.saFrame k.val x.fidx with
    | none => done s
    | some f =>
      if x.st = 1 ∧ f.lastRow x.stripe < x.got then
        let s1 := (s.saRelease key (x.lo, x.hi)).setSaSlot key { x with
          st := 2
          ready := s.time.now
          deadline := s.time.now + f.dl }
        done (s1.saQueue key)
      else done s

/-- R333: the entry of a ready queue that is popped next. -/
def State.popNext (s : State) (core : Nat) : Option Nat :=
  let dl (key : Nat) : Nat := ((s.saSlot key).map (·.deadline)).getD 0
  let better (x y : Nat) : Bool := decide (dl x < dl y) ||
    (dl x == dl y && decide (servedAt s.sa.popOrder (x / 32) < servedAt s.sa.popOrder (y / 32)))
  (s.readyQ core).foldl (fun (best : Option Nat) x => match best with
    | none => some x
    | some y => if better x y then some x else some y) none

/-- R311, R351: the marks of a frame so far. -/
def State.marksOf (s : State) (k : Nat) (f : SaFrame) : Nat :=
  match (s.stream k).frame with
  | some g => if g.fidx = f.fidx then g.marks else f.record.elim 0 (fun r => ofLeBytes ((r.drop 2).take 2))
  | none => f.record.elim 0 (fun r => ofLeBytes ((r.drop 2).take 2))

/-- R333, R344, R351: a context reads STRIPE_NEXT0: the word and the state after it, none while the queue is empty. -/
def State.stripePop (s : State) (b c : Nat) : Option (Word × State) :=
  let p := s.phys b
  if !s.rtCtx p c then some (0, s)
  else match s.popNext b with
    | none => none
    | some key =>
      let k := key / 32
      match s.saSlot key with
      | none => none
      | some x =>
        match s.saFrame k x.fidx with
        | none => none
        | some f =>
          let past := decide (x.deadline < s.time.now)
          let nbrBad := decide (0 < x.stripe) && (match Cells.find f.stripes (x.stripe - 1) with
            | some st => st != 0
            | none => false)
          let (nbr, s0) := if x.stripe = 0 then (let (v, t) := s.free Config.firstNeighbour; (v % 32, t))
            else match f.place (f.first + x.stripe - 1) with
              | some (nc, ni) => (4 * nc + ni, s)
              | none => (0, s)
          let w := b2n past * 2 ^ 31 + b2n (x.stripe + 1 == f.j) * 2 ^ 30 + b2n (x.stripe == 0) * 2 ^ 29 + b2n x.refOk * 2 ^ 28 +
            b2n (!nbrBad) * 2 ^ 27 + nbr * 2 ^ 22 + key % 4 * 2 ^ 20 + x.stripe % 1024 * 2 ^ 10 + k
          let s1 := (s0.setReadyQ b ((s0.readyQ b).filter (· != key))).setSaSlot key { x with
            st := 3
            ctx := c }
          let s2 := if past then s1.modSaFrame k f.fidx (fun g => { g with past := true }) else s1
          let s3 := s2.setReg (rVPP_CTX_DL p c) (BitVec.ofNat 32 x.deadline)
          let s4 := s3.setStripePort p c { s3.stripePort p c with
            next0 := BitVec.ofNat 32 w
            next1 := BitVec.ofNat 32 f.fidx
            next2 := BitVec.ofNat 32 x.deadline
            next3 := BitVec.ofNat 32 (f.handle.getD 0 * 2 ^ 16 + s.marksOf k f) }
          some (BitVec.ofNat 32 w, { s4 with sa := { s4.sa with popOrder := served s4.sa.popOrder k } }.saSettle)

/-- R333: STRIPE_POP: the answer of the read, in `host.busData`; the read waits while the queue is empty. -/
def execStripePop (b : Fin 8) (c : Fin 4) (s : State) : Out :=
  match s.stripePop b.val c.val with
  | none => done s
  | some (w, t) => done { t with host := { t.host with
      busData := w
      busError := false } }

/-- R338: STRIPE_FB: a context that holds a frame's stripe 0 gives its output buffer. -/
def State.stripeFb (s : State) (b c : Nat) (w : Word) : State :=
  let k := getF w fSTRIPE_FB_STREAM
  match s.sa.slots.find? (fun (y : Nat × SaSlot) => y.1 / 32 == k && y.1 / 4 % 8 == b && y.2.st == 3 && y.2.ctx == c && y.2.stripe == 0) with
  | none => s
  | some (_, x) =>
    let h := getF w fSTRIPE_FB_HANDLE
    let s1 := s.modSaFrame k x.fidx (fun f => { f with handle := some h })
    (if h = 0 then s1.count (rSA_STR_NOBUF k) else s1).saSettle

/-- R338: STRIPE_FB. -/
def execStripeFb (b : Fin 8) (c : Fin 4) (w : Word) (s : State) : Out := done (s.stripeFb b.val c.val w)

/-! ### Completion (R329, R335, R339, R343) -/

/-- R335: an exchange range of a slot is released. -/
def State.stripeXrel (s : State) (b : Nat) (w : Word) : State :=
  let key := slotKey (getF w fSTRIPE_XREL_STREAM) b (getF w fSTRIPE_XREL_SLOT)
  match s.saSlot key with
  | none => s
  | some x =>
    match x.xr[getF w fSTRIPE_XREL_RANGE]? with
    | some r => if x.st = 3 then s.saRelease key r else s
    | none => s

/-- R335: STRIPE_XREL. -/
def execStripeXrel (b : Fin 8) (w : Word) (s : State) : Out := done (s.stripeXrel b.val w)

/-- R329: the status with which the `n`-th stripe of a stream has completed. -/
def State.stripeStatus (s : State) (k n : Nat) : Option Nat :=
  match (s.saStream k).frames.find? (fun f => decide (f.first ≤ n ∧ n < f.first + f.j) && !f.void) with
  | some f => Cells.find f.stripes (n - f.first)
  | none => none

/-- R329: in exchanged mode, slots whose stripe and next stripe are both done become FREE. -/
def State.saSweep (s : State) (k : Nat) : State :=
  (s.sa.slots.filter (fun (y : Nat × SaSlot) => y.1 / 32 == k && y.2.done)).foldl (fun t (y : Nat × SaSlot) =>
    match t.saFrame k y.2.fidx with
    | some f => if (t.stripeStatus k (f.first + y.2.stripe + 1)).isSome then t.saFree y.1 else t
    | none => t.saFree y.1) s

/-- R339, R343: a stripe completes with a status (3 stands for a drop): its frame's counts, and the stream's. -/
def State.stripeJudge (s : State) (k : Nat) (x : SaSlot) (status : Nat) : State :=
  let late := decide (x.deadline < s.time.now)
  let s1 := match status with
    | 0 => if late then s.count (rSA_STR_MISS k) else s.countWrap (rSA_STR_STRIPES k) wholeReg
    | 2 => s.count (rSA_STR_MISS k)
    | _ => s.count (rSA_STR_SKIP k)
  s1.modSaFrame k x.fidx (fun f => { f with
    stripes := Cells.put f.stripes x.stripe (if status = 3 then 1 else status)
    late := if status = 0 ∧ late then f.late + 1 else f.late
    bad := if status = 0 then f.bad else f.bad + 1
    nbrBad := f.nbrBad || (status != 0 && !x.xr.isEmpty)
    handle := if status = 3 ∧ x.stripe = 0 then some 0 else f.handle })

/-- R351: four words of a frame record. -/
def recordWords (b : List Byte) : List Word := (List.range 4).map (fun (i : Nat) => BitVec.ofNat 32 (ofLeBytes ((b.drop (4 * i)).take 4)))

/-- R339: a core writes STRIPE_DONE. -/
def State.stripeDone (s : State) (b c : Nat) (w : Word) : State :=
  let p := s.phys b
  let k := getF w fSTRIPE_DONE_STREAM
  let key := slotKey k b (getF w fSTRIPE_DONE_SLOT)
  let status := min 2 (getF w fSTRIPE_DONE_STATUS)
  match s.saSlot key with
  | none => s.setStripePort p c { s.stripePort p c with dres := 0 }
  | some x =>
    if x.st ≠ 3 ∨ x.done ∨ 48 ≤ k then s.setStripePort p c { s.stripePort p c with dres := 0 }
    else
      let s1 := s.stripeJudge k x status
      let s2 := s1.setReg (rSA_STR_LAT_MAX k) (BitVec.ofNat 32 (max (s1.reg (rSA_STR_LAT_MAX k)).toNat
        (min (s.time.now - x.ready) (2 ^ 32 - 1))))
      match s2.saFrame k x.fidx with
      | none => (s2.saFree key).setStripePort p c { s2.stripePort p c with dres := 0x40000000 }
      | some f =>
        let last := decide (f.stripes.length = f.j) && !f.void
        let dres := b2n last * 2 ^ 31 + 2 ^ 30 + b2n f.refMiss * 2 ^ 29 + b2n f.nbrBad * 2 ^ 28 + b2n f.past * 2 ^ 27 +
          f.late % 1024 * 2 ^ 10 + f.bad % 1024
        let s3 := s2.setStripePort p c { s2.stripePort p c with
          dres := BitVec.ofNat 32 dres
          frec := if last then recordWords (f.record.getD []) else (s2.stripePort p c).frec }
        let s4 := x.xr.foldl (fun t r => t.saRelease key r) s3
        let s5 := if f.xchg ∧ !f.void then s4.setSaSlot key { x with
            st := 3
            ctx := 4
            done := true }
          else s4.saFree key
        (s5.saSweep k).saSettle

/-- R339: STRIPE_DONE. -/
def execStripeDone (b : Fin 8) (c : Fin 4) (w : Word) (s : State) : Out := done (s.stripeDone b.val c.val w)

/-- R339: STRIPE_DRES: the answer of the read, in `host.busData`. -/
def execStripeDres (b : Fin 8) (c : Fin 4) (s : State) : Out :=
  done { s with host := { s.host with
    busData := (s.stripePort (s.phys b.val) c.val).dres
    busError := false } }

/-- R345: the entries of a stream that are queued or held past their deadline. -/
def State.pastEntries (s : State) (k : Nat) : List (Nat × SaSlot) :=
  s.sa.slots.filter (fun (y : Nat × SaSlot) => y.1 / 32 == k && y.2.st == 2 && decide (y.2.deadline ≤ s.time.now) &&
    (match s.saFrame k y.2.fidx with
      | some f => getF f.cfg fSA_STR_CFG_DROP_PAST == 1
      | none => false))

/-- R345: STRIPE_DROP: the first entry of a stream that is still queued or held at its deadline is removed. -/
def execStripeDrop (k : Fin 48) (s : State) : Out :=
  match s.pastEntries k.val with
  | [] => done s
  | (key, x) :: _ =>
    let s1 := s.stripeJudge k.val x 3
    let s2 := if x.stripe = 0 then s1.count (rSA_STR_NOBUF k.val) else s1
    done (((s2.saFree key).saSweep k.val).saSettle)

/-! ### Stopping (R346) -/

/-- R346: a stream is disabled: FILLING and READY slots and their entries are discarded, and open frames closed without output. -/
def State.saDisable (s : State) (k : Nat) : State :=
  let s1 := s.setFld (rSA_STR_CFG k) fSA_STR_CFG_EN 0
  let s2 := (s.sa.slots.filter (fun (y : Nat × SaSlot) => y.1 / 32 == k && (y.2.st != 3 || y.2.done))).foldl (fun t (y : Nat × SaSlot) => t.saFree y.1) s1
  let s3 := match (s2.stream k).frame with
    | some f => s2.setFrame k { f with deliver := false }
    | none => s2
  let x := s3.saStream k
  let s4 := s3.setSaStream k { x with
    count := 0
    waits := none
    frames := x.frames.map (fun (f : SaFrame) => { f with void := true }) }
  let p := s4.port (k / 4)
  s4.setPort (k / 4) { p with buf := p.buf.filter (fun r => r.stream != k) }

/-- R346: SA_STREAM_DISABLE. -/
def execSaStreamDisable (k : Fin 48) (s : State) : Out := done (s.saDisable k.val)

/-- R346: every slot of a stream becomes FREE. -/
def State.saFlush (s : State) (k : Nat) : State :=
  ((s.sa.slots.filter (fun (y : Nat × SaSlot) => y.1 / 32 == k)).foldl (fun t (y : Nat × SaSlot) => t.saFree y.1) s).saSettle

/-- R346: SA_STREAM_FLUSH. -/
def execSaStreamFlush (k : Fin 48) (s : State) : Out := done (s.saFlush k.val)

/-- The script that drives a stream (R348). -/
def State.streamScript (s : State) (k : Nat) : Nat :=
  ((s.scripts.find? (fun (x : Nat × Script) => x.2.decl.streams.any (fun r => (r.getD 0 0).toNat == k))).map (·.1)).getD 255

/-- R343: STRIPE_COUNT_POLL: firmware reads a stream's miss and skip counts, and posts an event where they have changed. -/
def execStripeCountPoll (k : Fin 48) (s : State) : Out :=
  let m := (s.reg (rSA_STR_MISS k.val)).toNat
  let n := (s.reg (rSA_STR_SKIP k.val)).toNat
  if m = 0 ∧ n = 0 then done s
  else
    let s1 := (s.setReg (rSA_STR_MISS k.val) 0).setReg (rSA_STR_SKIP k.val) 0
    done (s1.postEvent 0x0003 (s.streamScript k.val) k.val (min m 65535 * 2 ^ 16 + min n 65535))

end Sys2Proof.Machine
end

