-- ==== Sys2Proof/Machine/Bus.lean ====
section
/-!
DEFINITION. Reads and writes of control registers: where an address leads (R13 to R19), what each access code does (R6), what a
register shows that stands for typed state, how a written value is clamped, and what a write starts. The answer of the last
access by command stands in `host.busData` and `host.busError`.
-/
namespace Sys2Proof.Machine

/-! ### Where an access leads -/

/-- What a register access answers: a bus error (R14), that it waits (R19, R282, R333), or a word. -/
inductive Answer where
  | error
  | waits
  | ok (w : Word)
  deriving DecidableEq, Repr

/-- Where a register access leads: the block as addressed, the physical core of a core block, the offset, and the address under
which the register is stored (a core's cue queue follows its logical index, R41; its other registers the physical core). -/
structure Spot where
  blk : Nat
  p : Nat
  o : Nat
  a : Nat
  deriving DecidableEq, Repr

/-- R2, R17: a core program on this core and context, or none for Prompter firmware and the rehearsal engine. -/
def agentProgram : Agent → Option (Nat × Nat)
  | .core b c => some (b.val, c.val)
  | _ => none

/-- The offset of a core's cue-queue group. -/
def cueOffset (o : Nat) : Bool := decide (0x800 ≤ o ∧ o < 0x820)

/-- R13, R17, R18, R21: where an access to DPA `a` leads; none where it ends in a bus error: outside the blocks that hold
registers, at an address that is not 4-byte aligned (R5), in another unit's block for core program (R213). -/
def State.spot (s : State) (who : Agent) (a : Nat) : Option Spot :=
  if a < 0x7F00000000 ∨ 0x7F04A00000 ≤ a ∨ a % 4 ≠ 0 then none
  else
    let b := (a - 0x7F00000000) / 0x100000
    let o := (a - 0x7F00000000) % 0x100000
    let mine := match (agentProgram who) with
      | some (n, _) => b == n && decide (o < 0x10000)
      | none => true
    if (blockRows b).isEmpty ∨ !mine then none
    else if b < 9 then
      let p := s.phys b
      some ⟨b, p, o, if cueOffset o then a else blkBase p + o⟩
    else some ⟨b, 0, o, a⟩

/-- R204: the instruction memory of a core lies at offset 0x8_0000 of its block (log entry 3). -/
def Spot.imem (x : Spot) : Bool := x.blk < 9 && decide (0x80000 ≤ x.o ∧ x.o < 0xC0000)

/-- R307: the intake's embedded-line buffers. -/
def Spot.embedded (x : Spot) : Bool := x.blk == 0x20 && decide (0x10000 ≤ x.o ∧ x.o < 0xD0000)

/-- R41: the queue whose register group holds this offset of a block. -/
def cueQueueAt (blk o : Nat) : Option QueueId :=
  if h : blk < 8 then (if cueOffset o then some (.core ⟨blk, h⟩) else none)
  else if blk = 0x32 then (if cueOffset o then some .hub else none)
  else if blk = 0x41 then (if cueOffset o then some .aon else none)
  else if blk = 0x20 ∧ 0x800 ≤ o then (if hp : (o - 0x800) / 0x20 < 12 then some (.port ⟨(o - 0x800) / 0x20, hp⟩) else none)
  else none

/-- Is `a` one of `count` instances of a register, the first at `base` and each `stride` on? -/
def isInst (base stride count a : Nat) : Bool := decide (base ≤ a) && (a - base) % stride == 0 && decide ((a - base) / stride < count)

/-- The number of the instance at `a`. -/
abbrev instOf (base stride a : Nat) : Nat := (a - base) / stride

/-! ### Reading -/

/-- R252: the number of a channel's state. -/
def ChState.num : ChState → Nat
  | .idle => 0
  | .waitLaunch => 1
  | .run => 2
  | .paced => 3
  | .fault => 4
  | .halt => 5
  | .aborting => 6
  | .posting => 7

/-- R268: DMA_CH_STAT of a channel. -/
def DmaChan.statWord (x : DmaChan) : Nat :=
  x.st.num * 2 ^ 28 + x.err % 16 * 2 ^ 24 + x.check % 16 * 2 ^ 20 + x.abortRes % 4 * 2 ^ 18 + b2n x.launchPend * 2 ^ 17 +
    b2n x.faultDst * 2 ^ 16 + x.faultKind % 16 * 2 ^ 12 + min x.held 4095

/-- R268: DMA_CH_HEAD of a channel. -/
def DmaChan.headWord (x : DmaChan) : Nat :=
  x.lastStatus % 256 * 2 ^ 24 + x.gen % 256 * 2 ^ 16 + b2n x.lastCollided * 256 + x.head % 256

/-- R268, R269: what the registers of a DMA engine show of its channels. -/
def State.dmaView (s : State) (e a : Nat) : Option Nat :=
  let count := if e = 9 then 64 else 16
  let chans := (List.range count).map (fun n => s.chan e n)
  if a = rDMA_ENG_STAT e then
    let held := sumNat (chans.map (·.held))
    some ((chans.filter (fun x => x.st == .run)).length * 2 ^ 24 + ((if e = 9 then 2048 else 256) - held))
  else if isInst (rDMA_CH_STAT e 0) 0x80 count a then some (s.chan e (instOf (rDMA_CH_STAT e 0) 0x80 a)).statWord
  else if isInst (rDMA_CH_HEAD e 0) 0x80 count a then some (s.chan e (instOf (rDMA_CH_HEAD e 0) 0x80 a)).headWord
  else none

/-- R266, R269: a mailbox as it shows: COUNT, or word `k` of the head message. -/
def State.mailboxView (s : State) (box statA dataA a : Nat) : Option Nat :=
  let l := Cells.get (fun _ => []) s.hub.boxes box
  if a = statA then some l.length
  else if isInst dataA 4 16 a then some (ofLeBytes (((l.headD []).drop (4 * instOf dataA 4 a)).take 4))
  else none

/-- The context whose copies an access sees: core program its own, Prompter firmware those of the context that runs. -/
def State.ctxOf (s : State) (who : Agent) (p : Nat) : Nat :=
  match (agentProgram who) with
  | some (_, c) => c
  | none => (s.core p).cur

/-- What the registers of a core block show of the VPP (R148, R192), the scoreboard (R227), and the ports of R275 and R351. -/
def State.coreView (s : State) (who : Agent) (p a : Nat) : Option Nat :=
  let c := s.ctxOf who p
  let hq := Cells.get (fun _ => {}) s.hqp (if (agentProgram who).isSome then 4 * p + c else 64)
  if a = rVPP_PC p then some (s.vppPc p / 16 * 16)
  else if a = rVPP_MODE p then some (s.modeWord p c)
  else if a = rVPP_STATUS p then some (s.statusWord p c)
  else if a = rVPP_FAULT_ADDR p then some (s.getR p c nFADDR)
  else if a = rVPP_FAULT_LANE p then some (s.getR p c nFLANE)
  else if a = rVPP_SP_LIM p then some (s.getR p c nSPLIM)
  else if isInst (rFEAT0 p) 4 4 a then some (s.feat p (instOf (rFEAT0 p) 4 a))
  else if isInst (rSB_ENTRY_LO p 0) 16 64 a then some ((s.sboard p).entry (instOf (rSB_ENTRY_LO p 0) 16 a)).lo
  else if isInst (rSB_ENTRY_HI p 0) 16 64 a then some ((s.sboard p).entry (instOf (rSB_ENTRY_HI p 0) 16 a)).hi
  else if isInst (rSB_ENTRY_CNT p 0) 16 64 a then
    let x := (s.sboard p).entry (instOf (rSB_ENTRY_CNT p 0) 16 a)
    some (b2n x.used * 2 ^ 31 + b2n x.merged * 2 ^ 30 + b2n x.joined * 2 ^ 29 + x.w % 256 * 256 + x.r % 256)
  else if a = rHQP_RESULT p then some (hq.status % 16 * 2 ^ 28 + hq.value % 65536)
  else if a = rHQP_ADDR_LO p then some (hq.addr % 2 ^ 32)
  else if a = rHQP_ADDR_HI p then some (hq.addr / 2 ^ 32 % 256)
  else if a = rHQP_SIZE p then some (hq.size % 2 ^ 24)
  else if a = rSTRIPE_NEXT0 p then some (s.stripePort p c).next0.toNat
  else if a = rSTRIPE_NEXT1 p then some (s.stripePort p c).next1.toNat
  else if a = rSTRIPE_NEXT2 p then some (s.stripePort p c).next2.toNat
  else if a = rSTRIPE_NEXT3 p then some (s.stripePort p c).next3.toNat
  else if a = rSTRIPE_DRES p then some (s.stripePort p c).dres.toNat
  else if isInst (rSTRIPE_FREC p 0) 4 4 a then
    some ((s.stripePort p c).frec.getD (instOf (rSTRIPE_FREC p 0) 4 a) 0).toNat
  else match s.dmaView p a with
    | some v => some v
    | none => s.mailboxView p (rMBX_STAT p) (rMBX_DATA p 0) a

/-- R255, R269: the head of the fault queue as it shows. -/
def State.faultView (s : State) (a : Nat) : Option Nat :=
  let x := s.hub.faultQ.headD ⟨0, 0, 0, 0, false, 0, 0⟩
  let some? := !s.hub.faultQ.isEmpty
  if a = rHUB_DMA_FQ_STAT then some s.hub.faultQ.length
  else if a = rHUB_DMA_FQ_E0 then
    some (if some? then x.engine % 16 * 2 ^ 28 + x.chan % 64 * 2 ^ 22 + x.err % 16 * 2 ^ 18 + x.kind % 16 * 2 ^ 14 +
      b2n x.dst * 2 ^ 13 + x.asid % 16 * 2 ^ 9 else 0)
  else if a = rHUB_DMA_FQ_E1 then some (x.addr % 2 ^ 32)
  else if a = rHUB_DMA_FQ_E2 then some (x.addr / 2 ^ 32 % 256)
  else none

/-- R48: the group of a cue queue as it shows; all ones in HEAD where it is empty. -/
def State.cueView (s : State) (q : QueueId) (a : Nat) : Option Nat :=
  let x := s.cq q.num
  let g := queueGroup q
  let t := (x.entries.head?.map (·.time)).getD (2 ^ 64 - 1)
  if a = rCUEQ_STAT g then
    some (setF (setF (s.reg a) fCUEQ_STAT_HALTED (b2n x.halted)) fCUEQ_STAT_DEPTH x.entries.length).toNat
  else if a = rCUEQ_HEAD_LO g then some (t % 2 ^ 32)
  else if a = rCUEQ_HEAD_HI g then some (t / 2 ^ 32 % 2 ^ 32)
  else none

/-- What the registers of the other blocks show of typed state. -/
def State.unitView (s : State) (a : Nat) : Option Nat :=
  if a = rCUE_NOW_LO then some (s.now % 2 ^ 32)
  else if isInst (rSA_STR_STAT 0) 128 48 a then some (s.saStat (instOf (rSA_STR_STAT 0) 128 a)).toNat
  else if isInst (rSA_RQ 0) 4 8 a then some (min 63 (s.readyQ (instOf (rSA_RQ 0) 4 a)).length)
  else if a = rPWR_OP_EFF then some s.opEffWord.toNat
  else if a = rAON_STATE then some (s.power.prev.num * 16 + s.power.st.num)
  else if a = rAON_PWRCYC then some (s.sec.pwrCyc % 2 ^ 24)
  else if a = rSEC_LC then some (s.sec.tcount % 128 * 256 + s.sec.lifeCycle)
  else if a = rSEC_RB then some (s.sec.revoked % 16 * 256 + s.sec.rollback % 128)
  else if a = rSEC_DBG then some (b2n (debugAllowed s.sec.lifeCycle))
  else if a = rSEC_SERIAL_LO then some (s.sec.serial % 2 ^ 32)
  else if a = rSEC_SERIAL_HI then some (s.sec.serial / 2 ^ 32 % 2 ^ 32)
  else if isInst (rSEC_MANIFEST 0) 4 12 a then
    some (ofLeBytes ((s.sec.manifestHash.drop (4 * instOf (rSEC_MANIFEST 0) 4 a)).take 4))
  else if a = rLCH_STAT then some s.lchStat.toNat
  else if a = rLCH_OPSEC then some (s.lichen.opsec % 2 ^ 32)
  else if a = rLCH_LOST_CNT then some (s.lichen.lost % 2 ^ 32)
  else if a = rLCH_SUPP_PEND then some (min 65535 s.lichen.supp.length)
  else if a = rSIDE_CFG then some (setF (s.reg a) fSIDE_CFG_ADDR (0x40 + s.sec.straps)).toNat
  else match s.dmaView 9 a with
    | some v => some v
    | none =>
      match s.mailboxView 16 rHUB_MBX_STAT (rHUB_MBX_DATA 0) a with
      | some v => some v
      | none => s.faultView a

/-- The word that a register holds or shows. -/
def State.regView (s : State) (who : Agent) (x : Spot) : Word :=
  let v := match cueQueueAt x.blk x.o with
    | some q => s.cueView q x.a
    | none => if x.blk < 9 then (if cueOffset x.o then some (if x.o = 0x818 ∨ x.o = 0x81C then 2 ^ 32 - 1 else 0) else s.coreView who x.p x.a)
      else s.unitView x.a
  match v with
  | some n => BitVec.ofNat 32 n
  | none => s.reg x.a

/-- The bits of a field. -/
def FldRow.mask (f : FldRow) : Word := BitVec.ofNat 32 ((2 ^ (f.hi + 1 - f.lo) - 1) * 2 ^ f.lo)

/-- R6: the bits of a row's fields with one of these access codes. -/
def RegRow.maskOf (r : RegRow) (codes : List Acc) : Word :=
  r.flds.foldl (fun w f => if codes.contains f.acc then w ||| f.mask else w) 0

/-- R33: registers whose read latches the high word of a time into the next register. -/
def latches (a : Nat) : Bool :=
  a == rCUE_NOW_LO || isInst (rINT_STR_FS_LO 0) 64 48 a || isInst (rINT_TRIG_CAP_LO 0) 16 4 a || isInst (rINT_WATCH_EVT_LO 0) 64 12 a

/-- R33: a read of a low word latches the high one. -/
def State.latchHi (s : State) (a : Nat) : State :=
  if latches a then
    s.setReg (a + 4) (BitVec.ofNat 32 (if a = rCUE_NOW_LO then s.now / 2 ^ 32 else Cells.get (fun _ => 0) s.timeHi a))
  else s

/-- R6, R382: an RC field that has been read clears; what Prompter firmware reads it adds to the field's 64-bit total. -/
def State.clearRc (s : State) (who : Agent) (a : Nat) (w mask : Word) (r : RegRow) : State :=
  r.flds.foldl (fun (t : State) f =>
    if f.acc = .rc then
      let v := ((w &&& mask &&& f.mask) >>> f.lo).toNat
      let t1 := t.setReg a (t.reg a &&& ~~~(f.mask &&& mask))
      let k := 64 * a + f.lo
      if (agentProgram who).isNone then
        { t1 with host := { t1.host with totals := Cells.set (fun _ => 0) t1.host.totals k (Cells.get (fun _ => 0) t1.host.totals k + v) } }
      else t1
    else t) s

/-- A register read: the answer and the state after it. `mask` says which of the register's bits are read: all of them, or one
half by a one-word load of core program (R147). A read of CORE_BAR_WAIT (R282) waits until it has an answer, and a read of the
low half of STRIPE_NEXT0 by core program pops a stripe (R333) or waits. -/
def State.regRead (s : State) (who : Agent) (a : Nat) (mask : Word) : Answer × State :=
  match s.spot who a with
  | none => (.error, s)
  | some x =>
    if s.switching = some x.blk then (.waits, s)
    else if x.imem then (.ok (BitVec.ofNat 32 (s.num (imemPlace x.p (x.o - 0x80000)) 4)), s)
    else if x.embedded then (.ok (BitVec.ofNat 32 (s.num a 4)), s)
    else match regRow (blkBase x.blk + x.o) with
      | none => (.ok 0, s)
      | some r =>
        if x.blk < 9 ∧ x.a = rCORE_BAR_WAIT x.p then
          match s.barWait who with
          | some w => (.ok w, s)
          | none => (.waits, s)
        else if x.blk < 9 ∧ x.a = rSTRIPE_NEXT0 x.p ∧ mask &&& 0xFFFF ≠ 0 ∧ (agentProgram who).isSome then
          match s.stripePop x.blk (s.ctxOf who x.p) with
          | some (w, t) => (.ok w, t)
          | none => (.waits, s)
        else
          let w := s.regView who x &&& ~~~(r.maskOf [.wo, .cmd])
          (.ok w, (s.clearRc who x.a w mask r).latchHi x.a)

/-! ### Writing -/

/-- A field of a word held between two bounds. -/
def limField (f : Fld) (lo hi : Nat) (w : Word) : Word := setF w f (clampNat lo hi (getF w f))

/-- R251: watermarks that break the order of their mode. -/
def clampPace (w : Word) : Word :=
  let start := getF w fDMA_CH_PACE_START
  let stop := getF w fDMA_CH_PACE_STOP
  match getF w fDMA_CH_PACE_MODE with
  | 1 => if start < stop then w
    else if stop = 0 then setF (setF w fDMA_CH_PACE_STOP 1) fDMA_CH_PACE_START 0 else setF w fDMA_CH_PACE_START (stop - 1)
  | 2 => if stop < start then w
    else if stop = 511 then setF (setF w fDMA_CH_PACE_STOP 510) fDMA_CH_PACE_START 511 else setF w fDMA_CH_PACE_START (stop + 1)
  | _ => w

/-- R263, R268: a shadow register of a channel as it is stored: reserved bits 0, BUF_MAX at least 1, watermarks in order. -/
def clampShadow (e k : Nat) (w : Word) : Word :=
  match k with
  | 0 => limField fDMA_CH_CFG_BUF_MAX 1 255 (w &&& 0xFFFFF8FF)
  | 1 => clampPace (w &&& 0xCFFFFCFF)
  | 2 => if e = 9 then w &&& 0xFFFFFFC0 else w &&& 0x0000FFE0
  | _ => if e = 9 then w &&& 0xFF else 0

/-- The clamps of a core block, and of the hub's channels. -/
def clampDma (e a : Nat) (w : Word) : Word :=
  let base := dmaChanBase e 0
  let o := a - base
  if base ≤ a ∧ o / 0x80 < (if e = 9 then 64 else 16) ∧ 0x40 ≤ o % 0x80 ∧ o % 0x80 < 0x50 then clampShadow e ((o % 0x80 - 0x40) / 4) w
  else w

/-- R227, R275, R463: the clamps of a core block. -/
def clampCore (p a : Nat) (w : Word) : Word :=
  if a = rSB_CFG p then limField wholeReg 1024 (2 ^ 32 - 1) w
  else if a = rCHAIN_CFG p then limField fCHAIN_CFG_WAIT 1 65535 w
  else clampDma p a w

/-- R109: a programmable table after a write of one of its registers: the levels, and whether any of them was clamped. -/
def State.clampTable (s : State) (a : Nat) (w : Word) : Word × Bool :=
  let t := (a - rNB4_TBL_LO 0) / 8
  let lo := if a = rNB4_TBL_LO t then w else s.reg (rNB4_TBL_LO t)
  let hi := if a = rNB4_TBL_LO t then s.reg (rNB4_TBL_HI t) else w
  let raw := (List.range 4).map (fun i => bitsOf lo.toNat (8 * i + 7) (8 * i)) ++
    (List.range 3).map (fun i => bitsOf hi.toNat (8 * i + 7) (8 * i))
  let l := nb4Clamp 0 1 raw
  let pack (x : List Nat) : Word := BitVec.ofNat 32 (ofLeBytes (x.map (fun n => BitVec.ofNat 8 n)))
  (if a = rNB4_TBL_LO t then pack (l.take 4) else pack (l.drop 4), l != raw)

/-- The clamps of the hub DMA block (R114, R268, R269). -/
def State.clampHub (s : State) (a : Nat) (w : Word) : Word :=
  if isInst (rNB4_TBL_LO 0) 4 6 a then (s.clampTable a w).1
  else if isInst (rHUB_CQ_BASE_HI 0) 16 16 a then limField fHUB_CQ_BASE_HI_SIZE_LOG2 4 15 w
  else clampDma 9 a w

/-- R298: a data type that the intake does not take is stored as RAW8. -/
def clampDt (w : Word) : Word :=
  let dt := getF w fINT_STR_CFG_DT
  if (0x2A ≤ dt ∧ dt ≤ 0x2E) ∨ dt ∈ [0x1E, 0x22, 0x24] ∨ (0x30 ≤ dt ∧ dt ≤ 0x37) then w else setF w fINT_STR_CFG_DT 0x2A

/-- The clamps of the intake block (R298, R302, R315, R317, R323). -/
def State.clampIntake (s : State) (a : Nat) (w : Word) : Word :=
  if isInst (rINT_PORT_CFG 0) 64 12 a then
    let w1 := limField fINT_PORT_CFG_RATE 80 4500 w
    if getF w1 fINT_PORT_CFG_LANES_M1 = 2 then setF w1 fINT_PORT_CFG_LANES_M1 1 else w1
  else if isInst (rINT_STR_CFG 0) 64 48 a then clampDt w
  else if isInst (rINT_STR_GEOM 0) 64 48 a then limField fINT_STR_GEOM_HEIGHT 16 8192 (limField fINT_STR_GEOM_WIDTH 16 8192 w)
  else if isInst (rINT_STR_TMO 0) 64 48 a then limField fINT_STR_TMO_FE_TMO_US 1 (2 ^ 24 - 1) w
  else if isInst (rI2C_CFG 0) 256 12 a then limField fI2C_CFG_SPEED 0 2 (limField fI2C_CFG_LOW_TMO_US 1 65535 w)
  else if isInst (rINT_FSYNC_CFG 0) 8 12 a then limField fINT_FSYNC_CFG_MIN_PERIOD_US 100 (2 ^ 24 - 1) w
  else if isInst (rINT_TRIG_CFG 0) 16 4 a then limField fINT_TRIG_CFG_GLITCH_US 1 255 w
  else if isInst (rINT_TRIG_ACT 0) 16 4 a then limField fINT_TRIG_ACT_FSYNC 0 11 (limField fINT_TRIG_ACT_WIDTH_US 1 255 w)
  else if isInst (rINT_WATCH_CFG 0) 64 12 a then s.watchClamp (instOf (rINT_WATCH_CFG 0) 64 a) w
  else if isInst (rINT_WATCH_THR 0) 64 12 a then limField fINT_WATCH_THR_COUNT_THR 1 4096 w
  else w

/-- R328: the samples of a RAW stream lie in pairs, so its halos are even. -/
def State.rawStream (s : State) (k : Nat) : Bool :=
  let dt := s.fld (rINT_STR_CFG k) fINT_STR_CFG_DT
  decide (0x2A ≤ dt ∧ dt ≤ 0x2E)

/-- R328, R350: the halos as they are stored. -/
def State.clampHalo (s : State) (k : Nat) (w : Word) : Word :=
  let one (f : Fld) (w : Word) : Word :=
    let n := min 64 (getF w f)
    setF w f (if s.rawStream k then n + n % 2 else n)
  one fSA_STR_HALO_HT (one fSA_STR_HALO_HB (one fSA_STR_HALO_HL (one fSA_STR_HALO_HR w)))

/-- R350: STRIDE as it is stored. -/
def State.clampStride (s : State) (k : Nat) (w : Word) : Word :=
  let n := s.fld (rSA_STR_HALO k) fSA_STR_HALO_HL + s.fld (rINT_STR_GEOM k) fINT_STR_GEOM_WIDTH + s.fld (rSA_STR_HALO k) fSA_STR_HALO_HR
  if getF w fSA_STR_GEOM_STRIDE < n then setF w fSA_STR_GEOM_STRIDE ((n + 15) / 16 * 16) else w

/-- The clamps of the stripe assembler's block (R350). -/
def State.clampAssembler (s : State) (a : Nat) (w : Word) : Word :=
  if isInst (rSA_STR_CFG 0) 128 48 a then
    let w1 := limField fSA_STR_CFG_H_DIV8 2 16 (limField fSA_STR_CFG_NSLOT_M1 1 3 w)
    if getF w1 fSA_STR_CFG_BORDER = 3 then setF w1 fSA_STR_CFG_BORDER 0 else w1
  else if isInst (rSA_STR_HALO 0) 128 48 a then s.clampHalo (instOf (rSA_STR_HALO 0) 128 a) w
  else if isInst (rSA_STR_GEOM 0) 128 48 a then s.clampStride (instOf (rSA_STR_GEOM 0) 128 a) w
  else if isInst (rSA_STR_DL 0) 128 48 a then limField wholeReg 1 (2 ^ 32 - 1) w
  else w

/-- The clamps of the peer-link block (R370, R372). Windows are clamped after the write. -/
def clampLinks (a : Nat) (w : Word) : Word :=
  if isInst (rEPL_ROUTE 0) 4 24 a then (if getF w fEPL_ROUTE_LINK = 6 then setF w fEPL_ROUTE_LINK 7 else w)
  else if isInst (rEPL_CTL 0) 256 6 a then limField fEPL_CTL_HB_US 1 65535 w
  else w

/-- The clamps of the other blocks (R286, R295, R415, R416, R427, R469). -/
def State.clampUnit (s : State) (a : Nat) (w : Word) : Word :=
  if isInst (rHP_CFG 0) 16 16 a then limField fHP_CFG_SIZE 0 4096 w
  else if a = rAUD_CTL then limField fAUD_CTL_PERIOD_US 1 (2 ^ 24 - 1) w
  else if a = rPWR_CAP then
    let w1 := limField fPWR_CAP_CEIL 20 190 w
    limField fPWR_CAP_CAP 20 (getF w1 fPWR_CAP_CEIL) w1
  else if a = rTHERM_CFG then limField fTHERM_CFG_THROT_C 0 (s.fld rTHERM_CFG fTHERM_CFG_TRIP_C - 5) w
  else if a = rAON_WDOG then limField fAON_WDOG_TIMEOUT_MS 1 65535 w
  else if a = rREH_CTL then limField fREH_CTL_ROT_HOURS 1 720 w
  else w

/-- How a written word is clamped, by block. -/
def State.regClamp (s : State) (x : Spot) (w : Word) : Word :=
  if x.blk < 9 then clampCore x.p x.a w
  else if x.blk = 0x30 then s.clampHub x.a w
  else if x.blk = 0x20 then s.clampIntake x.a w
  else if x.blk = 0x21 then s.clampAssembler x.a w
  else if x.blk = 0x28 then clampLinks x.a w
  else s.clampUnit x.a w

/-- R5, R440: the lock that makes an RWL field read-only: the configuration lock for what a signed configuration sets (R439),
the boot lock for every RWL field. -/
def State.regLocked (s : State) (a : Nat) : Bool :=
  s.flag rSEC_LOCK fSEC_LOCK_BOOT || (configTarget a && s.flag rSEC_LOCK fSEC_LOCK_CFG)

/-- R6: the word that a write of `v` under a mask leaves, by the access codes of the row's fields. -/
def RegRow.merge (r : RegRow) (lock : Bool) (old mask v : Word) : Word :=
  let set := mask &&& r.maskOf (if lock then [.rw, .wo] else [.rw, .wo, .rwl])
  ((old &&& ~~~set) ||| (v &&& set)) &&& ~~~(v &&& mask &&& r.maskOf [.w1c]) ||| (v &&& mask &&& r.maskOf [.w1s])

/-- R149, R191, R204, R213, R218, R227, R228, R234, R268, R275, R463: registers of a core block that core program does not write;
a write of them by core program is ignored. -/
def coreReadOnly (p a : Nat) : Bool :=
  [rVPP_CTL p, rVPP_PC p, rVPP_VEC_BASE p, rVPP_CTX_CTL p, rCORE_IMEM_LOCK p, rSB_CFG p, rLS_PWR_CTL p, rCHAIN_CFG p,
    rFROND_REP_ROW p, rFROND_REP_COL0 p, rFROND_REP_COL1 p].contains a ||
    isInst (rVPP_CTX_PC p 0) 4 4 a || isInst (rMEM_REP p 0) 4 64 a || a == blkBase p + 0x814 ||
    (decide (dmaChanBase p 0 ≤ a ∧ a < dmaChanBase p 0 + 0x800) && !(isInst (rDMA_CH_CTL p 0) 0x80 16 a))

/-- R366: the four registers of a window that is locked. -/
def State.windowLocked (s : State) (a : Nat) : Bool :=
  decide (rEPL_WIN_CTL 0 ≤ a ∧ a < rEPL_WIN_CTL 16) && s.flag (rEPL_WIN_CTL ((a - rEPL_WIN_CTL 0) / 16)) fEPL_WIN_CTL_LOCK

/-- R234, R465: an entry that the fuses hold is not overridden. -/
def State.fuseEntry (s : State) (x : Spot) : Bool :=
  (decide (x.blk < 9) && isInst (rMEM_REP x.p 0) 4 64 x.a && s.flag x.a fMEM_REP_FUSE) ||
    ((x.blk == 0x10 || x.blk == 0x11) && isInst (rSS_REP (x.blk - 0x10) 0) 4 64 x.a && s.flag x.a fSS_REP_FUSE)

/-- A write that is ignored: by its writer, by a lock, by a fuse, and of the repair lists of a core in service (R463). -/
def State.writeIgnored (s : State) (who : Agent) (x : Spot) : Bool :=
  (x.blk < 9 && (agentProgram who).isSome && coreReadOnly x.p x.a) ||
    (x.blk < 9 && (agentProgram who).isNone && isInst (rCORE_RWIN x.p 0) 4 8 x.a) ||
    (x.blk < 8 && [rFROND_REP_ROW x.p, rFROND_REP_COL0 x.p, rFROND_REP_COL1 x.p].contains x.a) ||
    s.windowLocked x.a || s.fuseEntry x

/-! ### What a write starts -/

/-- R463: a write of a skip list of the core in the spare slot: a fused entry stays, and a list that is not distinct and in
range is not taken. -/
def State.writeSkips (s : State) (p : Nat) (a : Nat) (v : Word) : State :=
  let row := a == rFROND_REP_ROW p
  let old := if row then s.skipRows p else s.skipCols p
  let at0 := if a = rFROND_REP_COL1 p then 2 else 0
  let take (i : Nat) (n : Nat) : List (Nat × Bool) → List (Nat × Bool) := fun l =>
    l.mapIdx (fun j (x : Nat × Bool) => if j = i ∧ !x.2 then (n, x.2) else x)
  let l := take (at0 + 1) (bitsOf v.toNat 17 9) (take at0 (bitsOf v.toNat 8 0) old)
  let lim := if row then 258 else 260
  if (l.map (·.1)).Nodup ∧ l.all (fun x => decide (x.1 < lim)) then
    let sorted := l.foldl (fun acc x => skipInsert x acc) []
    if row then s.setSkipRows p sorted else s.setSkipCols p sorted
  else s

/-- R148, R149: a write of VPP_MODE, VPP_STATUS or VPP_SP_LIM: of the fields of the context concerned, and of MODE.EMU by Prompter
firmware where the emulation gate is open (R194). -/
def State.writeVpp (s : State) (who : Agent) (x : Spot) (mask v : Word) : State :=
  let c := s.ctxOf who x.p
  let n := if x.a = rVPP_MODE x.p then nMODE else if x.a = rVPP_STATUS x.p then nSTATUS else nSPLIM
  let s1 := s.setR x.p c n mask.toNat v.toNat
  if n = nMODE ∧ (agentProgram who).isNone ∧ bitOf mask.toNat 9 ∧ (bitOf v.toNat 9 → s.flag rSEC_EMU_GATE fSEC_EMU_GATE_OPEN) then
    s1.setCore x.p { s1.core x.p with emu := bitOf v.toNat 9 }
  else s1

/-- R268: a write of DMA_CH_CTL: EN, then KICK, ABORT and RESUME. -/
def State.writeChCtl (s : State) (e n : Nat) (mask v : Word) : State :=
  let w := v &&& mask
  let s1 := if getF mask fDMA_CH_CTL_EN = 1 then s.setFld (rDMA_CH_CTL e n) fDMA_CH_CTL_EN (getF w fDMA_CH_CTL_EN) else s
  let s2 := if getF w fDMA_CH_CTL_KICK = 1 then s1.dmaLaunch e n else s1
  let s3 := if getF w fDMA_CH_CTL_ABORT = 1 then s2.dmaAbort e n else s2
  if getF w fDMA_CH_CTL_RESUME = 1 then s3.dmaResume e n else s3

/-- R54: the address under which a member's register is stored. -/
def State.memberAddr (s : State) (m : WMember) : Nat := blkBase (if m.block < 9 then s.phys m.block else m.block) + m.ofs

/-- R263: the channel whose shadow a member is. -/
def State.shadowOf (s : State) (m : WMember) : Option (Nat × Nat) :=
  let e := if m.block < 9 then s.phys m.block else 9
  let base := dmaChanBase e 0
  let a := s.memberAddr m
  if (m.block < 9 ∨ m.block = 0x30) ∧ base ≤ a ∧ (a - base) / 0x80 < (if e = 9 then 64 else 16) ∧
      0x40 ≤ (a - base) % 0x80 ∧ (a - base) % 0x80 < 0x50 then some (e, (a - base) / 0x80)
  else none

/-- The state with every Wings set changed. -/
def State.mapWings (s : State) (f : WingsSet → WingsSet) : State :=
  { s with wings := s.wings.map (fun (x : Nat × WingsSet) => (x.1, f x.2)) }

/-- R58: a write to a channel's shadow by another agent than the Wings unit unseals what armed sets hold there. -/
def State.unsealMembers (s : State) (e n : Nat) : State :=
  s.mapWings (fun x => if x.st = .armed then { x with
    members := x.members.map (fun (m : WMember) => if s.shadowOf m = some (e, n) then { m with isSealed := false } else m) } else x)

/-- R58: a write to a member's live register in the cycle of the strobe lands after the apply and is counted. -/
def State.noteOverride (s : State) (a : Nat) : State :=
  s.mapWings (fun x => if x.st = .applied ∧ x.appliedAt = s.now ∧ x.members.any (fun (m : WMember) => s.memberAddr m == a) then
    { x with overrides := x.overrides + 1 } else x)

/-- R263, R268: what a write of a channel's registers does: CTL; a shadow, which is then no longer sealed; SEAL. -/
def State.dmaAction (s : State) (e a : Nat) (mask v : Word) : Option State :=
  let base := dmaChanBase e 0
  if a < base ∨ (if e = 9 then 64 else 16) ≤ (a - base) / 0x80 then none
  else
    let n := (a - base) / 0x80
    let o := (a - base) % 0x80
    if o = 0 then some (s.writeChCtl e n mask v)
    else if 0x40 ≤ o ∧ o < 0x50 then some ((s.unsealMembers e n).setFld (rDMA_CH_SHCTL e n) fDMA_CH_SHCTL_SEALED 0)
    else if o = 0x50 then
      let s1 := if getF (v &&& mask) fDMA_CH_SHCTL_SEAL = 1 then s.dmaSeal e n else s
      some (s1.dmaBoundary e n)
    else none

/-- R275: a write of HQP_CMD. -/
def State.hqpCmd (s : State) (who : Agent) (w : Word) : State :=
  let t := getF w fHQP_CMD_TARGET
  let h := getF w fHQP_CMD_HANDLE
  match getF w fHQP_CMD_OP with
  | 1 => State.noteHq who (s.hqAlloc (s.poolOk who t) (holderOf who) t)
  | 2 => State.noteHq who (s.hqPush (s.queueOk who t) t h)
  | 3 => State.noteHq who (s.hqPop (s.queueOk who t) (holderOf who) t)
  | 4 => State.noteHq who (s.hqFree (s.poolOk who (h / 4096)) h)
  | 5 => State.noteHq who (s.hqFill (s.queueOk who t) t)
  | _ => s

/-- Does the mask take in the register's high half, or its low half? -/
abbrev hiHalf (mask : Word) : Bool := mask &&& 0xFFFF0000 != 0
/-- The low half. -/
abbrev loHalf (mask : Word) : Bool := mask &&& 0xFFFF != 0

/-- What a write in a core block starts. `w` is the register as the write leaves it. -/
def State.coreAction (s : State) (who : Agent) (x : Spot) (mask v w : Word) : State :=
  let p := x.p
  let b := x.blk
  let c := s.ctxOf who p
  let a := x.a
  let m := v &&& mask
  if a = rVPP_CTL p then
    let s1 := if getF m fVPP_CTL_HALT = 1 then s.vppHalt p else s
    if getF m fVPP_CTL_START = 1 then s1.vppStart p else s1
  else if a = rVPP_PC p then (if s.halted p then s.setVppPc p (maskedNat (s.vppPc p) mask.toNat v.toNat) else s)
  else if a = rVPP_MODE p ∨ a = rVPP_STATUS p ∨ a = rVPP_SP_LIM p then s.writeVpp who x mask v
  else if a = rVPP_INT_SET p then s.setReg (rVPP_INT_PEND p) (s.reg (rVPP_INT_PEND p) ||| m)
  else if a = rCORE_SS_INV_HI p then (if getF m fCORE_SS_INV_HI_GO = 1 then s.invGo (clusterOf b) b else s)
  else if a = rCORE_RWIN_STAT p then s
  else if a = rLS_PWR_CTL p then s.setBankOn p (getF w fLS_PWR_CTL_BANK_ON)
  else if a = rFROND_JOB_Q p then (if loHalf mask then s.frondPush b (getF w fFROND_JOB_Q_DESC_OFS) else s)
  else if a = rFROND_CTL p then
    let s1 := if getF m fFROND_CTL_RESUME = 1 then s.frondResume b else s
    if getF m fFROND_CTL_FLUSH = 1 then s1.frondFlush p else s1
  else if a = rFROND_REP_ROW p ∨ a = rFROND_REP_COL0 p ∨ a = rFROND_REP_COL1 p then s.writeSkips p a v
  else if a = rDMA_POST_CTL p then (if getF m fDMA_POST_CTL_GO = 1 then s.post p (w ||| 0x80000000) else s)
  else if a = rMBX_STAT p then (if getF m fMBX_STAT_POP = 1 then s.mbxPop p else s)
  else if a = rHQP_CMD p then (if hiHalf mask then s.hqpCmd who w else s)
  else if a = rCORE_BAR_ARRIVE p then
    (if loHalf mask then s.barArrive who (getF w fCORE_BAR_ARRIVE_BAR) (getF w fCORE_BAR_ARRIVE_GEN) else s)
  else if a = rSTRIPE_FB p then (if hiHalf mask then s.stripeFb b c w else s)
  else if a = rSTRIPE_XREL p then (if loHalf mask then s.stripeXrel b w else s)
  else if a = rSTRIPE_DONE p then (if hiHalf mask then s.stripeDone b c w else s)
  else (s.dmaAction p a mask v).getD s

/-- R46, R48: a write in the group of a cue queue: an entry word, which CUEQ_ENTRY3 commits, FLUSH and RESUME. -/
def State.cueAction (s : State) (q : QueueId) (a : Nat) (mask v w : Word) : State :=
  let g := queueGroup q
  let x := s.cq q.num
  if a = rCUEQ_ENTRY g 0 then s.setCq q.num { x with w0 := w }
  else if a = rCUEQ_ENTRY g 1 then s.setCq q.num { x with w1 := w }
  else if a = rCUEQ_ENTRY g 2 then s.setCq q.num { x with w2 := w }
  else if a = rCUEQ_ENTRY g 3 then
    (if hiHalf mask then s.pushCue q (CueEntry.ofWords x.w0 x.w1 x.w2 w) (entryReserved x.w2) else s)
  else if a = rCUEQ_CTL g then
    let s1 := if getF (v &&& mask) fCUEQ_CTL_FLUSH = 1 then
        s.setCq q.num { x with
          entries := []
          halted := false }
      else s
    let y := s1.cq q.num
    if getF (v &&& mask) fCUEQ_CTL_RESUME = 1 ∧ y.halted then
      s1.setCq q.num { y with
        entries := y.entries.tail
        halted := false }
    else s1
  else s

/-- What a write in the hub DMA block starts. -/
def State.hubAction (s : State) (a : Nat) (mask v w : Word) (clamped : Bool) : State :=
  let m := v &&& mask
  if isInst (rNB4_TBL_LO 0) 4 6 a then
    (if clamped then s.setFld rNB4_STAT ⟨(a - rNB4_TBL_LO 0) / 8 + 1, (a - rNB4_TBL_LO 0) / 8 + 1⟩ 1 else s)
  else if a = rHUB_TVA_INV then
    (if getF m fHUB_TVA_INV_GO = 1 then s.tvaInv (getF w fHUB_TVA_INV_ASID) (getF w fHUB_TVA_INV_PAGE) (getF w fHUB_TVA_INV_ALL == 1) else s)
  else if a = rHUB_DMA_FQ_STAT then (if getF m fHUB_DMA_FQ_STAT_POP = 1 then s.fqPop else s)
  else if a = rHUB_POST_CTL then (if bitOf m.toNat 31 then s.post 16 (w ||| 0x80000000) else s)
  else if a = rHUB_MBX_STAT then (if bitOf m.toNat 31 then s.mbxPop 16 else s)
  else (s.dmaAction 9 a mask v).getD s

/-- What a write in the barrier unit's block starts (R271, R280): a pool or a barrier that is enabled anew begins afresh. -/
def State.barrierAction (s : State) (a : Nat) (old w : Word) : State :=
  if isInst (rHP_CFG 0) 16 16 a then
    (if getF old fHP_CFG_EN = 0 ∧ getF w fHP_CFG_EN = 1 then s.poolReset (instOf (rHP_CFG 0) 16 a) else s)
  else if isInst (rBAR_CFG 0) 16 32 a then
    (if getF w fBAR_CFG_EN = 1 then s.barReset (instOf (rBAR_CFG 0) 16 a) else s)
  else s

/-- What a write in the intake's block starts (R305, R315, R323), and the inactive level of an output that the pad ring keeps
(R485). -/
def State.intakeAction (s : State) (a : Nat) (mask v old w : Word) : State :=
  if isInst (rINT_STR_CFG 0) 64 48 a then
    (if getF old fINT_STR_CFG_EN = 0 ∧ getF w fINT_STR_CFG_EN = 1 then
      let k := instOf (rINT_STR_CFG 0) 64 a
      (s.setReg (rINT_STR_FIDX k) 0).setStream k { s.stream k with
        lastNum := none
        lastFs := none }
    else s)
  else if isInst (rINT_WATCH_CFG 0) 64 12 a then s.writeWatchCfg (instOf (rINT_WATCH_CFG 0) 64 a) w
  else if isInst (rINT_FSYNC_CFG 0) 8 12 a then
    { s with power := { s.power with
        fsyncLevel := Cells.set (fun _ => false) s.power.fsyncLevel (instOf (rINT_FSYNC_CFG 0) 8 a) (getF w fINT_FSYNC_CFG_POL == 1) } }
  else if isInst (rI2C_XFER 0) 256 12 a then
    (if getF (v &&& mask) fI2C_XFER_GO = 1 then s.i2cGo (instOf (rI2C_XFER 0) 256 a) w else s)
  else s

/-- What a write in the stripe assembler's block starts (R346). -/
def State.assemblerAction (s : State) (a : Nat) (mask v old w : Word) : State :=
  if isInst (rSA_STR_CFG 0) 128 48 a then
    (if getF old fSA_STR_CFG_EN = 1 ∧ getF w fSA_STR_CFG_EN = 0 then s.saDisable (instOf (rSA_STR_CFG 0) 128 a) else s)
  else if isInst (rSA_STR_CTL 0) 128 48 a then
    (if getF (v &&& mask) fSA_STR_CTL_FLUSH = 1 then s.saFlush (instOf (rSA_STR_CTL 0) 128 a) else s)
  else s

/-- R366: the pages that a TVA window maps lie in the region that the configuration allows, up to this many MiB from its base. -/
def State.pagesAllowed (s : State) (asid base : Nat) (lo hi : Nat) : Nat → Nat
  | 0 => 0
  | n + 1 =>
    let v := s.num (s.ptPlace asid ((base + n) / 2)) 8
    let mib := bitsOf v 35 21 * 2 + (base + n) % 2
    let k := s.pagesAllowed asid base lo hi n
    if k < n then k else if bitOf v 0 && !(decide (lo ≤ mib ∧ mib ≤ hi)) then n else n + 1

/-- R366: a window is clamped into the region [ALLOW_BASE, ALLOW_LIMIT]: a DPA window to their intersection, a TVA window to the
pages, from its base up, whose frames lie there. -/
def State.clampWindow (s : State) (w : Nat) : State :=
  let lo := s.fld rEPL_ALLOW_BASE fEPL_ALLOW_BASE_BASE
  let hi := s.fld rEPL_ALLOW_LIMIT fEPL_ALLOW_LIMIT_LIMIT
  let base := s.fld (rEPL_WIN_BASE w) fEPL_WIN_BASE_BASE
  let limit := s.fld (rEPL_WIN_LIMIT w) fEPL_WIN_LIMIT_LIMIT
  if s.flag (rEPL_WIN_CTL w) fEPL_WIN_CTL_KIND then
    (s.setFld (rEPL_WIN_BASE w) fEPL_WIN_BASE_BASE (max lo base)).setFld (rEPL_WIN_LIMIT w) fEPL_WIN_LIMIT_LIMIT (min hi limit)
  else
    let n := s.pagesAllowed (s.fld (rEPL_WIN_CTL w) fEPL_WIN_CTL_ASID) base lo hi (limit + 1 - base)
    if n = limit + 1 - base then s
    else if base + n = 0 then s.setFld (rEPL_WIN_CTL w) fEPL_WIN_CTL_VALID 0
    else s.setFld (rEPL_WIN_LIMIT w) fEPL_WIN_LIMIT_LIMIT (base + n - 1)

/-- What a write in the peer-link block starts (R360, R366, R372). -/
def State.linksAction (s : State) (a : Nat) (mask v old w : Word) : State :=
  if isInst (rEPL_CTL 0) 256 6 a then
    let l := instOf (rEPL_CTL 0) 256 a
    if getF (v &&& mask) fEPL_CTL_RESET = 1 ∧ s.linkSt l ≠ 0 ∧ s.linkSt l ≠ 5 then s.linkReset l 4
    else if getF old fEPL_CTL_EN = 1 ∧ getF w fEPL_CTL_EN = 0 then s.linkDown l
    else if getF w fEPL_CTL_EN = 0 ∧ s.linkSt l = 5 then s.setLinkSt l 0
    else s
  else if decide (rEPL_WIN_CTL 0 ≤ a ∧ a < rEPL_WIN_CTL 16) then s.clampWindow ((a - rEPL_WIN_CTL 0) / 16)
  else s

/-- What a write in the remaining blocks starts. -/
def State.unitAction (s : State) (a : Nat) (mask v w : Word) : State :=
  let m := v &&& mask
  if a = rAUD_CTL then (if getF m fAUD_CTL_RUN = 1 then s.audit else s)
  else if a = rPWR_OP_REQ then s.settle
  else if a = rAON_WDOG then (if getF m fAON_WDOG_KICK = 1 then { s with power := { s.power with wdog := 0 } } else s)
  else if a = rSEC_RB_ADV then s.rbAdvance (getF w fSEC_RB_ADV_LEVEL)
  else if a = rSEC_LOCK then (if getF m fSEC_LOCK_BOOT = 1 then s.lockBoot else s)
  else if a = rSEC_EMU_GATE then (if getF m fSEC_EMU_GATE_REQ = 1 then s.emuRequest else s)
  else if a = rSEC_SIG_CTL then (if getF m fSEC_SIG_CTL_GO = 1 then s.sigGo (getF w fSEC_SIG_CTL_OP) else s)
  else if a = rREH_GO then (if getF m fREH_GO_GO = 1 then s.rehGo (getF w fREH_GO_BLOCK) else s)
  else if a = rLCH_REQ then s.lichenAsk (getF w fLCH_REQ_CODE) (getF w fLCH_REQ_ONGOING == 1)
  else if a = rUSB_CFG then (if getF w fUSB_CFG_CONNECT = 1 ∧ !(s.flag rSEC_LOCK fSEC_LOCK_BOOT) then s.lockBoot else s)
  else if a = rSS_WAY_CFG 0 then s.setWayCfg 0 m.toNat
  else if a = rSS_WAY_CFG 1 then s.setWayCfg 1 m.toNat
  else if a = rSS_INV_HI 0 then (if getF m fSS_INV_HI_GO = 1 then s.invGo 0 9 else s)
  else if a = rSS_INV_HI 1 then (if getF m fSS_INV_HI_GO = 1 then s.invGo 1 9 else s)
  else s

/-- Registers whose written word is not stored: the action that a write starts does all of it. -/
def actionOnly (x : Spot) : Bool :=
  [rSS_WAY_CFG 0, rSS_WAY_CFG 1, rSIDE_ALERT_STAT].contains x.a ||
    (x.blk < 9 && [rVPP_PC x.p, rVPP_MODE x.p, rVPP_STATUS x.p, rVPP_SP_LIM x.p, rFROND_REP_ROW x.p, rFROND_REP_COL0 x.p,
      rFROND_REP_COL1 x.p].contains x.a)

/-- A write of a listed register under a mask. -/
def State.regStore (s : State) (who : Agent) (x : Spot) (r : RegRow) (mask v : Word) : State :=
  let old := s.reg x.a
  let raw := r.merge (s.regLocked x.a) old mask v
  let w := s.regClamp x raw
  let s1 := if actionOnly x then s else s.setReg x.a w
  match cueQueueAt x.blk x.o with
  | some q => s1.cueAction q x.a mask v w
  | none =>
    if x.blk < 9 then (if cueOffset x.o then s else s1.coreAction who x mask v w)
    else if x.blk = 0x30 then s1.hubAction x.a mask v w (isInst (rNB4_TBL_LO 0) 4 6 x.a && (s.clampTable x.a raw).2)
    else if x.blk = 0x31 then s1.barrierAction x.a old w
    else if x.blk = 0x20 then s1.intakeAction x.a mask v old w
    else if x.blk = 0x21 then s1.assemblerAction x.a mask v old w
    else if x.blk = 0x28 then s1.linksAction x.a mask v old w
    else if x.a = rSIDE_ALERT_STAT then s.clearAlerts (v &&& mask)
    else s1.unitAction x.a mask v w

/-- A register write under a mask of the register's bits: all of them, or the half that core program stores. A write to a sealed
region of instruction memory ends in a bus error (R204). -/
def State.regWrite (s : State) (who : Agent) (a : Nat) (mask v : Word) : Answer × State :=
  match s.spot who a with
  | none => (.error, s)
  | some x =>
    if s.switching = some x.blk then (.waits, s)
    else if x.imem then
      let o := x.o - 0x80000
      if bitOf (s.fld (rCORE_IMEM_LOCK x.p) fCORE_IMEM_LOCK_LOCK) (o / 0x4000) then (.error, s)
      else (.ok 0, s.setNum (imemPlace x.p o) 4 ((BitVec.ofNat 32 (s.num (imemPlace x.p o) 4) &&& ~~~mask) ||| (v &&& mask)).toNat)
    else if x.embedded then (.ok 0, s)
    else match regRow (blkBase x.blk + x.o) with
      | none => (.ok 0, s)
      | some r => (.ok 0, if s.writeIgnored who x then s else (s.noteOverride x.a).regStore who x r mask v)

/-! ### The commands -/

/-- The answer of an access by command: the word and whether it ended in a bus error. An access to an index that is being
switched waits (R19), and one that waits for another reason leaves the last answer. -/
def State.noteBus (s : State) (x : Answer × State) (held : Option HeldAccess) : State :=
  match x.1 with
  | .ok w => { x.2 with host := { x.2.host with
      busData := w
      busError := false } }
  | .error => { x.2 with host := { x.2.host with
      busData := 0
      busError := true } }
  | .waits => match held with
    | some h => if s.switching.isSome then { s with waiting := s.waiting ++ [h] } else s
    | none => s

/-- R5, R6: REGISTER_WRITE. -/
def execRegisterWrite (x : Agent) (a : BitVec 40) (v : Word) (s : State) : Out :=
  done (s.noteBus (s.regWrite x a.toNat 0xFFFFFFFF v) (some ⟨true, a.toNat, v⟩))

/-- R6: RC_COUNTER_READ, a read of a register with an RC field. -/
def execRcCounterRead (x : Agent) (a : BitVec 40) (s : State) : Out :=
  done (s.noteBus (s.regRead x a.toNat 0xFFFFFFFF) (some ⟨false, a.toNat, 0⟩))

/-- R33: LO_LATCH_READ, a read of the low word of a time. -/
def execLoLatchRead (x : Agent) (a : BitVec 40) (s : State) : Out :=
  done (s.noteBus (s.regRead x a.toNat 0xFFFFFFFF) (some ⟨false, a.toNat, 0⟩))

end Sys2Proof.Machine
end

