-- ==== Sys2Proof/Machine/Noc.lean ====
section
/-!
DEFINITION. The mesh of routers (R9, R10) and the bookings of NoC windows (R51, R53).
-/
namespace Sys2Proof.Machine

/-- R9, R10: the routers that a packet passes, first along x and then along y. Router `6 * y + x` lies at (x, y). -/
def nocPath (src dst : Nat) : Nat → List Nat
  | 0 => [src]
  | n + 1 =>
    let x := src % 6
    let y := src / 6
    let next := if x < dst % 6 then src + 1 else if dst % 6 < x then src - 1 else if y < dst / 6 then src + 6 else src - 6
    if src = dst then [src] else src :: nocPath next dst n

/-- R10: the links of a path, each as the routers at its ends. -/
def nocLinks (src dst : Nat) : List (Nat × Nat) :=
  let l := nocPath src dst 8
  l.zip l.tail

/-- R9: a DDR4 channel is at this router. -/
def nocDdr (r : Nat) : Bool := (1 ≤ r && r ≤ 4) || (19 ≤ r && r ≤ 22)

/-- R9: the router of a DDR4 channel. -/
def nocDdrRouter (ch : Nat) : Nat := if ch < 4 then 1 + ch else 15 + ch

/-- A window as it is booked: source router, destination router, bandwidth in units of 8 B per core cycle, duration in ns. -/
structure Booking where
  src : Nat
  dst : Nat
  bw : Nat
  dur : Nat
  deriving DecidableEq, Repr

/-- R51, R53: the bookings sum to at most 48 B per core cycle on every link and 12.8 GB/s on every DDR4 channel, and a window to
DDR4 stays open for at most 40 µs. -/
def bookingsOk (l : List Booking) : Bool :=
  let links := l.flatMap (fun b => nocLinks b.src b.dst)
  l.all (fun b => decide (b.src < 24 ∧ b.dst < 24) && (!nocDdr b.dst || decide (b.dur ≤ 40000))) &&
  links.all (fun k => decide (((l.filter (fun b => (nocLinks b.src b.dst).contains k)).map (·.bw)).foldl (· + ·) 0 * 8 ≤ 48)) &&
  (List.range 24).all (fun r => !nocDdr r ||
    decide (((l.filter (fun b => b.dst == r || b.src == r)).map (·.bw)).foldl (· + ·) 0 * 80 ≤ 128))

end Sys2Proof.Machine
end

