-- ==== Sys2Proof/Machine/Wings.lean ====
section
/-!
DEFINITION. The Wings (R54 to R61, R501, R502): members and the registers that may be staged, the projected state and the rule
classes W1 to W7, arming, sealing and the strobe, and the shares of fabric sets.
-/
namespace Sys2Proof.Machine

/-! ### Members -/

/-- The place of a member's register. -/
def State.memberSpot (s : State) (m : WMember) : Option Spot := s.spot .prompter (blkBase m.block + m.ofs)

/-- R364: the member names the module's time-tree parent (log entry 40). -/
def WMember.parent (m : WMember) : Bool := m.block == 0x28 && m.ofs == Config.timeTreeOffset

/-- R231: a way mode of 0b11 leaves a way unchanged. -/
def mergeWays (old v : Word) : Word :=
  BitVec.ofNat 32 ((List.range 16).foldl (fun n w =>
    let m := bitsOf v.toNat (2 * w + 1) (2 * w)
    n + (if m = 3 then bitsOf old.toNat (2 * w + 1) (2 * w) else m) * 4 ^ w) 0)

/-- R55: the word that a member's value leaves in its register. -/
def State.memberWord (s : State) (m : WMember) : Option (Spot × Word) :=
  match s.memberSpot m with
  | none => none
  | some x =>
    match regRow (blkBase x.blk + x.o) with
    | none => none
    | some r =>
      let v := if x.a = rSS_WAY_CFG 0 ∨ x.a = rSS_WAY_CFG 1 then mergeWays (s.reg x.a) m.value else m.value
      some (x, s.regClamp x (r.merge (s.regLocked x.a) (s.reg x.a) 0xFFFFFFFF v))

/-- A register that a member may stand for holds a field that a write changes. -/
def writable (a : Nat) : Bool := (regRow a).any (fun r => r.flds.any (fun f => f.acc == .rw || f.acc == .rwl))

/-- R387: the registers in which WINGS_STAGE accepts members, apart from those whose owner decides. -/
def stageable (fabric : Bool) (blk o : Nat) : Bool :=
  let a := blkBase blk + o
  writable a &&
  ((blk == 0x20 && (decide (0x1000 ≤ o ∧ o < 0x1300) || decide (0x2000 ≤ o ∧ o < 0x2C00) || decide (0x5000 ≤ o ∧ o < 0x5060) ||
      isInst (rINT_WATCH_CFG 0) 64 12 a || isInst (rINT_WATCH_THR 0) 64 12 a)) ||
   (blk == 0x21 && (decide (0x1000 ≤ o ∧ o < 0x2800 ∧ (o - 0x1000) % 0x80 < 0x50) || decide (0x10000 ≤ o ∧ o < 0x16000))) ||
   (blk == 0x30 && isInst (rNB4_TBL_LO 0) 4 6 a) ||
   (blk == 0x28 && fabric && (isInst (rEPL_ROUTE 0) 4 24 a || decide (rEPL_WIN_CTL 0 ≤ a ∧ a < rEPL_WIN_CTL 16))))

/-- R387: every bank that a write of LS_PWR_CTL changes is owned by a script. -/
def State.banksOwned (s : State) (b : Nat) (old new : Nat) : Bool :=
  (List.range 12).all (fun i => bitOf old i == bitOf new i ||
    s.scripts.any (fun (x : Nat × Script) => x.2.decl.cores.any (fun d => d.core == b && bitOf d.lsBanks i)))

/-- R387: every way that a write of SS_WAY_CFG changes is owned by a script. -/
def State.waysOwned (s : State) (c : Nat) (old new : Nat) : Bool :=
  (List.range 16).all (fun w => bitsOf old (2 * w + 1) (2 * w) == bitsOf new (2 * w + 1) (2 * w) ||
    s.scripts.any (fun (x : Nat × Script) =>
      bitOf (x.2.decl.ss.getD (2 * c) 0) w || bitOf (x.2.decl.ss.getD (2 * c + 1) 0) w))

/-- R387: WINGS_STAGE accepts a member. `s` is the projected state against which bank and way changes are judged. -/
def State.mayStage (s : State) (fabric : Bool) (m : WMember) : Bool :=
  (m.parent && fabric) || stageable fabric m.block m.ofs ||
  (match s.shadowOf m with
    | some (e, n) => (s.chanScript e n).isSome
    | none =>
      match s.memberWord m with
      | none => false
      | some (x, w) =>
        if m.block < 9 ∧ x.a = rLS_PWR_CTL x.p then s.banksOwned m.block (s.reg x.a).toNat w.toNat
        else if x.a = rSS_WAY_CFG 0 then s.waysOwned 0 (s.reg x.a).toNat w.toNat
        else if x.a = rSS_WAY_CFG 1 then s.waysOwned 1 (s.reg x.a).toNat w.toNat
        else false)

/-- R55, R376: a member as it is staged, and the clamps that its staging reports: the field's low bit, the value asked for and
the value applied. -/
def State.stageMember (s : State) (m : WMember) : WMember × List (Nat × Int × Int) :=
  match s.memberWord m with
  | none => (m, [])
  | some (x, w) =>
    let r := ((regRow (blkBase x.blk + x.o)).map (·.flds)).getD []
    let l := (r.filter (fun f => f.acc == .rw || f.acc == .rwl)).filterMap (fun f =>
      let was := getF m.value ⟨f.hi, f.lo⟩
      let now := getF w ⟨f.hi, f.lo⟩
      if was = now ∨ x.a = rSS_WAY_CFG 0 ∨ x.a = rSS_WAY_CFG 1 then none else some (f.lo, (was : Int), (now : Int)))
    ({ m with value := if x.a = rSS_WAY_CFG 0 ∨ x.a = rSS_WAY_CFG 1 then m.value else w }, l)

/-! ### The projected state (R56) -/

/-- R56: the registers after a member has been applied, without what else the write of a live register starts. -/
def State.projMember (s : State) (m : WMember) : State :=
  match s.memberWord m with
  | none => s
  | some (x, w) => s.setReg x.a w

/-- R56: the registers after a set has been applied. -/
def State.projSet (s : State) (x : WingsSet) : State :=
  let s1 := x.members.foldl State.projMember s
  (x.members.filterMap (fun m => s.shadowOf m)).foldl (fun t k => t.dmaHandover k.1 k.2) s1

/-- A set's number put into a list that is sorted by T. -/
def State.insertByTime (s : State) (n : Nat) : List Nat → List Nat
  | [] => [n]
  | k :: l => if (s.wset n).time < (s.wset k).time then n :: k :: l else k :: s.insertByTime n l

/-- The ARMED sets in order of T. -/
def State.armedSets (s : State) : List Nat :=
  ((s.wings.filter (fun (x : Nat × WingsSet) => x.2.st == .armed)).map (·.1)).foldl (fun l n => s.insertByTime n l) []

/-- R56: the projected state for a T; with no T given, that of every ARMED set. -/
def State.projected (s : State) (n : Nat) (t : Option Nat) : State :=
  (s.armedSets.filter (fun k => k != n && (match t with
    | some t => decide ((s.wset k).time < t)
    | none => true))).foldl (fun u k => u.projSet (s.wset k)) s

/-- R54, R55, R387: what staging members into set `n` ends in. -/
inductive Staging where
  | wrongState
  | notPermitted
  | tooMany
  /-- The members are staged; the clamps by item: the field's low bit, the value asked for and the value applied. -/
  | ok (s : State) (clamps : List (Nat × Nat × Int × Int))
  deriving DecidableEq, Repr

/-- R54, R55, R387: members are staged into a set, all of them or none; a CHECKED set returns to OPEN. -/
def State.stageAll (s : State) (n : Nat) (ms : List WMember) : Staging :=
  let x := s.wset n
  let total := s.wings.foldl (fun (k : Nat) (y : Nat × WingsSet) => k + y.2.members.length) 0
  if x.st ≠ .opened ∧ x.st ≠ .checked then .wrongState
  else if ms.any (fun m => !((s.projected n none).mayStage (x.fabric != 0) m)) then .notPermitted
  else if 512 < x.members.length + ms.length ∨ 8192 < total + ms.length then .tooMany
  else
    let r := ms.map s.stageMember
    .ok (s.setWset n { x with
      st := .opened
      members := x.members ++ r.map (·.1) })
      (r.mapIdx (fun i y => y.2.map (fun c => (i, c)))).flatten

/-! ### The rule classes (R56) -/

/-- R381: a violation: rule class, module, member, value, conflicting value, conflicting member or limit. -/
structure Violation where
  rule : Nat
  module : Nat
  member : Nat
  value : Nat
  conflict : Nat
  other : Nat
  deriving DecidableEq, Repr

/-- R348: the stream record that drives a stream, as a loaded script declares it. -/
def State.streamRecord (s : State) (k : Nat) : Option (List Byte) :=
  (s.scripts.flatMap (fun (x : Nat × Script) => x.2.decl.streams)).find? (fun r => (r.getD 0 0).toNat == k)

/-- A number in a stream record. -/
def recordField (r : List Byte) (o n : Nat) : Nat := ofLeBytes ((r.drop o).take n)

/-- R300: the enabled streams of a port. -/
def State.enabledStreams (s : State) (p : Nat) : List Nat :=
  ((List.range 4).map (fun i => 4 * p + i)).filter (fun k => s.flag (rINT_STR_CFG k) fINT_STR_CFG_EN)

/-- R300: a stream's data rate, in tenths of kbit/s times its frame period, against that period: bits of a frame and ns. -/
def State.streamRate (s : State) (k : Nat) : Rat :=
  let period := ((s.streamRecord k).map (fun r => recordField r 16 4)).getD 0
  let bits := s.fld (rINT_STR_GEOM k) fINT_STR_GEOM_WIDTH * s.fld (rINT_STR_GEOM k) fINT_STR_GEOM_HEIGHT *
    bitDepth (s.fld (rINT_STR_CFG k) fINT_STR_CFG_DT)
  if period = 0 then 0 else ((bits * 1000 : Nat) : Rat) / (period : Nat)

/-- The port that a member concerns, and the stream, for W1. -/
def memberPort (m : WMember) : Option Nat :=
  if m.block = 0x20 then
    if 0x1000 ≤ m.ofs ∧ m.ofs < 0x1300 then some ((m.ofs - 0x1000) / 0x40)
    else if 0x2000 ≤ m.ofs ∧ m.ofs < 0x2C00 then some ((m.ofs - 0x2000) / 0x100)
    else none
  else none

/-- W1 (R300): the virtual channels of a port's streams differ, and its lanes hold their rates. -/
def State.checkW1 (q : State) (i : Nat) (m : WMember) : List Violation :=
  match memberPort m with
  | none => []
  | some p =>
    let l := q.enabledStreams p
    let vc (k : Nat) : Nat := q.fld (rINT_STR_CFG k) fINT_STR_CFG_VC
    let dup := l.filterMap (fun k => (l.find? (fun j => decide (j < k) && vc j == vc k)).map (fun j =>
      (⟨1, q.modId, i, k, j, vc k⟩ : Violation)))
    let cfg := rINT_PORT_CFG p
    let room := (q.fld cfg fINT_PORT_CFG_LANES_M1 + 1) * q.fld cfg fINT_PORT_CFG_RATE
    let rate := (l.map q.streamRate).foldl (· + ·) 0
    dup ++ (if rate * 10 ≤ ((room * 9 : Nat) : Rat) then [] else [⟨1, q.modId, i, m.value.toNat, p, room⟩])

/-- The stream that a member concerns, for W2. -/
def memberStream (m : WMember) : Option Nat :=
  if m.block = 0x20 ∧ 0x2000 ≤ m.ofs ∧ m.ofs < 0x2C00 then some ((m.ofs - 0x2000) / 0x40)
  else if m.block = 0x21 ∧ 0x1000 ≤ m.ofs ∧ m.ofs < 0x2800 then some ((m.ofs - 0x1000) / 0x80)
  else none

/-- A stream of the assembler as a frame that its registers would latch. -/
def State.saShape (q : State) (k : Nat) : SaFrame :=
  { fidx := 0
    height := q.fld (rINT_STR_GEOM k) fINT_STR_GEOM_HEIGHT
    width := q.fld (rINT_STR_GEOM k) fINT_STR_GEOM_WIDTH
    cfg := q.reg (rSA_STR_CFG k)
    halo := q.reg (rSA_STR_HALO k)
    base := q.fld (rSA_STR_SLOT k) fSA_STR_SLOT_BASE
    geom := q.reg (rSA_STR_GEOM k)
    dl := (q.reg (rSA_STR_DL k)).toNat
    zval := 0
    xr := (List.range 7).map (fun (i : Nat) => (q.fld (rSA_STR_XR_LO k i) fSA_STR_XR_LO_OFS, q.fld (rSA_STR_XR_HI k i) fSA_STR_XR_HI_LEN))
    isp := []
    raw := q.rawStream k
    first := 0
    record := none
    handle := none }

/-- The words of all slots of a stream. -/
def SaFrame.slots (f : SaFrame) : Nat × Nat := (f.base, f.base + f.nslot * f.slotWords)

/-- Words [lo, hi) of a core lie in banks that are, or will be, on. -/
def State.banksHold (q : State) (b lo hi : Nat) : Bool :=
  decide (hi ≤ 0x300000) && (List.range 12).all (fun i =>
    decide (hi ≤ i * 0x40000 ∨ (i + 1) * 0x40000 ≤ lo) || bitOf (q.fld (rLS_PWR_CTL (q.phys b)) fLS_PWR_CTL_BANK_ON) i)

/-- R349 rules 1 and 2, as far as registers show them: the number of the first rule that a stream's shape breaks. -/
def State.shapeFault (q : State) (k : Nat) (f : SaFrame) : Option Nat :=
  let xr := getF f.cfg fSA_STR_CFG_XRANGES
  let area := 64 * getF f.geom fSA_STR_GEOM_X64
  let passThrough := !f.raw
  let overlap := (List.range 48).any (fun j => j != k && q.flag (rSA_STR_CFG j) fSA_STR_CFG_EN &&
    (let g := q.saShape j
     g.cores.any (fun b => f.cores.contains b) && decide (f.slots.1 < g.slots.2 ∧ g.slots.1 < f.slots.2)))
  if (f.height + 7) / 8 * 8 < f.h ∨ (passThrough ∧ (f.halo ≠ 0 ∨ f.xchg ∨ f.refEn)) ∨
      (!f.xchg ∧ (area ≠ 0 ∨ xr ≠ 0)) ∨ (f.xr.take xr).any (fun r => decide (area < r.1 + r.2)) then some 1
  else if f.stride < f.hl + f.width + f.hr ∨ !(f.cores.all (fun b => q.banksHold b f.slots.1 f.slots.2)) ∨ overlap then some 2
  else none

/-- W2: stripe height and width against the buffers and halo declared. -/
def State.checkW2 (q : State) (i : Nat) (m : WMember) : List Violation :=
  match memberStream m with
  | none => []
  | some k =>
    let f := q.saShape k
    if f.cores.isEmpty then []
    else match q.shapeFault k f with
      | some r => [⟨2, q.modId, i, m.value.toNat, k, r⟩]
      | none => []

/-- W3: the period of a queued frame-sync cue against the minimum of its output. -/
def State.checkW3 (q : State) (i : Nat) (m : WMember) : List Violation :=
  if m.block = 0x20 ∧ 0x5000 ≤ m.ofs ∧ m.ofs < 0x5060 then
    let n := (m.ofs - 0x5000) / 8
    let min := q.fld (rINT_FSYNC_CFG n) fINT_FSYNC_CFG_MIN_PERIOD_US
    (q.cueq.flatMap (fun (x : Nat × CueQueue) => x.2.entries)).filterMap (fun e =>
      if e.op = 0x08 ∧ bitsOf e.arg 3 0 = n ∧ e.period ≠ 0 ∧ e.period < min then
        some ⟨3, q.modId, i, min, e.period, min⟩
      else none)
  else []

/-- R205, R231: a DPA lies in a shared-store way that is, or will be, a scratchpad, or not in a shared store. -/
def State.wayHolds (q : State) (dpa : Nat) : Bool :=
  if 0x4800000000 ≤ dpa ∧ dpa < 0x4804000000 then
    let c := (dpa - 0x4800000000) / 0x2000000
    let o := (dpa - 0x4800000000) % 0x2000000
    decide (o < 0x1000000) && q.wayMode c (o / 0x100000) == 1
  else true

/-- R263: the ring of a hub channel lies in memory that is powered. A core channel's ring lies in X, which has no power control. -/
def State.ringPowered (q : State) (e n : Nat) : Bool :=
  if e < 9 then true
  else
    let base := (q.reg (rDMA_CH_RING_LO e n)).toNat + q.fld (rDMA_CH_RING_HI e n) fDMA_CH_RING_HI_BASE_HI * 2 ^ 32
    let size := 64 * 2 ^ q.chCfg e n fDMA_CH_CFG_RING_LOG2
    if 0x4000000000 ≤ base ∧ base < 0x4009000000 then
      let b := (base - 0x4000000000) / 0x1000000
      let lo := (base - 0x4000000000) % 0x1000000 / 2
      decide (0x300000 ≤ lo) || q.banksHold b lo (lo + size / 2)
    else q.wayHolds base && q.wayHolds (base + size - 1)

/-- W4: rings of DMA channels, those of the set and those that are enabled, against the banks and ways that are on. -/
def State.checkW4 (q : State) (i : Nat) (m : WMember) : List Violation :=
  match q.shadowOf m with
  | some (e, n) => if q.ringPowered e n then [] else [⟨4, q.modId, i, m.value.toNat, n, 0⟩]
  | none =>
    let a := q.memberAddr m
    if (m.block < 9 ∧ m.ofs = 0x300) ∨ a = rSS_WAY_CFG 0 ∨ a = rSS_WAY_CFG 1 then
      (List.range 64).filterMap (fun n =>
        if q.chEn 9 n && !q.ringPowered 9 n then some ⟨4, q.modId, i, m.value.toNat, n, 0⟩ else none)
    else []

/-- The windows as they are booked. -/
def State.bookings (s : State) : List Booking :=
  (s.noc.filter (fun (x : Nat × NocWindow) => x.2.booked)).map (fun (x : Nat × NocWindow) => ⟨x.2.src, x.2.dst, x.2.bw, x.2.dur⟩)

/-- W6: the ISP parameters of a frame-bound set are those of the stream whose frame it is bound to. -/
def State.checkW6 (q : State) (isp : Option Nat) (i : Nat) (m : WMember) : List Violation :=
  match isp with
  | some k =>
    if m.block = 0x21 ∧ 0x10000 ≤ m.ofs ∧ (m.ofs - 0x10000) / 0x200 ≠ k then
      [⟨6, q.modId, i, (m.ofs - 0x10000) / 0x200, k, 0⟩]
    else []
  | none => []

/-- W7: no member is shared with another ARMED set of equal T. -/
def State.checkW7 (s : State) (n t : Nat) (i : Nat) (m : WMember) : List Violation :=
  (s.armedSets.filter (fun k => k != n && (s.wset k).time == t)).flatMap (fun k =>
    ((s.wset k).members.zipIdx.filter (fun y => y.1.block == m.block && y.1.ofs == m.ofs)).map (fun y =>
      (⟨7, s.modId, i, m.value.toNat, y.1.value.toNat, y.2⟩ : Violation)))

/-- R56: every violation of a set against its projected state for a T. -/
def State.violations (s : State) (n : Nat) (t : Option Nat) : List Violation :=
  let x := s.wset n
  let q := (s.projected n t).projSet x
  (x.members.zipIdx.flatMap (fun y =>
    q.checkW1 y.2 y.1 ++ q.checkW2 y.2 y.1 ++ q.checkW3 y.2 y.1 ++ q.checkW4 y.2 y.1 ++ q.checkW6 x.isp y.2 y.1 ++
      (match t with | some t => s.checkW7 n t y.2 y.1 | none => []))) ++
  (if bookingsOk s.bookings then [] else [⟨5, s.modId, 0, 0, 0, 0⟩])

/-! ### Leaving ARMED -/

/-- R502: every shadow that is still sealed with a value of the set is unsealed. -/
def State.unsealSet (s : State) (n : Nat) : State :=
  let x := s.wset n
  let s1 := (x.members.filterMap (fun m => if m.isSealed then s.shadowOf m else none)).foldl
    (fun t k => t.setFld (rDMA_CH_SHCTL k.1 k.2) fDMA_CH_SHCTL_SEALED 0) s
  let s2 := s1.setWset n { x with members := x.members.map (fun (m : WMember) => { m with isSealed := false }) }
  { s2 with streams := s2.streams.map (fun (y : Nat × StreamState) => (y.1, { y.2 with bindings := y.2.bindings.filter (· != n) })) }

/-- R58, R59, R61: an ARMED set fails: its shadows are unsealed, and a WINGS_FAILED event gives the status. -/
def State.failSet (s : State) (n status : Nat) : State :=
  let s1 := s.unsealSet n
  (s1.setWset n { s1.wset n with st := .failed }).postEvent 0x0006 255 n status

/-- R59: every ARMED set of later T is checked again; one that now fails moves to FAILED with an event (CHECK_FAILED). -/
def State.recheckLater (s : State) (t : Nat) : State :=
  (s.armedSets.filter (fun k => decide (t < (s.wset k).time))).foldl (fun u k =>
    if (u.violations k (some (s.wset k).time)).isEmpty then u else u.failSet k 0x10) s

/-- R54: a set returns to FREE; one that was ARMED is unsealed, and later sets are checked again. -/
def State.releaseSet (s : State) (n : Nat) : State :=
  let x := s.wset n
  if x.st = .armed then (((s.unsealSet n).setWset n {})).recheckLater x.time else s.setWset n {}

/-- R501: SLEEP and DARK entry: an event for each ARMED set that has not applied, and every set is FREE. -/
def State.wingsSleep (s : State) : State :=
  let l := s.armedSets
  let s1 := l.foldl (fun t n => (t.unsealSet n).postEvent 0x0006 255 n 0x0F) s
  { s1 with wings := [] }

/-! ### The strobe (R57, R58, R60) -/

/-- R36, R387: the parent in the time tree is set; with no link named the module stands alone (R39). -/
def State.setParent (s : State) (v : Nat) : State :=
  let sync : SyncState := { parent := if v < 6 then some v else none }
  let s1 := { s with time := { s.time with sync := sync } }
  if v < 6 then
    let (h, s2) := s1.free Config.timeTreeHops
    ((s2.setFld rCUE_STATUS fCUE_STATUS_MASTER 0).setFld rCUE_STATUS fCUE_STATUS_HOPS h).setFld rCUE_STATUS fCUE_STATUS_ALIGN_OK 0
  else ((s1.setFld rCUE_STATUS fCUE_STATUS_MASTER 1).setFld rCUE_STATUS fCUE_STATUS_HOPS 0).setFld rCUE_STATUS fCUE_STATUS_ALIGN_OK 1

/-- R57: a member's value switches into its register. A DMA shadow takes it, and is handed over with its channel. -/
def State.applyMember (s : State) (m : WMember) : State :=
  if m.parent then s.setParent m.value.toNat
  else match s.memberSpot m with
    | none => s
    | some x =>
      if (s.shadowOf m).isSome then s.setReg x.a m.value
      else match regRow (blkBase x.blk + x.o) with
        | none => s
        | some r => s.regStore .prompter x r 0xFFFFFFFF m.value

/-- R57: every member switches in one core cycle. -/
def State.applyMembers (s : State) (x : WingsSet) : State :=
  let s1 := x.members.foldl State.applyMember s
  (x.members.filterMap (fun m => s.shadowOf m)).eraseDups.foldl (fun t k => t.dmaHandover k.1 k.2) s1

/-- R57, R58: the strobe of an ARMED set: applied whole, or found unsealed and failed with APPLY_ABORTED and the member. -/
def State.strobe (s : State) (n : Nat) : State :=
  let x := s.wset n
  match x.members.findIdx? (fun m => !m.isSealed) with
  | some i =>
    let s1 := s.setWset n { x with failedMember := some i }
    (s1.failSet n 0x11).recheckLater x.time
  | none =>
    let s1 := s.applyMembers x
    s1.setWset n { x with
      st := .applied
      appliedAt := s.now
      members := x.members.map (fun (m : WMember) => { m with isSealed := false }) }

/-- R57, R61: a set has a strobe of its own, and its T has come. -/
def State.strobeDue (s : State) (n : Nat) : Bool :=
  let x := s.wset n
  x.st == .armed && x.isp.isNone && decide (x.time ≤ s.now) && (x.fabric == 0 || x.committed)

/-- R43, R57: WINGS_APPLY: a hub entry that names the set fires, and the strobe of a set whose T has come applies it. -/
def execWingsApply (n : Fin 64) (s : State) : Out :=
  let apply (s : State) : State := if s.awake ∧ s.strobeDue n.val then s.strobe n.val else s
  match s.firing .hub 0x0B with
  | some e => done (if bitsOf e.arg 5 0 = n.val then s.fire .hub 0x0B (fun _ t => some (apply t)) else apply s)
  | none => done (apply s)

/-! ### Arming (R57) -/

/-- R57: T as clamped: at least cue time + 50 µs + 20 ns for each member. -/
def State.clampApplyTime (s : State) (n t : Nat) : Nat := max t (s.now + 50000 + 20 * (s.wset n).members.length)

/-- R57: every member is copied into its unit's shadow and sealed. -/
def State.sealSet (s : State) (n : Nat) : State :=
  let x := s.wset n
  let s1 := x.members.foldl (fun (t : State) m =>
    match s.shadowOf m, s.memberSpot m with
    | some (e, c), some sp => (t.setReg sp.a m.value).setFld (rDMA_CH_SHCTL e c) fDMA_CH_SHCTL_SEALED 1
    | _, _ => t) s
  s1.setWset n { x with members := x.members.map (fun (m : WMember) => { m with isSealed := true }) }

/-- R61: the time master as this module knows it: itself where it is the master, else the lowest-numbered module to which it has
a route (R34). -/
def State.masterModule (s : State) : Nat :=
  if s.master then s.modId
  else ((List.range 24).find? (fun d => d == s.modId || (s.routeOf d).isSome)).getD s.modId

/-- R61: the module's check result for a fabric set goes to the time master. -/
def State.reportSet (s : State) (fabric : Nat) (pass : Bool) : State :=
  (s.sendMsg (s.message 0x38 s.masterModule 0 (leBytes 2 fabric ++ [if pass then 0 else 1]) [])).getD s

/-- R57: a CHECKED set is armed for T: sealed, with the later sets checked again; or it fails the test for T. -/
def State.armSet (s : State) (n t : Nat) (isp : Option Nat) : State × List Violation :=
  let x := s.wset n
  let s1 := s.setWset n { x with
    time := t
    isp := isp }
  match s1.violations n (some t) with
  | [] =>
    let s2 := (s1.setWset n { s1.wset n with
      st := .armed
      committed := false
      late := false
      overrides := 0
      failedMember := none }).sealSet n
    let s3 := if x.fabric = 0 then s2 else s2.reportSet x.fabric true
    (s3.recheckLater t, [])
  | v =>
    let s2 := s1.setWset n { s1.wset n with st := .failed }
    (if x.fabric = 0 then s2 else s2.reportSet x.fabric false, v)

/-! ### Fabric sets (R61, R364) -/

/-- R61: WINGS_COMMIT_DEADLINE: a share whose COMMIT has not come by T − 1 ms is cancelled. -/
def execWingsCommitDeadline (n : Fin 64) (s : State) : Out :=
  let x := s.wset n.val
  if x.st = .armed ∧ x.fabric ≠ 0 ∧ !x.committed ∧ x.time ≤ s.now + 1000000 then
    done ((s.failSet n.val 0x10).recheckLater x.time)
  else done s

/-- R61: a report reaches the time master; with a pass from every member, and routes and tree that pass (R364), it sends COMMIT
to each. -/
def State.takeReport (s : State) (m : LinkMsg) : State :=
  let id := m.field 16 2
  let old := (s.reports.find? (fun (r : FabricReport) => r.set == id)).getD { set := id }
  let new : FabricReport := { old with
    modules := if old.modules.contains m.src then old.modules else old.modules ++ [m.src]
    failed := old.failed || m.field 18 1 != 0 || !Config.fabricRoutesOk id m.data }
  let s1 := { s with reports := s.reports.filter (fun (r : FabricReport) => r.set != id) ++ [new] }
  let members := Config.fabricMembers id
  if !new.failed ∧ members.all (fun d => new.modules.contains d) then
    let s2 := { s1 with reports := s1.reports.filter (fun (r : FabricReport) => r.set != id) }
    members.foldl (fun t d => (t.sendMsg (t.message 0x39 d 0 (leBytes 2 id) [])).getD t) s2
  else if new.failed ∧ !old.failed then s1.postEvent 0x0006 255 (id % 256) 0x10
  else s1

/-- R61: WINGS_RPT. -/
def execWingsRpt (l : Fin 7) (s : State) : Out :=
  match s.headMsg l.val 0x38 with
  | some m =>
    let s1 := s.freeRx l.val m
    done (if s.master then s1.takeReport m else s1)
  | none => done s

/-- R61: WINGS_COMMIT: every share of the fabric set whose deadline has not passed will apply at its T. -/
def execWingsCommit (l : Fin 7) (s : State) : Out :=
  match s.headMsg l.val 0x39 with
  | some m =>
    let s1 := s.freeRx l.val m
    let id := m.field 16 2
    done (s1.mapWings (fun x => if x.st = .armed ∧ x.fabric = id ∧ id ≠ 0 ∧ s.now + 1000000 ≤ x.time then
      { x with committed := true } else x))
  | none => done s

end Sys2Proof.Machine
end

