-- ==== Sys2Proof/Machine/FrameStart.lean ====
section
/-!
DEFINITION. Frame Start packets (R305, R319 to R321), which open frames and carry the strobe of frame-bound Wings sets.
-/
namespace Sys2Proof.Machine

/-- R319: the sets bound to the next Frame Start of stream `k` apply, in the order of binding; the last one applied. -/
def State.applyBound (s : State) (k : Nat) : State × Option Nat :=
  let x := s.stream k
  x.bindings.foldl (fun (u : State × Option Nat) n =>
    if (u.1.wset n).st = .armed ∧ (u.1.wset n).isp = some k then
      let t := u.1.strobe n
      (t, if (t.wset n).st = .applied then some n else u.2)
    else u) (s.setStream k { x with bindings := [] }, none)

/-- R320: a list that is still sending at a Frame Start of its stream marks frame K + LAT. -/
def State.listAtStart (s : State) (k fidx : Nat) : State :=
  match (s.bus (k / 4)).list with
  | some n =>
    if s.fld (rINT_WL n) fINT_WL_STREAM = k % 4 then s.markSet k ((fidx + s.fld (rINT_WL n) fINT_WL_LAT) % 2 ^ 32) else s
  | none => s

/-- R305, R320: the marks that a frame has when it opens: FNUM and SET. -/
def startMarks (x : StreamState) (fidx num : Nat) : Nat :=
  let jump := match x.lastNum with
    | some l => num != 0 && num != l + 1 && num != 1
    | none => false
  b2n jump * 2 ^ 8 + b2n (x.setNext || x.setMarks.contains fidx) * 2 ^ 9

/-- R301, R305: a Frame Start of stream `k` is accepted. -/
def State.frameStart (s : State) (k num : Nat) : State :=
  let s0 := s.closeFrame k true
  let (s1, isp) := s0.applyBound k
  let fidx := ((s1.reg (rINT_STR_FIDX k)).toNat + 1) % 2 ^ 32
  let s2 := (s1.setReg (rINT_STR_FIDX k) (BitVec.ofNat 32 fidx)).setTime (rINT_STR_FS_LO k) s.now
  let s3 := match (s2.stream k).lastFs with
    | some t => s2.setReg (rINT_STR_PERIOD k) (BitVec.ofNat 32 (s.now - t))
    | none => s2
  let x := s3.stream k
  let cfg := s3.reg (rINT_STR_CFG k)
  let geom := s3.reg (rINT_STR_GEOM k)
  let deliver := s3.awake && s3.flag (rSA_STR_CFG k) fSA_STR_CFG_EN
  let f : OpenFrame :=
    { fidx := fidx
      fnum := num
      time := s.now
      ns := s.time.ns
      cfg := cfg
      geom := geom
      marks := startMarks x fidx num
      ispSet := isp.getD 255
      deliver := deliver }
  let s4 := s3.setStream k { x with
    frame := some f
    lastNum := some num
    lastFs := some s.now
    setMarks := x.setMarks.filter (· != fidx)
    setNext := false }
  let s5 := s4.listAtStart k fidx
  let dt := getF cfg fINT_STR_CFG_DT
  if deliver then s5.saOpen k fidx (getF geom fINT_STR_GEOM_HEIGHT) (getF geom fINT_STR_GEOM_WIDTH) (decide (0x2A ≤ dt ∧ dt ≤ 0x2E))
  else s5

/-- R299, R305: FRAME_START on a virtual channel of a port, with the sensor's frame number. -/
def execFrameStart (p : Fin 12) (vc : Fin 16) (num : Half) (corrected : Bool) (s : State) : Out :=
  let s1 := s.noteHeader p.val corrected
  match s1.streamsOn p.val vc.val with
  | [] => done (s1.unmatched p.val)
  | l => done (l.foldl (fun t k => t.frameStart k num.toNat) s1)

end Sys2Proof.Machine
end

