-- ==== Sys2Proof/Machine/Rehearsal.lean ====
section
/-!
DEFINITION. Rehearsal and repair (R452 to R469): what a slice does to its block, the outcome of its comparison, repairs and
retirement, planned swaps and replacements of cores, the analogue checks and the patrol scrub.
-/
namespace Sys2Proof.Machine

/-! ### Cores that leave and enter service -/

/-- The range of register addresses of a core block that R458 copies, by offset. -/
def migrates (o : Nat) : Bool :=
  decide (o < 0x150) || decide (0x300 ≤ o ∧ o < 0x308) || decide (0x1100 ≤ o ∧ o < 0x1200) ||
    decide (0x3000 ≤ o ∧ o < 0x3800) || o == 0x4030

/-- R463, R465: registers that a re-initialisation reloads from the repair maps. -/
def repairReg (o : Nat) : Bool := decide (0x1040 ≤ o ∧ o < 0x104C) || decide (0xC00 ≤ o ∧ o < 0xD00)

/-- The offset of a register of physical core `p`, if `a` is one (its cue queue is not, R41). -/
def coreOffset (p a : Nat) : Option Nat :=
  if blkBase p ≤ a ∧ a < blkBase (p + 1) ∧ !(cueOffset (a - blkBase p)) then some (a - blkBase p) else none

/-- The place lies in the stores or the instruction memory of physical core `p`. -/
def inCore (p k : Nat) : Bool :=
  decide (corePlace p 0 ≤ k ∧ k < corePlace p 0 + 0x680000) || decide (imemPlace p 0 ≤ k ∧ k < imemPlace p 0 + 0x40000)

/-- Entries of a map whose keys, divided by `n`, give `p` are dropped. -/
def dropKey {α : Type} (n p : Nat) (l : Cells α) : Cells α := l.filter (fun (x : Nat × α) => x.1 / n != p)

/-- Entries of a map whose keys, divided by `n`, give `p` move to `q`. -/
def moveKey {α : Type} (n p q : Nat) (l : Cells α) : Cells α :=
  let kept := l.filter (fun (x : Nat × α) => x.1 / n != p && x.1 / n != q)
  (l.filter (fun (x : Nat × α) => x.1 / n == p)).foldl (fun m (x : Nat × α) => Cells.put m (n * q + x.1 % n) x.2) kept

/-- R453: a physical core is re-initialised: stores zero-filled, registers, contexts, channels, scoreboard, frond and chain
cleared; the repair maps stay. -/
def State.clearCore (s : State) (p : Nat) : State :=
  { s with
    mem := s.mem.filter (fun (x : Nat × Byte) => !(inCore p x.1))
    regs := s.regs.filter (fun (x : Nat × Word) => match coreOffset p x.1 with
      | some o => repairReg o
      | none => true)
    ecc := s.ecc.filter (fun (x : Nat × Nat) => !(inCore p x.1))
    writeBacks := s.writeBacks.filter (fun k => !(inCore p k))
    resv := s.resv.filter (fun x => !(inCore p x.1) && x.2 / 4 != p)
    banks := s.banks.filter (fun (x : Nat × BankTrans) => x.1 / 16 != p)
    vpp := dropKey 1 p s.vpp
    sb := dropKey 1 p s.sb
    dma := dropKey 64 p s.dma
    hqp := dropKey 4 p s.hqp
    arrivals := dropKey 4 p s.arrivals
    chain := dropKey 1 p s.chain
    fronds := dropKey 1 p s.fronds
    sa := { s.sa with ports := dropKey 4 p s.sa.ports }
    hub := { s.hub with
      boxes := dropKey 1 p s.hub.boxes
      posts := dropKey 1 p s.hub.posts } }

/-- R458: the place on core `q` that corresponds to a place of core `p`. -/
def movePlace (p q k : Nat) : Nat :=
  if imemPlace p 0 ≤ k then imemPlace q (k - imemPlace p 0) else corePlace q 0 + (k - corePlace p 0)

/-- R458: the migration path copies core `p` to core `q`. -/
def State.migrate (s : State) (p q : Nat) : State :=
  let s1 := s.clearCore q
  let bankOff (k : Nat) : Bool := decide (k < corePlace p 0x300000) && !(s.bankOn p ((k - corePlace p 0) / 0x80000))
  let cells := s.mem.filter (fun (x : Nat × Byte) => inCore p x.1 && !(bankOff x.1))
  let s2 := cells.foldl (fun (t : State) (x : Nat × Byte) => t.setByte (movePlace p q x.1) x.2) s1
  let s3 := s.regs.foldl (fun (t : State) (x : Nat × Word) => match coreOffset p x.1 with
    | some o => if migrates o then t.setReg (blkBase q + o) x.2 else t
    | none => t) s2
  { s3 with
    vpp := moveKey 1 p q s3.vpp
    dma := moveKey 64 p q s3.dma
    hqp := moveKey 4 p q s3.hqp
    arrivals := moveKey 4 p q s3.arrivals
    sa := { s3.sa with ports := moveKey 4 p q s3.sa.ports }
    resv := s3.resv.map (fun x => (if inCore p x.1 then movePlace p q x.1 else x.1,
      if x.2 / 4 = p then 4 * q + x.2 % 4 else x.2)) }

/-- R461: the core in the spare slot is healthy: not retired, and rehearsed whole since it was released or failed. -/
def State.spareHealthy (s : State) : Bool :=
  !(bitOf (s.fld rREH_SPARE fREH_SPARE_RETIRED) (s.phys 8)) && !(s.reh.released.contains (s.phys 8))

/-- R461: cores that are not retired. -/
def State.healthyCores (s : State) : Nat :=
  ((List.range 9).filter (fun p => !(bitOf (s.fld rREH_SPARE fREH_SPARE_RETIRED) p))).length

/-- R17, R19: index `b` moves onto the core in the spare slot, and its old core takes that slot; R461: the old core must be
rehearsed before it serves again. Accesses that waited complete against the incoming core. -/
def State.switchIndex (s : State) (b : Nat) : State :=
  let p := s.phys b
  let q := s.phys 8
  let s1 := { s with
    coreMap := Cells.set id s.coreMap b q
    switching := none
    waiting := []
    reh := { s.reh with
      swap := none
      released := s.reh.released.filter (· != p) ++ [p] } }
  let s2 := (s1.setFld rREH_SPARE fREH_SPARE_PHYS p).setFld (rCHAIN_CFG p) fCHAIN_CFG_EN 0
  s.waiting.foldl (fun (t : State) (h : HeldAccess) =>
    if h.write then t.noteBus (t.regWrite .prompter h.addr 0xFFFFFFFF h.value) none
    else t.noteBus (t.regRead .prompter h.addr 0xFFFFFFFF) none) s2

/-- R204, R460: the script's instruction-memory contents for core `b` are written, and the regions that they touch sealed. -/
def State.loadCode (s : State) (b : Nat) (x : Script) : State :=
  let p := s.phys b
  (x.decl.code.filter (fun y => y.1 == b)).foldl (fun (t : State) y =>
    let t1 := t.setBytes (imemPlace p y.2.1) (y.2.2.take (0x40000 - y.2.1))
    let lock := t1.fld (rCORE_IMEM_LOCK p) fCORE_IMEM_LOCK_LOCK
    let touched := (List.range 16).filter (fun r => !y.2.2.isEmpty && decide (y.2.1 < (r + 1) * 0x4000 ∧ r * 0x4000 < y.2.1 + y.2.2.length))
    t1.setFld (rCORE_IMEM_LOCK p) fCORE_IMEM_LOCK_LOCK
      (touched.foldl (fun m r => if bitOf m r then m else m + 2 ^ r) lock)) s

/-! ### Slices -/

/-- The form in which a slice is listed in `reh.done`. -/
def State.sliceId (s : State) (block : Nat) : Nat := if block < 4096 then 65536 * s.phys 8 + block else block

/-- R453, R455: the block is fenced: a way's lines are dropped and lookups skip it. -/
def State.sliceFence (s : State) (block : Nat) : State :=
  if block / 4096 = 1 then
    let c := block / 16 % 2
    let s1 := s.dropWay c (block % 16)
    s1.setCache c { s1.cache c with fencedWays := (s1.cache c).fencedWays ++ [block % 16] }
  else s

/-- R453: the block is unfenced. -/
def State.sliceUnfence (s : State) (block : Nat) : State :=
  if block / 4096 = 1 then
    let c := block / 16 % 2
    s.setCache c { s.cache c with fencedWays := (s.cache c).fencedWays.filter (· != block % 16) }
  else s

/-- R453: requests in flight to the block have completed. -/
def State.sliceDrained (s : State) (block : Nat) : Bool :=
  match block / 4096 with
  | 0 => (List.range 16).all (fun n => (s.chan (s.phys 8) n).st == .idle)
  | 1 => !(s.wayBusy (block / 16 % 2) (block % 16))
  | 2 => (List.range 8).all (fun i => let n := block % 8 * 8 + i; (s.chanScript 9 n).isSome || (s.chan 9 n).st == .idle)
  | _ => true

/-- R453: the block is re-initialised. -/
def State.sliceReinit (s : State) (block : Nat) : State := if block / 4096 = 0 then s.clearCore (s.phys 8) else s

/-- R452, R453: a slice that runs is given up: the block is re-initialised and unfenced. -/
def State.sliceAbort (s : State) : State :=
  match s.reh.slice with
  | none => s
  | some x =>
    { (s.sliceReinit x.block).sliceUnfence x.block with reh := { s.reh with slice := none } }.setFld rREH_STAT fREH_STAT_STATE 0

/-- R453: REH_SLICE_START: the block is fenced and begins to drain. -/
def execRehSliceStart (s : State) : Out :=
  match s.reh.slice with
  | none => done s
  | some x =>
    if x.phase = 1 then
      done ({ s.sliceFence x.block with reh := { s.reh with slice := some { x with
        phase := 2
        since := s.time.ns } } }.setFld rREH_STAT fREH_STAT_STATE 2)
    else done s

/-- R453, R454: REH_DRAIN_TIMEOUT: a block that has not drained within 100 µs is unfenced unchanged, with result ABANDONED. A slice
that is abandoned a second time in a rotation is recorded as skipped. -/
def execRehDrainTimeout (s : State) : Out :=
  match s.reh.slice with
  | none => done s
  | some x =>
    if x.phase = 2 ∧ x.since + 100000 ≤ s.time.ns ∧ !(s.sliceDrained x.block) then
      let id := s.sliceId x.block
      let again := s.reh.abandoned.contains id
      let s1 := { s.sliceUnfence x.block with reh := { s.reh with
        slice := none
        abandoned := if again then s.reh.abandoned else s.reh.abandoned ++ [id] } }
      let s2 := (s1.setFld rREH_STAT fREH_STAT_STATE 0).setFld rREH_STAT fREH_STAT_RESULT 3
      done (if again then s2.lichenFw 0x040B x.block 1 0 0 else s2)
    else done s

/-! ### Repair (R462 to R465) -/

/-- R465: an entry is appended to the field repair map. -/
def State.mapWrite (s : State) (e : RepairEntry) (cause : Nat) : State :=
  if 32768 ≤ s.reh.mapEntries then s
  else
    let b := leBytes 1 e.kind ++ leBytes 1 e.phys ++ leBytes 1 e.mem ++ leBytes 1 e.bank ++ leBytes 2 e.index ++ leBytes 2 e.spare ++
      leBytes 4 s.lichen.opsec ++ leBytes 4 s.sec.pwrCyc ++ List.replicate 14 0 ++ leBytes 1 cause ++ [0xA5]
    let s1 := s.setBytes (norPlace (0x3100000 + 32 * s.reh.mapEntries)) b
    { s1 with reh := { s1.reh with
      mapEntries := s.reh.mapEntries + 1
      repairs := s.reh.repairs ++ [e] } }

/-- R461, R464: the core in the spare slot is retired. -/
def State.retire (s : State) (block : Nat) : State :=
  let p := s.phys 8
  let r := s.fld rREH_SPARE fREH_SPARE_RETIRED
  if bitOf r p then s
  else
    let s1 := (s.setFld rREH_SPARE fREH_SPARE_RETIRED (r + 2 ^ p)).mapWrite ⟨5, p, 0, 0, 0, 0⟩ 1
    s1.lichenFw 0x0407 p block s1.healthyCores 0

/-- R464: repairs in force of one kind in one structure. -/
def State.repairCount (s : State) (kind phys mem bank : Nat) : Nat :=
  (s.reh.repairs.filter (fun (e : RepairEntry) => e.kind == kind && e.phys == phys && e.mem == mem && e.bank == bank)).length

/-- R463, R464: a faulty row or column of the frond in the spare slot enters its skip list in place of a spare that the list holds;
the core is retired where no such spare is left. -/
def State.repairFrond (s : State) (block : Nat) (d : Defect) : State :=
  let p := s.phys 8
  let row := d.kind == 1
  let list := if row then s.skipRows p else s.skipCols p
  let first := if row then 256 else 256
  if list.any (fun x => x.1 == d.index) then s
  else
    let free := list.filter (fun x => !x.2 && decide (first ≤ x.1) &&
      !(s.reh.repairs.any (fun (e : RepairEntry) => e.kind == d.kind && e.phys == p && e.index == x.1)))
    match (free.find? (fun x => x.1 == d.spare)).or free.head? with
    | none => s.retire block
    | some y =>
      let l := skipRepair list d.index y.1 false
      let s1 := if row then s.setSkipRows p l else s.setSkipCols p l
      (s1.mapWrite ⟨d.kind, p, 0, 0, d.index, y.1⟩ 1).lichenFw 0x0403 p (b2n (!row)) d.index y.1

/-- A free repair entry of a table of 64, and spare row: the first ones. -/
def State.freeEntry (s : State) (base : Nat) : Option Nat := (List.range 64).find? (fun e => !(bitOf (s.reg (base + 4 * e)).toNat 31))

/-- R464: a faulty row of a memory of the core in the spare slot. -/
def State.repairRow (s : State) (block : Nat) (d : Defect) : State :=
  let p := s.phys 8
  let used := s.repairCount 3 p d.mem d.bank
  match s.freeEntry (rMEM_REP p 0) with
  | none => s.retire block
  | some e =>
    if 4 ≤ used then s.retire block
    else
      let spare := if s.reh.repairs.any (fun (x : RepairEntry) => x.kind == 3 && x.phys == p && x.mem == d.mem && x.bank == d.bank &&
          x.spare == d.spare % 4) then used else d.spare % 4
      let w := 2 ^ 31 + d.mem % 4 * 2 ^ 28 + d.bank % 16 * 2 ^ 24 + spare * 2 ^ 11 + d.index % 2048
      ((s.setReg (rMEM_REP p e) (BitVec.ofNat 32 w)).mapWrite ⟨3, p, d.mem, d.bank, d.index, spare⟩ 1).lichenFw 0x0404 p
        (d.mem * 16 + d.bank) d.index spare

/-- R464: a faulty row of a shared-store way; a way with more faulty rows than spares is marked failed. -/
def State.repairWay (s : State) (c w : Nat) (d : Defect) : State :=
  let used := s.repairCount 3 (0x10 + c) 0 w
  match s.freeEntry (rSS_REP c 0) with
  | some e =>
    if used < 4 then
      let spare := if s.reh.repairs.any (fun (x : RepairEntry) => x.kind == 3 && x.phys == 0x10 + c && x.bank == w &&
          x.spare == d.spare % 4) then used else d.spare % 4
      let v := 2 ^ 31 + w * 2 ^ 16 + spare * 2 ^ 11 + d.index % 2048
      ((s.setReg (rSS_REP c e) (BitVec.ofNat 32 v)).mapWrite ⟨3, 0x10 + c, 0, w, d.index, spare⟩ 1).lichenFw 0x0404 (0x10 + c) w
        d.index spare
    else if s.reh.failedWays.contains (16 * c + w) then s
    else
      let s1 := { s with reh := { s.reh with failedWays := s.reh.failedWays ++ [16 * c + w] } }.mapWrite ⟨4, 0x10 + c, 0, w, 0, 0⟩ 1
      s1.lichenFw 0x040D c w (used + 1) 0
  | none => s

/-- R461, R464: a confirmed failure is repaired as its diagnosis localises it. A core whose failure is not localised is retired. -/
def State.repairBlock (s : State) (block : Nat) (ds : List Defect) : State :=
  if block / 4096 = 0 then
    if ds.isEmpty then s.retire block
    else ds.foldl (fun (t : State) d => if d.kind = 1 ∨ d.kind = 2 then t.repairFrond block d else t.repairRow block d) s
  else if block / 4096 = 1 then ds.foldl (fun (t : State) d => t.repairWay (block / 16 % 2) (block % 16) d) s
  else s

/-- R461: a slice has passed; a core that has passed its 48 slices is healthy again. -/
def State.slicePassed (s : State) (block : Nat) : State :=
  let id := s.sliceId block
  let s1 := { s with reh := { s.reh with done := if s.reh.done.contains id then s.reh.done else s.reh.done ++ [id] } }
  let p := s.phys 8
  if block < 4096 ∧ (List.range 48).all (fun n => s1.reh.done.contains (65536 * p + n)) then
    { s1 with reh := { s1.reh with
      released := s1.reh.released.filter (· != p)
      lastWhole := Cells.set (fun _ => 0) s1.reh.lastWhole p ((s1.reg rREH_ROT_CNT).toNat + 1) } }
  else s1

/-- R453, R454: REH_SLICE_END: the signature is compared, the block re-initialised and unfenced. `cut` says that the engine cut the
test short; `ds` is what the diagnosis slice of a confirmed failure finds. -/
def execRehSliceEnd (cut : Bool) (misr : Word) (ds : List Defect) (s : State) : Out :=
  match s.reh.slice with
  | none => done s
  | some x =>
    if x.phase ≠ 2 ∨ !(s.sliceDrained x.block) then done s
    else
      let p := if x.block < 4096 then s.phys 8 else 0
      let expect := s.reg rREH_EXPECT
      let s1 := ((s.setReg rREH_MISR misr).sliceReinit x.block).setFld rREH_STAT fREH_STAT_STATE 0
      let stop (t : State) (result : Nat) : State :=
        { t.sliceUnfence x.block with reh := { t.reh with slice := none } }.setFld rREH_STAT fREH_STAT_RESULT result
      if cut then done (stop s1 2)
      else
        let s2 := s1.countWrap rREH_SLICE_CNT wholeReg
        if misr = expect then
          let s3 := (stop s2 0).slicePassed x.block
          if x.repeated then
            let s4 := { s3.count rREH_TRANS_CNT with reh := { s3.reh with transients := s3.reh.transients + 1 } }
            done (s4.lichenFw 0x0402 x.block x.misr expect.toNat p)
          else done s3
        else if !x.repeated then
          done ({ s2.sliceUnfence x.block with reh := { s2.reh with slice := some { x with
            phase := 1
            since := s.time.ns
            repeated := true
            misr := misr.toNat } } }.setFld rREH_STAT fREH_STAT_STATE 1)
        else
          let s3 := stop s2 1
          let s4 := { s3.count rREH_FAIL_CNT with reh := { s3.reh with failed := s3.reh.failed + 1 } }
          done ((s4.lichenFw 0x0401 x.block misr.toNat expect.toNat p).repairBlock x.block ds)

/-! ### Planned swaps (R456 to R459) -/

/-- R162: no product is in flight on a core. -/
def State.noProducts (s : State) (p : Nat) : Bool := (List.range 4).all (fun c => (s.ctx p c).flight.isEmpty)

/-- R457: the outgoing core is quiet. -/
def State.coreQuiet (s : State) (b : Nat) : Bool :=
  let p := s.phys b
  let x := s.frond p
  s.halted p && s.noProducts p && x.queue.isEmpty && x.cur.isNone && x.saved.isNone && x.drain.isEmpty && x.halted.isEmpty &&
    (List.range 16).all (fun n => !(s.chan p n).fetching && ((s.chan p n).st == .idle || (s.chan p n).st == .waitLaunch)) &&
    (s.sboard p).entries.isEmpty && !(s.remotes.any (fun r => r.slot == b)) &&
    (Cells.get (fun _ => []) s.hub.boxes p).isEmpty && (Cells.get (fun _ => []) s.hub.posts p).isEmpty &&
    !(s.flag (rCORE_SS_INV_STAT p) fCORE_SS_INV_STAT_BUSY) && (s.chainBuf p).isEmpty

/-- R456, R457: a swap of index `b` begins with its quiescing. -/
def State.swapStart (s : State) (b : Nat) : State :=
  { s with reh := { s.reh with swap := some { logical := b, since := s.time.ns, phase := 1, halted := s.halted (s.phys b) } } }

/-- R457: the quiescing goes on: the VPP is halted at a bundle boundary at which no product is in flight; the quiet core's barrier 31
releases and the migration starts. -/
def State.swapQuiesce (s : State) (x : Swap) : State :=
  let p := s.phys x.logical
  let s1 := if s.noProducts p then s.vppHalt p else s
  if s1.coreQuiet x.logical then
    let s2 := s1.barArrive .prompter 31 (s1.barGen 31)
    let s3 := if s2.barSt 31 = 1 then s2.barRelease 31 false else s2
    { s3 with
      switching := some x.logical
      reh := { s3.reh with swap := some { x with
        phase := 2
        since := s.time.ns } } }.setFld rREH_STAT fREH_STAT_STATE 5
  else s1

/-- R456: the index whose physical core has gone longest without a whole test, of those that may still be swapped. -/
def State.swapChoice (s : State) : Option Nat :=
  let age (b : Nat) : Nat := Cells.get (fun _ => 0) s.reh.lastWhole (s.phys b)
  ((List.range 8).filter (fun b => decide (Cells.get (fun _ => 0) s.reh.attempts b < 3) && !(s.host.fenced.contains b))).foldl
    (fun (best : Option Nat) b => match best with
      | none => some b
      | some a => if age b < age a then some b else some a) none

/-- R456: PLANNED_SWAP: at its time one of the 8 swaps of a rotation begins, and while the outgoing core quiesces it goes on. -/
def execPlannedSwap (s : State) : Out :=
  match s.reh.swap with
  | some x => done (if x.phase = 1 ∧ s.awake then s.swapQuiesce x else s)
  | none =>
    let due := decide (s.reh.swaps < 8 ∧
      (s.reh.rotStart * 9 + s.fld rREH_CTL fREH_CTL_ROT_HOURS * (s.reh.swaps + 1) ≤ s.sec.activeHours * 9))
    if s.awake ∧ due ∧ s.spareHealthy ∧ s.reh.slice.isNone ∧ !(s.flag rREH_CTL fREH_CTL_PAUSE) then
      match s.swapChoice with
      | some b => done ({ s with reh := { s.reh with swaps := s.reh.swaps + 1 } }.swapStart b)
      | none => done s
    else done s

/-- R457: SWAP_QUIESCE_TIMEOUT: a core that is not quiet within 10 ms: the swap is abandoned and the held entries are released.
After three abandoned attempts the core is not tested in this rotation. -/
def execSwapQuiesceTimeout (s : State) : Out :=
  match s.reh.swap with
  | none => done s
  | some x =>
    if x.phase = 1 ∧ x.since + 10000000 ≤ s.time.ns then
      let n := Cells.get (fun _ => 0) s.reh.attempts x.logical + 1
      let s1 := { s with reh := { s.reh with
        swap := none
        attempts := Cells.set (fun _ => 0) s.reh.attempts x.logical n } }
      let s2 := if x.halted then s1 else s1.setFld (rVPP_CTL (s.phys x.logical)) fVPP_CTL_HALTED 0
      done (if n = 3 then s2.lichenFw 0x040B 0 2 0 0 else s2)
    else done s

/-- R458: the bytes that a migration of physical core `p` copies. -/
def State.migrationBytes (s : State) (p : Nat) : Nat :=
  ((List.range 12).filter (fun i => s.bankOn p i)).length * 0x80000 + 0xC0000

/-- R458: MIGRATION_DONE: the copy has ended, the index switches and the contexts resume. -/
def execMigrationDone (s : State) : Out :=
  match s.reh.swap with
  | none => done s
  | some x =>
    let p := s.phys x.logical
    let q := s.phys 8
    if x.phase = 2 ∧ x.since + s.migrationBytes p / 64 + 2000 ≤ s.time.ns then
      let s1 := s.migrate p q
      let s2 := if x.halted then s1 else s1.setFld (rVPP_CTL q) fVPP_CTL_HALTED 0
      let s3 := ((s2.switchIndex x.logical).count rREH_SWAP_CNT).setFld rREH_STAT fREH_STAT_STATE 0
      done (s3.lichenFw 0x0405 x.logical p q ((s.time.ns - x.since) / 1000))
    else done s

/-! ### Failed cores (R460, R461) -/

/-- R460: an in-service core has failed: the audit has fenced it; three uncorrectable errors; its VPP has halted on BUS_ERROR. -/
def State.hasFailed (s : State) (b cause : Nat) : Bool :=
  let p := s.phys b
  match cause with
  | 0 => s.host.fenced.contains b
  | 1 => decide (3 ≤ (s.reg (rMEM_ECC_UE_CNT p)).toNat)
  | _ => s.halted p && bitsOf ((s.ctx p (s.core p).cur).raw nSTATUS) 31 24 == 0x23

/-- R460, R461: CORE_FAILURE: the scripts bound to the index fault. With a healthy spare the index begins to switch, and a slice on
the spare is aborted; without one the index is fenced. -/
def execCoreFailure (b : Fin 8) (cause : Fin 3) (s : State) : Out :=
  if !(s.hasFailed b.val cause.val) ∨ s.switching.isSome then done s
  else
    let bound := (s.scripts.filter (fun (x : Nat × Script) => x.2.decl.cores.any (fun d => d.core == b.val))).map (·.1)
    let s1 := bound.foldl (fun (t : State) n => t.scriptFault n (Config.haltCause 0) b.val) s
    if s.spareHealthy then
      let s2 := if s1.reh.slice.any (fun x => decide (x.block < 4096)) then s1.sliceAbort else s1
      let s3 := match s2.reh.swap with
        | some x => if x.halted then s2 else s2.setFld (rVPP_CTL (s2.phys x.logical)) fVPP_CTL_HALTED 0
        | none => s2
      done { s3 with
        switching := some b.val
        reh := { s3.reh with swap := some { logical := b.val, since := s.time.ns, phase := 3, cause := cause.val } } }
    else done ((s1.fence b.val).lichenFw 0x0408 b.val 0 0 0)

/-- R460: accesses to a core that are in flight. -/
def State.flightTo (s : State) (b : Nat) : List RemoteAccess :=
  s.remotes.filter (fun r => !r.answered && decide (0x4000000000 + b * 0x1000000 ≤ r.dpa ∧ r.dpa < 0x4000000000 + (b + 1) * 0x1000000))

/-- R19, R460: CORE_INDEX_SWITCH: once the accesses in flight to the failed core have drained, or after 100 µs as bus errors, the index
switches to the spare, whose stores hold zeros, and its instruction memory is loaded again. -/
def execCoreIndexSwitch (s : State) : Out :=
  match s.reh.swap with
  | none => done s
  | some x =>
    let b := x.logical
    let left := s.flightTo b
    if x.phase = 3 ∧ (left.isEmpty ∨ x.since + 100000 ≤ s.time.ns) then
      let p := s.phys b
      let q := s.phys 8
      let s1 := left.foldl (fun (t : State) r => t.answerRemote r.id false []) s
      let s2 := (s1.clearCore q).setReg (rCHAIN_CFG q) (s1.reg (rCHAIN_CFG p))
      let s3 := s2.barArrive .prompter 31 (s2.barGen 31)
      let s4 := if s3.barSt 31 = 1 then s3.barRelease 31 false else s3
      let s5 := { s4.switchIndex b with chain := dropKey 1 p s4.chain }
      let s6 := (s5.scripts.map (·.2)).foldl (fun (t : State) y => t.loadCode b y) s5
      done ((s6.unfence b).lichenFw 0x0406 b p q (Config.replaceCause x.cause))
    else done s

/-! ### Analogue checks and the patrol scrub (R466, R467) -/

/-- R467, R468: an analogue check has failed. -/
def State.analogueFail (s : State) (check inst measured limit : Nat) : State :=
  s.lichenFw 0x040A (Config.checkNumber check) inst measured limit

/-- R467: DPHY_LOOPBACK of a port that is not receiving a frame: any bit error fails. -/
def execDphyLoopback (p : Fin 12) (errors : Nat) (s : State) : Out :=
  let busy := (List.range 4).any (fun k => (s.stream (4 * p.val + k)).frame.isSome)
  done (if s.awake ∧ !busy ∧ 0 < errors then s.analogueFail 0 p.val errors 0 else s)

/-- R467: EPL_PRBS_LOOPBACK of a link that is DOWN or disabled. 1 ms at 112.5 Gbit/s carries 1.125 × 10⁸ bits, so one error lies above
10⁻¹². -/
def execEplPrbsLoopback (l : Fin 6) (errors : Nat) (s : State) : Out :=
  let free := s.linkSt l.val == 0 || !(s.flag (rEPL_CTL l.val) fEPL_CTL_EN)
  done (if s.awake ∧ free ∧ 0 < errors then s.analogueFail 1 l.val errors (Config.analogueFigure 1) else s)

/-- A number inserted into a rising list. -/
def insertInt (x : Int) : List Int → List Int
  | [] => [x]
  | y :: l => if x ≤ y then x :: y :: l else y :: insertInt x l

/-- R467: the median of some readings; of an even number of them, the mean of the middle two. -/
def medianOf (l : List Int) : Int :=
  let m := l.foldl (fun acc x => insertInt x acc) []
  let n := m.length
  if n % 2 = 1 then m.getD (n / 2) 0 else asr (m.getD (n / 2 - 1) 0 + m.getD (n / 2) 0) 1

/-- R467: one sensor against the median of its cluster. -/
def State.crossCheck (s : State) (c i : Nat) : State :=
  let med := medianOf ((s.clusterSensors c).map s.rawTemp)
  let d := s.rawTemp i - med
  let off := decide (100 < d ∨ d < -100)
  let since := Cells.find s.power.tempBad i
  if off then
    match since with
    | none => { s with power := { s.power with tempBad := Cells.put s.power.tempBad i s.time.ns } }
    | some t =>
      if t + 60000000000 ≤ s.time.ns ∧ !(s.power.tempSub.contains (64 + i)) then
        let s1 := { s with power := { s.power with tempSub := s.power.tempSub ++ (if d < 0 then [i, 64 + i] else [64 + i]) } }
        s1.analogueFail 3 i (wrapTo 32 (s.rawTemp i)) (Config.analogueFigure 3)
      else s
  else { s with power := { s.power with
    tempBad := Cells.erase s.power.tempBad i
    tempSub := s.power.tempSub.filter (fun j => j != i && j != 64 + i) } }

/-- R467: TEMP_CROSSCHECK. -/
def execTempCrosscheck (s : State) : Out :=
  done ((List.range 2).foldl (fun (t : State) c => (t.clusterSensors c).foldl (fun (u : State) i => u.crossCheck c i) t) s)

/-- R467: VOLTAGE_CROSSCHECK of the two bandgaps' readings: a disagreement above 2 % of their mean. -/
def execVoltageCrosscheck (a b : Nat) (s : State) : Out :=
  let d := if a < b then b - a else a - b
  done (if a + b < d * 100 then s.analogueFail 4 0 d (Config.analogueFigure 4) else s)

/-- R466: a script owns the pages of an address space through a channel that uses it. -/
def State.asidScript (s : State) (asid : Nat) : Option Nat :=
  (s.scripts.find? (fun (x : Nat × Script) => x.2.channels.any (fun y => s.chCfg (s.engine y.1) y.2 fDMA_CH_CFG_ASID == asid))).map (·.1)

/-- R466: a frame is retired onto a reserved frame, or onto a free one where none is left; where that is mapped too, there is no free
frame and the scripts that own the frame's pages fault. -/
def State.scrubRetire (s : State) (frame spare : Nat) : State :=
  let s1 := { s with reh := { s.reh with scrub := Cells.erase s.reh.scrub frame } }
  if 0 < s1.reh.reserved then { s1 with reh := { s1.reh with reserved := s1.reh.reserved - 1 } }.pageRetire frame spare
  else if (s1.mappings spare).isEmpty then s1.pageRetire frame spare
  else (s1.mappings frame).foldl (fun (t : State) x => match t.asidScript x.1 with
    | some n => t.scriptFault n (Config.haltCause 3) 0
    | none => t) s1

/-- R466: DDR4_PATROL_SCRUB of a 64-byte line; Prompter firmware has `spare` as the next replacement frame. -/
def execDdr4PatrolScrub (line : Fin 1073741824) (spare : Fin 32768) (s : State) : Out :=
  let k := 64 * line.val
  let frame := k / 2 ^ 21
  if !s.awake then done s
  else if s.eccDouble k 64 then done ((s.noteEcc k true).scrubRetire frame spare.val)
  else
    let singles := s.eccSingles k 64
    if singles.isEmpty then done s
    else
      let s1 := { s with ecc := s.ecc.filter (fun (x : Nat × Nat) => !(singles.contains x.1)) }
      let seen := Cells.get (fun _ => []) s1.reh.scrub frame
      let all := seen ++ singles.filter (fun a => !(seen.contains a))
      if 3 ≤ all.length then done (s1.scrubRetire frame spare.val)
      else done { s1 with reh := { s1.reh with scrub := Cells.set (fun _ => []) s1.reh.scrub frame all } }

/-! ### Rotations (R452, R454, R468) -/

/-- R455: the slices of a rotation, as they are listed in `reh.done`, with their BLOCK. -/
def State.catalogue (s : State) : List (Nat × Nat) :=
  let cores := ((List.range 9).filter (fun p => !(bitOf (s.fld rREH_SPARE fREH_SPARE_RETIRED) p))).flatMap
    (fun p => (List.range 48).map (fun n => (65536 * p + n, n)))
  let group (k n : Nat) : List (Nat × Nat) := (List.range n).map (fun i => (4096 * k + i, 4096 * k + i))
  cores ++ group 1 32 ++ group 2 8 ++ group 3 4 ++ group 4 12 ++ group 5 6

/-- R454, R468: a rotation ends: slices that found no place in it are recorded, and the rotation itself. -/
def State.rotationEnd (s : State) : State :=
  let missing := s.catalogue.filter (fun x => !(s.reh.done.contains x.1))
  let s1 := missing.foldl (fun (t : State) x => t.lichenFw 0x040B x.2 3 0 0) s
  let s2 := s1.countWrap rREH_ROT_CNT wholeReg
  let s3 := s2.lichenFw 0x040C (s2.reg rREH_ROT_CNT).toNat s2.reh.failed s2.reh.transients s2.sec.activeHours
  { s3 with reh := { s3.reh with
    attempts := []
    failed := 0
    transients := 0
    done := []
    abandoned := []
    scrub := []
    rotStart := s3.sec.activeHours
    swaps := 0 } }

/-- R452: ACTIVE_HOUR_TICK: an hour in ACTIVE and IDLE has passed; the count is saved to the boot state sector. -/
def execActiveHourTick (s : State) : Out :=
  if s.awake then
    let s1 := { s with sec := { s.sec with activeHours := s.sec.activeHours + 1 } }
    done (if s1.reh.rotStart + s1.fld rREH_CTL fREH_CTL_ROT_HOURS ≤ s1.sec.activeHours then s1.rotationEnd else s1)
  else done s

end Sys2Proof.Machine
end

