-- ==== Sys2Proof/Machine/CueActions.lean ====
section
/-!
DEFINITION. The cue actions that act on other units (R43): each is a cue entry that fires (`State.fire`), with its effect on its
target, or none while the target is busy (R44).
-/
namespace Sys2Proof.Machine

/-- R43: the engine to which a queue's DMA_LAUNCH goes. -/
def State.queueEngine (s : State) : QueueId → Nat
  | .core b => s.phys b.val
  | _ => 9

/-- R43, R245: DMA_LAUNCH starts a channel on its next descriptor; one whose LAUNCH_PEND is set is busy. -/
def execDmaLaunch (q : QueueId) (s : State) : Out :=
  done (s.fire q 0x01 (fun e t =>
    let n := bitsOf e.arg 5 0
    if (t.chan (t.queueEngine q) n).launchPend then none else some (t.dmaLaunch (t.queueEngine q) n)))

/-- R43, R85: FROND_JOB enqueues a job descriptor; a full queue is busy. -/
def execFrondJob (b : Fin 8) (s : State) : Out :=
  done (s.fire (.core b) 0x02 (fun e t =>
    if t.frondFull b.val then none else some (t.frondPush b.val (bitsOf e.arg 15 0))))

/-- R189: a context that is IDLE becomes READY at VPP_CTX_PC. -/
def State.taskStart (s : State) (p c : Nat) : State :=
  (s.setCtx p c { s.ctx p c with pc := (s.reg (rVPP_CTX_PC p c)).toNat % 2 ^ 24 / 16 * 16 }).setCtxSt p c 1

/-- R43, R189: TASK_START releases a context; one that is not IDLE is busy. -/
def execTaskStart (b : Fin 8) (s : State) : Out :=
  done (s.fire (.core b) 0x03 (fun e t =>
    let p := t.phys b.val
    let c := bitsOf e.arg 1 0
    if t.ctxSt p c = 0 then some (t.taskStart p c) else none))

/-- R43, R170: VPP_INT raises a cue interrupt. -/
def execVppInt (b : Fin 8) (s : State) : Out :=
  done (s.fire (.core b) 0x04 (fun e t => some (t.raiseInt b.val (bitsOf e.arg 4 0))))

/-- R43, R283: BARRIER_RELEASE. -/
def execBarrierRelease (s : State) : Out :=
  done (s.fire .hub 0x05 (fun e t => some (t.barCue (bitsOf e.arg 4 0) (e.time + t.tol))))

/-- R43, R316: FSYNC_PULSE. -/
def execFsyncPulse (p : Fin 12) (s : State) : Out :=
  done (s.fire (.port p) 0x08 (fun e t => some (t.fsyncPulse (bitsOf e.arg 3 0) (bitsOf e.arg 15 8))))

/-- R43, R315: SENSOR_WRITE sends a write list; a busy bus is a busy target. -/
def execSensorWrite (p : Fin 12) (s : State) : Out :=
  done (s.fire (.port p) 0x09 (fun e t =>
    if t.i2cBusy p.val then none else some (t.i2cStartList p.val (bitsOf e.arg 7 0))))

/-- R319: ISP_APPLY binds an armed frame-bound set to the next Frame Start of its stream, or marks that frame SET. -/
def State.bindIsp (s : State) (k n : Nat) : State :=
  let x := s.stream k
  if (s.wset n).st = .armed ∧ (s.wset n).isp = some k then
    if x.bindings.contains n then s else s.setStream k { x with bindings := x.bindings ++ [n] }
  else s.setStream k { x with setNext := true }

/-- R43, R319, R321: ISP_APPLY, which is held in SLEEP. -/
def execIspApply (p : Fin 12) (s : State) : Out :=
  done (if s.power.st = .sleep ∨ s.power.st = .waking then s
    else s.fire (.port p) 0x0A (fun e t => some (t.bindIsp (4 * p.val + bitsOf e.arg 9 8) (bitsOf e.arg 5 0))))

/-- R43, R422: WAKE starts the wake sequence. -/
def execWake (s : State) : Out := done (s.fire .aon 0x0C (fun _ t => some (t.wakeFire 0)))

end Sys2Proof.Machine
end

