-- ==== Sys2Proof/Machine/HostCore.lean ====
section
/-!
DEFINITION. Replies, and commands that are outstanding (R373 to R378, R383 to R386, R398, R407): what the USB link and the
command layer share.
-/
namespace Sys2Proof.Machine

/-! ### HCRC (R373) -/

/-- Eight steps of the reflected CRC-32. -/
def crcSteps : Nat → BitVec 32 → BitVec 32
  | 0, c => c
  | n + 1, c => crcSteps n (if c.getLsbD 0 then (c >>> 1) ^^^ 0xEDB88320 else c >>> 1)

/-- R373: the CRC-32 of IEEE 802.3. -/
def crc32 (b : List Byte) : BitVec 32 :=
  (b.foldl (fun c x => crcSteps 8 (c ^^^ x.setWidth 32)) 0xFFFFFFFF) ^^^ 0xFFFFFFFF

/-- R373: OPCODE with its flags. -/
def opField (h : CmdHeader) (op : Nat) : Nat := op % 4096 + b2n h.strict * 2 ^ 12 + b2n h.fence * 2 ^ 13 + h.rsv % 4 * 2 ^ 14

/-- R373: bytes 0 to 11 of a header. -/
def headerBytes (h : CmdHeader) (op : Nat) : List Byte :=
  leBytes 2 (opField h op) ++ leBytes 2 h.tag ++ leBytes 4 h.length ++ leBytes 4 h.timeout

/-- R373: the header's CRC is right. -/
def cmdHeaderOk (h : CmdHeader) (op : Nat) : Bool := (crc32 (headerBytes h op)).toNat == h.hcrc

/-! ### Replies -/

/-- R375: a reply is sent on EP1 IN. -/
def State.reply (s : State) (r : Reply) : State := { s with host := { s.host with replies := s.host.replies ++ [r] } }

/-- The reply of an outstanding command. -/
def State.replyTo (s : State) (o : Outstanding) (status : Nat) (payload : List Nat) : State :=
  { s with host := { s.host with outstanding := s.host.outstanding.filter (fun x => x.tag != o.tag) } }.reply
    { opcode := o.opcode, tag := o.tag, status := if status = 0 ∧ !o.clamps.isEmpty then 1 else status, clamps := o.clamps,
      payload := payload }

/-- R384: the outstanding command with a tag. -/
def State.outstandingTag (s : State) (tag : Nat) : Option Outstanding := s.host.outstanding.find? (fun o => o.tag == tag)

/-- The state with an outstanding command changed. -/
def State.modOutstanding (s : State) (tag : Nat) (f : Outstanding → Outstanding) : State :=
  { s with host := { s.host with outstanding := s.host.outstanding.map (fun (o : Outstanding) => if o.tag = tag then f o else o) } }

/-! ### XFER (R398) -/

/-- R398, R262: bytes that the present descriptor of an XFER has landed. -/
def State.xferDone (s : State) (n : Nat) : Nat := (s.chan 9 n).pos * (s.chAtoms 9 n).dst

/-- R398: EP2 bytes that the present descriptor of an XFER has moved: channels below 48 carry data to the module. -/
def State.xferMoved (s : State) (n : Nat) : Nat :=
  let t := s.chAtoms 9 n
  (s.chan 9 n).pos * (if n < 48 then t.src else t.dst)

/-- The bytes of an XFER that one descriptor can name, of which loops 0 and 1 have at most 65,536 elements each. -/
def xferChunk (n : Nat) : Nat := if n ≤ 65536 then n else min (n / 65536) 65536 * 65536

/-- R239, R398: the descriptor by which firmware moves `bytes` EP2 bytes, as elements of one byte. -/
def xferDesc (out : Bool) (stream tva bytes frc type : Nat) : List Nat :=
  let n := xferChunk bytes
  let plain := [(n + 65535) / 65536 * 2 ^ 16 - 2 ^ 16 + (min n 65536 - 1), 2 ^ 16, 65536, 0]
  let packed := [0, 0, 0, 0]
  let usb := [stream, 3 * 2 ^ 29]
  let mem := [tva % 2 ^ 32, 2 ^ 29 + tva / 2 ^ 32 % 256]
  let loops := if frc = 0 then plain else packed
  [2 ^ 31 + 2 ^ 22 + frc * 2 ^ 16] ++ (if out then usb ++ mem ++ plain ++ loops else mem ++ usb ++ loops ++ plain) ++
    [if frc = 0 then 0 else type * 2 ^ 16, 0, 0]

/-- R398: firmware's own channel runs a descriptor that it holds in private memory. -/
def State.xferLaunch (s : State) (n asid : Nat) (d : List Nat) : State :=
  ((s.setFld (rDMA_CH_CFG 9 n) fDMA_CH_CFG_ASID asid).setFld (rDMA_CH_CTL 9 n) fDMA_CH_CTL_EN 1).modChan 9 n (fun y => { y with
    st := .run
    err := 0
    check := 0
    abortRes := 0
    fetching := false
    desc := d
    gen := 0
    pos := 0
    started := false
    status := none
    stage := 0
    collided := false
    stale := y.stale + y.unacked
    unacked := 0
    fw := true })

/-- R398: the next descriptor of an XFER: what is left of it, from where the last one ended. -/
def State.xferNext (s : State) (o : Outstanding) : State :=
  match o.args with
  | [asid, stream, tva, frc, type] =>
    let f := frcFormat frc
    let a := tva + (if frc = 0 then o.moved else o.moved / frcUnit f * frcBlock f)
    s.xferLaunch o.object asid (xferDesc (decide (o.object < 48)) stream a (o.bytes - o.moved) frc type)
  | _ => s

/-- R210: Prompter firmware invalidates both clusters' caches after it, or a transfer of its own, has written DDR4. -/
def State.dropCached (s : State) : State :=
  [0, 1].foldl (fun (t : State) c => (t.setFld (rSS_INV_HI c) fSS_INV_HI_ALL 1).invGo c 9) s

/-- R398: a stream that is no longer armed answers NRDY. -/
def State.disarm (s : State) (n : Nat) : State :=
  { s with usb := { s.usb with
    armed := Cells.set (fun _ => 0) s.usb.armed n 0
    outData := Cells.set (fun _ => []) s.usb.outData n [] } }

/-- R386, R398: an XFER is stopped: its channel is aborted, and its reply will give this status. An ABORT that comes after the
completion point changes nothing. -/
def State.stopXfer (s : State) (o : Outstanding) (status : Nat) : State :=
  let s1 := s.dmaAbort 9 o.object
  if s1.fld (rDMA_CH_CTL 9 o.object) fDMA_CH_CTL_EN = 0 ∧ (s1.chan 9 o.object).abortRes = 1 then
    (s1.modOutstanding o.tag (fun x => { x with stop := some status })).disarm o.object
  else s1

/-- R398: the status of an XFER whose channel has stopped with an error. -/
def xferError (err : Nat) : Nat := if err = 3 then 0x08 else if err = 4 then 0x03 else 0x15

/-- R398: Prompter firmware looks after one XFER: a fault of kind RETIRED is resumed, another stop is ended with ABORT, and a
channel that has finished gives the reply. -/
def State.pollXfer (s : State) (o : Outstanding) : State :=
  let x := s.chan 9 o.object
  let take (s : State) : State := { s with hub := { s.hub with
    faultQ := s.hub.faultQ.filter (fun f => !(f.engine == 9 && f.chan == o.object)) } }
  match x.st with
  | .fault => if x.faultKind = 3 then (take s).dmaResume 9 o.object else (take s).stopXfer o 0x15
  | .halt => (take s).stopXfer o (xferError x.err)
  | .idle =>
    let o1 := { o with
      moved := o.moved + s.xferMoved o.object
      landed := o.landed + s.xferDone o.object }
    if o.stop.isNone ∧ x.lastStatus = 0 ∧ o1.moved < o.bytes then
      (s.modOutstanding o.tag (fun _ => o1)).xferNext o1
    else
      let s1 := (s.disarm o.object).replyTo o (o.stop.getD (if x.lastStatus = 0 then 0x00 else 0x0F)) [o1.landed]
      if o.object < 48 ∧ 0 < o1.landed then s1.dropCached else s1
  | _ => s

/-! ### Ending commands (R386, R407) -/

/-- R407: every outstanding command is ended without a reply: commands before their commit point stop, an XFER is aborted. -/
def State.endCommands (s : State) : State :=
  let s1 := (s.host.outstanding.filter (fun o => o.opcode % 4096 == 0x202)).foldl (fun t o =>
    (t.dmaAbort 9 o.object).disarm o.object) s
  { s1 with host := { s1.host with
    outstanding := []
    held := [] } }

end Sys2Proof.Machine
end

