-- ==== Sys2Proof/Machine/HostBase.lean ====
section
/-!
DEFINITION. The command layer (R373 to R389): how a command packet is received, tested, held, run and answered.
-/
namespace Sys2Proof.Machine

/-! ### Objects (R385) -/

/-- A script slot. -/
abbrev oScript (n : Nat) : Nat := 0x1000 + n
/-- LOAD_SCRIPT and UNLOAD_SCRIPT among themselves. -/
abbrev oAdmission : Nat := 0x1FFF
/-- A Wings set. -/
abbrev oSet (n : Nat) : Nat := 0x2000 + n
/-- A stream. -/
abbrev oStream (k : Nat) : Nat := 0x3000 + k
/-- An EP2 stream, by its hub channel. -/
abbrev oEp2 (n : Nat) : Nat := 0x4000 + n
/-- A link. -/
abbrev oLink (l : Nat) : Nat := 0x6000 + l
/-- The serial NOR. -/
abbrev oNor : Nat := 0x7000
/-- A TVA region, by its address space and first page. -/
abbrev oRegion (asid page : Nat) : Nat := 0x100000 + asid * 0x80000 + page

/-- R381: the region that holds a TVA. -/
def State.regionOf (s : State) (asid tva : Nat) : Option Region :=
  s.host.regions.find? (fun r => r.asid == asid && decide (r.page ≤ tva / 0x200000 ∧ tva / 0x200000 < r.page + r.frames.length))

/-- R385: the region that a TVA names, as an object. -/
def State.regionObj (s : State) (asid tva : Nat) : List Nat :=
  match s.regionOf asid tva with
  | some r => [oRegion asid r.page]
  | none => []

/-! ### Permission (R389) -/

/-- R389: the module runs the recovery boot. -/
def State.inRecovery (s : State) : Bool := s.flag rSEC_BOOT fSEC_BOOT_RECOVERY

/-- R389: an opcode is permitted in a life-cycle state (0 BLANK to 4 RETIRED), or in recovery. -/
def permitted (recovery : Bool) (lc op : Nat) : Bool :=
  let g := op / 256
  if recovery then op ≤ 3 || g == 9 || (0x701 ≤ op && op ≤ 0x703)
  else if g = 0 ∨ g = 9 then true
  else if lc = 0 then op == 0x700 || op == 0x704
  else if lc = 4 then [0x500, 0x504, 0x600, 0x603, 0x700].contains op
  else if g = 0xF then lc == 3
  else if op = 0x605 then lc != 2
  else true

/-! ### Running a command -/

/-- What running a command gives: the state, its status, reply payload and clamps, or that its reply comes later. -/
structure CmdRes where
  s : State
  status : Nat := 0
  payload : List Nat := []
  clamps : List ClampEntry := []
  later : Bool := false

/-- R379: one field of a command: it is illegal, or it is clamped (its number, the value asked for and the value applied). -/
structure CmdField where
  bad : Bool := false
  clamp : Option (Nat × Int × Int) := none

/-- What sets one command apart: opcode, objects, default limit in µs, fields, execution. -/
structure CmdSpec where
  op : Nat
  objects : List Nat := []
  limit : Nat := 1000000
  fields : State → List CmdField := fun _ => []
  run : State → CmdRes

/-- A field that must hold. -/
def fieldIs (ok : Bool) : CmdField := { bad := !ok }

/-- A numeric field with its range. -/
def fieldIn (k v lo hi : Nat) : CmdField :=
  if v < lo then { clamp := some (k, v, lo) } else if hi < v then { clamp := some (k, v, hi) } else {}

/-- A command done, with its reply payload. -/
def cmdOk (s : State) (payload : List Nat) : CmdRes := { s := s, payload := payload }

/-- A command refused with a status. -/
def cmdFail (s : State) (status : Nat) : CmdRes := { s := s, status := status }

/-- R374: the limit of a command in µs. -/
def cmdLimit (h : CmdHeader) (limit : Nat) : Nat := if h.timeout = 0 then limit else min h.timeout 600000000

/-- R374, R376, R379: the clamps of a command's header and fields. -/
def cmdClamps (h : CmdHeader) (op : Nat) (fs : List CmdField) : List ClampEntry :=
  (if 600000000 < h.timeout then
    [⟨0xFFFF, Config.fieldOffset op 100, h.timeout, 600000000⟩] else []) ++
  fs.filterMap (fun f => f.clamp.map (fun c => ⟨0xFFFF, Config.fieldOffset op c.1, c.2.1, c.2.2⟩))

/-- R386: commands whose commit point comes after the start of execution and that stay outstanding. -/
def lateCommit (op : Nat) : Bool := op == 0x202 || op == 0x304

/-- R375, R378: the reply of an outstanding command with these clamps. -/
def State.cmdReply (s : State) (h : CmdHeader) (op status : Nat) (clamps : List ClampEntry) (payload : List Nat) : State :=
  { s with host := { s.host with outstanding := s.host.outstanding.filter (fun x => x.tag != h.tag) } }.reply
    { opcode := opField h op, tag := h.tag, status := status, clamps := clamps, payload := payload }

/-- R379: steps 5 and 6 of a command that starts: its fields, STRICT, and its execution. A refused command changes nothing. -/
def State.start (s : State) (h : CmdHeader) (c : CmdSpec) : State :=
  let fs := c.fields s
  let cl := cmdClamps h c.op fs
  if !h.rsvOk || fs.any (·.bad) then s.cmdReply h c.op 0x03 [] []
  else if h.strict ∧ !cl.isEmpty then s.cmdReply h c.op 0x03 cl []
  else
    let s0 := s.modOutstanding h.tag (fun o => { o with
      committed := !lateCommit c.op
      clamps := cl })
    let r := c.run s0
    if r.later then r.s
    else if r.status = 0 then
      let all := cl ++ r.clamps
      if all.isEmpty then r.s.cmdReply h c.op 0 [] r.payload
      else if h.strict then s.cmdReply h c.op 0x03 all []
      else r.s.cmdReply h c.op 1 all r.payload
    else r.s.cmdReply h c.op r.status cl r.payload

/-- R383, R388: how many commands have been received and not yet replied, those held while an entry runs among them. -/
def State.unreplied (s : State) : Nat :=
  s.host.outstanding.length + (s.host.held.filter (fun x => (s.outstandingTag x.1).isNone)).length

/-- R379, R383, R384, R399: the first failure of the tests 1 to 4, as the reply it gives. -/
def State.receiveFault (s : State) (h : CmdHeader) (op : Nat) : Option Reply :=
  let r : Reply := { opcode := opField h op, tag := h.tag, status := 0x0B }
  if !cmdHeaderOk h op then some { r with
      opcode := 0xFFFF
      untrusted := true }
  else if h.rsv ≠ 0 then some r
  else if (s.outstandingTag h.tag).isSome || s.host.held.any (fun x => x.1 == h.tag) then some { r with dup := true }
  else if 32 ≤ s.unreplied then some { r with status := 0x04 }
  else if !permitted s.inRecovery s.sec.lifeCycle op then some { r with status := 0x06 }
  else if 65536 < h.length ∨ h.got ≠ h.length ∨ !h.lenOk then some { r with status := 0x0D }
  else none

/-- R25, R393, R429: command transfers reach the Prompter: the device is configured above Full-Speed, the controller is powered,
and firmware (or the recovery boot) runs. -/
def State.hostReady (s : State) : Bool :=
  s.flag rUSB_STAT fUSB_STAT_CONFIGURED && decide (2 ≤ s.fld rUSB_STAT fUSB_STAT_SPEED) &&
    (s.awake || s.power.st == .entering) && s.prompt.down.isNone

/-- R383, R385: a command with these objects may not start yet: an earlier command holds an object that it names, it has FENCE and
an earlier command has not replied, or an earlier command with FENCE has not started. -/
def State.mustWait (s : State) (earlier : List Outstanding) (fence : Bool) (objects : List Nat) : Bool :=
  (fence && !earlier.isEmpty) || earlier.any (fun o => o.objects.any objects.contains ||
    (o.fence && s.host.held.any (fun x => x.1 == o.tag)))

/-- R437: firmware marks its slot CONFIRMED once it accepts its first command. -/
def State.noteAccepted (s : State) : State :=
  if s.sec.accepted ∨ !s.sec.handedOver then s else { s with sec := { s.sec with accepted := true } }.confirmSlot

/-- R373 to R389: a command packet `i` arrives with its header, or a held one starts. -/
def State.command (s : State) (h : CmdHeader) (i : Instr) (c : CmdSpec) : Out :=
  if s.host.releasing = some h.tag ∧ (s.outstandingTag h.tag).isSome then done (s.start h c)
  else if !s.hostReady then done s
  else
    let s0 := { s with
      usb := { s.usb with idleSince := s.time.ns }
      power := { s.power with lastWork := s.time.ns } }
    match s0.receiveFault h c.op with
    | some r => done (s0.reply r)
    | none =>
      if s.power.st = .entering then done { s0 with host := { s0.host with held := s0.host.held ++ [(h.tag, i)] } }
      else
        let s1 := s0.noteAccepted
        let o : Outstanding := { opcode := opField h c.op, tag := h.tag, fence := h.fence,
                                 deadline := s.time.ns + 1000 * cmdLimit h c.limit, objects := c.objects }
        let s2 := { s1 with host := { s1.host with outstanding := s1.host.outstanding ++ [o] } }
        if s1.mustWait s1.host.outstanding h.fence c.objects then
          done { s2 with host := { s2.host with held := s2.host.held ++ [(h.tag, i)] } }
        else done (s2.start h c)

/-! ### Held commands -/

/-- R383, R385, R388: the outstanding commands that arrived before the one with this tag. -/
def State.earlier (s : State) (tag : Nat) : List Outstanding := s.host.outstanding.takeWhile (fun o => o.tag != tag)

/-- R383, R385, R388: the first held command that may start. -/
def State.nextHeld (s : State) : Option (Nat × Instr) :=
  if !s.hostReady ∨ s.power.st = .entering then none
  else s.host.held.find? (fun x =>
    match s.outstandingTag x.1 with
    | none => true
    | some o => !(s.mustWait (s.earlier x.1) o.fence o.objects))

/-- R386: a command that waits to start is stopped, with this status. -/
def State.dropHeld (s : State) (o : Outstanding) (status : Nat) : State :=
  { s with host := { s.host with held := s.host.held.filter (fun x => x.1 != o.tag) } }.replyTo o status []

/-- R386: an outstanding command is stopped before its commit point, with this status. Whether it was is the second part. -/
def State.stopCommand (s : State) (o : Outstanding) (status : Nat) : State × Bool :=
  if s.host.held.any (fun x => x.1 == o.tag) then (s.dropHeld o status, true)
  else if o.committed then (s, false)
  else if o.opcode % 4096 = 0x202 then
    let s1 := s.stopXfer o status
    (s1, ((s1.outstandingTag o.tag).map (fun x => x.stop.isSome)).getD false)
  else (s.replyTo o status [], true)

/-- R374, R386: COMMAND_TIMEOUT: the limit of an outstanding command has passed. -/
def execCommandTimeout (tag : Nat) (s : State) : Out :=
  match s.outstandingTag tag with
  | none => done s
  | some o => done (if o.deadline ≤ s.time.ns ∧ o.stop.isNone then (s.stopCommand o 0x05).1 else s)

/-- R399: COMMAND_RUNT: a transfer shorter than 16 bytes is discarded and counted. -/
def execCommandRunt (_ : Fin 16) (s : State) : Out :=
  done (if s.hostReady then s.countBy rUSB_ERR_CNT fUSB_ERR_CNT_RUNT 1 else s)

end Sys2Proof.Machine
end

