-- ==== Sys2Proof/Machine/HostStatus.lean ====
section
/-!
DEFINITION. The host commands of groups 0x00xx, identity and status, and 0x09xx, the Lichen (R381, R382, R386).
-/
namespace Sys2Proof.Machine

/-! ### Registers as Prompter firmware reads them -/

/-- A register as Prompter firmware reads it, which moves its RC counters into the totals (R382). -/
def State.fwRead (s : State) (a : Nat) : Nat × State :=
  match s.regRead .prompter a 0xFFFFFFFF with
  | (.ok w, t) => (w.toNat, t)
  | (_, t) => (0, t)

/-- R382: the total of the RC field at bit `lo` of the register at `a`. -/
def State.total (s : State) (a lo : Nat) : Nat :=
  match s.spot .prompter a with
  | some x => Cells.get (fun _ => 0) s.host.totals (64 * x.a + lo)
  | none => 0

/-- R382: the registers at these addresses are read for their RC counters. -/
def State.gather (s : State) (l : List Nat) : State := l.foldl (fun (t : State) a => (t.fwRead a).2) s

/-- The RC counters of one row of a block's register table, for an instance: address and low bit. A register without instances
counts as instance 0. -/
def RegRow.counters (r : RegRow) (blk inst : Nat) : List (Nat × Nat) :=
  let rc := (r.flds.filter (fun f => f.acc == .rc)).map (·.lo)
  let a := blkBase blk + r.off
  match r.dims with
  | [] => if inst = 0 then rc.map (fun lo => (a, lo)) else []
  | (n, stride) :: _ => if inst < n then rc.map (fun lo => (a + stride * inst, lo)) else []

/-- R382: the RC counters of a control block's instance. -/
def unitCounters (blk inst : Nat) : List (Nat × Nat) := (blockRows blk).flatMap (fun r => r.counters blk inst)

/-! ### Group 0x00xx -/

/-- R381: PING replies with cue time. -/
def execPing (h : CmdHeader) (s : State) : Out :=
  s.command h (.ping h) {
    op := 0x000
    run := fun t => cmdOk t [t.now] }

/-- R381: GET_IDENTITY: part number, serial, die revision, life-cycle state, MOD_ID, running slot, VERSION of the running
firmware and of both slots, and the state of the four key slots: role, and whether it is revoked. -/
def execGetIdentity (h : CmdHeader) (s : State) : Out :=
  s.command h (.getIdentity h) {
    op := 0x001
    run := fun t =>
      cmdOk t ((partNumber.take 9).map (·.toNat) ++
        [t.sec.serial, t.sec.dieRev, t.sec.lifeCycle, t.modId, t.runningSlot.getD 0xFF, t.sec.version, t.slotVersion 0, t.slotVersion 1] ++
        (List.range 4).flatMap (fun k => [t.slotRole k, b2n (bitOf t.sec.revoked k)])) }

/-- R386: CMD_ABORT stops its target before the commit point; else ALREADY_DONE, or NOT_FOUND. -/
def execCmdAbort (h : CmdHeader) (target : Nat) (s : State) : Out :=
  s.command h (.cmdAbort h target) {
    op := 0x002
    run := fun t =>
      match t.outstandingTag target with
      | none => cmdFail t 0x0E
      | some o =>
        if o.stop.isSome then cmdFail t 0x0A
        else
          let r := t.stopCommand o 0x0F
          if r.2 then cmdOk r.1 [] else cmdFail r.1 0x0A }

/-- R381: GET_STATUS: power state, the clusters' OPs in effect, input power, the hottest sensor and its temperature, the core
map, and, each with their number first, the fenced units and the script slots in use. -/
def execGetStatus (h : CmdHeader) (s : State) : Out :=
  s.command h (.getStatus h) {
    op := 0x003
    run := fun t =>
      cmdOk t ([t.power.st.code, t.effOp 0, t.effOp 1, (t.reg rPWR_IN_AVG).toNat, t.smbSensor, wrapTo 16 (t.temp t.smbSensor)] ++
        (List.range 8).map t.phys ++ [t.host.fenced.length] ++ t.host.fenced ++
        [t.scripts.length] ++ t.scripts.map (·.1)) }

/-- R381, R382: GET_COUNTERS: how many totals follow, the index of the first total not returned, and the 64-bit totals of one
unit's counters. A block that does not exist is an illegal field, an instance that has no counters is not found. -/
def execGetCounters (h : CmdHeader) (blk inst cont : Nat) (s : State) : Out :=
  s.command h (.getCounters h blk inst cont) {
    op := 0x004
    fields := fun _ => [fieldIs !(blockRows blk).isEmpty]
    run := fun t =>
      let l := unitCounters blk inst
      if l.isEmpty then cmdFail t 0x0E
      else
        let u := t.gather (l.map (·.1)).eraseDups
        let part := (l.drop cont).take 8192
        cmdOk u ([part.length, min l.length (cont + part.length)] ++ part.map (fun x => u.total x.1 x.2)) }

/-! ### Group 0x09xx -/

/-- R381: LICHEN_INFO: records committed, the next slot, LOG_FULL. -/
def execLichenInfo (h : CmdHeader) (s : State) : Out :=
  s.command h (.lichenInfo h) {
    op := 0x900
    run := fun t => cmdOk t [t.lichenCommitted, t.lichen.next, b2n t.lichen.full] }

/-- R381: LICHEN_READ looks at `count` slots from slot `first` up (log entry 50): the index of the first slot not looked at, and
the bytes of the records with a valid commit marker (R472). -/
def execLichenRead (h : CmdHeader) (first count : Nat) (s : State) : Out :=
  s.command h (.lichenRead h first count) {
    op := 0x901
    fields := fun _ => [fieldIn 1 count 0 2047]
    run := fun t =>
      let n := min count 2047
      let l := ((List.range n).map (first + ·)).filter (fun i => decide (i < 131072) && t.slotComplete i)
      cmdOk t (min 131072 (first + n) :: l.flatMap (fun i => (t.bytes (lichenPlace i) 32).map (·.toNat))) }

end Sys2Proof.Machine
end

