-- ==== Sys2Proof/Machine/HostTime.lean ====
section
/-!
DEFINITION. The host commands of group 0x01xx, time and Wings (R29, R54 to R61, R381, R387).
-/
namespace Sys2Proof.Machine

/-! ### Time -/

/-- R381: TIME_GET: CUE_NOW, CUE_STATUS and CUE_TRIM. -/
def execTimeGet (h : CmdHeader) (s : State) : Out :=
  s.command h (.timeGet h) {
    op := 0x100
    run := fun t =>
      let (a, u) := t.fwRead rCUE_STATUS
      let (b, v) := u.fwRead rCUE_TRIM
      cmdOk v [t.now, a, b] }

/-- R29: TIME_SET_EPOCH, on the time master: a forward step to T, or a T that is clamped to the cue time now. -/
def execTimeSetEpoch (h : CmdHeader) (t : Nat) (s : State) : Out :=
  s.command h (.timeSetEpoch h t) {
    op := 0x101
    fields := fun u => if u.master ∧ t < u.now then [fieldIn 0 t u.now (2 ^ 64 - 1)] else []
    run := fun u =>
      if !u.master then cmdFail u 0x12
      else if u.now < t then cmdOk (u.jumpTo t) [t]
      else cmdOk u [u.now] }

/-- R35, R381: TIME_PPS enables or disables PPS discipline. -/
def execTimePps (h : CmdHeader) (en : Nat) (s : State) : Out :=
  s.command h (.timePps h en) {
    op := 0x102
    fields := fun _ => [fieldIs (decide (en ≤ 1))]
    run := fun u => cmdOk { u with time := { u.time with ppsEnabled := en == 1 } } [] }

/-! ### The Wings -/

/-- R381: the state of a set, as a reply gives it (log entry 8). -/
def SetState.num : SetState → Nat
  | .free => 0
  | .opened => 1
  | .checked => 2
  | .armed => 3
  | .applied => 4
  | .failed => 5

/-- R378: a set that is named exists: its number is one of the 64, and it has been opened. -/
def State.setExists (s : State) (n : Nat) : Bool := decide (n < 64) && (s.wset n).st != .free

/-- R381: violations as a reply lists them, as many as it can hold (R377). -/
def violationWords (l : List Violation) : List Nat :=
  (l.take 4096).flatMap (fun v => [v.rule, v.module, v.member, v.value, v.conflict, v.other])

/-- R54: WINGS_OPEN opens the lowest-numbered FREE set; with none free, it is BUSY. -/
def execWingsOpen (h : CmdHeader) (id : Nat) (s : State) : Out :=
  s.command h (.wingsOpen h id) {
    op := 0x103
    run := fun t =>
      match (List.range 64).find? (fun n => (t.wset n).st == .free) with
      | none => cmdFail t 0x04
      | some n => cmdOk (t.setWset n { st := .opened, fabric := id }) [n] }

/-- R379: no bit of a member's value lies in a reserved field of its register. -/
def stageRsvClear (m : StageMember) : Bool :=
  match regRow (blkBase m.block + 4 * m.ofs) with
  | some r => m.value &&& ~~~(r.flds.foldl (fun (w : Word) f => w ||| f.mask) 0) == 0
  | none => true

/-- R381: a member of the command as a member of a set. -/
def stageMemberOf (m : StageMember) : WMember := { block := m.block, ofs := 4 * m.ofs, value := m.value }

/-- R55, R387: WINGS_STAGE: its members are staged, with the clamps of each, or none is. -/
def execWingsStage (h : CmdHeader) (n : Nat) (ms : List StageMember) (s : State) : Out :=
  s.command h (.wingsStage h n ms) {
    op := 0x104
    objects := [oSet n]
    fields := fun _ => ms.map (fun m => fieldIs (m.rsv == 0 && stageRsvClear m))
    run := fun t =>
      if !t.setExists n then cmdFail t 0x0E
      else match t.stageAll n (ms.map stageMemberOf) with
        | .wrongState => cmdFail t 0x12
        | .notPermitted => cmdFail t 0x06
        | .tooMany => cmdFail t 0x03
        | .ok u cl => { s := u
                        payload := [(u.wset n).st.num, (u.wset n).members.length]
                        clamps := cl.map (fun (c : Nat × Nat × Int × Int) => (⟨c.1, c.2.1, c.2.2.1, c.2.2.2⟩ : ClampEntry)) } }

/-- R56: WINGS_CHECK: the set becomes CHECKED, or FAILED with every violation. A fabric share reports its result when it is
armed (R61). -/
def execWingsCheck (h : CmdHeader) (n t : Nat) (s : State) : Out :=
  s.command h (.wingsCheck h n t) {
    op := 0x105
    objects := [oSet n]
    run := fun u =>
      let x := u.wset n
      if !u.setExists n then cmdFail u 0x0E
      else if x.st ≠ .opened ∧ x.st ≠ .checked then cmdFail u 0x12
      else match u.violations n (if t = 0 then none else some t) with
        | [] => cmdOk (u.setWset n { x with st := .checked }) []
        | v => { s := u.setWset n { x with st := .failed }, status := 0x10, payload := violationWords v } }

/-- R318, R319: the Frame Start of a stream that Prompter firmware predicts next after a time: its frame index and its time, from
the last Frame Start and the frame period (log entry 51). -/
def State.nextStart (s : State) (k t : Nat) : Nat × Nat :=
  let fs := (s.stream k).lastFs.getD 0
  let p := (s.reg (rINT_STR_PERIOD k)).toNat
  let j := if p = 0 then 1 else (t - fs) / p + 1
  (((s.reg (rINT_STR_FIDX k)).toNat + j) % 2 ^ 32, fs + j * p)

/-- R319: the cue entry that binds a frame-bound set, on the queue of the stream's port. -/
def ispEntry (k n t : Nat) : CueEntry :=
  { time := t, op := 0x0A, late := 0, fab := false, period := 0, arg := n + k % 4 * 256 }

/-- R319: an ISP_APPLY entry is pushed for set `n` of stream `k`. -/
def State.pushIsp (s : State) (k n t : Nat) : State := s.pushCue (.port ⟨k / 4 % 12, by omega⟩) (ispEntry k n t) false

/-- R319: the queue of the port of stream `k` has room for one more entry. -/
def State.portRoom (s : State) (k : Nat) : Bool :=
  let q : QueueId := .port ⟨k / 4 % 12, by omega⟩
  decide ((s.cq q.num).entries.length < queueCap q)

/-- R57, R319: WINGS_APPLY_AT: T is clamped, and the set is armed for it; or it fails the test for that T. -/
def execWingsApplyAt (h : CmdHeader) (n t isp : Nat) (s : State) : Out :=
  s.command h (.wingsApplyAt h n t isp) {
    op := 0x106
    objects := [oSet n]
    fields := fun u => [fieldIn 1 t (u.clampApplyTime n 0) (2 ^ 64 - 1),
      fieldIs (decide (isp < 48) || isp == 0xFF)]
    run := fun u =>
      if !u.setExists n then cmdFail u 0x0E
      else if (u.wset n).st ≠ .checked then cmdFail u 0x12
      else if isp ≠ 0xFF ∧ !u.portRoom isp then cmdFail u 0x04
      else
        let at' := u.clampApplyTime n t
        match u.armSet n at' (if isp = 0xFF then none else some isp) with
        | (v, []) => if isp = 0xFF then cmdOk v [at'] else cmdOk (v.pushIsp isp n at') [at', (u.nextStart isp at').1]
        | (v, l) => { s := v, status := 0x10, payload := violationWords l } }

/-- R59: WINGS_CANCEL of a set that is ARMED and whose T has not come. -/
def execWingsCancel (h : CmdHeader) (n : Nat) (s : State) : Out :=
  s.command h (.wingsCancel h n) {
    op := 0x107
    objects := [oSet n]
    run := fun u =>
      if !u.setExists n then cmdFail u 0x0E
      else if (u.wset n).st ≠ .armed ∨ u.strobeDue n then cmdFail u 0x12
      else cmdOk (u.releaseSet n) [] }

/-- R54: WINGS_RELEASE returns a set to FREE. -/
def execWingsRelease (h : CmdHeader) (n : Nat) (s : State) : Out :=
  s.command h (.wingsRelease h n) {
    op := 0x108
    objects := [oSet n]
    run := fun u =>
      if !u.setExists n then cmdFail u 0x0E else cmdOk (u.releaseSet n) [] }

/-- R381: WINGS_STATUS: the state of a set, and its apply record: the time at which it was applied, LATE, overrides, and the
member that was found unsealed (R58, R60). -/
def execWingsStatus (h : CmdHeader) (n : Nat) (s : State) : Out :=
  s.command h (.wingsStatus h n) {
    op := 0x109
    objects := [oSet n]
    run := fun u =>
      let x := u.wset n
      if 64 ≤ n then cmdFail u 0x0E
      else cmdOk u [x.st.num, x.appliedAt, b2n x.late, x.overrides, x.failedMember.getD 0xFFFF] }

end Sys2Proof.Machine
end

