-- ==== Sys2Proof/Machine/HostCamera.lean ====
section
/-!
DEFINITION. The host commands of group 0x04xx, camera streams (R313 to R320, R381).
-/
namespace Sys2Proof.Machine

/-! ### Frames to come (R318) -/

/-- R318: firmware can predict the Frame Starts of a stream: it has seen one, and an interval. -/
def State.predicts (s : State) (k : Nat) : Bool :=
  (s.stream k).lastFs.isSome && decide (0 < (s.reg (rINT_STR_PERIOD k)).toNat)

/-- R318: how many frames ahead of the last one accepted a frame index lies; one that has passed lies none ahead. -/
def State.ahead (s : State) (k fidx : Nat) : Nat :=
  let d := (fidx + 2 ^ 32 - (s.reg (rINT_STR_FIDX k)).toNat) % 2 ^ 32
  if d < 2 ^ 31 then d else 0

/-- R318: the predicted Frame Start of the frame `n` frames ahead. -/
def State.startOf (s : State) (k n : Nat) : Nat := (s.stream k).lastFs.getD 0 + n * (s.reg (rINT_STR_PERIOD k)).toNat

/-- The frame index `n` frames ahead. -/
def State.indexOf (s : State) (k n : Nat) : Nat := ((s.reg (rINT_STR_FIDX k)).toNat + n) % 2 ^ 32

/-- The frames ahead of the first Frame Start after a time. -/
def State.firstAfter (s : State) (k t : Nat) : Nat :=
  let fs := (s.stream k).lastFs.getD 0
  (t - fs) / (s.reg (rINT_STR_PERIOD k)).toNat + 1

/-! ### SENSOR_SETTINGS -/

/-- R313: ns of one clock period of a bus. -/
def State.i2cPeriod (s : State) (b : Nat) : Nat :=
  match s.fld (rI2C_CFG b) fI2C_CFG_SPEED with
  | 0 => 10000
  | 1 => 2500
  | _ => 1000

/-- R315: the high word of an item, as device, width, register and data bytes. -/
def itemFields (x : Word × Word) : Nat × Nat × Nat × Nat :=
  (getF x.2 fWL_ITEM_HI_DEV, getF x.2 fWL_ITEM_HI_A16, getF x.2 fWL_ITEM_HI_REG, getF x.2 fWL_ITEM_HI_LEN_M1 + 1)

/-- R313: the bus time of a list of items, in ns. -/
def State.busTime (s : State) (b : Nat) (l : List (Word × Word)) : Nat :=
  (l.map (fun x =>
    let (_, a16, _, len) := itemFields x
    9 * (1 + (1 + a16) + len) + 2)).sum * s.i2cPeriod b

/-- R315: the reserved bits of an item are 0. -/
def itemClear (x : Word × Word) : Bool := x.2 &&& 0x3F == 0

/-- R314, R315: every item of a list may be written. -/
def State.itemsAllowed (s : State) (b : Nat) (l : List (Word × Word)) : Bool :=
  l.all (fun x =>
    let (dev, a16, reg, len) := itemFields x
    s.i2cAllowed b true dev a16 reg len)

/-- A write list that a queued SENSOR_WRITE will send, or a bus sends now. -/
def State.listUsed (s : State) (n : Nat) : Bool :=
  (List.range 12).any (fun p =>
    (s.bus p).list == some n || (s.cq (0x20 + p)).entries.any (fun e => e.op == 0x09 && bitsOf e.arg 7 0 == n))

/-- Items that a list in use holds. -/
def State.itemsUsed (s : State) (first n : Nat) : Bool :=
  (List.range 256).any (fun m => s.listUsed m &&
    (let f := s.fld (rINT_WL m) fINT_WL_FIRST
     decide (first < f + s.fld (rINT_WL m) fINT_WL_COUNT ∧ f < first + n)))

/-- R315: a list is written to the tables. -/
def State.putList (s : State) (n k lat first : Nat) (l : List (Word × Word)) : State :=
  let s1 := s.setReg (rINT_WL n) (BitVec.ofNat 32 (k % 4 * 2 ^ 26 + lat * 2 ^ 24 + l.length * 2 ^ 16 + first))
  l.zipIdx.foldl (fun (t : State) x => (t.setReg (rWL_ITEM_LO (first + x.2)) x.1.1).setReg (rWL_ITEM_HI (first + x.2)) x.1.2) s1

/-- R315, R318: one list of a SENSOR_SETTINGS: what is sent, its latency, and where firmware puts it and when (log entry 53). -/
structure Settings where
  items : List (Word × Word)
  lat : Nat
  list : Nat
  first : Nat
  time : Nat

/-- R318: the lists of a SENSOR_SETTINGS that are sent. -/
def State.settings (s : State) (k : Nat) (expo gain : List (Word × Word)) (lists firsts times : Nat × Nat) : List Settings :=
  [(⟨expo, s.fld (rINT_STR_CFG k) fINT_STR_CFG_EXP_LAT, lists.1, firsts.1, times.1⟩ : Settings),
   ⟨gain, s.fld (rINT_STR_CFG k) fINT_STR_CFG_GAIN_LAT, lists.2, firsts.2, times.2⟩].filter (fun x => !x.items.isEmpty)

/-- R318: the frame, as frames ahead, that settings reach: no earlier than each list can be sent in time. -/
def State.reach (s : State) (k fidx : Nat) (l : List Settings) : Nat :=
  l.foldl (fun n x => max n (x.lat + s.firstAfter k (s.now + s.busTime (k / 4) x.items))) (s.ahead k fidx)

/-- R318: a list ends before the Frame Start that it must precede, and is not sent in the past. -/
def State.inTime (s : State) (k n : Nat) (x : Settings) : Bool :=
  decide (s.now ≤ x.time ∧ x.time + s.busTime (k / 4) x.items < s.startOf k (n - x.lat))

/-- Firmware's choice of lists and items serves: they are not in use and do not overlap. -/
def State.placesOk (s : State) : List Settings → Bool
  | [] => true
  | x :: l => decide (x.list < 256 ∧ x.first + x.items.length ≤ 4096) && !s.listUsed x.list && !s.itemsUsed x.first x.items.length &&
    l.all (fun y => x.list != y.list && decide (x.first + x.items.length ≤ y.first ∨ y.first + y.items.length ≤ x.first)) &&
    s.placesOk l

/-- R318: SENSOR_WRITE cues are placed for the lists. -/
def State.placeLists (s : State) (k : Nat) (l : List Settings) : State :=
  l.foldl (fun (t : State) x =>
    (t.putList x.list k x.lat x.first x.items).pushCue (.port ⟨k / 4 % 12, by omega⟩)
      { time := x.time, op := 0x09, late := 0, fab := false, period := 0, arg := x.list } false) s

/-- R318: SENSOR_SETTINGS. A frame that can no longer be reached is clamped to the first that can. -/
def execSensorSettings (h : CmdHeader) (k fidx : Nat) (expo gain : List (Word × Word)) (lists firsts times : Nat × Nat) (s : State) :
    Out :=
  s.command h (.sensorSettings h k fidx expo gain lists firsts times) {
    op := 0x400
    objects := [oStream k]
    fields := fun t =>
      let n := t.reach k fidx (t.settings k expo gain lists firsts times)
      [fieldIs (decide (k < 48))] ++
      (if t.predicts k ∧ t.indexOf k n ≠ fidx then [({ clamp := some (1, fidx, t.indexOf k n) } : CmdField)] else []) ++
      [fieldIs (decide (expo.length ≤ 255) && expo.all itemClear), fieldIs (decide (gain.length ≤ 255) && gain.all itemClear)]
    run := fun t =>
      let l := t.settings k expo gain lists firsts times
      let n := t.reach k fidx l
      if !t.predicts k then cmdFail t 0x12
      else if !(l.all (fun x => t.itemsAllowed (k / 4) x.items)) then cmdFail t 0x06
      else if !t.placesOk l ∨ 8 < (t.cq (0x20 + k / 4)).entries.length + l.length then cmdFail t 0x04
      else if !(l.all (fun x => t.inTime k n x)) then cmdFail t 0x03
      else cmdOk (t.placeLists k l) (t.indexOf k n :: [if expo.isEmpty then 0 else times.1, if gain.isEmpty then 0 else times.2]) }

/-! ### ISP_PARAMS -/

/-- R350: the members of an ISP parameter set: the 128 registers that hold words 0 to 255 of a stream. -/
def ispMembers (k : Nat) (w : List Half) : List WMember :=
  (List.range 128).map (fun i =>
    { block := 0x21, ofs := 0x10000 + 0x200 * k + 4 * i,
      value := BitVec.ofNat 32 ((w.getD (2 * i) 0).toNat + (w.getD (2 * i + 1) 0).toNat * 2 ^ 16) })

/-- R319, R57: the frame, as frames ahead, that a set of 128 members can reach. -/
def State.ispReach (s : State) (k fidx : Nat) : Nat := max (s.ahead k fidx) (s.firstAfter k (s.now + 50000 + 20 * 128))

/-- R319: ISP_PARAMS builds a frame-bound set for a frame; `t`, firmware's choice of T, lies between the Frame Starts of the frame
before and of the frame itself, so that the set binds to it. -/
def execIspParams (h : CmdHeader) (k fidx t : Nat) (w : List Half) (s : State) : Out :=
  s.command h (.ispParams h k fidx t w) {
    op := 0x401
    objects := [oStream k]
    fields := fun u => [fieldIs (decide (k < 48))] ++
      (if u.predicts k ∧ u.indexOf k (u.ispReach k fidx) ≠ fidx then
        [({ clamp := some (1, fidx, u.indexOf k (u.ispReach k fidx)) } : CmdField)] else [])
    run := fun u =>
      let n := u.ispReach k fidx
      if w.length ≠ 256 then cmdFail u 0x0D
      else if !u.predicts k then cmdFail u 0x12
      else match (List.range 64).find? (fun m => (u.wset m).st == .free) with
        | none => cmdFail u 0x04
        | some m =>
          if !u.portRoom k then cmdFail u 0x04
          else if t < u.now + 50000 + 20 * 128 ∨ t ≤ u.startOf k (n - 1) ∨ u.startOf k n ≤ t then cmdFail u 0x03
          else match (u.setWset m { st := .opened }).stageAll m (ispMembers k w) with
            | .ok v _ =>
              (match v.armSet m t (some k) with
              | (x, []) => cmdOk (x.pushIsp k m t) [m, u.indexOf k n]
              | (_, l) => { s := u, status := 0x10, payload := violationWords l })
            | .tooMany => cmdFail u 0x04
            | .wrongState => cmdFail u 0x12
            | .notPermitted => cmdFail u 0x06 }

/-! ### I2C_READ -/

/-- R313, R381: the I2C_XFER word of a read. -/
def readWord (dev reg : Nat) (a16 : Bool) (n : Nat) : Word :=
  BitVec.ofNat 32 (2 ^ 30 + dev % 128 * 2 ^ 23 + b2n a16 * 2 ^ 22 + (n - 1) % 4 * 2 ^ 20 + reg % 65536)

/-- R315: a read is handed to its bus once no other transfer by firmware is on it. -/
def State.issueRead (s : State) (o : Outstanding) : State :=
  let b := o.object
  if (s.bus b).xfer.isSome ∨ (s.bus b).waits.isSome then s
  else
    let w : Word := BitVec.ofNat 32 (o.args.getD 0 0)
    ((s.setReg (rI2C_XFER b) w).i2cGo b w).modOutstanding o.tag (fun x => { x with moved := 1 })

/-- R381: I2C_READ, from the allow-listed registers of a device (R314); its reply comes when the transfer has ended. -/
def execI2cRead (h : CmdHeader) (bus dev reg : Nat) (a16 : Bool) (n : Nat) (s : State) : Out :=
  s.command h (.i2cRead h bus dev reg a16 n) {
    op := 0x402
    fields := fun _ => [fieldIs (decide (bus < 12)), fieldIs (decide (dev < 128)),
      fieldIs (decide (reg < if a16 then 65536 else 256)), fieldIn 4 n 1 4]
    run := fun t =>
      let m := clampNat 1 4 n
      let u := t.modOutstanding h.tag (fun o => { o with
        object := bus
        bytes := m
        args := [(readWord dev reg a16 m).toNat] })
      { s := match u.outstandingTag h.tag with
          | some o => u.issueRead o
          | none => u
        later := true } }

/-- R381: an I2C_READ is looked after: it is handed to its bus, or its transfer has ended: the data bytes, most significant first,
and RESULT. -/
def State.pollRead (s : State) (o : Outstanding) : State :=
  let b := o.object
  if o.moved = 0 then s.issueRead o
  else if (s.bus b).xfer.isSome ∨ (s.bus b).waits.isSome then s
  else
    let res := s.fld (rI2C_STAT b) fI2C_STAT_RESULT
    let d := (s.reg (rI2C_XDATA b)).toNat
    s.replyTo o 0 ((if res = 0 then ((List.range o.bytes).reverse.map (fun i => d / 256 ^ i % 256)) else []) ++ [res])

/-! ### FSYNC_SCHEDULE -/

/-- R381: the host's periodic pulses on an output are taken back. -/
def State.dropFsync (s : State) (n : Nat) : State :=
  let q := s.cq (0x20 + n)
  s.setCq (0x20 + n) { q with entries := q.entries.filter (fun e =>
    !(e.op == 0x08 && bitsOf e.arg 3 0 == n && e.period != 0 && e.owner == 255)) }

/-- R381: the first instance of a phase and period that lies ahead. -/
def firstInstance (now t period : Nat) : Nat :=
  if now < t then t else t + ((now - t) / (period * 1000) + 1) * (period * 1000)

/-- R316, R381: FSYNC_SCHEDULE: periodic FSYNC_PULSE cues for an output, on the queue of the port of the same number, in place of
those that an earlier one placed. -/
def execFsyncSchedule (h : CmdHeader) (n period phase width : Nat) (s : State) : Out :=
  s.command h (.fsyncSchedule h n period phase width) {
    op := 0x403
    fields := fun t => [fieldIs (decide (n < 12)),
      fieldIn 1 period (t.fld (rINT_FSYNC_CFG n) fINT_FSYNC_CFG_MIN_PERIOD_US) 4194303, fieldIn 3 width 1 255]
    run := fun t =>
      let p := clampNat (t.fld (rINT_FSYNC_CFG n) fINT_FSYNC_CFG_MIN_PERIOD_US) 4194303 period
      let u := t.dropFsync n
      if 8 ≤ (u.cq (0x20 + n)).entries.length then cmdFail t 0x04
      else cmdOk (u.pushCue (.port ⟨n % 12, by omega⟩)
        { time := firstInstance t.now phase p, op := 0x08, late := 0, fab := false, period := p,
          arg := n + clampNat 1 255 width * 256 } false) [] }

/-! ### STREAM_STATUS -/

/-- R302, R350: the RC counters of a stream: INT_STR_ and SA_STR_. -/
def streamCounters (k : Nat) : List (Nat × Nat) :=
  (unitCounters 0x20 k).filter (fun x => decide (blkBase 0x20 + 0x2000 ≤ x.1 ∧ x.1 < blkBase 0x20 + 0x2C00)) ++
    (unitCounters 0x21 k).filter (fun x => decide (blkBase 0x21 + 0x1000 ≤ x.1 ∧ x.1 < blkBase 0x21 + 0x2800))

/-- R381, R382: STREAM_STATUS: the totals of the stream's counters, and the 16 bytes of its last frame record. -/
def execStreamStatus (h : CmdHeader) (k : Nat) (s : State) : Out :=
  s.command h (.streamStatus h k) {
    op := 0x404
    objects := [oStream k]
    fields := fun _ => [fieldIs (decide (k < 48))]
    run := fun t =>
      let l := streamCounters k
      let u := t.gather (l.map (·.1)).eraseDups
      cmdOk u (l.map (fun x => u.total x.1 x.2) ++ (u.stream k).lastRecord.map (·.toNat)) }

end Sys2Proof.Machine
end

