-- ==== Sys2Proof/Machine/HostMem.lean ====
section
/-!
DEFINITION. The host commands of group 0x02xx, memory and transfers (R257, R258, R381, R397, R398).
-/
namespace Sys2Proof.Machine

/-- R257: the frames that hold page tables. -/
def State.tableFrame (s : State) (f : Nat) : Bool :=
  (List.range 16).any (fun a => decide (s.ptPlace a 0 / 2 ^ 21 ≤ f ∧ f < s.ptPlace a 0 / 2 ^ 21 + 2))

/-- R381: frames that MEM_MAP may use: of DDR4, different, not in another region, and without a page table. -/
def State.framesFree (s : State) (l : List Nat) : Bool :=
  l.eraseDups.length == l.length && l.all (fun f => decide (f < 32768) && !s.tableFrame f && !s.host.regions.any (fun r => r.frames.contains f))

/-- R381: pages of an address space that no region holds. -/
def State.pagesFree (s : State) (asid page n : Nat) : Bool :=
  decide (page + n ≤ 2 ^ 19) &&
    s.host.regions.all (fun r => r.asid != asid || decide (r.page + r.frames.length ≤ page ∨ page + n ≤ r.page))

/-- R257: entries from a page up map frames. -/
def State.mapPages (s : State) (asid page : Nat) (writable : Bool) (l : List Nat) : State :=
  l.zipIdx.foldl (fun (t : State) x =>
    t.setNum (t.ptPlace asid (page + x.2)) 8 (x.1 * 2 ^ 21 + 2 * b2n writable + 1)) s

/-- R381: MEM_MAP maps a new region of whole pages; firmware chooses the pages and frames (log entry 53), and where they do not
serve, the length cannot be met. -/
def execMemMap (h : CmdHeader) (asid bytes writable page : Nat) (frames : List (Fin 32768)) (s : State) : Out :=
  s.command h (.memMap h asid bytes writable page frames) {
    op := 0x200
    fields := fun _ => [fieldIs (decide (asid < 16)), fieldIs (decide (writable ≤ 1))]
    run := fun t =>
      let l := frames.map (·.val)
      let n := (bytes + 2 ^ 21 - 1) / 2 ^ 21
      if n = 0 ∨ l.length ≠ n ∨ !t.framesFree l ∨ !t.pagesFree asid page n then cmdFail t 0x03
      else
        let u := t.mapPages asid page (writable == 1) l
        cmdOk { u with host := { u.host with regions := u.host.regions ++ [⟨asid, page, l, writable == 1⟩] } } [page * 2 ^ 21] }

/-- R257, R258: the entries of a region are cleared and invalidated. -/
def State.unmapPages (s : State) (asid page n : Nat) : State :=
  (List.range n).foldl (fun (t : State) k =>
    (t.setNum (t.ptPlace asid (page + k)) 8 0).tvaInv asid (page + k) false) s

/-- R381: MEM_UNMAP. Its reply waits until no access to the region is outstanding (R258). -/
def execMemUnmap (h : CmdHeader) (asid tva : Nat) (s : State) : Out :=
  s.command h (.memUnmap h asid tva) {
    op := 0x201
    objects := s.regionObj asid tva
    fields := fun _ => [fieldIs (decide (asid < 16))]
    run := fun t =>
      match t.regionOf asid tva with
      | none => cmdFail t 0x0E
      | some r =>
        if tva ≠ r.page * 2 ^ 21 then cmdFail t 0x0E
        else
          let u := t.unmapPages asid r.page r.frames.length
          { s := { u with host := { u.host with regions := u.host.regions.filter (fun x => !(x.asid == asid && x.page == r.page)) } }
            later := true } }

/-- R258: a MEM_UNMAP whose invalidation is done gives its reply. -/
def State.pollUnmap (s : State) (o : Outstanding) : State := if s.hub.inv.isNone then s.replyTo o 0 [] else s

/-- R257: Prompter firmware finds the DPA of a TVA in the page table; none where the entry does not permit the access. -/
def State.tvaDpa (s : State) (asid tva : Nat) (write : Bool) : Option Nat :=
  let v := s.num (s.ptPlace asid (tva / 2 ^ 21)) 8
  if tva < 2 ^ 40 ∧ ptFault v write = 0 then some (bitsOf v 35 21 * 2 ^ 21 + tva % 2 ^ 21) else none

/-- Bytes from a TVA up, in pieces that stay within one page. -/
def tvaPieces : Nat → Nat → Nat → List (Nat × Nat)
  | 0, _, _ => []
  | k + 1, tva, n => if n = 0 then [] else
    let m := min n (2 ^ 21 - tva % 2 ^ 21)
    (tva, m) :: tvaPieces k (tva + m) (n - m)

/-- Bytes read at a TVA by Prompter firmware; none where a page or its memory fails. -/
def State.tvaRead (s : State) (asid tva n : Nat) : Option (List Byte) × State :=
  (tvaPieces (n / 2 ^ 21 + 2) tva n).foldl (fun (r : Option (List Byte) × State) x =>
    match r.1, r.2.tvaDpa asid x.1 false with
    | some b, some d =>
      match r.2.readMem d x.2 with
      | (some c, u) => (some (b ++ c), u)
      | (none, u) => (none, u)
    | _, _ => (none, r.2)) (some [], s)

/-- Bytes written at a TVA by Prompter firmware; none where a page fails. -/
def State.tvaWrite (s : State) (asid tva : Nat) (b : List Byte) : Option State :=
  (tvaPieces (b.length / 2 ^ 21 + 2) tva b.length).foldl (fun (r : Option State) x =>
    r.bind (fun t => (t.tvaDpa asid x.1 true).bind (fun d => t.writeMem d ((b.drop (x.1 - tva)).take x.2)))) (some s)

/-- R381: MEM_WRITE. -/
def execMemWrite (h : CmdHeader) (asid tva : Nat) (b : List Byte) (s : State) : Out :=
  s.command h (.memWrite h asid tva b) {
    op := 0x203
    objects := s.regionObj asid tva
    fields := fun _ => [fieldIs (decide (asid < 16))]
    run := fun t =>
      if 65520 < b.length then cmdFail t 0x0D
      else if (t.regionOf asid tva).isNone then cmdFail t 0x0E
      else match t.tvaWrite asid tva b with
        | none => cmdFail t 0x15
        | some u => cmdOk u.dropCached [] }

/-- R381: MEM_READ. -/
def execMemRead (h : CmdHeader) (asid tva n : Nat) (s : State) : Out :=
  s.command h (.memRead h asid tva n) {
    op := 0x204
    objects := s.regionObj asid tva
    fields := fun _ => [fieldIs (decide (asid < 16)), fieldIn 2 n 0 65536]
    run := fun t =>
      if (t.regionOf asid tva).isNone then cmdFail t 0x0E
      else match t.tvaRead asid tva (min n 65536) with
        | (none, u) => cmdFail u 0x15
        | (some d, u) => cmdOk u (d.map (·.toNat)) }

/-- R397: the hub channel of an XFER: at High-Speed each direction carries stream 0 only. -/
def State.xferChannel (s : State) (dir stream : Nat) : Nat :=
  (if dir = 0 then 32 else 48) + (if s.fld rUSB_STAT fUSB_STAT_SPEED = 2 then 0 else stream)

/-- R398: XFER (`dir` 0 to the module, 1 to the host) arms its channel for exactly N bytes; its reply comes when they have moved. -/
def execXfer (h : CmdHeader) (dir stream asid tva bytes frc type : Nat) (s : State) : Out :=
  s.command h (.xfer h dir stream asid tva bytes frc type) {
    op := 0x202
    limit := 600000000
    objects := oEp2 (s.xferChannel dir stream) :: s.regionObj asid tva
    fields := fun _ => [fieldIs (decide (dir ≤ 1)), fieldIs (decide (stream < 16)), fieldIs (decide (asid < 16)),
      fieldIs (decide (frc ≤ 8)), fieldIs (decide (type ≤ 3))]
    run := fun t =>
      let n := t.xferChannel dir stream
      if (t.regionOf asid tva).isNone then cmdFail t 0x0E
      else if bytes = 0 then cmdOk t [0]
      else
        let d := xferDesc (dir == 0) (n % 16) tva bytes frc type
        let u := (t.modOutstanding h.tag (fun o => { o with
          object := n
          bytes := bytes
          args := [asid, n % 16, tva, frc, type] })).xferLaunch n asid d
        { s := { u with usb := { u.usb with armed := Cells.set (fun _ => 0) u.usb.armed n bytes } }
          later := true } }

end Sys2Proof.Machine
end

