-- ==== Sys2Proof/Machine/HostPower.lean ====
section
/-!
DEFINITION. The host commands of group 0x05xx, power (R381, R388, R414 to R418, R423, R425).
-/
namespace Sys2Proof.Machine

/-- R381: POWER_GET: ns spent in each state, input voltage in mV, input current in 10 mA units, the cap in W, and the number of
hold records, with kind, cluster, request, lowest OP and ms of each (R418). -/
def execPowerGet (h : CmdHeader) (s : State) : Out :=
  s.command h (.powerGet h) {
    op := 0x500
    run := fun t =>
      cmdOk t ((List.range 7).map (fun k => Cells.get (fun _ => 0) t.power.residency k) ++
        [t.fld rPWR_IN fPWR_IN_MV, t.fld rPWR_IN fPWR_IN_CURR, t.fld rPWR_CAP fPWR_CAP_CAP, t.power.holds.length] ++
        t.power.holds.flatMap (fun x => [x.1, x.2.1, x.2.2.1, x.2.2.2.1, x.2.2.2.2])) }

/-- R414: a loaded real-time script pins a cluster at OP7. -/
def State.pinned (s : State) (c : Nat) : Bool :=
  s.scripts.any (fun (x : Nat × Script) => x.2.decl.realtime && x.2.decl.cores.any (fun y => y.core / 4 == c))

/-- R414, R417: SET_OP stores the request of a cluster, which a limiter that holds the cluster keeps from taking effect. -/
def execSetOp (h : CmdHeader) (c op : Nat) (s : State) : Out :=
  s.command h (.setOp h c op) {
    op := 0x501
    fields := fun _ => [fieldIs (decide (c < 2)), fieldIs (decide (op < 8))]
    run := fun t =>
      if t.pinned c ∧ op < 7 then cmdFail t 0x12
      else cmdOk ((t.setCluster c { t.cluster c with lastSet := some op }).setReqOp c op).settle [] }

/-- R415: SET_POWER_CAP, from 20 W to the ceiling. -/
def execSetPowerCap (h : CmdHeader) (w : Nat) (s : State) : Out :=
  s.command h (.setPowerCap h w) {
    op := 0x502
    fields := fun t => [fieldIn 0 w 20 (t.fld rPWR_CAP fPWR_CAP_CEIL)]
    run := fun t => cmdOk (t.setFld rPWR_CAP fPWR_CAP_CAP (clampNat 20 (t.fld rPWR_CAP fPWR_CAP_CEIL) w)) [] }

/-- R388: commands that have started and have not replied, another SLEEP or DARK apart. -/
def State.othersRun (s : State) (tag : Nat) : Bool :=
  s.host.outstanding.any (fun o => o.tag != tag && !(s.host.held.any (fun x => x.1 == o.tag)) &&
    !([0x503, 0x504].contains (o.opcode % 4096)))

/-- R388: a SLEEP or DARK is looked after: once the commands outstanding have finished it replies OK, and then entry begins. -/
def State.pollEntry (s : State) (o : Outstanding) : State :=
  if s.awake ∧ !s.othersRun o.tag then
    let t := o.args.getD 0 0
    (s.replyTo o 0 []).beginEntry (o.opcode % 4096 == 0x504) (if t = 0 then none else some t) (o.args.getD 1 0)
  else s

/-- R388, R423: SLEEP, with the wake time clamped to 5 ms after the command, and the wake sources of R422. -/
def execSleep (h : CmdHeader) (t mask : Nat) (s : State) : Out :=
  s.command h (.sleep h t mask) {
    op := 0x503
    fields := fun u => [if t = 0 then {} else fieldIn 0 t (u.now + 5000000) (2 ^ 64 - 1), fieldIs (decide (mask < 64))]
    run := fun u => {
      s := u.modOutstanding h.tag (fun o => { o with args := [if t = 0 then 0 else max t (u.now + 5000000), mask] })
      later := true } }

/-- R388, R425: DARK, with the wake sources of R422. -/
def execDark (h : CmdHeader) (mask : Nat) (s : State) : Out :=
  s.command h (.dark h mask) {
    op := 0x504
    fields := fun _ => [fieldIs (decide (mask < 64))]
    run := fun u => {
      s := u.modOutstanding h.tag (fun o => { o with args := [0, mask] })
      later := true } }

end Sys2Proof.Machine
end

