-- ==== Sys2Proof/Machine/Admission.lean ====
section
/-!
DEFINITION. The admission of scripts: the limits of R291 with the times of R292, the stream rules of R349, and the refusal items
of R293. Where a rule does not say what NEEDED and AVAILABLE count, they count what the limit counts (log entry 54).
-/
namespace Sys2Proof.Machine

/-- R293: one refusal item: LIMIT, SCOPE as kind and index, NEEDED, AVAILABLE, DETAIL. -/
structure Refusal16 where
  limit : Nat
  kind : Nat
  index : Nat
  needed : Nat
  available : Nat
  detail : Nat
  deriving DecidableEq, Repr

/-- R293: SCOPE. -/
def Refusal16.scope (r : Refusal16) : Nat := r.kind * 4096 + r.index

/-! ### Masks and sums -/

/-- The bits of a mask. -/
def maskBits (width mask : Nat) : List Nat := (List.range width).filter (bitOf mask)

/-- A mask of shares against those that admitted scripts hold, each with its slot. -/
def maskItem (limit kind index width want : Nat) (held : List (Nat × Nat)) : List Refusal16 :=
  let owner (i : Nat) : Option Nat := (held.find? (fun x => bitOf x.2 i)).map (·.1)
  let bits := maskBits width want
  match bits.filterMap owner with
  | [] => []
  | slot :: _ => [⟨limit, kind, index, bits.length, (bits.filter (fun i => (owner i).isNone)).length, slot⟩]

/-- A number of shares against how many are free. -/
def sumItem (limit kind index needed available : Nat) : List Refusal16 :=
  if available < needed then [⟨limit, kind, index, needed, available, 0⟩] else []

/-- R289: what admitted scripts declare about a core, each with its slot. -/
def State.coreDecls (s : State) (n : Nat) : List (Nat × CoreDecl) :=
  s.scripts.flatMap (fun (x : Nat × Script) => (x.2.decl.cores.filter (fun d => d.core == n)).map (fun d => (x.1, d)))

/-- What admitted scripts declare. -/
def State.decls (s : State) : List ScriptDecl := s.scripts.map (fun (x : Nat × Script) => x.2.decl)

/-- R349: scoreboard entries that the streams of a script take on a core. -/
def declStreamEntries (d : ScriptDecl) (n : Nat) : Nat :=
  sumNat ((d.streams.filter (fun r => bitOf (recordField r 2 1) n)).map (fun r =>
    if bitOf (recordField r 1 1) 0 then recordField r 3 1 * (1 + recordField r 41 1) else 2))

/-- R291, R349: scoreboard entries that a script may hold at once on a core. -/
def declPeak (d : ScriptDecl) (n : Nat) : Nat :=
  sumNat ((d.cores.filter (fun c => c.core == n)).map (·.sbPeak)) + declStreamEntries d n

/-! ### Limits of cores and stores -/

/-- R291, codes 0x02: ranges of X or Y memory that overlap. -/
def rangeItems (n : Nat) (want : Nat × Nat) (held : List (Nat × Nat × Nat)) : List Refusal16 :=
  match held.find? (fun x => decide (want.1 < x.2.2 ∧ x.2.1 < want.2)) with
  | none => []
  | some x => [⟨0x02, 1, n, want.2 - want.1, (want.2 - want.1) - (min want.2 x.2.2 - max want.1 x.2.1), x.1⟩]

/-- R291: the limits of one core entry. -/
def State.coreItems (s : State) (d : ScriptDecl) (c : CoreDecl) : List Refusal16 :=
  let n := c.core
  let l := s.coreDecls n
  let masks (f : CoreDecl → Nat) : List (Nat × Nat) := l.map (fun x => (x.1, f x.2))
  let peaks := sumNat (s.decls.map (fun x => declPeak x n))
  let slots := sumNat (l.map (fun x => x.2.slotsRt))
  let chained := l.find? (fun x => x.2.chain.isSome)
  maskItem 0x01 1 n 12 c.lsBanks (masks (·.lsBanks)) ++
  rangeItems n c.x (l.map (fun x => (x.1, x.2.x))) ++
  rangeItems n c.y (l.map (fun x => (x.1, x.2.y))) ++
  maskItem 0x03 1 n 16 c.imem (masks (·.imem)) ++
  sumItem 0x05 1 n (declPeak d n) (64 - peaks) ++
  maskItem 0x06 1 n 4 c.ctxs (masks (·.ctxs)) ++
  maskItem 0x07 1 n 16 c.channels (masks (·.channels)) ++
  sumItem 0x08 1 n c.slotsRt (256 - slots) ++
  (match c.chain, chained with
    | some _, some x => [⟨0x0F, 1, n, 1, 0, x.1⟩]
    | _, _ => []) ++
  (if s.host.fenced.contains n then [⟨0x14, 1, n, 1, 0, 0⟩] else [])

/-- R291, code 0x04: the ways of a cluster. -/
def State.wayItems (s : State) (d : ScriptDecl) (c : Nat) : List Refusal16 :=
  let scratch := d.ss.getD (2 * c) 0
  let cache := d.ss.getD (2 * c + 1) 0
  let bits := (List.range 16).filter (fun w => bitOf scratch w || bitOf cache w)
  let want := sumNat (bits.map (2 ^ ·))
  let both := (List.range 16).filter (fun w => bitOf scratch w && bitOf cache w)
  let held := s.scripts.flatMap (fun (x : Nat × Script) => [(x.1, x.2.decl.ss.getD (2 * c) 0), (x.1, x.2.decl.ss.getD (2 * c + 1) 0)])
  match maskItem 0x04 2 c 16 want held with
  | [] => if both.isEmpty then [] else [⟨0x04, 2, c, bits.length, bits.length - both.length, 0xFF⟩]
  | l => l

/-! ### Limits of the die -/

/-- R271: the buffer-table entries of enabled pools, as ranges. -/
def State.tableRanges (s : State) : List (Nat × Nat) :=
  ((List.range 16).filter (fun p => s.flag (rHP_CFG p) fHP_CFG_EN)).map (fun p =>
    (s.fld (rHP_BASE p) fHP_BASE_FIRST, s.fld (rHP_BASE p) fHP_BASE_FIRST + s.fld (rHP_CFG p) fHP_CFG_SIZE))

/-- The lowest run of `n` free buffer-table entries. -/
def firstRun (held : List (Nat × Nat)) (n : Nat) : Option Nat :=
  (0 :: held.map (·.2)).foldl (fun (best : Option Nat) a =>
    if a + n ≤ 16384 ∧ held.all (fun r => decide (a + n ≤ r.1 ∨ r.2 ≤ a)) ∧ best.all (fun b => decide (a < b)) then some a else best) none

/-- The free pools, handle queues, barriers, chains, windows and hub channels. Barrier 31 is Prompter firmware's own (R456), as
are hub channels 32 to 63 (R397). -/
def State.freePoolList (s : State) : List Nat := ((List.range 15).map (· + 1)).filter (fun p => !s.flag (rHP_CFG p) fHP_CFG_EN)
/-- Free handle queues. -/
def State.freeQueues (s : State) : List Nat := (List.range 256).filter (fun q => !s.flag (rHQ_CFG q) fHQ_CFG_EN)
/-- Free barriers. -/
def State.freeBars (s : State) : List Nat := (List.range 31).filter (fun b => !s.flag (rBAR_CFG b) fBAR_CFG_EN)
/-- Free chains. -/
def State.freeChains (s : State) : List Nat :=
  (List.range 8).filter (fun k => s.scripts.all (fun (x : Nat × Script) => !x.2.chains.contains k))
/-- Free windows. -/
def State.freeWindows (s : State) : List Nat := (List.range 16).filter (fun w => !(s.window w).booked)
/-- Free hub channels. -/
def State.freeHub (s : State) : List Nat :=
  (List.range 32).filter (fun n => s.scripts.all (fun (x : Nat × Script) => !x.2.hubChans.contains n))

/-- The tags that a script asks for. -/
def declTags (d : ScriptDecl) : Nat := d.hubTags + sumNat (d.cores.map (·.tags))

/-- R53: two windows to one DDR4 channel, or two openings of one, are at least 10 µs apart in every period. -/
def windowsApart (period : Nat) (l : List WindowDecl) : Bool :=
  (List.range 8).all (fun ch =>
    let spans := (l.filter (fun w => w.ddr == some ch)).flatMap (fun w => w.opens.map (fun o => (o, o + w.dur)))
    spans.zipIdx.all (fun x => spans.zipIdx.all (fun y =>
      x.2 == y.2 || decide (x.1.2 + 10000 ≤ y.1.1 ∨ y.1.2 + 10000 ≤ x.1.1))) &&
    (period == 0 || spans.all (fun x => spans.all (fun y => decide (x.2 + 10000 ≤ y.1 + period)))))

/-- R291: the limits of the die. -/
def State.dieItems (s : State) (d : ScriptDecl) : List Refusal16 :=
  let sizes := d.pools.map List.length
  let entries := 16384 - sumNat (s.tableRanges.map (fun r => r.2 - r.1))
  let tags := sumNat (s.decls.map declTags)
  let hubRt := sumNat (s.decls.map (·.hubSlotsRt))
  let book := s.bookings ++ d.windows.map (fun w => (⟨w.src, w.dst, w.bw, w.dur⟩ : Booking))
  sumItem 0x07 0 0 d.hubCh s.freeHub.length ++
  sumItem 0x08 0 0 d.hubSlotsRt (2048 - hubRt) ++
  sumItem 0x09 0 0 (declTags d) (114688 - tags) ++
  (if d.buffers ≤ entries ∧ d.pools.length ≤ s.freePoolList.length ∧ sizes.all (fun n => decide (n ≤ 4096)) ∧
      (d.buffers = 0 ∨ (firstRun s.tableRanges d.buffers).isSome) then []
    else [⟨0x0A, 0, 0, d.buffers, entries, 0⟩]) ++
  sumItem 0x0B 0 0 d.hqueues.length s.freeQueues.length ++
  (if d.windows.length ≤ s.freeWindows.length ∧ bookingsOk book ∧ windowsApart d.period d.windows then []
    else [⟨0x0D, 0, 0, d.windows.length, s.freeWindows.length, 0⟩]) ++
  sumItem 0x0E 0 0 d.barriers.length s.freeBars.length ++
  sumItem 0x0F 0 0 d.chains s.freeChains.length

/-! ### Cue slots (R50) -/

/-- The instances of a sheet entry that are due within 4 ms of an instant `t` of the sheet. -/
def dueWithin (period t offset : Nat) : Nat :=
  if period = 0 then (if t ≤ offset ∧ offset ≤ t + 4000000 then 1 else 0)
  else if t ≤ offset then (if offset ≤ t + 4000000 then (t + 4000000 - offset) / period + 1 else 0)
  else
    let first := (t - offset + period - 1) / period
    if offset + first * period ≤ t + 4000000 then (t + 4000000 - offset - first * period) / period + 1 else 0

/-- R50: the largest number of entries that a sheet needs on a queue at an instant. -/
def declCueNeed (d : ScriptDecl) (q : Nat) : Nat :=
  let l := d.sheet.filter (fun e => e.queue == q)
  let once := l.filter (fun e => bitsOf e.high 31 10 == 0)
  let periodic := l.length - once.length
  (once.map (fun e => sumNat (once.map (fun x => dueWithin d.period e.offset x.offset)))).foldl max 0 + periodic

/-- R289: the share of a queue that a script declares. Port queues and the AON queue have no declared share: what others do not
need is free. -/
def State.cueShare (s : State) (d : ScriptDecl) (q : QueueId) : Nat :=
  match q with
  | .core b => sumNat ((d.cores.filter (fun c => c.core == b.val)).map (·.cueSlots))
  | .hub => d.hubCue
  | _ => queueCap q - sumNat (s.decls.map (fun x => declCueNeed x q.num))

/-- Every queue. -/
def allQueues : List QueueId :=
  (List.finRange 8).map QueueId.core ++ [.hub] ++ (List.finRange 12).map QueueId.port ++ [.aon]

/-- R291, code 0x0C: R50 on each queue, and the shares of all scripts within its slots. -/
def State.cueItems (s : State) (d : ScriptDecl) : List Refusal16 :=
  allQueues.flatMap (fun q =>
    let share := s.cueShare d q
    let others := match q with
      | .core _ | .hub => sumNat (s.decls.map (fun x => s.cueShare x q))
      | _ => 0
    sumItem 0x0C 3 q.num (declCueNeed d q.num) share ++ sumItem 0x0C 3 q.num share (queueCap q - others))

/-! ### Frond time and deadlines (R292) -/

/-- A job of a script as the frond reads it. -/
def jobOf (j : JobDecl) : FrondJob := { ofs := 0, d := j.fields }

/-- R205: a DPA lies in a shared-store way that the script declares as a scratchpad. -/
def declInScratch (d : ScriptDecl) (a : Nat) : Bool :=
  decide (0x4800000000 ≤ a ∧ a < 0x4804000000) &&
    (let c := (a - 0x4800000000) / 0x2000000
     let o := (a - 0x4800000000) % 0x2000000
     decide (o < 0x1000000) && bitOf (d.ss.getD (2 * c) 0) (o / 0x100000))

/-- R66, R292: the load time of K-tile `t`. -/
def declLoadTime (d : ScriptDecl) (j : FrondJob) (t : Nat) : Rat :=
  let bytes : Rat := ((j.blocks t * j.blockBytes : Nat) : Rat)
  if j.wsrc ≠ 1 then 256 else if declInScratch d (j.tileAddr t) then bytes / 288 else bytes * 10 / 256

/-- R292: the time of the pass of K-tile `t`: max(M′, W). -/
def declPassTime (d : ScriptDecl) (j : FrondJob) (t : Nat) : Rat :=
  max (((if j.fmt = 3 then 2 * j.m else j.m) : Nat) : Rat) (declLoadTime d j t)

/-- The sum of a list. -/
def sumRat (l : List Rat) : Rat := l.foldl (· + ·) 0

/-- R292: C of a job. -/
def declJobTime (d : ScriptDecl) (j : FrondJob) : Rat := sumRat ((List.range j.kt).map (declPassTime d j))

/-- R292: 540 cycles for the first job, and for each that reads what an earlier job of the record writes. -/
def latencies : List FrondJob → List FrondJob → Nat
  | _, [] => 0
  | before, j :: l =>
    (if before.isEmpty || before.any (fun k => j.reads.any (fun r => overlaps r k.outRange)) then 540 else 0) +
      latencies (before ++ [j]) l

/-- R289: the jobs of a deadline record. -/
def declRecordJobs (d : ScriptDecl) (r : DeadlineDecl) : List FrondJob := ((d.jobs.drop r.first).take r.jobs).map jobOf

/-- R292: F of a deadline record. -/
def declFrondTime (d : ScriptDecl) (r : DeadlineDecl) : Rat :=
  let l := declRecordJobs d r
  sumRat (l.map (declJobTime d)) + (latencies [] l : Nat)

/-- R292: B of a core: the longest pass of any batch job of these scripts. -/
def blocking (ds : List ScriptDecl) (n : Nat) : Rat :=
  (ds.flatMap (fun d => (d.jobs.filter (fun j => j.batch && j.core == n)).flatMap (fun j =>
    (List.range (jobOf j).kt).map (declPassTime d (jobOf j))))).foldl max 0

/-- R289: the deadline records of these scripts on a core: the script's place in the list, the record's number, and the record. -/
def recordsOn (ds : List ScriptDecl) (n : Nat) : List (Nat × Nat × DeadlineDecl) :=
  ds.zipIdx.flatMap (fun x => (x.1.deadlines.zipIdx.filter (fun r => r.1.core == n)).map (fun r => (x.2, r.2, r.1)))

/-- R292: I of a record. -/
def interference (ds : List ScriptDecl) (k i : Nat) (r : DeadlineDecl) : Rat :=
  sumRat ((recordsOn ds r.core).map (fun x =>
    let e := x.2.2
    if (x.1 = k ∧ x.2.1 = i) ∨ r.release + r.deadline < e.release ∨ e.release + e.deadline < r.release then 0
    else (match ds[x.1]? with | some d => declFrondTime d e | none => 0) + (if e.ctx < r.ctx then (e.wcet : Rat) else 0)))

/-- R292: R of a record. -/
def response (ds : List ScriptDecl) (d : ScriptDecl) (k i : Nat) (r : DeadlineDecl) : Rat :=
  (r.wcet : Rat) + declFrondTime d r + blocking ds r.core + interference ds k i r

/-- A time rounded up to whole ns. -/
def ceilNat (x : Rat) : Nat := x.ceil.toNat

/-- R291, codes 0x10 and 0x11. The new script stands at the end of the list, after the admitted ones in slot order. -/
def State.timeItems (s : State) (d : ScriptDecl) : List Refusal16 :=
  let ds := s.decls ++ [d]
  let slots := s.scripts.map (·.1)
  let frond := d.cores.flatMap (fun c =>
    let recs := recordsOn ds c.core
    let u := sumRat (recs.map (fun x => match ds[x.1]? with | some e => declFrondTime e x.2.2 | none => 0)) +
      (recs.length : Nat) * blocking ds c.core
    if d.period ≠ 0 ∧ (d.period : Rat) < u then [⟨0x10, 1, c.core, ceilNat u, d.period, 0⟩] else [])
  let late := (List.range 8).flatMap (fun n => (recordsOn ds n).flatMap (fun x =>
    match ds[x.1]? with
    | none => []
    | some e =>
      let r := response ds e x.1 x.2.1 x.2.2
      if (x.2.2.deadline : Rat) < r then
        (match slots[x.1]? with
          | some slot => [⟨0x11, 6, slot, ceilNat r, x.2.2.deadline, x.2.1⟩]
          | none => [⟨0x11, 5, x.2.1, ceilNat r, x.2.2.deadline, 0⟩])
      else []))
  frond ++ late

/-! ### Layers, descriptors, records (R86, R99, R104, R131, R138, R242) -/

/-- R131, R138: layers smaller than their filter, and frequency-path layers that may not be. -/
def layerItems (d : ScriptDecl) : List Refusal16 :=
  d.layers.zipIdx.flatMap (fun x =>
    (x.1.axes.zipIdx.flatMap (fun a => if a.1.1 < a.1.2.1 then [⟨0x12, 4, x.2, a.1.2.1, a.1.1, a.2⟩] else [])) ++
    (match x.1.tile with
      | none => []
      | some t =>
        if !d.fixedPath && (t == 64 || t == 128) && x.1.axes.all (fun a => a.2.2 == 1 && decide (15 ≤ a.2.1 ∧ a.2.1 ≤ t / 2)) then []
        else [⟨0x16, 4, x.2, (x.1.axes.map (fun a => a.2.1)).foldl max 0, t / 2, 0⟩]))

/-- R98, R99: the field of a tensor record that is wrong: 1 TYPE, 2 a reserved field, 3 SC_MANT, 4 ZP. -/
def tensorFault (t : TensorDecl) : Option Nat :=
  let b := match t.type with | 0 => (-128, 127) | 1 => (0, 255) | 2 => (-32768, 32767) | _ => ((0 : Int), (65535 : Int))
  if 3 < t.type then some 1 else if !t.rsvOk then some 2 else if t.mant = 0 then some 3
  else if t.zp < b.1 ∨ b.2 < t.zp then some 4 else none

/-- R99: a job's ZA, ZO and clamps agree with the records of the tensors that it reads and writes. -/
def declJobAgrees (d : ScriptDecl) (j : JobDecl) : Bool :=
  let k := jobOf j
  let rec_ (id : Nat) : Option TensorDecl := d.tensors.find? (fun t => t.id == id)
  (match rec_ j.act with
    | some t => t.zp == k.za && t.type == (if k.f 0 18 18 = 1 then 0 else 1)
    | none => true) &&
  (match rec_ j.out with
    | some t =>
      let b := outBounds k.fmt
      k.fmt == 3 || (t.zp == signed 16 (k.f 10 15 0) && t.type == k.fmt && decide (b.1 ≤ signed 16 (k.f 10 31 16)) &&
        decide (signed 16 (k.f 11 15 0) ≤ b.2))
    | none => true)

/-- R104: W_KT_STRIDE holds one K-tile. -/
def strideOk (j : FrondJob) : Bool :=
  j.kt == 1 || decide ((List.range (min j.kt 2)).all (fun t => decide (j.blocks t * j.blockBytes ≤ j.f 7 31 10 * 64)))

/-- R291, code 0x13: stored descriptors, and records. DETAIL gives the failing check, or the tensor and the field. -/
def State.descItems (s : State) (d : ScriptDecl) : List Refusal16 :=
  d.jobs.zipIdx.flatMap (fun x =>
    let c := (jobOf x.1).check
    if c ≠ 0 then [⟨0x13, 0, x.2 % 4096, 1, 0, c⟩]
    else if !strideOk (jobOf x.1) then [⟨0x13, 0, x.2 % 4096, (jobOf x.1).blocks 0 * (jobOf x.1).blockBytes / 64, (jobOf x.1).f 7 31 10, 0x20⟩]
    else if !declJobAgrees d x.1 then [⟨0x13, 0, x.2 % 4096, 1, 0, 0x21⟩] else []) ++
  d.dmaDescs.zipIdx.flatMap (fun x =>
    let c := s.descCheck (if x.1.1 then 9 else 0) x.1.2
    if c ≠ 0 then [⟨0x13, 0, x.2 % 4096, 1, 0, 0x100 + c⟩] else []) ++
  d.tensors.filterMap (fun t => (tensorFault t).map (fun f => ⟨0x13, 0, 0, 1, 0, t.id * 65536 + 0x200 + f⟩))

/-! ### Streams (R349) -/

/-- A stream record as a frame of the stream whose registers it sets would latch it. -/
def State.recordShape (s : State) (r : List Byte) : SaFrame :=
  let k := recordField r 0 1
  let flags := recordField r 1 1
  { fidx := 0
    height := s.fld (rINT_STR_GEOM k) fINT_STR_GEOM_HEIGHT
    width := s.fld (rINT_STR_GEOM k) fINT_STR_GEOM_WIDTH
    cfg := BitVec.ofNat 32 (flags % 2 * 2 ^ 30 + recordField r 40 1 % 4 * 2 ^ 28 + flags / 2 % 2 * 2 ^ 27 + flags / 8 % 2 * 2 ^ 26 +
      (recordField r 3 1 - 1) % 4 * 2 ^ 24 + recordField r 2 1 * 2 ^ 16 + recordField r 41 1 % 8 * 2 ^ 5 + recordField r 4 2 / 8 % 32)
    halo := BitVec.ofNat 32 (recordField r 6 1 * 2 ^ 24 + recordField r 7 1 * 2 ^ 16 + recordField r 8 1 * 2 ^ 8 + recordField r 9 1)
    base := recordField r 32 4
    geom := BitVec.ofNat 32 (recordField r 36 2 * 2 ^ 16 + recordField r 38 2)
    dl := recordField r 20 4
    zval := recordField r 10 2
    xr := (List.range 7).map (fun i => (recordField r (48 + 6 * i) 3, recordField r (51 + 6 * i) 3))
    isp := []
    raw := s.rawStream k
    first := 0
    record := none
    handle := none }

/-- T_s in ns. -/
def recordT (r : List Byte) : Nat := (maskBits 8 (recordField r 2 1)).length * recordField r 4 2 * recordField r 12 4

/-- The stream records of these scripts that use a core. -/
def streamsOnCore (ds : List ScriptDecl) (n : Nat) : List (List Byte) :=
  ds.flatMap (fun d => d.streams.filter (fun r => bitOf (recordField r 2 1) n))

/-- R349 rule 5: the density of a core. -/
def density (ds : List ScriptDecl) (n : Nat) : Rat :=
  let l := streamsOnCore ds n
  let dls := l.map (fun r => recordField r 20 4)
  let least := dls.foldl min (dls.headD 0)
  sumRat (l.map (fun r => ((recordField r 24 4 + recordField r 28 4 : Nat) : Rat) / (min (recordField r 20 4) (recordT r) : Nat))) +
  sumRat ((recordsOn ds n).map (fun x =>
    ((x.2.2.wcet : Rat) + (match ds[x.1]? with | some d => declFrondTime d x.2.2 | none => 0)) / (x.2.2.deadline : Nat))) +
  blocking ds n / (least : Nat)

/-- R349 rule 7: slot bytes per ns of a stream. -/
def State.slotRate (s : State) (r : List Byte) : Rat :=
  let f := s.recordShape r
  ((f.slotWords * 2 * f.j : Nat) : Rat) / (recordField r 16 4 : Nat)

/-- R349: the rules that a stream record breaks. -/
def State.streamFaults (s : State) (d : ScriptDecl) (r : List Byte) : List Nat :=
  let ds := s.decls ++ [d]
  let f := s.recordShape r
  let xchg := f.xchg
  let h := recordField r 4 2
  let line := recordField r 12 4
  let period := recordField r 16 4
  let dl := recordField r 20 4
  let t := recordT r
  let halos := [recordField r 6 1, recordField r 7 1, recordField r 8 1, recordField r 9 1]
  let area := 64 * recordField r 38 2
  let xr := recordField r 41 1
  let rows := (f.ht + h + f.hb) * line
  let others := ds.flatMap (fun e => e.streams.filter (fun q => recordField q 0 1 != recordField r 0 1))
  let banks (b : Nat) : Nat := sumNat ((d.cores.filter (fun c => c.core == b)).map (·.lsBanks))
  let inBanks (b : Nat) : Bool := decide (f.slots.2 ≤ 0x300000) && (List.range 12).all (fun i =>
    decide (f.slots.2 ≤ i * 0x40000 ∨ (i + 1) * 0x40000 ≤ f.slots.1) || bitOf (banks b) i)
  let rule1 := h % 8 == 0 && decide (16 ≤ h ∧ h ≤ 128 ∧ h ≤ (f.height + 7) / 8 * 8) &&
    halos.all (fun x => decide (x ≤ 64) && (!f.raw || x % 2 == 0)) &&
    (f.raw || (halos.all (· == 0) && !xchg && !f.refEn)) && decide (recordField r 40 1 ≤ 2) &&
    (if xchg then (f.xr.take xr).all (fun x => decide (x.1 + x.2 ≤ area)) else area == 0 && xr == 0)
  let rule2 := decide (f.hl + f.width + f.hr ≤ f.stride) && f.cores.all inBanks &&
    others.all (fun q =>
      let g := s.recordShape q
      !(g.cores.any (fun b => f.cores.contains b)) || decide (f.slots.2 ≤ g.slots.1 ∨ g.slots.2 ≤ f.slots.1))
  let rule3 := decide (rows + dl + (if xchg then t else 0) ≤ f.nslot * t)
  let rule4 := f.cores.all (fun n => decide (sumNat ((streamsOnCore ds n).map (fun q => recordField q 3 1)) ≤ 32))
  let rule5 := f.cores.all (fun n => (streamsOnCore ds n).all (fun q => decide (0 < min (recordField q 20 4) (recordT q))) &&
    decide (density ds n ≤ 1))
  let rule6 := !f.refEn || decide (dl + rows ≤ period)
  let rule7 := decide (sumRat (ds.flatMap (fun e => e.streams.map s.slotRate)) ≤ 48)
  let rule8 := decide (f.height * line ≤ period) && f.cores.all (fun n => d.cores.any (fun c => c.core == n && c.rtCtxs != 0))
  ([rule1, rule2, rule3, rule4, rule5, rule6, rule7, rule8].zipIdx.filter (fun x => !x.1)).map (fun x => x.2 + 1)

/-- R291, code 0x15; a stream that another script drives breaks rule 2. -/
def State.streamItems (s : State) (d : ScriptDecl) : List Refusal16 :=
  d.streams.flatMap (fun r =>
    let k := recordField r 0 1
    let held := if s.decls.any (fun e => e.streams.any (fun q => recordField q 0 1 == k)) then [2] else []
    (held ++ s.streamFaults d r).eraseDups.map (fun n => ⟨0x15, 0, k, 1, 0, k + 256 * n⟩))

/-! ### Admission -/

/-- R291: every limit that a script fails. -/
def State.refusals (s : State) (d : ScriptDecl) : List Refusal16 :=
  d.cores.flatMap (s.coreItems d) ++ [0, 1].flatMap (s.wayItems d) ++ s.dieItems d ++ s.cueItems d ++ s.timeItems d ++
    layerItems d ++ s.descItems d ++ s.streamItems d

/-- R289, R348: a declaration that is laid out as the rules say. -/
def declOk (d : ScriptDecl) : Bool :=
  d.version == 1 && d.rsvOk && decide (d.pools.length ≤ 15 ∧ d.barriers.length ≤ 32 ∧ d.chains ≤ 8 ∧ d.windows.length ≤ 16 ∧
    d.hqueues.length ≤ 256 ∧ d.hubCh ≤ 64) &&
  d.cores.map (·.core) == maskBits 8 d.coreMask &&
  d.cores.all (fun c => decide (c.rtCtxs % 16 &&& c.ctxs % 16 = c.rtCtxs) && decide (c.lsBanks < 4096 ∧ c.imem < 65536)) &&
  d.buffers == sumNat (d.pools.map List.length) && d.hqueues.all (fun p => decide (p < d.pools.length)) &&
  d.deadlines.all (fun r => d.cores.any (fun c => c.core == r.core && bitOf c.rtCtxs r.ctx) && decide (r.first + r.jobs ≤ d.jobs.length)) &&
  d.cores.all (fun c => c.chain.all (fun x => decide (x.2 < d.chains))) &&
  d.streams.all (fun r => r.length == 96 && decide (recordField r 0 1 < 48 ∧ recordField r 1 1 < 16) &&
    decide (2 ≤ recordField r 3 1 ∧ recordField r 3 1 ≤ 4 ∧ recordField r 41 1 ≤ 7) &&
    decide (recordField r 42 6 = 0 ∧ recordField r 90 6 = 0) && d.coreMask &&& recordField r 2 1 == recordField r 2 1) &&
  d.sheet.all (fun e => (queueOfId e.queue).isSome)

end Sys2Proof.Machine
end

