-- ==== Sys2Proof/Machine/HostRehearse.lean ====
section
/-!
DEFINITION. The host commands of group 0x06xx, rehearsal and repair (R381, R452 to R465).
-/
namespace Sys2Proof.Machine

/-- R454, R455: the slice that comes next: the first of the catalogue that has not been done and whose condition holds. -/
def State.nextSlice (s : State) : Option Nat :=
  (s.catalogue.find? (fun x => !(s.reh.done.contains x.1) && s.sliceOk x.2 &&
    (decide (4096 ≤ x.2) || x.1 / 65536 == s.phys 8))).map (·.2)

/-- R381: REHEARSAL_STATUS: rotations completed, confirmed failures, and the BLOCK of the next slice, 0xFFFF with none left. -/
def execRehearsalStatus (h : CmdHeader) (s : State) : Out :=
  s.command h (.rehearsalStatus h) {
    op := 0x600
    run := fun t =>
      let u := t.gather [rREH_FAIL_CNT]
      cmdOk u [(u.reg rREH_ROT_CNT).toNat, u.total rREH_FAIL_CNT 0, u.nextSlice.getD 0xFFFF] }

/-- R381, R452: REHEARSAL_CFG sets the rotation period. -/
def execRehearsalCfg (h : CmdHeader) (hours : Nat) (s : State) : Out :=
  s.command h (.rehearsalCfg h hours) {
    op := 0x601
    fields := fun _ => [fieldIn 0 hours 1 720]
    run := fun t => cmdOk (t.setFld rREH_CTL fREH_CTL_ROT_HOURS (clampNat 1 720 hours)) [] }

/-- R455: a BLOCK that the catalogue lists. -/
def listedBlock (block : Nat) : Bool :=
  match block / 4096 with
  | 0 => decide (block % 4096 < 48)
  | 1 => decide (block % 4096 < 32)
  | 2 => decide (block % 4096 < 8)
  | 3 => decide (block % 4096 < 4)
  | 4 => decide (block % 4096 < 12)
  | 5 => decide (block % 4096 < 6)
  | _ => false

/-- R381: REHEARSE_NOW runs one slice; its reply comes when the slice has ended. -/
def execRehearseNow (h : CmdHeader) (block : Nat) (s : State) : Out :=
  s.command h (.rehearseNow h block) {
    op := 0x602
    fields := fun _ => [fieldIs (listedBlock block)]
    run := fun t =>
      if !t.sliceOk block then cmdFail t 0x12
      else
        let u := t.rehGo block
        if t.reh.slice.isSome ∨ u.reh.slice.isNone then cmdFail t 0x04 else { s := u, later := true } }

/-- R381: a REHEARSE_NOW whose slice has ended: RESULT, the signature found and the one expected. -/
def State.pollRehearse (s : State) (o : Outstanding) : State :=
  if s.reh.slice.isSome then s
  else s.replyTo o 0 [s.fld rREH_STAT fREH_STAT_RESULT, (s.reg rREH_MISR).toNat, (s.reg rREH_EXPECT).toNat]

/-- R465: a repair entry as a reply gives it: whether it is a fuse entry, and its fields. -/
def repairWords (fused : Bool) (e : RepairEntry) : List Nat := [b2n fused, e.kind, e.phys, e.mem, e.bank, e.index, e.spare]

/-- R377, R381: REPAIR_MAP_GET: how many entries follow, the index of the first not returned, and the fuse entries and then the
valid field entries. -/
def execRepairMapGet (h : CmdHeader) (cont : Nat) (s : State) : Out :=
  s.command h (.repairMapGet h cont) {
    op := 0x603
    run := fun t =>
      let l := t.sec.fuseRepairs.map (repairWords true) ++ t.fieldRepairs.map (repairWords false)
      let part := (l.drop cont).take 2047
      cmdOk t ([part.length, min l.length (cont + part.length)] ++ part.flatten) }

/-- R461: a CORE_REPLACE is looked after: its swap has been made; or, after an abandoned attempt, it begins again, up to three
times (R457). -/
def State.pollReplace (s : State) (o : Outstanding) : State :=
  let b := o.object
  if s.phys b ≠ o.bytes then s.replyTo o 0 [s.phys b]
  else if s.reh.swap.isSome then s
  else if !s.spareHealthy then s.replyTo o 0x12 []
  else if 3 ≤ o.moved then s.replyTo o 0x04 []
  else if s.reh.slice.isSome then s
  else (s.modOutstanding o.tag (fun x => { x with moved := x.moved + 1 })).swapStart b

/-- R461: CORE_REPLACE: a planned swap of a logical index. -/
def execCoreReplace (h : CmdHeader) (b : Nat) (s : State) : Out :=
  s.command h (.coreReplace h b) {
    op := 0x604
    fields := fun _ => [fieldIs (decide (b < 8))]
    run := fun t =>
      if !t.spareHealthy then cmdFail t 0x12
      else
        let u := t.modOutstanding h.tag (fun o => { o with
          object := b
          bytes := t.phys b })
        { s := match u.outstandingTag h.tag with
            | some o => u.pollReplace o
            | none => u
          later := true } }

/-! ### FULL_TEST (R444, R465) -/

/-- R465: a repair that the full test engine finds necessary, from six numbers in the order of the map's fields. -/
def findEntries : List Nat → List RepairEntry
  | k :: p :: m :: b :: i :: sp :: l => ⟨k, p, m, b, i, sp⟩ :: findEntries l
  | _ => []

/-- R464, R465: one repair is entered in the map with CAUSE 3, applied and recorded. -/
def State.fullRepair (s : State) (e : RepairEntry) : State :=
  let s1 := (s.mapWrite e 3).applyRepair false e
  match e.kind with
  | 1 => s1.lichenFw 0x0403 e.phys 0 e.index e.spare
  | 2 => s1.lichenFw 0x0403 e.phys 1 e.index e.spare
  | 3 => s1.lichenFw 0x0404 e.phys (e.mem * 16 + e.bank) e.index e.spare
  | 4 => s1.lichenFw 0x040D (e.phys - 0x10) e.bank e.index 0
  | _ => s1.lichenFw 0x0407 e.phys 0 s1.healthyCores 0

/-- R465: field entries are programmed into fuse repair entries while one is free. -/
def State.programFuses (s : State) : List RepairEntry → State
  | [] => s
  | e :: l =>
    if !(s.sec.fuseRepairs.any (fun y => y.same e)) && Config.fuseFree s.sec.fuseRepairs.length then
      { s with sec := { s.sec with fuseRepairs := s.sec.fuseRepairs ++ [e] } }.programFuses l
    else s.programFuses l

/-- R465: the bytes of the field entries that are still in force: not superseded, and not overridden by a fuse entry. -/
def State.entriesInForce (s : State) : List Nat → List (List Byte)
  | [] => []
  | m :: l =>
    let e := s.repairAt m
    if l.any (fun y => e.same (s.repairAt y)) || s.sec.fuseRepairs.any (fun y => y.same e) then s.entriesInForce l
    else s.bytes (m - 31) 32 :: s.entriesInForce l

/-- R465: where the valid field entries have their markers, in order. -/
def State.fieldMarkers (s : State) : List Nat :=
  (s.mem.filter (fun (x : Nat × Byte) => decide (norPlace 0x3100000 ≤ x.1 ∧ x.1 < norPlace 0x3200000) && x.1 % 32 == 31 &&
    x.2 == 0xA5)).map (·.1)

/-- R465: the map is compacted. -/
def State.compactMap (s : State) : State :=
  let l := s.entriesInForce s.fieldMarkers
  let s1 := (s.norErase 0x3100000 0x100000).setBytes (norPlace 0x3100000) l.flatten
  { s1 with reh := { s1.reh with mapEntries := l.length } }

/-- R381, R465: FULL_TEST runs the full test engine over the blocks of a mask; `finds` are the repairs that the silicon turns out to
need, as `findEntries` reads them. -/
def execFullTest (h : CmdHeader) (mask : Nat) (finds : List Nat) (s : State) : Out :=
  s.command h (.fullTest h mask finds) {
    op := 0x605
    fields := fun _ => [fieldIs (decide (mask < 65536))]
    run := fun t =>
      if t.sec.fullTest then cmdFail t 0x04
      else
        let u := t.modOutstanding h.tag (fun o => { o with args := mask :: finds })
        { s := { u with sec := { u.sec with fullTest := true } }
          later := true } }

/-- R194: the emulation gate closes, and MODE.EMU clears in every core. -/
def State.closeGate (s : State) : State :=
  (List.range 9).foldl (fun (t : State) p => t.setCore p { t.core p with emu := false }) (s.setFld rSEC_EMU_GATE fSEC_EMU_GATE_OPEN 0)

/-- A free result for each block of a mask. -/
def State.testResults (s : State) : List Nat → List Nat × State
  | [] => ([], s)
  | k :: l =>
    let (x, s1) := s.free Config.fullTestResult
    let (r, s2) := s1.testResults l
    (k :: x :: r, s2)

/-- R465: the full test engine has run: repairs, fuse repairs, and in SERVICE the compacted map; then the results by block. -/
def State.pollFullTest (s : State) (o : Outstanding) : State :=
  let s1 := (findEntries (o.args.drop 1)).foldl State.fullRepair s
  let s2 := s1.programFuses (inForce s1.fieldRepairs)
  let s3 := if s2.sec.lifeCycle = 3 then s2.compactMap else s2
  let s4 := { s3 with
    sec := { s3.sec with fullTest := false }
    reh := { s3.reh with repairs := s3.sec.fuseRepairs ++ inForce s3.fieldRepairs } }.closeGate
  let (r, s5) := s4.testResults (maskBits 16 (o.args.getD 0 0))
  s5.replyTo o 0 r

end Sys2Proof.Machine
end

