-- ==== Sys2Proof/Machine/HostScript.lean ====
section
/-!
DEFINITION. The host commands of group 0x03xx, scripts and runs (R288 to R293, R348, R386, R414, R449).
-/
namespace Sys2Proof.Machine

/-! ### Granting and releasing shares -/

/-- R228: on the cores of a script, the banks that loaded scripts declare are on, and others off. -/
def State.powerBanks (s : State) (cores : List Nat) : State :=
  cores.foldl (fun (t : State) n =>
    let p := t.phys n
    let on := (t.coreDecls n).foldl (fun m x => m ||| x.2.lsBanks) 0
    (t.setFld (rLS_PWR_CTL p) fLS_PWR_CTL_BANK_ON on).setBankOn p on) s

/-- R228, R231: the ways that loaded scripts declare are in their mode, and others off. -/
def State.powerWays (s : State) (c : Nat) : State :=
  let m (k : Nat) : Nat := s.decls.foldl (fun (m : Nat) d => m ||| d.ss.getD (2 * c + k) 0) 0
  s.setWayCfg c (sumNat ((List.range 16).map (fun w => (if bitOf (m 0) w then 1 else if bitOf (m 1) w then 2 else 0) * 4 ^ w)))

/-- R12, R289: tag shares of cores and hub are what loaded scripts declare. -/
def State.shareTags (s : State) (cores : List Nat) : State :=
  let s1 := cores.foldl (fun (t : State) n =>
    t.setTag n { t.tag n with share := sumNat ((t.coreDecls n).map (fun x => x.2.tags)) }) s
  s1.setTag 9 { s1.tag 9 with share := sumNat (s1.decls.map (·.hubTags)) }

/-- R287: RTMASK of a core is what loaded scripts declare. -/
def State.shareContexts (s : State) (cores : List Nat) : State :=
  cores.foldl (fun (t : State) n =>
    t.setFld (rVPP_CTX_CTL (t.phys n)) fVPP_CTX_CTL_RTMASK ((t.coreDecls n).foldl (fun m x => m ||| x.2.rtCtxs) 0)) s

/-- R414: a cluster whose cores a loaded REALTIME script holds is pinned at OP7; another has the last OP that was set. -/
def State.pinOps (s : State) : State :=
  ([0, 1].foldl (fun (t : State) c =>
    let pinned := t.decls.any (fun d => d.realtime && d.cores.any (fun x => x.core / 4 == c))
    t.setReqOp c (if pinned then 7 else (t.cluster c).lastSet.getD 4)) s).settle

/-- R271: a pool is set up with its buffers. -/
def State.grantPool (s : State) (slot p first : Nat) (bufs : List (Nat × Nat)) : State :=
  let s1 := ((s.setFld (rHP_CFG p) fHP_CFG_OWNER slot).setFld (rHP_CFG p) fHP_CFG_SIZE bufs.length).setFld (rHP_BASE p) fHP_BASE_FIRST first
  let s2 := bufs.zipIdx.foldl (fun (t : State) x =>
    let e := first + x.2
    ((t.setReg (rHB_ENTRY0 e) (BitVec.ofNat 32 x.1.1)).setFld (rHB_ENTRY1 e) fHB_ENTRY1_ADDR_HI (x.1.1 / 2 ^ 32 % 256)).setFld
      (rHB_ENTRY2 e) fHB_ENTRY2_SIZE x.1.2) s1
  (s2.setFld (rHP_CFG p) fHP_CFG_EN 1).poolReset p

/-- R271: the pools of a script, one after the other in the buffer table. -/
def State.grantPools (s : State) (slot : Nat) : Nat → List (Nat × List (Nat × Nat)) → State
  | _, [] => s
  | first, x :: l => (s.grantPool slot x.1 first x.2).grantPools slot (first + x.2.length) l

/-- R348: a stream's registers from its record, with EN = 0. -/
def State.writeRecord (s : State) (r : List Byte) : State :=
  let k := recordField r 0 1
  let f := s.recordShape r
  let s1 := (((s.setReg (rSA_STR_CFG k) f.cfg).setReg (rSA_STR_HALO k) f.halo).setFld (rSA_STR_SLOT k) fSA_STR_SLOT_BASE f.base).setReg
    (rSA_STR_GEOM k) f.geom
  let s2 := (s1.setReg (rSA_STR_DL k) (BitVec.ofNat 32 f.dl)).setFld (rSA_STR_ZVAL k) fSA_STR_ZVAL_ZVAL f.zval
  f.xr.zipIdx.foldl (fun (t : State) x =>
    (t.setFld (rSA_STR_XR_LO k x.2) fSA_STR_XR_LO_OFS x.1.1).setFld (rSA_STR_XR_HI k x.2) fSA_STR_XR_HI_LEN x.1.2) s2

/-- R276: CHAIN_CFG of a script's cores. -/
def State.grantChains (s : State) (x : Script) : State :=
  x.decl.cores.foldl (fun (t : State) c =>
    match c.chain with
    | none => t
    | some (head, k) =>
      let a := rCHAIN_CFG (t.phys c.core)
      ((t.setFld a fCHAIN_CFG_EN 1).setFld a fCHAIN_CFG_HEAD (b2n head)).setFld a fCHAIN_CFG_ID (x.chains.getD k 0)) s

/-- R191: VPP_CTX_PC of a script's contexts. -/
def State.writeEntries (s : State) (d : ScriptDecl) : State :=
  d.entries.foldl (fun (t : State) e => t.setFld (rVPP_CTX_PC (t.phys e.1) e.2.1) fVPP_CTX_PC_PC (e.2.2 / 16 * 16)) s

/-- R387: a script's code, start addresses, chains and streams as its image has them. -/
def State.initScript (s : State) (x : Script) : State :=
  let s1 := x.decl.cores.foldl (fun (t : State) c => t.loadCode c.core x) s
  x.decl.streams.foldl State.writeRecord ((s1.writeEntries x.decl).grantChains x)

/-- R257: the address space of a script's channels is that of its image (log entry 55). -/
def State.channelSpace (s : State) (x : Script) (asid : Nat) : State :=
  x.channels.foldl (fun (t : State) y => t.setFld (rDMA_CH_CFG (t.engine y.1) y.2) fDMA_CH_CFG_ASID asid) s

/-- R291: an admitted script gets its shares in a slot. -/
def State.grant (s : State) (n asid : Nat) (d : ScriptDecl) (hash : List Byte) : State :=
  let first := (firstRun s.tableRanges d.buffers).getD 0
  let x : Script := { decl := d
                      hubChans := s.freeHub.take d.hubCh
                      pools := s.freePoolList.take d.pools.length
                      queues := s.freeQueues.take d.hqueues.length
                      bars := s.freeBars.take d.barriers.length
                      chains := s.freeChains.take d.chains
                      windows := s.freeWindows.take d.windows.length
                      bodyHash := hash }
  let cores := d.cores.map (·.core)
  let s1 := (s.setScript n x).grantPools n first (x.pools.zip d.pools)
  let s2 := (x.queues.zip d.hqueues).foldl (fun (t : State) y =>
    ((t.setFld (rHQ_CFG y.1) fHQ_CFG_EN 1).setFld (rHQ_CFG y.1) fHQ_CFG_OWNER n).setFld (rHQ_CFG y.1) fHQ_CFG_POOL (x.pools.getD y.2 0)) s1
  let s3 := (x.bars.zip d.barriers).foldl (fun (t : State) y =>
    let a := rBAR_CFG y.1
    (((t.setReg a (BitVec.ofNat 32 y.2)).setFld a fBAR_CFG_OWNER n).setFld a fBAR_CFG_EN 1).barReset y.1) s2
  let s4 := (x.windows.zip d.windows).foldl (fun (t : State) y =>
    t.setWindow y.1 { src := y.2.src, dst := y.2.dst, bw := y.2.bw, dur := y.2.dur, booked := true, owner := n }) s3
  let s5 := ((s4.powerBanks cores).powerWays 0).powerWays 1
  (((((s5.shareTags cores).shareContexts cores).initScript x).channelSpace x asid).pinOps)

/-- R381: a script's slot and shares are released. -/
def State.ungrant (s : State) (n : Nat) : State :=
  match s.script n with
  | none => s
  | some x =>
    let cores := x.decl.cores.map (·.core)
    let s1 := (s.dropCues n).abortChannels x
    let s2 := x.pools.foldl (fun (t : State) p => (t.poolReset p).setFld (rHP_CFG p) fHP_CFG_EN 0) s1
    let s3 := x.queues.foldl (fun (t : State) q => (t.setHq q []).setFld (rHQ_CFG q) fHQ_CFG_EN 0) s2
    let s4 := x.bars.foldl (fun (t : State) b => t.setFld (rBAR_CFG b) fBAR_CFG_EN 0) s3
    let s5 := x.windows.foldl (fun (t : State) w => t.setWindow w {}) s4
    let s6 := x.decl.cores.foldl (fun (t : State) c =>
      let p := t.phys c.core
      let lock := t.fld (rCORE_IMEM_LOCK p) fCORE_IMEM_LOCK_LOCK
      let t1 := t.setFld (rCORE_IMEM_LOCK p) fCORE_IMEM_LOCK_LOCK (sumNat ((maskBits 16 lock).map (fun r => if bitOf c.imem r then 0 else 2 ^ r)))
      if c.chain.isSome then t1.setFld (rCHAIN_CFG p) fCHAIN_CFG_EN 0 else t1) s5
    let s7 := { s6 with scripts := Cells.erase s6.scripts n }
    ((((s7.powerBanks cores).powerWays 0).powerWays 1).shareTags cores).shareContexts cores |>.pinOps

/-! ### Running -/

/-- R381, R349: the streams of a script are disabled. -/
def State.endStreams (s : State) (x : Script) : State :=
  x.decl.streams.foldl (fun (t : State) r =>
    let k := recordField r 0 1
    if t.flag (rSA_STR_CFG k) fSA_STR_CFG_EN then (t.setFld (rSA_STR_CFG k) fSA_STR_CFG_EN 0).saDisable k else t) s

/-- R381: a script is stopped, and its streams with it. -/
def State.endRun (s : State) (n : Nat) : State :=
  match s.script n with
  | none => s
  | some x => (s.stopScript n).endStreams x

/-- R381: STOP takes effect at its time. -/
def State.stopDue (s : State) : State :=
  s.scripts.foldl (fun (t : State) (x : Nat × Script) =>
    if x.2.stopAt.any (fun a => decide (a ≤ t.now)) then t.endRun x.1 else t) s

/-- R49: a script runs from an anchor: its VPPs issue, its channels and streams are enabled, and its cue sheet is bound. -/
def State.runScript (s : State) (n a : Nat) : State :=
  match s.script n with
  | none => s
  | some x =>
    let s1 := x.contexts.foldl (fun (t : State) y => t.setFld (rVPP_CTL (t.phys y.1)) fVPP_CTL_HALTED 0) s
    let s2 := x.channels.foldl (fun (t : State) y => t.setFld (rDMA_CH_CTL (t.engine y.1) y.2) fDMA_CH_CTL_EN 1) s1
    (s2.startStreams x).bindSheet n a

/-! ### Commands -/

/-- R381: the state of a script, as a reply gives it (log entry 8). -/
def ScriptSt.num : ScriptSt → Nat
  | .loaded => 0
  | .running => 1
  | .stopped => 2
  | .faulted => 3

/-- R435, R449: what an image's check allows: it is admitted, and it is unsigned. -/
def State.scriptAllowed (s : State) (result : Nat) : Bool × Bool :=
  if result = 0 then (true, false)
  else if s.sec.lifeCycle = 1 ∧ (result = 1 ∨ result = 2) then (true, true) else (false, false)

/-- R449, R291: LOAD_SCRIPT: the image's check, then the form of its declaration, then every limit. `d` is what its body declares. -/
def execLoadScript (h : CmdHeader) (asid tva len : Nat) (d : ScriptDecl) (s : State) : Out :=
  s.command h (.loadScript h asid tva len d) {
    op := 0x300
    limit := 10000000
    objects := oAdmission :: s.regionObj asid tva
    fields := fun _ => [fieldIs (decide (asid < 16))]
    run := fun t =>
      if (t.regionOf asid tva).isNone then cmdFail t 0x0E
      else match t.tvaRead asid tva len with
        | (none, u) => cmdFail u 0x15
        | (some img, u) =>
          let rd (i : Nat) : Byte := img.getD i 0
          let ok := u.scriptAllowed (u.imageCheck rd (len == headerLen + imgBodyLen rd) 3)
          if !ok.1 then cmdFail u 0x07
          else if !declOk d then cmdFail u 0x03
          else match u.refusals d with
            | [] =>
              (match (List.range 128).find? (fun n => (u.script n).isNone) with
              | none => cmdFail u 0x04
              | some n =>
                let v := u.grant n asid d (imgHash rd)
                let w := if ok.2 then { v with sec := { v.sec with unsignedLoaded := true } }.lichenFw 0x0308 n
                    (ofLeBytes ((imgHash rd).take 4)) 0 0 else v
                cmdOk w [n])
            | l => { s := u
                     status := 0x02
                     payload := (l.take 4096).flatMap (fun r => [r.limit, r.scope, r.needed, r.available, r.detail]) } }

/-- R381: UNLOAD_SCRIPT of a script that is not running. -/
def execUnloadScript (h : CmdHeader) (n : Nat) (s : State) : Out :=
  s.command h (.unloadScript h n) {
    op := 0x301
    objects := [oAdmission, oScript n]
    run := fun t => match t.script n with
      | none => cmdFail t 0x0E
      | some x => if x.st = .running then cmdFail t 0x12 else cmdOk (t.ungrant n) [] }

/-- R49, R381: RUN at an anchor, or as soon as possible. -/
def execRun (h : CmdHeader) (n anchor : Nat) (s : State) : Out :=
  s.command h (.run h n anchor) {
    op := 0x302
    objects := [oScript n]
    run := fun t => match t.script n with
      | none => cmdFail t 0x0E
      | some x =>
        if x.st ≠ .loaded ∧ x.st ≠ .stopped then cmdFail t 0x12
        else
          let a := if anchor = 0 then t.now else anchor
          cmdOk (t.runScript n a) [a] }

/-- R381: STOP at T, at once where T has come. -/
def execStop (h : CmdHeader) (n t : Nat) (s : State) : Out :=
  s.command h (.stop h n t) {
    op := 0x303
    objects := [oScript n]
    run := fun u => match u.script n with
      | none => cmdFail u 0x0E
      | some x =>
        if x.st ≠ .running then cmdFail u 0x12
        else if t ≤ u.now then cmdOk (u.endRun n) []
        else cmdOk (u.setScript n { x with stopAt := some t }) [] }

/-- R287: the batch contexts of a script, as core and context. -/
def Script.batch (x : Script) : List (Nat × Nat) :=
  x.contexts.filter (fun y => !x.decl.cores.any (fun d => d.core == y.1 && bitOf d.rtCtxs y.2))

/-- R386: a request is handed to a script's batch contexts, which start, once all of them are IDLE. -/
def State.handRequest (s : State) (o : Outstanding) : State :=
  let n := o.object
  match s.script n with
  | none => s
  | some x =>
    if o.committed ∨ x.batch.any (fun y => s.ctxSt (s.phys y.1) y.2 != 0) then s
    else
      let s1 := x.batch.foldl (fun (t : State) y => t.taskStart (t.phys y.1) y.2) s
      (s1.setScript n { x with requests := x.requests ++ [(o.tag, o.args.getD 0 0, o.args.getD 1 0, o.args.getD 2 0, o.args.getD 3 0)] }).modOutstanding
        o.tag (fun y => { y with
          committed := true
          objects := y.objects.filter (· != oScript n) })

/-- R386: SUBMIT. Its reply comes when the request has run. While a request runs, a STOP of its script need not wait for it. -/
def execSubmit (h : CmdHeader) (n inp inLen outp outLen : Nat) (s : State) : Out :=
  s.command h (.submit h n inp inLen outp outLen) {
    op := 0x304
    limit := 600000000
    objects := [oScript n, 0x5000 + n]
    run := fun t => match t.script n with
      | none => cmdFail t 0x0E
      | some x =>
        if x.st ≠ .running ∨ x.batch.isEmpty then cmdFail t 0x12
        else
          let u := t.modOutstanding h.tag (fun o => { o with
            object := n
            bytes := outLen
            args := [inp, inLen, outp, outLen] })
          { s := match u.outstandingTag h.tag with
              | some o => u.handRequest o
              | none => u
            later := true } }

/-- R386: a SUBMIT is looked after: it is handed over, or it has run (its contexts are IDLE again), or its script has ended. -/
def State.pollSubmit (s : State) (o : Outstanding) : State :=
  match s.script o.object with
  | none => s.replyTo o 0x0F []
  | some x =>
    match x.st with
    | .faulted => s.replyTo o 0x13 []
    | .running =>
      if !o.committed then s.handRequest o
      else if x.batch.all (fun y => s.ctxSt (s.phys y.1) y.2 == 0) then
        let (k, s1) := s.free Config.submitBytes
        (s1.setScript o.object { x with requests := x.requests.filter (fun r => r.1 != o.tag) }).replyTo o 0 [k % (o.bytes + 1)]
      else s
    | _ => s.replyTo o 0x0F []

/-- R381: SCRIPT_STATUS: state, deadline misses (those of its contexts, and its streams' stripes), faults, halt cause. -/
def execScriptStatus (h : CmdHeader) (n : Nat) (s : State) : Out :=
  s.command h (.scriptStatus h n) {
    op := 0x305
    objects := [oScript n]
    run := fun t => match t.script n with
      | none => cmdFail t 0x0E
      | some x =>
        let l := x.decl.streams.map (fun r => rSA_STR_MISS (recordField r 0 1))
        let u := t.gather l
        cmdOk u [x.st.num, x.misses + sumNat (l.map (fun a => u.total a 0)), x.faults, x.haltCause] }

/-- R288, R387: RESTART of a script that is not running puts it back as it was loaded. -/
def execRestart (h : CmdHeader) (n : Nat) (s : State) : Out :=
  s.command h (.restart h n) {
    op := 0x306
    objects := [oScript n]
    run := fun t => match t.script n with
      | none => cmdFail t 0x0E
      | some x =>
        if x.st = .running then cmdFail t 0x12
        else cmdOk ((t.initScript x).setScript n { x with
          st := .loaded
          anchor := none
          pushed := []
          stopAt := none
          haltCause := 0
          requests := [] }) [] }

end Sys2Proof.Machine
end

