-- ==== Sys2Proof/Machine/HostSecurity.lean ====
section
/-!
DEFINITION. The host commands of group 0x07xx, security and update (R381, R442 to R448).
-/
namespace Sys2Proof.Machine

/-! ### ATTEST (R447, R448) -/

/-- R447: the firmware part of a report: a count, then slot, state, two reserved bytes and BODY_HASH of each loaded script. -/
def State.firmwarePart (s : State) : List Byte :=
  leBytes 4 s.scripts.length ++ s.scripts.flatMap (fun (x : Nat × Script) =>
    leBytes 1 x.1 ++ leBytes 1 x.2.st.num ++ [0, 0] ++ x.2.bodyHash ++ List.replicate (48 - x.2.bodyHash.length) 0)

/-- R432, R447, R448: the device certificate, if one has been written. -/
def State.certificate (s : State) : List Byte :=
  let rd := s.norReader 0x3200000
  if imgNum rd 0 4 = 0x4D495A57 ∧ s.sec.lifeCycle ≠ 0 then imgBytes rd 0 (min 65536 (headerLen + imgBodyLen rd)) else []

/-- R447: ATTEST: the report for a nonce of 48 bytes, and then the device certificate. -/
def execAttest (h : CmdHeader) (nonce : List Byte) (s : State) : Out :=
  s.command h (.attest h nonce) {
    op := 0x700
    run := fun t =>
      if nonce.length ≠ 48 then cmdFail t 0x0D
      else cmdOk t ((t.report nonce t.firmwarePart ++ t.certificate).map (·.toNat)) }

/-! ### FW_UPDATE (R442) -/

/-- R441, R442: the slot that an update writes: the one that does not run, or in recovery the one that R437 tries second. -/
def State.updateSlot (s : State) : Nat :=
  match s.runningSlot with
  | some k => 1 - k
  | none => 1 - s.firstSlot

/-- R442: FW_UPDATE_BEGIN erases the inactive slot. -/
def execFwUpdateBegin (h : CmdHeader) (fw cfg : Nat) (s : State) : Out :=
  s.command h (.fwUpdateBegin h fw cfg) {
    op := 0x701
    objects := [oNor]
    fields := fun _ => [fieldIs (decide (fw ≤ 0x1700000)), fieldIs (decide (cfg ≤ 0x100000))]
    run := fun t =>
      let u := t.norErase (slotBase t.updateSlot) 0x1800000
      cmdOk { u with sec := { u.sec with
        update := some (fw, cfg)
        updHeader := [] } } [] }

/-- R442: update data at an offset of the slot; the firmware header is kept until the commit. -/
def State.updateWrite (s : State) (o : Nat) (b : List Byte) : State :=
  let head := b.take (headerLen - o)
  let s1 := { s with sec := { s.sec with
    updHeader := head.zipIdx.foldl (fun m (x : Byte × Nat) => Cells.set (fun _ => 0xFF) m (o + x.2) x.1) s.sec.updHeader } }
  s1.norProgram (slotBase s.updateSlot + max o headerLen) (b.drop (headerLen - o))

/-- R442: FW_UPDATE_DATA. -/
def execFwUpdateData (h : CmdHeader) (o : Nat) (b : List Byte) (s : State) : Out :=
  s.command h (.fwUpdateData h o b) {
    op := 0x702
    objects := [oNor]
    run := fun t =>
      if 65520 < b.length then cmdFail t 0x0D
      else match t.sec.update with
        | none => cmdFail t 0x12
        | some (fw, cfg) =>
          if o + b.length ≤ fw ∨ (0x1700000 ≤ o ∧ o + b.length ≤ 0x1700000 + cfg) then cmdOk (t.updateWrite o b) []
          else cmdFail t 0x03 }

/-- R442: a reader of the firmware image under update: its header as it was sent, its body from flash. -/
def State.updateReader (s : State) : Nat → Byte := fun i =>
  if i < headerLen then Cells.get (fun _ => 0xFF) s.sec.updHeader i else s.norReader (slotBase s.updateSlot) i

/-- R442: FW_UPDATE_COMMIT verifies both images and writes the firmware header last. -/
def execFwUpdateCommit (h : CmdHeader) (s : State) : Out :=
  s.command h (.fwUpdateCommit h) {
    op := 0x703
    limit := 60000000
    objects := [oNor]
    run := fun t =>
      match t.sec.update with
      | none => cmdFail t 0x12
      | some (fw, cfg) =>
        let k := t.updateSlot
        let rd := t.updateReader
        let rc := t.norReader (slotBase k + 0x1700000)
        if t.imageCheck rd (fw == headerLen + imgBodyLen rd) 1 ≠ 0 ∨ t.imageCheck rc (cfg == headerLen + imgBodyLen rc) 2 ≠ 0 then
          cmdFail t 0x07
        else
          let u := (t.norProgram (slotBase k) (imgBytes rd 0 headerLen)).setFwSlot k { mark := .pending, attempts := 0 }
          cmdOk { u with sec := { u.sec with
            update := none
            updHeader := [] } } [k, imgVersion rd] }

/-! ### LIFECYCLE_TOKEN (R445, R446) -/

/-- R445: FROM, TO, REVOKE and TCOUNT of a token, if the other bits of its body are 0. -/
def tokenBody (b : List Byte) : Option (Nat × Nat × Nat × Nat) :=
  let g (i : Nat) : Nat := (b.getD i 0).toNat
  if b.length = 16 ∧ g 2 < 16 ∧ g 3 = 0 ∧ (b.drop 6).all (· == 0) then some (g 0, g 1, g 2, g 4 + 256 * g 5) else none

/-- R445: the transitions that a token may make, of the life-cycle states 0 BLANK to 4 RETIRED. -/
def tokenMove (src dst revoke : Nat) : Bool :=
  (src == 0 && dst == 1) || (src == 1 && dst == 2) || (src == 2 && dst == 3) || (src == 3 && dst == 2) ||
    (src != 0 && src < 4 && dst == 4) || (src == dst && src ≤ 4 && revoke != 0)

/-- R445: a slot that holds the firmware role stays unrevoked. -/
def State.keepsFirmware (s : State) (revoke : Nat) : Bool :=
  (List.range 4).any (fun k => bitOf (s.slotRole k) 0 && !(bitOf s.sec.revoked k) && !(bitOf revoke k))

/-- R445: what a token asks may be done. -/
def State.tokenOk (s : State) (src dst revoke count : Nat) : Bool :=
  src == s.sec.lifeCycle && count == s.sec.tcount && tokenMove src dst revoke &&
    !((src == 2 && dst == 3 || src == 3 && dst == 2) && s.sec.tcount == 124) &&
    (revoke == 0 || s.keepsFirmware revoke)

/-- R443: the fuse pair that a transition blows. -/
def State.nextFuse (s : State) (src dst : Nat) : List Nat :=
  if src = dst then []
  else if dst = 4 then [127]
  else if src = 0 then [0]
  else if src = 1 then [1]
  else [2 + s.sec.tcount]

/-- R443, R445, R446: the fuses of a token are programmed, and the change is recorded. -/
def State.lifeChange (s : State) (src dst revoke : Nat) : State :=
  let s1 := { s with sec := { s.sec with
    blown := s.sec.blown ++ s.nextFuse src dst
    revoked := s.sec.revoked ||| revoke } }
  let s2 := if src = 0 ∧ dst = 1 then
      { s1.setBytes (norPlace 0x3210000) ((Config.wrappedKeys s.sec.serial).take 65536) with sec := { s1.sec with
        manifestHash := Config.sha384 (s.bytes (norPlace 0x3000000) 1792)
        deviceKeys := true } }
    else s1
  s2.lichenFw 0x0301 src dst s2.sec.tcount s2.sec.revoked

/-- R378, R445: the status of a token that an image check refuses: its signatures, a revoked key slot, or another rule. -/
def tokenStatus (result : Nat) : Nat := if result = 1 ∨ result = 2 ∨ result = 4 then 0x07 else 0x12

/-- R445: LIFECYCLE_TOKEN. -/
def execLifecycleToken (h : CmdHeader) (tok : List Byte) (s : State) : Out :=
  s.command h (.lifecycleToken h tok) {
    op := 0x704
    limit := 60000000
    objects := [oNor]
    run := fun t =>
      let rd (i : Nat) : Byte := tok.getD i 0
      let result := t.imageCheck rd (tok.length == headerLen + imgBodyLen rd) 4
      if result ≠ 0 then cmdFail t (tokenStatus result)
      else match tokenBody (imgBody rd) with
        | none => cmdFail t 0x12
        | some (src, dst, revoke, count) =>
          if t.tokenOk src dst revoke count then
            let u := t.lifeChange src dst revoke
            cmdOk u [u.sec.lifeCycle]
          else cmdFail t 0x12 }

end Sys2Proof.Machine
end

