-- ==== Sys2Proof/Machine/HostOther.lean ====
section
/-!
DEFINITION. The host commands of groups 0x08xx, fabric, and 0x0Fxx, service (R3, R381), and what an idle Prompter does for
commands that are outstanding.
-/
namespace Sys2Proof.Machine

/-! ### Fabric -/

/-- R372: the RC counters of a link. -/
def linkCounters (l : Nat) : List (Nat × Nat) :=
  (unitCounters 0x28 l).filter (fun x => decide (rEPL_CTL l ≤ x.1 ∧ x.1 < rEPL_CTL l + 0x100))

/-- R381: FABRIC_STATUS: STATE, PEER_MOD and the totals of the counters of each link; the routes; and of the time tree whether the
module is the master, its depth, and the link to its parent, 7 for none. -/
def execFabricStatus (h : CmdHeader) (s : State) : Out :=
  s.command h (.fabricStatus h) {
    op := 0x800
    run := fun t =>
      let u := t.gather ((List.range 6).flatMap (fun l => (linkCounters l).map (·.1))).eraseDups
      cmdOk u ((List.range 6).flatMap (fun l => [u.linkSt l, u.fld (rEPL_STAT l) fEPL_STAT_PEER_MOD] ++
          (linkCounters l).map (fun x => u.total x.1 x.2)) ++
        (List.range 24).map (fun d => u.fld (rEPL_ROUTE d) fEPL_ROUTE_LINK) ++
        [u.fld rCUE_STATUS fCUE_STATUS_MASTER, u.fld rCUE_STATUS fCUE_STATUS_HOPS, u.time.sync.parent.getD 7]) }

/-- R361, R381: LINK_RESET starts the reset protocol on a link. -/
def execLinkReset (h : CmdHeader) (l : Nat) (s : State) : Out :=
  s.command h (.linkReset h l) {
    op := 0x801
    objects := [oLink l]
    fields := fun _ => [fieldIs (decide (l < 6))]
    run := fun t => cmdOk (if t.linkSt l = 0 ∨ t.linkSt l = 5 then t else t.linkReset l 4) [] }

/-! ### Service -/

/-- R381: one word at a DPA, of a register or of memory. -/
def State.wordAt (s : State) (a : Nat) : Answer × State :=
  if (s.spot .prompter a).isSome then s.regRead .prompter a 0xFFFFFFFF
  else if a % 4 ≠ 0 then (.error, s)
  else match s.dpaRead true a 4 with
    | (some b, t) => (.ok (BitVec.ofNat 32 (ofLeBytes b)), t)
    | (none, t) => (.error, t)

/-- R381: words from a DPA up, until one fails. -/
def State.wordsAt (s : State) (a : Nat) : Nat → Option Answer × List Nat × State
  | 0 => (none, [], s)
  | n + 1 =>
    match s.wordAt a with
    | (.ok w, t) =>
      let (f, l, u) := t.wordsAt (a + 4) n
      (f, w.toNat :: l, u)
    | (x, t) => (some x, [], t)

/-- R381: REG_READ. -/
def execRegRead (h : CmdHeader) (dpa n : Nat) (s : State) : Out :=
  s.command h (.regRead h dpa n) {
    op := 0xF00
    fields := fun _ => [fieldIn 1 n 0 16384]
    run := fun t =>
      match t.wordsAt dpa (min n 16384) with
      | (none, l, u) => cmdOk u l
      | (some .waits, _, u) => cmdFail u 0x04
      | (some _, _, u) => cmdFail u 0x15 }

/-- R381: one word at a DPA written under a mask. -/
def State.wordSet (s : State) (a : Nat) (mask v old : Word) : Answer × State :=
  if (s.spot .prompter a).isSome then s.regWrite .prompter a mask v
  else if a % 4 ≠ 0 then (.error, s)
  else match s.dpaWrite true a (leBytes 4 ((old &&& ~~~mask) ||| (v &&& mask)).toNat) with
    | some t => (.ok 0, t)
    | none => (.error, s)

/-- R3, R381: REG_WRITE, with the previous value as the reply; looking at that value clears nothing. -/
def execRegWrite (h : CmdHeader) (dpa value mask : Nat) (s : State) : Out :=
  s.command h (.regWrite h dpa value mask) {
    op := 0xF01
    fields := fun _ => [fieldIn 1 value 0 (2 ^ 32 - 1), fieldIn 2 mask 0 (2 ^ 32 - 1)]
    run := fun t =>
      match (t.wordAt dpa).1 with
      | .ok old =>
        (match t.wordSet dpa (BitVec.ofNat 32 (min mask (2 ^ 32 - 1))) (BitVec.ofNat 32 (min value (2 ^ 32 - 1))) old with
        | (.ok _, u) => cmdOk u [old.toNat]
        | (.waits, u) => cmdFail u 0x04
        | (.error, u) => cmdFail u 0x15)
      | .waits => cmdFail t 0x04
      | .error => cmdFail t 0x15 }

/-- R296, R381: FENCE_UNIT fences a unit, or releases it. A unit is named by its control register block, a handle pool by 0x3100
more than its number. -/
def execFenceUnit (h : CmdHeader) (unit on : Nat) (s : State) : Out :=
  s.command h (.fenceUnit h unit on) {
    op := 0xF02
    fields := fun _ => [fieldIs (!(blockRows unit).isEmpty || decide (0x3100 ≤ unit ∧ unit < 0x3110)), fieldIs (decide (on ≤ 1))]
    run := fun t => cmdOk (if on = 1 then t.fence unit else t.unfence unit) [] }

/-! ### Commands that are outstanding -/

/-- R383: what an idle Prompter does for one outstanding command. -/
def State.poll (s : State) (o : Outstanding) : State :=
  if s.host.held.any (fun x => x.1 == o.tag) then s
  else match o.opcode % 4096 with
    | 0x201 => s.pollUnmap o
    | 0x202 => s.pollXfer o
    | 0x304 => s.pollSubmit o
    | 0x402 => s.pollRead o
    | 0x503 => s.pollEntry o
    | 0x504 => s.pollEntry o
    | 0x602 => s.pollRehearse o
    | 0x604 => s.pollReplace o
    | 0x605 => s.pollFullTest o
    | _ => s

/-- R383: every outstanding command is looked after. -/
def State.pollAll (s : State) : State := s.host.outstanding.foldl (fun (t : State) o => t.poll o) s

end Sys2Proof.Machine
end

