-- ==== Sys2Proof/Machine/Power.lean ====
section
/-!
DEFINITION. Power states, wake and reset (R25, R26, R420 to R431): IDLE, the entries to SLEEP and DARK step by step, what SLEEP
loses, the wake, the watchdog and the other resets, and the input supply.
-/
namespace Sys2Proof.Machine

/-! ### IDLE (R421) -/

/-- R421: a cue counts as work from 256 ns before it is due until it has fired. -/
def State.cueNear (s : State) : Bool :=
  s.cueq.any (fun (x : Nat × CueQueue) => !x.2.halted && x.2.entries.any (fun e => decide (e.time ≤ s.now + 256)))

/-- R421: a VPP issues, or could. -/
def State.vppBusy (s : State) (p : Nat) : Bool := !s.halted p && (List.range 4).any (fun c => s.ctxSt p c != 0)

/-- R421: something holds that keeps the module out of IDLE. -/
def State.working (s : State) : Bool :=
  s.cueNear || (List.range 9).any (fun p => s.vppBusy p) ||
  s.fronds.any (fun (x : Nat × FrondSt) => x.2.cur.isSome || !x.2.queue.isEmpty || !x.2.drain.isEmpty) ||
  s.dma.any (fun (x : Nat × DmaChan) => x.2.st != .idle || x.2.fetching) ||
  !s.host.outstanding.isEmpty || !s.remotes.isEmpty

/-- R421: IDLE_ENTRY, IDLE_HYST_US after the last work. -/
def execIdleEntry (s : State) : Out :=
  if s.power.st = .active ∧ !s.working ∧
      s.power.lastWork + 1000 * s.fld rAON_IDLE_HYST fAON_IDLE_HYST_IDLE_HYST_US ≤ s.time.ns then
    done { s with power := { s.power with
      st := .idle
      prev := .active
      ungated := [] } }
  else done s

/-- R421: IDLE_EXIT: a cue, packet, trigger or message ungates the clocks. -/
def execIdleExit (s : State) : Out :=
  if s.power.st = .idle then
    done { s with power := { s.power with
      st := .active
      prev := .idle
      ungated := []
      lastWork := s.time.ns } }
  else done s

/-! ### Entry to SLEEP and DARK (R423, R425) -/

/-- The entry under way moves to its next step. -/
def State.entryStep (s : State) (n : Nat) : State :=
  { s with power := { s.power with entry := s.power.entry.map (fun (e : PowerEntry) => { e with step := n }) } }

/-- R371: GOODBYE on every UP link. -/
def State.goodbyes (s : State) : State :=
  (List.range 6).foldl (fun t l => if t.linkSt l = 3 then
    t.handLink l (t.message 0x41 (t.neighbour l) 0 (leBytes 1 t.power.st.num) []) else t) s

/-- R423: every stream stops: EN = 0 (R346), and its frames go no further. -/
def State.stopStreams (s : State) : State :=
  (List.range 48).foldl (fun t k => if t.flag (rSA_STR_CFG k) fSA_STR_CFG_EN then
    (t.setFld (rSA_STR_CFG k) fSA_STR_CFG_EN 0).saDisable k else t) s

/-- R423, step 2: streams, scripts, channels, links, and the Wings (R501). A slice that runs is given up. In DARK every script
ends. -/
def State.stopWork (s : State) (dark : Bool) : State :=
  let s1 := (if s.reh.slice.isSome then s.sliceAbort else s).stopStreams
  let s2 := s1.scripts.foldl (fun (t : State) (x : Nat × Script) =>
    if x.2.decl.sleepResume ∧ !dark then t.suspendScript x.1 else t.stopScript x.1) s1
  let s3 := (List.range 9).foldl (fun t p => (List.range 16).foldl (fun u n => u.dmaAbort p n) t) s2
  let s4 := (List.range 64).foldl (fun t n => t.dmaAbort 9 n) s3
  s4.goodbyes.wingsSleep

/-- R26, R267: a place of memory survives SLEEP: DDR4, the serial NOR, instruction memory. -/
def sleepKeeps (k : Nat) : Bool := decide (k < 2 ^ 36) || norKey k || decide (2 ^ 49 ≤ k)

/-- R267: a register of a DMA channel. -/
def dmaRegister (a : Nat) : Bool :=
  (List.range 9).any (fun e => decide (dmaChanBase e 0 ≤ a ∧ a < dmaChanBase e 0 + 0x800)) ||
    decide (dmaChanBase 9 0 ≤ a ∧ a < dmaChanBase 9 0 + 0x2000)

/-- R41, R321: the cue queues that SLEEP keeps: the AON wake queue and those of watching ports. -/
def State.keepsQueue (s : State) (q : Nat) : Bool := q == 0x30 || (0x20 ≤ q && q < 0x2C && s.watching (q - 0x20))

/-- R25, R26, R41, R267, R321, R371: the fast domains switch off. Stores, the cores, the assembler, most cue queues and the DMA
channels lose what they hold; ports and buses that do not watch are off; links and PLLs are off. -/
def State.sleepOff (s : State) : State :=
  let s1 := (List.range 6).foldl (fun t l => if t.linkSt l = 5 then t else
    { (t.setFld (rEPL_STAT l) fEPL_STAT_STATE 0) with links := Cells.set (fun _ => {}) t.links l {} }) s.discardFrames
  let s2 := (List.range 9).foldl (fun t p =>
    (((((t.setSboard p {}).setFrond p {}).setReg (rVPP_CTX_STAT p) 0).setReg (rLS_PWR_STAT p) 0)).setFld (rFROND_STATUS p) fFROND_STATUS_BUSY 0) s1
  let s3 := ((s2.setReg (rSS_WAY_STAT 0) 0).setReg (rSS_WAY_STAT 1) 0)
  { s3 with
    regs := s3.regs.filter (fun (x : Nat × Word) => !dmaRegister x.1)
    mem := s3.mem.filter (fun (x : Nat × Byte) => sleepKeeps x.1)
    ecc := s3.ecc.filter (fun (x : Nat × Nat) => sleepKeeps x.1)
    writeBacks := []
    vpp := s3.vpp.map (fun (x : Nat × VppCore) => (x.1, { ({} : VppCore) with emu := x.2.emu }))
    sb := []
    fronds := []
    chain := []
    resv := []
    remotes := []
    dma := []
    hub := { s3.hub with
      faultQ := []
      tlb := []
      inv := none }
    banks := []
    caches := []
    cueq := s3.cueq.filter (fun (x : Nat × CueQueue) => s3.keepsQueue x.1)
    ports := s3.ports.map (fun (x : Nat × PortState) => (x.1, { x.2 with buf := [] }))
    i2c := s3.i2c.filter (fun (x : Nat × I2cBus) => s3.watching x.1)
    fsync := s3.fsync.map (fun (x : Nat × FsyncOut) => (x.1, { x.2 with ends := none }))
    sa := {}
    tap := {}
    power := { s3.power with locked := [] } }

/-- R424, R426: SLEEP is reached; a source latched after the commit point starts the wake sequence at once. -/
def State.enterSleep (s : State) : State :=
  let s1 := s.sleepOff.loseAlign
  let s2 := { s1.setFld rCUE_STATUS fCUE_STATUS_ALIGN_OK 0 with power := { s1.power with
    st := .sleep
    prev := .entering
    entry := none
    latched := 0 } }
  match (List.range 6).find? (fun k => bitOf s.power.latched k) with
  | some k => s2.acceptWake k
  | none => s2

/-- R425: DARK is reached: everything but the AON domain is off, and cue time counts AON ticks; a source latched after the
commit point starts the boot. -/
def State.enterDark (s : State) : State :=
  let s1 := s.toAon
  let s2 := { s1 with
    tap := {}
    power := { s1.power with
      st := .dark
      prev := s.power.st
      entry := none
      latched := 0
      pwrgd := false
      locked := [] } }
  if s.power.latched = 0 ∨ s.power.undervolt then s2 else s2.bootReset 0x10

/-- R423, R425: steps 1 to 4, which SLEEP and DARK share: whether the step is complete, and the state after it. -/
def State.entryWork (s : State) (e : PowerEntry) : State :=
  match e.step with
  | 1 => if s.host.outstanding.isEmpty then s.entryStep 2 else s
  | 2 => (s.stopWork e.dark).entryStep 3
  | 3 => s.audit.recordOngoing.entryStep 4
  | _ =>
    (match e.wakeT with
      | some t => s.pushCue .aon { time := t, op := 0x0C, late := 0, fab := false, period := 0, arg := 0 } false
      | none => s).entryStep 5

/-- R423: SLEEP_ENTRY performs the next step of an entry to SLEEP. Step 5 is the commit point; step 6 ends once the AON domain
has taken over cue time (R32). -/
def execSleepEntry (s : State) : Out :=
  match s.power.entry with
  | none => done s
  | some e =>
    if s.power.st ≠ .entering ∨ e.dark then done s
    else if e.step ≤ 4 then done (s.entryWork e)
    else if e.step = 5 then done ({ s with power := { s.power with selfRefresh := true } }.entryStep 6)
    else done (if s.fastSource then s else s.enterSleep)

/-- R425: DARK_ENTRY performs the next step of an entry to DARK. Step 5, the commit point, writes the Lichen state. -/
def execDarkEntry (s : State) : Out :=
  match s.power.entry with
  | none => done s
  | some e =>
    if s.power.st ≠ .entering ∨ !e.dark then done s
    else if e.step ≤ 4 then done (s.entryWork e)
    else if e.step = 5 then done (s.lichenDark.entryStep 6)
    else done s.enterDark

/-! ### Wake (R422, R424, R426) -/

/-- R422: WAKE_SOURCE: a source fires. -/
def execWakeSource (src : Fin 6) (s : State) : Out := done (s.wakeFire src.val)

/-- R492: SMB_WAKE, command 0x40 with 0xA5: a wake source in SLEEP and DARK. -/
def execSmbWake (s : State) : Out :=
  done (if s.power.st = .sleep ∨ s.power.st = .dark ∨ s.power.st = .waking then s.wakeFire 5 else s)

/-- R230, R231: after SLEEP the banks and ways that are asked on power up again. -/
def State.powerStores (s : State) : State :=
  let s1 := (List.range 9).foldl (fun t p => t.setBankOn p (t.fld (rLS_PWR_CTL p) fLS_PWR_CTL_BANK_ON)) s
  (List.range 2).foldl (fun t c => (List.range 16).foldl (fun u w =>
    if u.wayMode c w = 0 then u else u.setWayTrans c w (some ⟨true, s.time.ns⟩)) t) s1

/-- R290: a suspended script goes on: its contexts start again at VPP_CTX_PC, its streams are enabled, and its cue sheet is bound
as with anchor 0. -/
def State.resumeScript (s : State) (n : Nat) : State :=
  match s.script n with
  | none => s
  | some x =>
    if x.st = .running ∧ x.anchor.isNone then
      let s1 := x.contexts.foldl (fun (t : State) y =>
        (t.taskStart (t.phys y.1) y.2).setFld (rVPP_CTL (t.phys y.1)) fVPP_CTL_HALTED 0) s
      (s1.startStreams x).bindSheet n s.now
    else s

/-- R323: a watch trigger that woke the module is posted. -/
def State.postWatch (s : State) : State :=
  (List.range 12).foldl (fun t p => match (t.port p).woke with
    | some n => (t.setPort p { t.port p with woke := none }).postEvent 0x0004 255 p n
    | none => t) s

/-- R426: WAKE_COMPLETE, 120 µs after the source was accepted. -/
def execWakeComplete (s : State) : Out :=
  if s.power.st = .waking ∧ s.fastSource ∧ s.power.wakeAt + 120000 ≤ s.time.ns then
    let s1 := { s.discardFrames with power := { s.power with
      st := .active
      prev := .waking
      selfRefresh := false
      lastWork := s.time.ns
      wdog := 0 } }
    let s2 := (List.range 6).foldl (fun t l =>
      if t.flag (rEPL_CTL l) fEPL_CTL_EN ∧ t.linkSt l = 0 ∧ t.modId < 24 then t.retrain l else t) s1.powerStores
    let s3 := s2.refill
    let s4 := s3.scripts.foldl (fun (t : State) (x : Nat × Script) => t.resumeScript x.1) s3
    done (s4.postWake (s4.fld rAON_WAKE_CAUSE fAON_WAKE_CAUSE_CAUSE)).postWatch
  else done s

/-! ### Resets (R427 to R429) -/

/-- R427: WATCHDOG_KICK. -/
def execWatchdogKick (s : State) : Out := done { s with power := { s.power with wdog := 0 } }

/-- R428, R494: WATCHDOG_EXPIRE: no KICK within TIMEOUT_MS. -/
def execWatchdogExpire (s : State) : Out :=
  let ms := s.fld rAON_WDOG fAON_WDOG_TIMEOUT_MS
  if s.awake ∧ ms * 1000000 ≤ s.power.wdog then done (((s.lichenFw 0x0A21 ms 0 0 0).bootReset 0x04).alert 6)
  else done s

/-- R428, R486: RST_N_ASSERT. -/
def execRstNAssert (s : State) : Out := done (s.bootReset 0x02)

/-- R428, R431: POWER_ON_RESET: everything but the fuses and the serial NOR, in which the boot state sector counts the
power-on and the operating seconds resume from the value saved (R471). The pins stay as they are. -/
def execPowerOnReset (s : State) : Out :=
  let t : State :=
    { State.reset with
      pending := s.pending
      mem := s.mem.filter (fun (x : Nat × Byte) => norKey x.1)
      freeTick := s.freeTick
      time := { ns := s.time.ns }
      lichen := { opsec := s.lichen.opsecSaved, opsecSaved := s.lichen.opsecSaved }
      power := {
        wakeNLow := s.power.wakeNLow
        vbus := s.power.vbus
        vioLow := s.power.vioLow
        inserted := s.power.inserted }
      sec := {
        blown := s.sec.blown
        half := s.sec.half
        revoked := s.sec.revoked
        rollback := s.sec.rollback
        manifestHash := s.sec.manifestHash
        serial := s.sec.serial
        dieRev := s.sec.dieRev
        straps := s.sec.straps
        deviceKeys := s.sec.deviceKeys
        fuseRepairs := s.sec.fuseRepairs
        slotA := s.sec.slotA
        slotB := s.sec.slotB
        pwrCyc := s.sec.pwrCyc + 1
        activeHours := s.sec.activeHours } }
  done (t.setFld rEPL_FAB_CFG fEPL_FAB_CFG_MOD_ID s.sec.straps)

/-- R428, R429: the Prompter and its private memory are reset; the boot ROM verifies its firmware again. -/
def State.resetPrompter (s : State) : State :=
  let s1 := { s with prompt := { ({} : PromptSt) with down := some (s.time.ns, s.prompt.pc) } }
  s1.setReg rAON_RST_CAUSE (s1.reg rAON_RST_CAUSE ||| 0x20)

/-- R200, R429: PROMPTER_RESET: a tag fault in the fault handler. -/
def execPrompterReset (s : State) : Out :=
  done (if s.prompt.inHandler ∧ s.prompt.down.isNone then s.resetPrompter else s)

/-- R429: PROMPTER_RESTART_DONE, about 250 ms after the reset: every loaded script faults, outstanding commands end, and the
reset is recorded with the faulting PC. -/
def execPrompterRestartDone (s : State) : Out :=
  match s.prompt.down with
  | none => done s
  | some (_, pc) =>
    let s1 := { s with prompt := { s.prompt with down := none } }
    let s2 := s1.scripts.foldl (fun (t : State) (x : Nat × Script) => t.scriptFault x.1 (Config.haltCause 1) 0) s1
    done (s2.endCommands.lichenFw 0x0A20 pc 0 0 0).startPrompter

/-! ### The input supply (R430) -/

/-- R430: UV_WARN: input below 9.2 V for 1 ms. -/
def execUvWarn (mv : Nat) (s : State) : Out :=
  if mv < 9200 then
    let low := if s.power.lowestMv = 0 then mv else min mv s.power.lowestMv
    let s1 := { s with power := { s.power with
      uvNow := true
      lowestMv := low } }
    done ((s1.alert 0).lichenFw 0x0102 mv low 0 0)
  else done s

/-- R430: UV_SHUTDOWN: input below 8.6 V for 50 µs: DARK at once. -/
def execUvShutdown (mv : Nat) (s : State) : Out :=
  if mv < 8600 ∧ s.power.st ≠ .dark then
    let s1 := (s.setReg rAON_RST_CAUSE (s.reg rAON_RST_CAUSE ||| 0x08)).lichenUv mv
    let s2 := { s1 with power := { s1.power with
      undervolt := true
      uvNow := true
      lowestMv := if s1.power.lowestMv = 0 then mv else min mv s1.power.lowestMv } }
    done s2.enterDark
  else done s

/-- R430: UV_RECOVER: the input has stayed at or above 9.3 V for 1 s; a module that the input has put in DARK boots. -/
def execUvRecover (mv : Nat) (s : State) : Out :=
  if 9300 ≤ mv then
    let s1 := { s with power := { s.power with
      uvNow := false
      undervolt := false } }
    done (if s.power.undervolt ∧ s.power.st = .dark then s1.bootReset 0x10 else s1)
  else done s

end Sys2Proof.Machine
end

