-- ==== Sys2Proof/Machine/Idle.lean ====
section
/-!
DEFINITION. What the block does while no command is given: commands that wait start in their order, outstanding ones go on, and
time passes (log entry 1).
-/
namespace Sys2Proof.Machine

/-- R383, R385: a held command leaves the queue in which it waits, to start in this step. -/
def State.takeHeld (s : State) (tag : Nat) : State :=
  { s with host := { s.host with
    held := s.host.held.filter (fun x => x.1 != tag)
    releasing := some tag } }

/-- R383: the end of a step in which a held command has started. -/
def endHeld (x : Out) : Out :=
  match x with
  | .next t => .next { t with host := { t.host with releasing := none } }
  | .fault f => .fault f
  | .refused r => .refused r

/-- R421: the last instant at which there was work. -/
def State.noteWork (s : State) : State :=
  if s.working then { s with power := { s.power with lastWork := s.time.ns } } else s

/-- R383, R421: no command waits: outstanding ones are looked after, stops that are due take effect, and 1 ns passes. -/
def State.quiet (s : State) : State := s.pollAll.stopDue.noteWork.idleTick

end Sys2Proof.Machine
end

