-- ==== Sys2Proof/Machine/Prompter.lean ====
section
/-!
DEFINITION. The Prompter's tagged words (R196 to R200). The bounds table holds full DPAs, and a word tagged DPA the low 32 bits
of one (log entry 45).
-/
namespace Sys2Proof.Machine

/-- R196: the tags. -/
abbrev tUNINIT : Nat := 0
/-- INT. -/
abbrev tINT : Nat := 1
/-- HANDLE. -/
abbrev tHANDLE : Nat := 2
/-- DPA. -/
abbrev tDPA : Nat := 3
/-- CODE. -/
abbrev tCODE : Nat := 4
/-- CUE. -/
abbrev tCUE : Nat := 5
/-- SCALE. -/
abbrev tSCALE : Nat := 6
/-- STATUS. -/
abbrev tSTATUS : Nat := 7
/-- POISON. -/
abbrev tPOISON : Nat := 15

/-- R196: a tagged word: the tag in bits 35:32. -/
def tagged (t v : Nat) : Nat := t * 2 ^ 32 + v % 2 ^ 32

/-- The tag of a tagged word. -/
def tagOf (w : Nat) : Nat := w / 2 ^ 32
/-- The data of a tagged word. -/
def dataOf (w : Nat) : Nat := w % 2 ^ 32

/-- A register of the Prompter. -/
def PromptSt.reg (x : PromptSt) (n : Nat) : Nat := Cells.get (fun _ => 0) x.w n
/-- The Prompter with a register replaced. -/
def PromptSt.setReg (x : PromptSt) (n v : Nat) : PromptSt := { x with w := Cells.set (fun _ => 0) x.w n v }

/-- R199: the entry of the bounds table that a DPA word lies in, and the DPA it names. -/
def PromptSt.entryOf (x : PromptSt) (v : Nat) : Option (Nat × Nat) :=
  x.bounds.findSome? (fun (e : Nat × (Nat × Nat)) =>
    let a := e.2.1 / 2 ^ 32 * 2 ^ 32 + v
    let a1 := if a < e.2.1 then a + 2 ^ 32 else a
    if e.2.1 ≤ a1 ∧ a1 ≤ e.2.2 then some (e.1, a1) else none)

/-- R199: an address lies in the firmware code region. -/
def PromptSt.inCode (x : PromptSt) (a : Nat) : Bool := decide (x.code.1 ≤ a ∧ a ≤ x.code.2)

/-- The place by which ECC errors in private memory are listed. -/
abbrev privatePlace (a : Nat) : Nat := 2 ^ 52 + a / 4 * 8

/-- R196: a word of private memory; one with an uncorrectable error reads as POISON. -/
def State.privateWord (s : State) (a : Nat) : Nat :=
  let w := Cells.get (fun _ => 0) s.prompt.mem (a / 4)
  if s.eccDouble (privatePlace a) 8 then tagged tPOISON (dataOf w) else w

/-- What an operation of the Prompter ends in. -/
inductive PromptRes where
  /-- The operation is done, and the next one follows. -/
  | ok (s : State)
  /-- It sends the PC. -/
  | go (s : State) (pc : Nat)
  /-- A tag fault: nothing is written. -/
  | fault
  /-- A register read waits. -/
  | waits
  deriving DecidableEq, Repr

/-- The state with a register of the Prompter written. -/
def State.setW (s : State) (d t v : Nat) : State := { s with prompt := s.prompt.setReg d (tagged t v) }

/-- R197: the arithmetic on integers. -/
def promptAlu (f : PromptAlu) (a b : Nat) : Nat :=
  match f with
  | .add => (a + b) % 2 ^ 32
  | .sub => (a + 2 ^ 32 - b) % 2 ^ 32
  | .band => a &&& b
  | .bor => a ||| b
  | .bxor => a ^^^ b
  | .shl => a * 2 ^ (b % 32) % 2 ^ 32
  | .shr => wrapTo 32 (asr (signed 32 a) (b % 32))
  | .shrl => a / 2 ^ (b % 32)
  | .mul => a * b % 2 ^ 32

/-- R197: ADD, SUB, logic, shift, multiply. -/
def State.promptArith (s : State) (f : PromptAlu) (d a b : Nat) : PromptRes :=
  let x := s.prompt.reg a
  let y := s.prompt.reg b
  let r := promptAlu f (dataOf x) (dataOf y)
  if tagOf x = tINT ∧ tagOf y = tINT then .ok (s.setW d tINT r)
  else if tagOf x = tDPA ∧ tagOf y = tINT ∧ (f = .add ∨ f = .sub) then
    match s.prompt.entryOf (dataOf x), s.prompt.entryOf r with
    | some (e, _), some (g, _) => if e = g then .ok (s.setW d tDPA r) else .fault
    | _, _ => .fault
  else if tagOf x = tDPA ∧ tagOf y = tDPA ∧ f = .sub then
    match s.prompt.entryOf (dataOf x), s.prompt.entryOf (dataOf y) with
    | some (e, _), some (g, _) => if e = g then .ok (s.setW d tINT r) else .fault
    | _, _ => .fault
  else .fault

/-- R197: a compare of two equal tags; an ordered one of INT, DPA or CUE. -/
def State.promptCmp (s : State) (ordered : Bool) (a b : Nat) : PromptRes :=
  let x := s.prompt.reg a
  let y := s.prompt.reg b
  let t := tagOf x
  if t ≠ tagOf y ∨ t = tUNINIT ∨ 8 ≤ t then .fault
  else if ordered ∧ t ≠ tINT ∧ t ≠ tDPA ∧ t ≠ tCUE then .fault
  else
    let less := if t = tINT ∧ Config.compareSigned then decide (signed 32 (dataOf x) < signed 32 (dataOf y))
      else decide (dataOf x < dataOf y)
    .ok { s with prompt := { s.prompt with
      eq := dataOf x == dataOf y
      lt := if ordered then less else s.prompt.lt } }

/-- R197, R199: a load through a DPA. -/
def State.promptLoad (s : State) (d a : Nat) : PromptRes :=
  let x := s.prompt.reg a
  if tagOf x ≠ tDPA then .fault
  else match s.prompt.entryOf (dataOf x) with
    | none => .fault
    | some (e, dpa) =>
      if e = 0 then
        let w := s.privateWord dpa
        if tagOf w = tUNINIT then .fault else .ok { s with prompt := s.prompt.setReg d w }
      else if 0x7F00000000 ≤ dpa then
        match s.regRead .prompter dpa 0xFFFFFFFF with
        | (.ok w, t) => .ok (t.setW d tINT w.toNat)
        | (.waits, _) => .waits
        | (.error, t) => .ok ({ t with freeTick := t.freeTick + 1 }.setW d tINT (Config.busErrorWord t.freeTick).toNat)
      else match s.dpaRead true dpa 4 with
        | (some b, t) => .ok (t.setW d tINT (ofLeBytes b))
        | (none, t) => .ok ({ t with freeTick := t.freeTick + 1 }.setW d tINT (Config.busErrorWord t.freeTick).toNat)

/-- R197, R199: a store through a DPA: outside private memory of the data bits only, and never into the code region. -/
def State.promptStore (s : State) (a v : Nat) : PromptRes :=
  let x := s.prompt.reg a
  let w := s.prompt.reg v
  if tagOf x ≠ tDPA ∨ tagOf w = tUNINIT then .fault
  else match s.prompt.entryOf (dataOf x) with
    | none => .fault
    | some (e, dpa) =>
      if s.prompt.inCode dpa then .fault
      else if e = 0 then .ok { s with prompt := { s.prompt with mem := Cells.set (fun _ => 0) s.prompt.mem (dpa / 4) w } }
      else if 0x7F00000000 ≤ dpa then
        match s.regWrite .prompter dpa 0xFFFFFFFF (BitVec.ofNat 32 (dataOf w)) with
        | (.ok _, t) => .ok t
        | (.waits, _) => .waits
        | (.error, t) => .ok t
      else .ok ((s.dpaWrite true dpa (leBytes 4 (dataOf w))).getD s)

/-- R197: the result of a handle operation: its status and value. -/
def hqStatusWord (x : HqResult) : Nat := x.status * 2 ^ 28 + x.value

/-- R197, R198: handle-queue, pool and DMA operations. A HANDLE holds a pool, a queue, a buffer handle, or 64 × engine +
channel. -/
def State.promptHandle (s : State) (f : PromptHandleOp) (d a b : Nat) : PromptRes :=
  let x := s.prompt.reg a
  let y := s.prompt.reg b
  let n := dataOf x
  let two := f == .push
  if tagOf x ≠ tHANDLE ∨ (two = true ∧ tagOf y ≠ tHANDLE) then .fault
  else
    let result (r : HqResult × State) : PromptRes :=
      let t := State.noteHq .prompter r
      if (f = .alloc ∨ f = .pop) ∧ r.1.status = 0 then .ok (t.setW d tHANDLE r.1.value) else .ok (t.setW d tSTATUS (hqStatusWord r.1))
    let channel (g : State → Nat → Nat → State) : PromptRes :=
      let e := n / 64
      .ok ((if e < 10 ∧ chanOk e (n % 64) then g s e (n % 64) else s).setW d tSTATUS 0)
    match f with
    | .alloc => result (s.hqAlloc (s.poolOk .prompter (n % 16)) (holderOf .prompter) (n % 16))
    | .push => result (s.hqPush (s.queueOk .prompter (n % 256)) (n % 256) (dataOf y % 65536))
    | .pop => result (s.hqPop (s.queueOk .prompter (n % 256)) (holderOf .prompter) (n % 256))
    | .free => result (s.hqFree (s.poolOk .prompter (n % 65536 / 4096)) (n % 65536))
    | .fill => result (s.hqFill (s.queueOk .prompter (n % 256)) (n % 256))
    | .kick => channel State.dmaLaunch
    | .abort => channel State.dmaAbort
    | .resume => channel State.dmaResume

/-- R197: a cue push. -/
def State.promptPush (s : State) (q : QueueId) (lo hi w2 w3 : Nat) : PromptRes :=
  let v (n : Nat) : Nat := s.prompt.reg n
  if tagOf (v lo) ≠ tCUE ∨ tagOf (v hi) ≠ tCUE ∨ tagOf (v w2) ≠ tINT ∨ tagOf (v w3) ≠ tINT then .fault
  else
    let w (n : Nat) : Word := BitVec.ofNat 32 (dataOf (v n))
    .ok (s.pushCue q (CueEntry.ofWords (w lo) (w hi) (w w2) (w w3)) (entryReserved (w w2)))

/-- R197: CUE plus or minus INT. -/
def State.promptCue (s : State) (minus : Bool) (lo hi a : Nat) : PromptRes :=
  let l := s.prompt.reg lo
  let h := s.prompt.reg hi
  let x := s.prompt.reg a
  if tagOf l ≠ tCUE ∨ tagOf h ≠ tCUE ∨ tagOf x ≠ tINT then .fault
  else
    let t := dataOf h * 2 ^ 32 + dataOf l
    let r := if minus then (t + 2 ^ 64 - dataOf x) % 2 ^ 64 else (t + dataOf x) % 2 ^ 64
    .ok ((s.setW lo tCUE r).setW hi tCUE (r / 2 ^ 32))

/-- R197, R387: a scale field is staged as a member of a Wings set; STATUS is 0 where it was. -/
def State.promptStage (s : State) (d a n block ofs : Nat) : PromptRes :=
  let x := s.prompt.reg a
  if tagOf x ≠ tSCALE then .fault
  else
    match s.stageAll n [{ block := block, ofs := 4 * ofs, value := BitVec.ofNat 32 (dataOf x) }] with
    | .ok t _ => .ok (t.setW d tSTATUS 0)
    | _ => .ok (s.setW d tSTATUS (2 ^ 28))

/-- R196 to R199: one operation of the Prompter. -/
def State.promptOp (s : State) (o : PromptOp) : PromptRes :=
  let x := s.prompt
  let v (n : Fin 16) : Nat := x.reg n.val
  match o with
  | .alu f d a b => s.promptArith f d.val a.val b.val
  | .cmp ordered a b => s.promptCmp ordered a.val b.val
  | .mv d a => if tagOf (v a) = tUNINIT then .fault else .ok { s with prompt := x.setReg d.val (v a) }
  | .ld d a => s.promptLoad d.val a.val
  | .st a w => s.promptStore a.val w.val
  | .jump c a =>
    if tagOf (v a) ≠ tCODE then .fault
    else
      let taken := match c with
        | .always => true
        | .eq => x.eq
        | .ne => !x.eq
        | .lt => x.lt
        | .ge => !x.lt
      if taken then .go s (dataOf (v a)) else .ok s
  | .call d a => if tagOf (v a) ≠ tCODE then .fault else .go (s.setW d.val tCODE (x.pc + 4)) (dataOf (v a))
  | .ret a =>
    if tagOf (v a) ≠ tCODE then .fault else .go { s with prompt := { x with inHandler := false } } (dataOf (v a))
  | .handle f d a b => s.promptHandle f d.val a.val b.val
  | .claim d n => .ok (s.setW d.val tHANDLE (64 * 9 + n.val))
  | .cuePush q lo hi w2 w3 => s.promptPush q lo.val hi.val w2.val w3.val
  | .cueAdd minus lo hi a => s.promptCue minus lo.val hi.val a.val
  | .stage d a n block ofs => s.promptStage d.val a.val n.val block.toNat ofs.val
  | .test a =>
    if tagOf (v a) ≠ tSTATUS then .fault
    else .ok { s with prompt := { x with eq := dataOf (v a) / 2 ^ 28 == 0 } }
  | .tagint d a => if tagOf (v a) = tUNINIT ∨ tagOf (v a) = tPOISON then .fault else .ok (s.setW d.val tINT (dataOf (v a)))
  | .tagset d a t =>
    if tagOf (v a) ≠ tINT ∨ !(t.val == tCUE || t.val == tSCALE || t.val == tSTATUS) then .fault
    else .ok (s.setW d.val t.val (dataOf (v a)))
  | .dpamk d a e =>
    let b := Cells.get (fun _ => (1, 0)) x.bounds e.val
    let lo := b.1 / 2 ^ 32 * 2 ^ 32 + dataOf (v a)
    let at1 := if lo < b.1 then lo + 2 ^ 32 else lo
    if tagOf (v a) = tINT ∧ b.1 ≤ at1 ∧ at1 ≤ b.2 then .ok (s.setW d.val tDPA (dataOf (v a))) else .fault
  | .leac d ofs =>
    let t := (x.pc : Int) + ofs
    if 0 ≤ t ∧ x.inCode t.toNat then .ok (s.setW d.val tCODE t.toNat) else .fault
  | .poison d => .ok (s.setW d.val tPOISON 0)
  | .tagof d a => .ok (s.setW d.val tINT (tagOf (v a)))

/-- R200: a tag fault: the hardware requests its record, and the Prompter enters its fault handler, or is reset when it is in
it. -/
def State.tagFault (s : State) : State :=
  let s1 := s.lichenHw 0x0A01 s.prompt.pc (Config.tagFaultField 0 s.freeTick) (Config.tagFaultField 1 s.freeTick) 0
  let s2 := { s1 with freeTick := s1.freeTick + 1 }
  if s.prompt.inHandler then s2.resetPrompter
  else { s2 with prompt := { s2.prompt with
    pc := Config.faultHandler
    inHandler := true } }

/-- R196: PROMPTER_OP_ISSUE: the Prompter issues one operation, unless it is being restarted. -/
def execPrompterOpIssue (o : PromptOp) (s : State) : Out :=
  if s.prompt.down.isSome ∨ !s.awake then done s
  else match s.promptOp o with
    | .ok t => done { t with prompt := { t.prompt with pc := s.prompt.pc + 4 } }
    | .go t pc => done { t with prompt := { t.prompt with pc := pc } }
    | .fault => done s.tagFault
    | .waits => done s

end Sys2Proof.Machine
end

