-- ==== Sys2Proof/Machine/Usb.lean ====
section
/-!
DEFINITION. The USB host link (R392 to R408).
-/
namespace Sys2Proof.Machine

/-- USB_STAT.LINK. -/
def State.usbLink (s : State) : Nat := s.fld rUSB_STAT fUSB_STAT_LINK
/-- The state with another link state. -/
def State.setUsbLink (s : State) (v : Nat) : State := s.setFld rUSB_STAT fUSB_STAT_LINK v

/-- R400: traffic on the link: it leaves U1 and U2, and the idle time starts again. -/
def State.usbTraffic (s : State) : State :=
  let s1 := if s.usbLink = 2 ∨ s.usbLink = 3 then s.setUsbLink 1 else s
  { s1 with usb := { s1.usb with idleSince := s.time.ns } }

/-- R25: the USB controller is powered. -/
def State.usbOn (s : State) : Bool := s.power.st == .active || s.power.st == .idle || s.power.st == .entering || s.power.st == .starting

/-- R392, R393, R404: USB_ATTACH: VBUS attachment; the module enumerates at the highest speed (USB_STAT's code) that host and
cable support, once its terminations are on. -/
def execUsbAttach (speed : Fin 7) (s : State) : Out :=
  let s0 := { s with power := { s.power with vbus := true } }
  if s.power.st = .dark then done (s0.wakeFire 1)
  else if !s.usbOn then done s0
  else
    let s1 := s0.setFld rUSB_STAT fUSB_STAT_ATTACHED 1
    if s.flag rUSB_CFG fUSB_CFG_CONNECT ∧ speed.val ≠ 0 then
      let v := if s.flag rUSB_CFG fUSB_CFG_SS_DIS then min 2 speed.val else speed.val
      let s2 := (s1.setFld rUSB_STAT fUSB_STAT_SPEED v).setUsbLink 1
      let s3 := { s2 with usb := { s2.usb with
        idleSince := s.time.ns
        enumerated := true } }
      done (if v = 1 then s3.lichenFw 0x0A10 0 0 0 0 else s3)
    else done s1

/-- R407: USB_RESET: 0 a USB reset, 1 a warm reset, 2 loss of VBUS. -/
def execUsbReset (kind : Fin 3) (s : State) : Out :=
  let s0 := if kind.val = 2 then { s with power := { s.power with vbus := false } } else s
  if !s.usbOn then done s0
  else
    let s1 := ((s0.endCommands.count rUSB_RESET_CNT).setFld rUSB_STAT fUSB_STAT_CONFIGURED 0).setFld rUSB_STAT fUSB_STAT_RWAKE_EN 0
    let s2 := { s1 with usb := { s1.usb with
      u1 := false
      u2 := false
      enumerated := false
      idleSince := s.time.ns } }
    let s3 := if kind.val = 2 then
        ((s2.setFld rUSB_STAT fUSB_STAT_ATTACHED 0).setFld rUSB_STAT fUSB_STAT_SPEED 0).setUsbLink 0
      else s2.setUsbLink 1
    done (s3.lichenFw 0x0A12 kind.val 0 0 0)

/-- R406: CLEAR_ENDPOINT_HALT. -/
def execClearEndpointHalt (ep : Fin 4) (inward : Bool) (s : State) : Out :=
  if ep.val = 2 then
    done ((s.host.outstanding.filter (fun o => o.opcode % 4096 == 0x202 && decide (48 ≤ o.object) == inward)).foldl
      (fun t o => t.stopXfer o 0x0F) s)
  else if ep.val = 0 then done s
  else
    let k := 2 * ep.val + b2n inward
    done { s with usb := { s.usb with seqReset := if k ∈ s.usb.seqReset then s.usb.seqReset else s.usb.seqReset ++ [k] } }

/-- R398, R405: EP2_OUT_DATA: a packet is accepted into the armed channel, or answered NRDY; link-layer retries are counted. -/
def execEp2OutData (n : Fin 16) (b : List Byte) (retries : Nat) (s : State) : Out :=
  let s0 := s.countBy rUSB_ERR_CNT fUSB_ERR_CNT_RETRY retries
  let c := 32 + n.val
  let left := Cells.get (fun _ => 0) s0.usb.armed c
  if s0.flag rUSB_STAT fUSB_STAT_CONFIGURED ∧ s0.usbOn ∧ b.length ≤ left ∧ 0 < left ∧
      (s0.fld rUSB_STAT fUSB_STAT_SPEED ≠ 2 ∨ n.val = 0) then
    let s1 := s0.usbTraffic
    done { s1 with usb := { s1.usb with
      armed := Cells.set (fun _ => 0) s1.usb.armed c (left - b.length)
      outData := Cells.set (fun _ => []) s1.usb.outData c (Cells.get (fun _ => []) s1.usb.outData c ++ b) } }
  else done s0

/-- R400: USB_U1_U2_ENTRY, with the host's permission after 2 µs or 100 µs of idle. -/
def execUsbU1U2Entry (u2 : Bool) (s : State) : Out :=
  if (if u2 then s.usb.u2 else s.usb.u1) ∧ (s.usbLink = 1 ∨ (u2 ∧ s.usbLink = 2)) ∧ s.usbOn ∧
      s.usb.idleSince + (if u2 then 100000 else 2000) ≤ s.time.ns then
    done (s.setUsbLink (if u2 then 3 else 2))
  else done s

/-- R401: USB_SUSPEND: the link enters U3, and the module SLEEP if the three conditions hold. -/
def execUsbSuspend (s : State) : Out :=
  if !s.usbOn ∨ s.usbLink = 0 then done s
  else
    let s1 := s.setUsbLink 4
    if s.flag rUSB_STAT fUSB_STAT_RWAKE_EN ∧ s.host.outstanding.isEmpty ∧ s.host.held.isEmpty ∧ s.awake ∧
        s.scripts.all (fun (x : Nat × Script) => x.2.st != .running) then
      let m := s.usb.sleepMask.getD 0x3F
      done (s1.beginEntry false none (if bitOf m 1 then m else m + 2))
    else done s1

/-- R402: USB_RESUME: the host signals U3 exit or resume. -/
def execUsbResume (s : State) : Out :=
  if s.usbLink = 4 then done ((s.setUsbLink (if s.power.st = .sleep ∨ s.power.st = .waking then 5 else 1)).wakeFire 1) else done s

/-- R405: USB_TRAIN_FAIL: a SuperSpeed port drops to a lower speed. -/
def execUsbTrainFail (speed : Fin 7) (s : State) : Out :=
  if 3 ≤ s.fld rUSB_STAT fUSB_STAT_SPEED ∧ speed.val < s.fld rUSB_STAT fUSB_STAT_SPEED then
    done ((s.setFld rUSB_STAT fUSB_STAT_SPEED speed.val).lichenFw 0x0A11 speed.val 0 0 0)
  else done s

/-- R391: EP3_IN_TRANSFER: the host takes up to 4 event records. -/
def execEp3InTransfer (s : State) : Out :=
  if s.flag rUSB_STAT fUSB_STAT_CONFIGURED ∧ s.usbOn then
    let n := min 4 s.events.queue.length
    done ({ s with events := { s.events with
      queue := s.events.queue.drop n
      taken := s.events.taken + n } }.usbTraffic)
  else done s

/-- R400, R401, R408: USB_STANDARD_REQUEST on endpoint 0. -/
def execUsbStandardRequest (r : UsbRequest) (s : State) : Out :=
  if !s.usbOn ∨ s.fld rUSB_STAT fUSB_STAT_SPEED = 0 then done s
  else
    let s1 := s.usbTraffic
    match r with
    | .setConfiguration v => done (if v ≤ 1 then s1.setFld rUSB_STAT fUSB_STAT_CONFIGURED v else s1)
    | .feature .u1Enable on => done { s1 with usb := { s1.usb with u1 := on } }
    | .feature .u2Enable on => done { s1 with usb := { s1.usb with u2 := on } }
    | .feature .remoteWake on => done (s1.setFld rUSB_STAT fUSB_STAT_RWAKE_EN (b2n on))

end Sys2Proof.Machine
end

