-- ==== Sys2Proof/Machine/Operands.lean ====
section
/-!
DEFINITION. The operations of a VPP bundle: their forms, and how a bundle's slots decode to them (R150 to R158, R182, R193,
R195).
-/
namespace Sys2Proof.Machine

/-- R155: the memory operand of a MEM-format operation: AM, index, modifier, and IMM6. -/
structure MemRef where
  am : Nat
  i : Nat
  n : Nat
  imm : Int
  deriving DecidableEq, Repr

/-- R146: what PUSH and POP name. -/
inductive StackReg where
  | num (n : Nat)
  | p (k : Nat)
  | ac (k : Nat)
  deriving DecidableEq, Repr

/-- R165: the scalar operations with a result. -/
inductive AluOp where
  | add | sub | band | bor | bxor | shl | shr | shrl
  deriving DecidableEq, Repr

/-- R195: the source of a scalar operation: a G register or an immediate. -/
inductive AluSrc where
  | g (n : Nat)
  | imm (v : Nat)
  deriving DecidableEq, Repr

/-- R164: the forms of MVA. -/
inductive MvaForm where
  | l | h | w
  deriving DecidableEq, Repr

/-- R187: the atomics. -/
inductive AtomicOp where
  | tas | ldrs | stcd
  deriving DecidableEq, Repr

/-- R195: the operations of the VPP. Registers are named by their numbers. -/
inductive VppOp where
  | nop
  /-- `flags`: the long forms write the flags. -/
  | alu (f : AluOp) (d a : Nat) (b : AluSrc) (flags : Bool)
  | cmp (a b : Nat)
  | mv (high : Bool) (d a : Nat)
  | mvi (d v : Nat)
  | tend
  /-- COND, and the target as a byte address. -/
  | branch (cond target : Nat)
  | call (target : Nat)
  | ret
  | reti
  /-- The level, the count, and END in bundles. -/
  | loop (l : Nat) (count : AluSrc) (len : Nat)
  | lexit (l : Nat)
  | trap (k : Nat)
  | irq (on : Bool)
  | mva (f : MvaForm) (d a : Nat)
  | accp (aop : Nat)
  | clra
  /-- W of R154 and the data register. -/
  | load (w r : Nat) (m : MemRef)
  | store (w r : Nat) (m : MemRef)
  | push (r : StackReg)
  | pop (r : StackReg)
  | modi (w : Nat) (m : MemRef)
  /-- MUL4, or FTAP when `tap`. -/
  | dsp (tap : Bool) (aop : Nat) (x y : MemRef)
  /-- Vd, Vi, index, element size in bytes, predicate. -/
  | gather (d vi i z : Nat) (p : Option Nat)
  | scatter (d vi i z : Nat) (p : Option Nat)
  | stm (r p : Nat) (m : MemRef)
  | atomic (f : AtomicOp) (words g : Nat) (m : MemRef)
  /-- A vector operation by its opcode: Vd, Va, Vb, predicate, element size in bytes, FN. -/
  | vec (op d a b : Nat) (p : Option Nat) (z fn : Nat)
  deriving DecidableEq, Repr

/-- What a half of a slot decodes to: an operation, an encoding that R154 and R151 refuse, or a reserved encoding (R193). -/
inductive Decoded where
  | ok (o : VppOp)
  | illegal
  | reserved
  deriving DecidableEq, Repr

/-- R155: the words of an access, by W of R154. -/
def widthWords (w : Nat) : Nat := if w = 0 then 1 else if w = 1 then 2 else if w = 2 then 4 else 8

/-- R195: the slots of a long opcode; none for a reserved one. -/
def longSlots (op : Nat) : Option (List Nat) :=
  if op = 0 then some [0, 1, 2, 3]
  else if op ≤ 0x18 ∧ op ≠ 0x0F then some [0]
  else if 0x19 ≤ op ∧ op ≤ 0x1D then some [0, 1]
  else if 0x20 ≤ op ∧ op ≤ 0x2C then some [1]
  else if 0x40 ≤ op ∧ op ≤ 0x5E then some [2, 3]
  else none

/-- An operation where a condition holds, and else an illegal encoding. -/
def okIf (c : Bool) (o : VppOp) : Decoded := if c then .ok o else .illegal

/-- R165: the scalar operation of a long opcode 0x01 to 0x08. -/
def aluOf (op : Nat) : AluOp :=
  match op with
  | 1 => .add
  | 2 => .sub
  | 3 => .band
  | 4 => .bor
  | 5 => .bxor
  | 6 => .shl
  | 7 => .shr
  | _ => .shrl

/-- R154, R195: a long operation of slot 0. A scalar operation names G registers only. -/
def decodeScalar (op w : Nat) : Decoded :=
  let d := bitsOf w 23 18
  let a := bitsOf w 17 12
  let b := bitsOf w 11 6
  if op ≤ 5 then okIf (d < 16 && a < 16 && b < 16) (.alu (aluOf op) d a (.g b) true)
  else if op ≤ 8 then
    if bitOf w 4 then okIf (d < 16 && a < 16) (.alu (aluOf op) d a (.imm (b % 16)) true)
    else okIf (d < 16 && a < 16 && b < 16) (.alu (aluOf op) d a (.g b) true)
  else if op = 9 then okIf (a < 16 && b < 16) (.cmp a b)
  else if op = 0x0A then .ok (.alu .add (bitsOf w 23 20) (bitsOf w 19 16) (.imm (w % 65536)) true)
  else if op = 0x0B then .ok (.mv false d a)
  else if op = 0x0C then .ok (.mv true d a)
  else if op = 0x0D then okIf (bitsOf w 17 16 == 0) (.mvi d (w % 65536))
  else if op = 0x0E then .ok .tend
  else if op = 0x10 then okIf (bitsOf w 19 14 == 0 && bitsOf w 23 20 < 9) (.branch (bitsOf w 23 20) (16 * (w % 2 ^ 14)))
  else if op = 0x11 then okIf (bitsOf w 19 14 == 0) (.call (16 * (w % 2 ^ 14)))
  else if op = 0x12 then .ok .ret
  else if op = 0x13 then .ok .reti
  else if op = 0x14 then
    okIf (w % 2 ^ 12 != 0) (.loop (bitsOf w 23 23) (if bitOf w 22 then .g (bitsOf w 15 12) else .imm (bitsOf w 21 12)) (w % 2 ^ 12))
  else if op = 0x15 then .ok (.lexit (bitsOf w 23 23))
  else if op = 0x16 then .ok (.trap (w % 256))
  else .ok (.irq (op == 0x17))

/-- R164, R195: MVA, ACCP and CLRA. -/
def decodeAcc (op w : Nat) : Decoded :=
  let d := bitsOf w 23 18
  let a := bitsOf w 13 12
  if op = 0x19 then okIf (d < 16) (.mva .l d a)
  else if op = 0x1A then okIf (d < 16) (.mva .h d a)
  else if op = 0x1B then okIf (d < 15) (.mva .w d a)
  else if op = 0x1C then okIf (bitsOf w 5 0 == 0) (.accp (bitsOf w 23 22))
  else okIf (bitsOf w 5 0 == 0) .clra

/-- R154: the memory operand of a MEM format. -/
def memRef (w : Nat) : MemRef := ⟨bitsOf w 17 15, bitsOf w 14 12, bitsOf w 11 9, signed 6 (bitsOf w 5 0)⟩

/-- R182: the predicate of a vector operation or a gather: PE in bit 8 and P in bits 7:5. -/
def predOf (w : Nat) : Option Nat := if bitOf w 8 then some (bitsOf w 7 5) else none

/-- R154, R182, R195: a long operation of slot 1 alone. -/
def decodeMem (op w : Nat) : Decoded :=
  let r := bitsOf w 23 18
  let m := memRef w
  let wd := bitsOf w 8 6
  let am := decide (m.am < 6)
  let fits := decide (if wd = 3 then r < 32 else r + widthWords wd ≤ 16)
  if op = 0x20 then okIf (am && decide (wd < 4) && fits) (.load wd r m)
  else if op = 0x21 then okIf (am && decide (wd < 4) && fits) (.store wd r m)
  else if op = 0x22 ∨ op = 0x23 then
    let o (x : StackReg) : VppOp := if op = 0x22 then .push x else .pop x
    if wd = 0 then .ok (o (.num r))
    else if wd = 4 then okIf (r < 4) (o (.p r))
    else okIf (wd == 5 && decide (r < 4)) (o (.ac r))
  else if op = 0x24 then okIf (am && decide (wd < 4)) (.modi wd m)
  else if op = 0x25 ∨ op = 0x26 then
    okIf (bitsOf w 5 0 == 0) (.dsp (op == 0x26) (bitsOf w 23 22) ⟨bitsOf w 18 17, bitsOf w 21 19, bitsOf w 11 9, 0⟩
      ⟨bitsOf w 13 12, bitsOf w 16 14, bitsOf w 8 6, 0⟩)
  else if op = 0x27 ∨ op = 0x28 then
    let z := 2 ^ bitsOf w 10 9
    let d := bitsOf w 23 19
    let vi := bitsOf w 18 14
    let i := bitsOf w 13 11
    if z = 8 then .reserved
    else okIf (bitsOf w 4 0 == 0 && (z != 1 || vi % 2 == 0))
      (if op = 0x27 then .gather d vi i z (predOf w) else .scatter d vi i z (predOf w))
  else if op = 0x29 then okIf (decide (m.am < 2) && decide (r < 32)) (.stm r m.n m)
  else if op = 0x2A then okIf (am && decide (r < 16)) (.atomic .tas 1 r m)
  else okIf (am && decide (wd < 2) && decide (r + widthWords wd ≤ 16))
    (.atomic (if op = 0x2B then .ldrs else .stcd) (widthWords wd) r m)

/-- R195: the FN and SZ values that the mnemonic table lists for a vector opcode (log entry 41 for those it does not name). -/
def vecListed (op z fn : Nat) : Bool :=
  if op = 0x40 ∨ op = 0x41 then decide (fn < 3)
  else if op = 0x43 then decide (fn < 3 ∧ z ≤ 2)
  else if op = 0x44 then decide (fn < 4 ∧ z = 1)
  else if op = 0x45 ∨ op = 0x46 ∨ (0x4B ≤ op ∧ op ≤ 0x4D) then decide (fn < 2)
  else if op = 0x4E then decide (fn < 5)
  else if op = 0x55 then decide (z ≠ 1)
  else if op = 0x56 then decide (z ≠ 8)
  else true

/-- R182, R195: a long vector operation. -/
def decodeVec (op w : Nat) : Decoded :=
  let d := bitsOf w 23 19
  let a := bitsOf w 18 14
  let b := bitsOf w 13 9
  let z := 2 ^ bitsOf w 4 3
  let fn := bitsOf w 2 0
  if !vecListed op z fn then .reserved
  else
    let good :=
      if op = 0x43 then d % 2 == 0
      else if op = 0x4F then (predOf w).isSome
      else if op = 0x58 then decide (d < 31) && b % 16 != 15
      else if op = 0x59 then decide (d < 31) && decide (a < 31) && decide (b < 31)
      else if op = 0x5A then decide (a < 31)
      else true
    okIf good (.vec op d a b (predOf w) z fn)

/-- R154, R195: a long operation in a slot. -/
def decodeLong (slot w : Nat) : Decoded :=
  let op := bitsOf w 30 24
  match longSlots op with
  | none => .reserved
  | some l =>
    if !l.contains slot then .illegal
    else if op = 0 then .ok .nop
    else if op < 0x19 then decodeScalar op w
    else if op < 0x20 then decodeAcc op w
    else if op < 0x40 then decodeMem op w
    else decodeVec op w

/-- R154, R195: a short operation in slot 0, from its opcode and operands. -/
def decodeShort0 (op x : Nat) : Decoded :=
  let d := bitsOf x 9 6
  let b := bitsOf x 5 2
  if op = 1 then .ok (.mv false d b)
  else if op ≤ 6 then .ok (.alu (aluOf (op - 1)) d d (.g b) false)
  else if op = 7 then .ok (.alu .shl d d (.imm b) false)
  else if op = 8 then .ok (.alu .shr d d (.imm b) false)
  else if op = 9 then .ok (.alu .add d d (.imm (wrapTo 16 (signed 4 b))) false)
  else if op = 0x0A then .ok (.mva .l d (b % 4))
  else if op = 0x0B then .ok (.mva .h d (b % 4))
  else if op = 0x0C then .ok (.accp (x % 4))
  else .illegal

/-- R154, R195: a short operation in slot 1. -/
def decodeShort1 (op x : Nat) : Decoded :=
  let d := bitsOf x 9 6
  let b := bitsOf x 5 2
  if op ≤ 4 then okIf (b < 8) (.load 0 d ⟨op - 1, b, x % 4, 0⟩)
  else if op = 5 then okIf (d < 8 && b < 8) (.modi 0 ⟨3, d, b, 0⟩)
  else if op = 6 then .ok (.accp (x % 4))
  else if op = 7 then .ok .clra
  else .illegal

/-- R182, R195: a short vector operation. -/
def decodeShortV (op x : Nat) : Decoded :=
  let d := bitsOf x 9 5
  let b := bitsOf x 4 0
  let v (long z fn : Nat) : Decoded := .ok (.vec long d d b none z fn)
  match op with
  | 0x01 => v 0x40 1 0
  | 0x02 => v 0x40 2 0
  | 0x03 => v 0x40 4 0
  | 0x04 => v 0x41 1 0
  | 0x05 => v 0x41 2 0
  | 0x06 => v 0x41 4 0
  | 0x07 => v 0x45 1 0
  | 0x08 => v 0x45 2 0
  | 0x09 => v 0x46 1 0
  | 0x0A => v 0x46 2 0
  | 0x0B => v 0x48 1 0
  | 0x0C => v 0x49 1 0
  | 0x0D => v 0x4A 1 0
  | 0x0E => .ok (.vec 0x50 d b b none 1 0)
  | 0x0F => v 0x40 1 1
  | _ => v 0x40 2 1

/-- R150, R193: a short operation in a slot: its opcode stands in bits 14:10. -/
def decodeShort (slot x : Nat) : Decoded :=
  let op := bitsOf x 14 10
  if op = 0 then .ok .nop
  else if 0x10 < op then .reserved
  else if slot = 0 then decodeShort0 op x
  else if slot = 1 then decodeShort1 op x
  else decodeShortV op x

/-- R150: a slot's operations: one long operation, or short operations A and B. -/
def decodeSlot (slot w : Nat) : List Decoded :=
  if !bitOf w 31 then [decodeLong slot w]
  else if bitOf w 30 then [.illegal]
  else [decodeShort slot (bitsOf w 29 15), decodeShort slot (bitsOf w 14 0)]

/-! ### Registers read and written -/

/-- A number for a vector register among all registers (numbered ones keep theirs). -/
abbrev vNum (v : Nat) : Nat := 64 + v
/-- A predicate register. -/
abbrev mNum (m : Nat) : Nat := 96 + m
/-- An accumulator. -/
abbrev acNum (k : Nat) : Nat := 104 + k
/-- A product register. -/
abbrev pNum (k : Nat) : Nat := 108 + k

/-- The four accumulators. -/
def accs : List Nat := [acNum 0, acNum 1, acNum 2, acNum 3]

/-- R155, R156: an operand post-modifies its index. -/
def MemRef.posts (m : MemRef) : Bool := m.am == 1 || m.am == 2 || m.am == 3 || m.am == 5

/-- R156: the registers that a post-modify writes: the bank too, unless circular addressing is on (`circ`). -/
def MemRef.written (m : MemRef) (circ : Nat → Bool) : List Nat :=
  if m.posts then (if decide (m.i < 4) && circ m.i then [0x10 + m.i] else [0x10 + m.i, 0x18 + m.i]) else []

/-- R155, R156: the registers that forming an address reads. -/
def MemRef.used (m : MemRef) : List Nat :=
  [0x10 + m.i, 0x18 + m.i] ++ (if m.am == 3 || m.am == 4 then [0x20 + m.n] else []) ++
    (if decide (m.i < 4) then [0x28 + m.i, 0x2C + m.i] else [])

/-- R146: the register that PUSH or POP names. -/
def StackReg.number : StackReg → Nat
  | .num n => n
  | .p k => pNum k
  | .ac k => acNum k

/-- R180: the destination registers of a vector operation. -/
def vecWritten (op d : Nat) : List Nat :=
  if op = 0x43 ∨ op = 0x58 ∨ op = 0x59 then [vNum d, vNum (d + 1)]
  else if op = 0x4E ∨ 0x5B ≤ op then [mNum (d % 8)]
  else if op = 0x52 then [d % 16]
  else [vNum d]

/-- R152, R153: the destination registers of an operation. -/
def VppOp.writes (circ : Nat → Bool) : VppOp → List Nat
  | .nop | .cmp _ _ | .tend | .branch _ _ | .lexit _ | .trap _ => []
  | .alu _ d _ _ _ | .mv _ d _ | .mvi d _ => [d]
  | .call _ | .ret => [nSP]
  | .reti => [nSP, nSTATUS]
  | .irq _ => [nSTATUS]
  | .loop l _ _ => [0x30 + l, 0x32 + l, 0x34 + l]
  | .mva f d _ => if f = .w then [d, d + 1] else [d]
  | .accp aop => if aop = 0 then [] else accs
  | .clra => accs
  | .load w r m => (if w = 3 then [vNum r] else (List.range (widthWords w)).map (r + ·)) ++ m.written circ
  | .store _ _ m | .modi _ m | .stm _ _ m => m.written circ
  | .push _ => [nSP]
  | .pop r => [nSP, r.number]
  | .dsp _ aop x y => (if aop = 0 then [] else accs) ++ x.written circ ++ y.written circ
  | .gather d _ _ _ _ => [vNum d]
  | .scatter _ _ _ _ _ => []
  | .atomic f n g m => (if f = .stcd then [] else (List.range n).map (g + ·)) ++ m.written circ
  | .vec op d _ _ _ _ _ => vecWritten op d

/-- R152: the registers that a short operation reads. -/
def VppOp.shortReads : VppOp → List Nat
  | .alu _ _ a b _ => a :: (match b with | .g n => [n] | .imm _ => [])
  | .mv _ _ a => [a]
  | .mva _ _ a => [acNum a]
  | .accp _ => [pNum 0, pNum 1, pNum 2, pNum 3] ++ accs
  | .load _ _ m => m.used
  | .modi _ m => m.used
  | .vec _ _ a b _ _ _ => [vNum a, vNum b]
  | _ => []

/-- R152: the registers that a short operation writes: ACCP counts as writing the accumulators whatever its action. -/
def VppOp.shortWrites (circ : Nat → Bool) : VppOp → List Nat
  | .accp _ => accs
  | o => o.writes circ

/-- R152: two short operations depend on each other. -/
def pairDepends (circ : Nat → Bool) (a b : VppOp) : Bool :=
  let wa := a.shortWrites circ
  let wb := b.shortWrites circ
  wa.any (fun r => wb.contains r || b.shortReads.contains r) || wb.any (fun r => a.shortReads.contains r)

/-- What a bundle decodes to: its operations by slot, or the trap it raises: 0x20, 0x21, or 0x22 with the slot and half. -/
inductive BundleDec where
  | ok (ops : List (List VppOp))
  | pair
  | illegal
  | emulate (slot half : Nat)
  deriving DecidableEq, Repr

/-- The operations among decoded halves. -/
def opsOf : List Decoded → List VppOp
  | [] => []
  | .ok o :: l => o :: opsOf l
  | _ :: l => opsOf l

/-- R153: some register is written from two slots. -/
def slotsClash (circ : Nat → Bool) : List (List VppOp) → Bool
  | [] => false
  | l :: rest =>
    let ws := l.flatMap (fun o => o.writes circ)
    rest.any (fun m => (m.flatMap (fun o => o.writes circ)).any ws.contains) || slotsClash circ rest

/-- R193: the first reserved encoding of a bundle, as slot and half. -/
def firstReserved (l : List (List Decoded)) : Option (Nat × Nat) :=
  (List.range 4).findSome? (fun s => ((l.getD s []).findIdx? (· == Decoded.reserved)).map (fun h => (s, h)))

/-- R150 to R154, R193: a bundle, from its four slot words. `emu` is MODE.EMU. A reserved encoding comes before any other
refusal, and an illegal encoding before a dependent pair (log entry 42). -/
def decodeBundle (emu : Bool) (circ : Nat → Bool) (ws : List Nat) : BundleDec :=
  let l := (List.range 4).map (fun s => decodeSlot s (ws.getD s 0))
  match firstReserved l with
  | some (s, h) => if emu then .emulate s h else .illegal
  | none =>
    if l.any (fun x => x.contains Decoded.illegal) then .illegal
    else
      let ops := l.map opsOf
      if ops.any (fun x => match x with | [a, b] => pairDepends circ a b | _ => false) then .pair
      else if slotsClash circ ops then .illegal
      else .ok ops

end Sys2Proof.Machine
end

