-- ==== Sys2Proof/Machine/Flags.lean ====
section
/-!
DEFINITION. The scalar results and flags of R165, the branch conditions, and the accumulator move of R164.
-/
namespace Sys2Proof.Machine

/-- R148: the scalar flags. -/
structure AluFlags where
  z : Bool
  n : Bool
  c : Bool
  v : Bool
  deriving DecidableEq, Repr

/-- R165: the result of a scalar operation on 16-bit values, with its flags; V is none where the operation does not write it.
`free` stands for the bit that a shift by 0 shifts out, which the spec does not state. -/
def aluResult (free : Bool) (f : AluOp) (a b : Nat) : Nat × Bool × Option Bool :=
  match f with
  | .add =>
    let r := (a + b) % 65536
    (r, decide (65536 ≤ a + b), some (decide (signed 16 a + signed 16 b ≠ signed 16 r)))
  | .sub =>
    let r := (a + 65536 - b) % 65536
    (r, (decide (a < b)) == Config.carryIsBorrow, some (decide (signed 16 a - signed 16 b ≠ signed 16 r)))
  | .band => (a &&& b, false, some false)
  | .bor => (a ||| b, false, some false)
  | .bxor => (a ^^^ b, false, some false)
  | .shl => (a * 2 ^ (b % 16) % 65536, if b % 16 = 0 then free else bitOf a (16 - b % 16), none)
  | .shr => (wrapTo 16 (asr (signed 16 a) (b % 16)), if b % 16 = 0 then free else bitOf a (b % 16 - 1), none)
  | .shrl => (a / 2 ^ (b % 16), if b % 16 = 0 then free else bitOf a (b % 16 - 1), none)

/-- R165: a context with the flags that a result `r` with carry `c` and overflow `v` leaves. -/
def VppCtx.withFlags (x : VppCtx) (r : Nat) (c : Bool) (v : Option Bool) : VppCtx :=
  let x1 := ((x.setStat 0 (r == 0)).setStat 1 (bitOf r 15)).setStat 2 c
  match v with
  | some w => x1.setStat 3 w
  | none => x1

/-- R165: a branch condition on the flags: 0 EQ, 1 NE, 2 LT, 3 GE, 4 LE, 5 GT, 6 LTU, 7 GEU, 8 ALWAYS (log entry 43). -/
def condHolds (x : VppCtx) (cond : Nat) : Bool :=
  let z := x.stat 0
  let lt := x.stat 1 != x.stat 3
  let below := x.stat 2 == Config.carryIsBorrow
  match cond with
  | 0 => z
  | 1 => !z
  | 2 => lt
  | 3 => !lt
  | 4 => z || lt
  | 5 => !(z || lt)
  | 6 => below
  | 7 => !below
  | _ => true

/-- R164: an accumulator moved through a shift: the value before saturation, and whether a right shift lost a nonzero bit. -/
def mvaShift (scale : Int) (high : Bool) (ac : Int) : Int × Bool :=
  let t := if 0 ≤ scale then ac * 2 ^ scale.toNat else asr ac (-scale).toNat
  let lost := decide (scale < 0 ∧ t * 2 ^ (-scale).toNat ≠ ac)
  if high then (asr t 16, lost || decide (asr t 16 * 2 ^ 16 ≠ t)) else (t, lost)

/-- R164: the moved value saturated to the form's type, whether it saturated, and whether a shift lost a nonzero bit. -/
def mvaResult (f : MvaForm) (scale : Int) (ac : Int) : Int × Bool × Bool :=
  let (t, lost) := mvaShift scale (f == .h) ac
  let n := if f = .w then 31 else 15
  let r := clampInt (-(2 ^ n)) (2 ^ n - 1) t
  (r, r != t, lost)

/-- R158: one accumulator after an accumulate action, and whether it saturated. -/
def accStep (aop : Nat) (ac p : Int) : Int × Bool :=
  let v := if aop = 1 then ac + p else if aop = 2 then p else if aop = 3 then ac - p else ac
  let c := clampInt (-(2 ^ 39)) (2 ^ 39 - 1) v
  (c, c != v)

end Sys2Proof.Machine
end

