-- ==== Sys2Proof/Machine/Vector.lean ====
section
/-!
DEFINITION. The vector operations (R177 to R182). A vector is read as the list of its elements, lowest first.
-/
namespace Sys2Proof.Machine

/-- R177: the elements of `z` bytes of a vector register. -/
def velems (z : Nat) (v : BitVec 128) : List Nat := (List.range (16 / z)).map (fun e => v.toNat / 2 ^ (8 * z * e) % 2 ^ (8 * z))

/-- R177: the register with these elements of `z` bytes. -/
def ofElems (z : Nat) (l : List Nat) : BitVec 128 :=
  BitVec.ofNat 128 (l.foldr (fun x acc => x % 2 ^ (8 * z) + 2 ^ (8 * z) * acc) 0)

/-- A vector register. -/
def VppCtx.vreg (x : VppCtx) (n : Nat) : BitVec 128 := Cells.get (fun _ => 0) x.v (n % 32)
/-- The context with a vector register replaced. -/
def VppCtx.setV (x : VppCtx) (n : Nat) (v : BitVec 128) : VppCtx := { x with v := Cells.set (fun _ => 0) x.v (n % 32) v }
/-- A predicate register. -/
def VppCtx.mreg (x : VppCtx) (n : Nat) : Nat := Cells.get (fun _ => 0) x.m n
/-- The context with a predicate register replaced. -/
def VppCtx.setM (x : VppCtx) (n v : Nat) : VppCtx := { x with m := Cells.set (fun _ => 0) x.m n (v % 65536) }
/-- An accumulator. -/
def VppCtx.acc (x : VppCtx) (k : Nat) : Int := Cells.get (fun _ => 0) x.ac k
/-- The context with an accumulator replaced. -/
def VppCtx.setAcc (x : VppCtx) (k : Nat) (v : Int) : VppCtx := { x with ac := Cells.set (fun _ => 0) x.ac k v }
/-- A product. -/
def VppCtx.prod (x : VppCtx) (k : Nat) : Int := Cells.get (fun _ => 0) x.p k
/-- The context with a product replaced. -/
def VppCtx.setProd (x : VppCtx) (k : Nat) (v : Int) : VppCtx := { x with p := Cells.set (fun _ => 0) x.p k v }
/-- A G register. -/
def VppCtx.g (x : VppCtx) (n : Nat) : Nat := x.raw n

/-- R178: element `e` of size `z` is enabled. -/
def VppCtx.enabled (x : VppCtx) (p : Option Nat) (z e : Nat) : Bool :=
  match p with
  | none => true
  | some m => bitOf (x.mreg m) (z * e)

/-- R178: new elements where they are enabled, old ones elsewhere. -/
def mergeElems (en : Nat → Bool) (old new : List Nat) : List Nat :=
  (List.range new.length).map (fun e => if en e then new.getD e 0 else old.getD e 0)

/-- R178: a context with the elements of size `z` of a vector register written under a predicate of the context `x` at issue,
from element number `first` of the operation. -/
def VppCtx.writeElems (y x : VppCtx) (p : Option Nat) (z d first : Nat) (l : List Nat) : VppCtx :=
  y.setV d (ofElems z (mergeElems (fun e => x.enabled p z (first + e)) (velems z (y.vreg d)) l))

/-- The clamp of a signed or unsigned element type of `n` bits. -/
def clampTo (isSigned : Bool) (n : Nat) (i : Int) : Int :=
  if isSigned then clampInt (-(2 ^ (n - 1))) (2 ^ (n - 1) - 1) i else clampInt 0 (2 ^ n - 1) i

/-- An element as a number, signed or not. -/
def elemInt (isSigned : Bool) (n v : Nat) : Int := if isSigned then signed n v else v

/-- R180, R195: one element of an element-wise operation or of VMUL. -/
def vecElem (op fn z a b : Nat) : Nat :=
  let n := 8 * z
  let w (i : Int) : Nat := wrapTo n i
  let sum (i : Int → Int → Int) : Nat :=
    if fn = 0 then w (i a b) else w (clampTo (fn == 1) n (i (elemInt (fn == 1) n a) (elemInt (fn == 1) n b)))
  if op = 0x40 then sum (· + ·)
  else if op = 0x41 then sum (· - ·)
  else if op = 0x42 then a * b % 2 ^ n
  else if op = 0x45 then (if elemInt (fn == 0) n a < elemInt (fn == 0) n b then b else a)
  else if op = 0x46 then (if elemInt (fn == 0) n b < elemInt (fn == 0) n a then b else a)
  else if op = 0x47 then (if signed n a < 0 then w (-(signed n a)) else a)
  else if op = 0x48 then a &&& b
  else if op = 0x49 then a ||| b
  else if op = 0x4A then a ^^^ b
  else if op = 0x4B then a * 2 ^ b % 2 ^ n
  else if op = 0x4C then w (asr (signed n a) b)
  else if op = 0x4D then a / 2 ^ b
  else a

/-- R195: VCMP of two elements. -/
def vecCmp (fn z a b : Nat) : Bool :=
  let n := 8 * z
  if fn = 0 then a == b
  else if fn = 1 then decide (signed n a < signed n b)
  else if fn = 2 then decide (signed n a ≤ signed n b)
  else if fn = 3 then decide (a < b)
  else decide (a ≤ b)

/-- R181: a D lane of a register pair: its int48 value and its SAT flag. -/
def lane48 (v : Nat) : Int × Bool := (signed 48 v, bitOf v 48)

/-- R181: a D lane from its value and SAT flag. -/
def ofLane48 (x : Int × Bool) : Nat := wrapTo 48 x.1 + b2n x.2 * 2 ^ 48

/-- The four D lanes of a register pair. -/
def VppCtx.pair (x : VppCtx) (d : Nat) : List Nat := velems 8 (x.vreg d) ++ velems 8 (x.vreg (d + 1))

/-- R181: the four lanes of a register pair written, lane `k` under predicate bit 4k. -/
def VppCtx.writePair (y x : VppCtx) (p : Option Nat) (d : Nat) (l : List Nat) : VppCtx :=
  let m := mergeElems (fun k => x.enabled p 4 k) (y.pair d) l
  (y.setV d (ofElems 8 (m.take 2))).setV (d + 1) (ofElems 8 (m.drop 2))

/-- R75, R181: one lane through steps 2 to 4: the value, and what it adds to CLIP, ZERO and SAT. -/
def vrqLane (b : List Nat) (y : Int × Bool) : Int × OutStat :=
  let t := asr (y.1 * (b.getD 0 0 : Int)) (b.getD 1 0 % 64)
  let v := t + signed 16 (b.getD 2 0)
  let c := min (max v (signed 16 (b.getD 3 0))) (signed 16 (b.getD 4 0))
  (c, { clip := b2n (c != v), zero := b2n (t == 0 && y.1 != 0), sat := b2n y.2 })

/-- R180: VDOT4 of one 32-bit lane: the saturated sum, and whether it saturated. -/
def dotLane (fn : Nat) (old : Nat) (a b : List Nat) : Nat × Bool :=
  let s := (List.range 4).foldl (fun (t : Int) k => t + elemInt (fn % 2 == 0) 8 (a.getD k 0) * signed 8 (b.getD k 0))
    (if 2 ≤ fn then 0 else signed 32 old)
  let c := clampInt (-(2 ^ 31)) (2 ^ 31 - 1) s
  (wrapTo 32 c, c != s)

/-- The count that a shift uses: the low bits of the matching element, or the Vb field itself (R180, R195). -/
def shiftCount (fn z b e : Nat) (vb : BitVec 128) : Nat :=
  if fn = 1 then b else (velems z vb).getD e 0 % (8 * z)

/-- R178 to R182: the effect of a vector operation on the context `y`, its operands read from the context `x` at issue; 16-bit and
64-bit values from `free` stand where the spec states no result. -/
def vecExec (free : Nat → BitVec 64) (x y : VppCtx) (op d a b : Nat) (p : Option Nat) (z fn : Nat) : VppCtx :=
  let va := velems z (x.vreg a)
  let vb := velems z (x.vreg b)
  let n := 16 / z
  if op = 0x43 then
    let sa := fn != 2 && fn != 1
    let sb := fn != 2
    let l := (List.range n).map (fun e => wrapTo (16 * z) (elemInt sa (8 * z) (va.getD e 0) * elemInt sb (8 * z) (vb.getD e 0)))
    let w (y : VppCtx) (r first : Nat) (l : List Nat) : VppCtx :=
      y.setV r (ofElems (2 * z) (mergeElems (fun e => x.enabled p z (first + e)) (velems (2 * z) (y.vreg r)) l))
    w (w y d 0 (l.take (n / 2))) (d + 1) (n / 2) (l.drop (n / 2))
  else if op = 0x44 then
    let old := velems 4 (x.vreg d)
    let lanes := (List.range 4).map (fun i => dotLane fn (old.getD i 0) (va.drop (4 * i)) (vb.drop (4 * i)))
    let y1 := y.writeElems x p 4 d 0 (lanes.map (·.1))
    if (List.range 4).any (fun i => x.enabled p 4 i && (lanes.getD i (0, false)).2) then y1.setStat 8 true else y1
  else if op = 0x4E then
    let m := d % 8
    let bits := (List.range 16).map (fun (l : Nat) =>
      if x.enabled p z (l / z) then vecCmp fn z (va.getD (l / z) 0) (vb.getD (l / z) 0) else bitOf (x.mreg m) l)
    y.setM m (bits.foldr (fun t acc => b2n t + 2 * acc) 0)
  else if op = 0x4F then
    y.setV d (ofElems z ((List.range n).map (fun e => if x.enabled p z e then va.getD e 0 else vb.getD e 0)))
  else if op = 0x51 then y.writeElems x p z d 0 (List.replicate n (x.g (a % 16)))
  else if op = 0x52 then
    if b < n then y.setRaw (d % 16) (va.getD b 0) else y.setRaw (d % 16) (free 0).toNat
  else if op = 0x53 then
    if b < n then
      if x.enabled p z b then y.setV d (ofElems z ((velems z (x.vreg d)).set b (x.g (a % 16)))) else y
    else y.setV d (free 1 ++ free 0)
  else if op = 0x54 then
    let src := velems 1 (x.vreg a)
    y.writeElems x p 1 d 0 ((velems 1 (x.vreg b)).map (fun i => if bitOf i 7 then 0 else src.getD (i % 16) 0))
  else if op = 0x55 then
    let (sgIn, sgOut) := Config.packForm fn
    y.writeElems x p (z / 2) d 0 ((va ++ vb).map (fun v => wrapTo (4 * z) (clampTo sgOut (4 * z) (elemInt sgIn (8 * z) v))))
  else if op = 0x56 then
    let (sg, high) := Config.unpackForm fn
    let half := if high then va.drop (n / 2) else va.take (n / 2)
    y.writeElems x p (2 * z) d 0 (half.map (fun v => wrapTo (16 * z) (elemInt sg (8 * z) v)))
  else if op = 0x57 then
    let s := va.foldl (fun (t : Int) v => t + signed (8 * z) v) 0
    let v := if -(2 ^ 31) ≤ s ∧ s < 2 ^ 31 then wrapTo 32 s else (free 0).toNat
    y.writeElems x p 4 d 0 [v, 0, 0, 0]
  else if op = 0x58 then
    let g := velems 4 (x.vreg a)
    let h := x.g (b % 16 + 1) % 32
    y.writePair x p d ((x.pair d).mapIdx (fun k v =>
      let (o, f) := lane48 v
      let (r, t) := sat48 (o + asr (signed 24 (g.getD k 0) * (x.g (b % 16) : Int)) h)
      ofLane48 (r, f || t)))
  else if op = 0x59 then
    y.writePair x p d ((List.range 4).map (fun k =>
      let (u, f) := lane48 ((x.pair a).getD k 0)
      let (v, g) := lane48 ((x.pair b).getD k 0)
      let (r, t) := sat48 (u + v)
      ofLane48 (r, f || g || t)))
  else if op = 0x5A then
    let q := (x.pair a).map (fun v => (vrqLane (velems 2 (x.vreg b)) (lane48 v)).1)
    y.setV d (ofElems 2 (mergeElems (fun e => x.enabled p 4 e) ((velems 2 (y.vreg d)).take 4) (q.map (wrapTo 16)) ++ [0, 0, 0, 0]))
  else if op = 0x5B then y.setM (d % 8) (if b ≤ 16 then 2 ^ b - 1 else (free 0).toNat)
  else if op = 0x5C then y.setM (d % 8) (x.mreg (a % 8) &&& x.mreg (b % 8))
  else if op = 0x5D then y.setM (d % 8) (x.mreg (a % 8) ||| x.mreg (b % 8))
  else if op = 0x5E then y.setM (d % 8) (65535 - x.mreg (a % 8))
  else if 0x4B ≤ op ∧ op ≤ 0x4D then
    y.writeElems x p z d 0 (va.mapIdx (fun e v => vecElem op fn z v (shiftCount fn z b e (x.vreg b))))
  else y.writeElems x p z d 0 (va.mapIdx (fun e v => vecElem op fn z v (vb.getD e 0)))

/-- R181: VRQ with COUNT advances the counters of a frond statistics set by its enabled lanes. -/
def State.vrqCount (s : State) (c : Nat) (x : VppCtx) (a b : Nat) (p : Option Nat) : State :=
  let f := velems 2 (x.vreg b)
  let ctl := f.getD 5 0
  if !bitOf ctl 4 then s
  else
    let k := ctl % 16
    let l := ((List.range 4).filter (fun e => x.enabled p 4 e)).map (fun e => (vrqLane f (lane48 ((x.pair a).getD e 0))).2)
    let sum (g : OutStat → Nat) : Nat := l.foldl (fun t o => t + g o) 0
    (((s.countBy (rFROND_STAT_VALS c k) wholeReg l.length).countBy (rFROND_STAT_CLIP c k) wholeReg (sum (·.clip))).countBy
      (rFROND_STAT_ZERO c k) wholeReg (sum (·.zero))).countBy (rFROND_STAT_SAT c k) wholeReg (sum (·.sat))

end Sys2Proof.Machine
end

