-- ==== Sys2Proof/Machine/VppMem.lean ====
section
/-!
DEFINITION. Data accesses of a VPP bundle: address formation (R155, R156), where a core word leads (R21, R213, R214), what an
access waits for (R215, R221) or traps on (R157, R183, R187), and the accesses themselves.
-/
namespace Sys2Proof.Machine

/-- R21, R213: where a word of the core word space leads: one's own stores, a DPA through the remote window (and whether
through the cache), one's own registers, by their byte offset, or a bus error. -/
inductive Seat where
  | bad
  | loc (w : Nat)
  | far (dpa : Nat) (cached : Bool)
  | own (o : Nat)
  deriving DecidableEq, Repr

/-- R213, R214: a word of the remote window. -/
def State.pageSeat (s : State) (b p w : Nat) (wr : Bool) : Seat :=
  let r := s.reg (rCORE_RWIN p ((w - 0x400000) / 0x80000))
  let dpa := getF r fCORE_RWIN_BASE * 2 ^ 20 + 2 * (w % 0x80000)
  if getF r fCORE_RWIN_VALID = 0 ∨ (wr ∧ getF r fCORE_RWIN_WR = 0) ∨ 0x7F00000000 ≤ dpa then .bad
  else if dpa / 0x1000000 = 0x4000 + b then
    if dpa % 0x1000000 / 2 < 0x340000 then .loc (dpa % 0x1000000 / 2) else .bad
  else .far dpa (getF r fCORE_RWIN_CACHE == 1)

/-- R21: where a core word leads. -/
def State.seat (s : State) (b p w : Nat) (wr : Bool) : Seat :=
  if w < 0x340000 then .loc w
  else if 0x400000 ≤ w ∧ w < 0x800000 then s.pageSeat b p w wr
  else if 0xF00000 ≤ w ∧ w < 0xF08000 then .own (2 * (w - 0xF00000))
  else .bad

/-- One access of consecutive words that lead to one place: the address that a trap reports, where it leads, its words, whether
it reads and writes, and the element of a gather or scatter. -/
structure Hop where
  addr : Nat
  seat : Seat
  n : Nat
  rd : Bool
  wr : Bool
  lane : Option Nat := none
  deriving DecidableEq, Repr

/-! ### Addresses -/

/-- R155: the word address that a memory operand gives. -/
def VppCtx.ea (x : VppCtx) (m : MemRef) : Nat :=
  let i := x.raw (0x10 + m.i)
  x.raw (0x18 + m.i) * 65536 + (if m.am = 4 then (i + x.raw (0x20 + m.n)) % 65536 else i)

/-- R155: the step of a post-modify, for an access of `size` words. -/
def VppCtx.step (x : VppCtx) (m : MemRef) (size : Nat) : Int :=
  if m.am = 1 then size else if m.am = 2 then -(size : Int) else if m.am = 3 then signed 16 (x.raw (0x20 + m.n)) else m.imm

/-- R156: an index register and its bank after a post-modify, from their values at issue in `x`. -/
def VppCtx.postMod (y x : VppCtx) (m : MemRef) (size : Nat) : VppCtx :=
  if !m.posts then y
  else
    let i := x.raw (0x10 + m.i)
    let cb : Int := x.raw (0x28 + m.i)
    let cl := x.raw (0x2C + m.i)
    if m.i < 4 ∧ cl ≠ 0 then y.setRaw (0x10 + m.i) (wrapTo 16 (cb + ((i : Int) + x.step m size - cb) % (cl : Int)))
    else
      let v := wrapTo 24 ((x.raw (0x18 + m.i) * 65536 + i : Nat) + x.step m size)
      (y.setRaw (0x10 + m.i) (v % 65536)).setRaw (0x18 + m.i) (v / 65536)

/-- R156: circular addressing is on for an index register. -/
def VppCtx.circ (x : VppCtx) (i : Nat) : Bool := x.raw (0x2C + i) != 0

/-! ### The accesses of an operation -/

/-- Consecutive words as accesses, split where a bank, a page or the register space ends. -/
def State.split (s : State) (b p addr : Nat) (rd wr : Bool) : Nat → Nat → Nat → List Hop
  | 0, _, _ => []
  | k + 1, w, n =>
    let e := if w < 0x400000 then 0x40000 else if w < 0x800000 then 0x80000 else 0x8000
    let here := min n (e - w % e)
    if n = 0 then []
    else ⟨addr, s.seat b p w wr, here, rd, wr, none⟩ :: s.split b p addr rd wr k ((w + here) % 2 ^ 24) (n - here)

/-- The accesses of `n` words from an address. -/
def State.accsAt (s : State) (b p addr n : Nat) (rd wr : Bool) : List Hop := s.split b p addr rd wr 2 addr n

/-- R147: the words that PUSH and POP move. -/
def StackReg.words : StackReg → Nat
  | .num n => if regWide n then 2 else 1
  | .p _ => 2
  | .ac _ => 3

/-- R183: the address of an element, and the byte within its word. -/
def VppCtx.elemAddr (x : VppCtx) (vi i z e : Nat) : Nat × Nat :=
  let base := x.raw (0x18 + i) * 65536 + x.raw (0x10 + i)
  let idx := (velems 2 (x.vreg (vi + e / 8))).getD (e % 8) 0
  if z = 1 then ((base + idx / 2) % 2 ^ 24, idx % 2)
  else if z = 2 then ((base + idx) % 2 ^ 24, 0)
  else ((base + 2 * idx) % 2 ^ 24, 0)

/-- R183, R184: the enabled elements of a gather or scatter. -/
def VppCtx.elemsOn (x : VppCtx) (p : Option Nat) (z : Nat) : List Nat :=
  (List.range (16 / z)).filter (fun e => x.enabled p z e)

/-- R183, R184: the accesses of a gather or scatter: only the core's own stores will do. -/
def VppCtx.elemAccs (x : VppCtx) (vi i z : Nat) (p : Option Nat) (wr : Bool) : List Hop :=
  (x.elemsOn p z).map (fun e =>
    let w := (x.elemAddr vi i z e).1
    ⟨w, if w + (z + 1) / 2 ≤ 0x340000 then .loc w else .bad, (z + 1) / 2, !wr, wr, some e⟩)

/-- R187: whether an atomic may act where an access leads. -/
def Seat.atomic : Seat → Bool
  | .loc _ => true
  | .far d _ => decide (0x4000000000 ≤ d ∧ d < 0x4009000000) || decide (0x4800000000 ≤ d ∧ d < 0x4804000000)
  | _ => false

/-- R21, R160: the memory in which an access lies: local store, X, Y, or a page of the remote window. -/
def Hop.memory (a : Hop) : Nat :=
  match a.seat with
  | .loc w => if w < 0x300000 then 1 else if w < 0x320000 then 2 else 3
  | .far d _ => 16 + d / 2 ^ 20
  | _ => 0

/-- R158: an operand of the DSP datapath lies in a data memory. -/
def Hop.operand (a : Hop) : Hop :=
  match a.seat with
  | .own _ => { a with seat := .bad }
  | _ => a

/-- R160: FTAP's write, which must lie in the memory of the group it has read. -/
def State.delayAcc (s : State) (b p w : Nat) (x : Hop) : Hop :=
  let y := ((s.accsAt b p ((w + 4) % 2 ^ 24) 4 false true).map Hop.operand).headD ⟨w, .bad, 4, false, true, none⟩
  { y with
    addr := w
    seat := if y.memory = x.memory then y.seat else .bad }

/-- The accesses that an operation makes, in the order in which it uses them. -/
def State.accsOf (s : State) (b p : Nat) (x : VppCtx) (o : VppOp) : List Hop :=
  let sp := x.raw nSP
  match o with
  | .load w _ m => s.accsAt b p (x.ea m) (widthWords w) true false
  | .store w _ m => s.accsAt b p (x.ea m) (widthWords w) false true
  | .stm _ k m =>
    if (List.range 16).all (bitOf (x.mreg k)) then s.accsAt b p (x.ea m) 8 false true
    else ((List.range 8).filter (fun e => bitOf (x.mreg k) (2 * e) || bitOf (x.mreg k) (2 * e + 1))).map (fun e =>
      ⟨x.ea m, s.seat b p ((x.ea m + e) % 2 ^ 24) true, 1, false, true, none⟩)
  | .push r => s.accsAt b p (sp - r.words) r.words false true
  | .pop r => s.accsAt b p sp r.words true false
  | .call _ => s.accsAt b p (sp - 2) 2 false true
  | .ret => s.accsAt b p sp 2 true false
  | .reti => s.accsAt b p sp 4 true false
  | .dsp tap _ mx my =>
    let ax := (s.accsAt b p (x.ea mx) 4 true false).map Hop.operand
    let ay := (s.accsAt b p (x.ea my) 1 true false).map Hop.operand
    ax ++ ay ++ (if tap then [s.delayAcc b p (x.ea mx) (ax.headD ⟨0, .bad, 0, false, false, none⟩)] else [])
  | .gather _ vi i z k => x.elemAccs vi i z k false
  | .scatter _ vi i z k => x.elemAccs vi i z k true
  | .atomic f n _ m => (s.accsAt b p (x.ea m) n true (f != .ldrs)).map (fun a =>
      if a.seat.atomic then { a with wr := true } else { a with seat := .bad })
  | _ => []

/-- R157, R158, R183: an operation whose address is not aligned: the address, and the element. -/
def VppCtx.misaligned (x : VppCtx) (o : VppOp) : Option (Nat × Option Nat) :=
  let odd (m : MemRef) (n : Nat) : Option (Nat × Option Nat) := if x.ea m % n = 0 then none else some (x.ea m, none)
  match o with
  | .load w _ m | .store w _ m => if w = 3 then none else odd m (widthWords w)
  | .atomic _ n _ m => odd m n
  | .dsp _ _ mx _ => odd mx 4
  | _ => none

/-! ### What stands in the way of an access -/

/-- R14, R157: an access that ends in a bus error at once. -/
def State.accBad (s : State) (p : Nat) (a : Hop) : Bool :=
  match a.seat with
  | .bad => true
  | .loc w => s.coreWord p w == .bad
  | _ => false

/-- R230: an access that waits for a bank that powers up. -/
def State.accRising (s : State) (p : Nat) (a : Hop) : Bool :=
  match a.seat with
  | .loc w => s.coreWord p w == .wait
  | _ => false

/-- R183, R184: an element of a W gather or scatter at an odd word. -/
def Hop.oddElem (a : Hop) : Bool := a.lane.isSome && a.n == 2 && a.addr % 2 == 1

/-- R221: the word ranges of accesses to one's own stores, by a test of the access. -/
def ranges (f : Hop → Bool) : List Hop → List (Nat × Nat)
  | [] => []
  | a :: l =>
    match a.seat with
    | .loc w => if f a then (w, w + a.n) :: ranges f l else ranges f l
    | _ => ranges f l

/-- R215: an access that waits until the posted stores of its context are acknowledged. -/
def Hop.fenced (a : Hop) : Bool :=
  match a.seat with
  | .far _ _ => a.rd
  | .own _ => true
  | _ => false

/-- A far access that returns data, and a posted store. -/
def Hop.farRead (a : Hop) : Bool := match a.seat with | .far _ _ => a.rd | _ => false
/-- R215: a posted store. -/
def Hop.posted (a : Hop) : Bool := match a.seat with | .far _ _ => a.wr && !a.rd | _ => false

/-- R215: posted stores of a context that are not acknowledged. -/
def State.postedOf (s : State) (b c : Nat) : Bool := s.remotes.any (fun r => r.slot == b && r.ctx == c && r.op == .store)

/-- R232: a double-bit error stands in the way of an access to one's own stores. -/
def State.accEcc (s : State) (p : Nat) (a : Hop) : Bool :=
  match a.seat with
  | .loc w =>
    let k := corePlace p w
    (a.rd && s.eccDouble k (2 * a.n)) || (a.wr && (s.writeMem k (List.replicate (2 * a.n) 0)).isNone)
  | _ => false

/-! ### Reading and writing -/

/-- The agent that core program in a slot is: the rehearsal engine runs the spare slot. -/
def coreAgent (b c : Nat) : Agent := if h : b < 8 then .core ⟨b, h⟩ ⟨c % 4, by omega⟩ else .rehearsal

/-- The DPA of one's own register at a byte offset. -/
abbrev ownDpa (b o : Nat) : Nat := 0x7F00000000 + b * 0x100000 + o

/-- An answer that is not data. -/
def Answer.blocks : Answer → Bool
  | .ok _ => false
  | _ => true

/-- R21: the register accesses of `n` words from byte offset `o`: each register's offset, and whether its low and its high word are
accessed. An aligned pair is one access of a register. -/
def ownParts (o : Nat) : Nat → List (Nat × Bool × Bool)
  | 0 => []
  | 1 => [(o / 4 * 4, o % 4 == 0, o % 4 != 0)]
  | n + 2 => if o % 4 = 0 then (o, true, true) :: ownParts (o + 4) n else (o / 4 * 4, false, true) :: ownParts (o + 2) (n + 1)

/-- The bits of a register that hold its low and its high word. -/
def wordMask (lo hi : Bool) : Word := (if lo then 0xFFFF else 0) ||| (if hi then 0xFFFF0000 else 0)

/-- The words of a register's value that are asked for. -/
def halvesOf (w : Word) (lo hi : Bool) : List Nat :=
  (if lo then [w.toNat % 65536] else []) ++ (if hi then [w.toNat / 65536] else [])

/-- R21: `n` words of one's own registers from byte offset `o`, until an access that is not answered with data. -/
def State.ownRead (s : State) (b c o n : Nat) : Answer × List Nat × State :=
  (ownParts o n).foldl (fun (r : Answer × List Nat × State) x =>
    if r.1.blocks then r
    else match r.2.2.regRead (coreAgent b c) (ownDpa b x.1) (wordMask x.2.1 x.2.2) with
      | (.ok w, t) => (.ok 0, r.2.1 ++ halvesOf w x.2.1 x.2.2, t)
      | (y, t) => (y, r.2.1, t)) (.ok 0, [], s)

/-- A word of a register as a masked write of bytes: the bytes and which of them are written, from a byte offset. -/
def maskWord (m : List Bool) : Word := BitVec.ofNat 32 (ofLeBytes (m.map (fun t => if t then (0xFF : Byte) else 0)))

/-- R21: the register writes of bytes with a mask from byte offset `o`: each register's offset, mask and value. -/
def ownPieces (o : Nat) (d : List Byte) (m : List Bool) : Nat → List (Nat × Word × Word)
  | 0 => []
  | k + 1 =>
    if d.isEmpty then []
    else
      let lead := o % 4
      let n := min (4 - lead) d.length
      let mask := maskWord (List.replicate lead false ++ m.take n)
      let v := BitVec.ofNat 32 (ofLeBytes (List.replicate lead (0 : Byte) ++ d.take n))
      let rest := ownPieces (o + n) (d.drop n) (m.drop n) k
      if mask = 0 then rest else (o - lead, mask, v) :: rest

/-- R21: words, as bytes with a mask, written to one's own registers from byte offset `o`, until a write that is not done. -/
def State.ownWrite (s : State) (b c o : Nat) (d : List Byte) (m : List Bool) (fuel : Nat) : Answer × State :=
  (ownPieces o d m fuel).foldl (fun (r : Answer × State) x =>
    if r.1.blocks then r else r.2.regWrite (coreAgent b c) (ownDpa b x.1) x.2.1 x.2.2) (.ok 0, s)

/-- 16-bit words as bytes. -/
def wordBytes (l : List Nat) : List Byte := l.flatMap (leBytes 2)

/-- Bytes as 16-bit words. -/
def bytesWords : List Byte → List Nat
  | a :: b :: l => (a.toNat + 256 * b.toNat) :: bytesWords l
  | _ => []

/-- The words that read accesses give, in order. Answers of far accesses come from `far`, in order. -/
def State.readAccs (s : State) (b p c : Nat) (far : List (List Byte)) : List Hop → Answer × List Nat × State
  | [] => (.ok 0, [], s)
  | a :: l =>
    match a.seat with
    | .bad => (.error, [], s)
    | .loc w =>
      let (d, t) := s.readMem (corePlace p w) (2 * a.n)
      let (x, m, u) := t.readAccs b p c far l
      (x, bytesWords (d.getD []) ++ m, u)
    | .far _ _ =>
      let (x, m, u) := s.readAccs b p c (far.drop 1) l
      (x, bytesWords (far.headD []) ++ m, u)
    | .own o =>
      match s.ownRead b c o a.n with
      | (.ok _, v, t) =>
        let (x, m, u) := t.readAccs b p c far l
        (x, v ++ m, u)
      | (x, _, t) => (x, [], t)

/-- Bytes written through write accesses, in order, under a mask. -/
def State.writeAccs (s : State) (b p c : Nat) (d : List Byte) (m : List Bool) : List Hop → Answer × State
  | [] => (.ok 0, s)
  | a :: l =>
    let n := 2 * a.n
    let step (t : State) : Answer × State := t.writeAccs b p c (d.drop n) (m.drop n) l
    if !(m.take n).any id then step s
    else match a.seat with
    | .bad => (.error, s)
    | .loc w =>
      let k := corePlace p w
      let t := if (m.take n).all id then s.writeMemOwn (4 * p + c) k (d.take n)
        else s.writeMasked (4 * p + c) k (d.take n) (m.take n)
      step (t.getD s)
    | .far dpa cached => step (s.issueRemote b c .store dpa n (d.take n) (m.take n) cached)
    | .own o =>
      match s.ownWrite b c o (d.take n) (m.take n) 16 with
      | (.ok _, t) => step t
      | x => x

end Sys2Proof.Machine
end

