-- ==== Sys2Proof/Machine/Vpp.lean ====
section
/-!
DEFINITION. Running a VPP: traps and interrupts (R170 to R174), the bundle (R150 to R169), task contexts (R189, R190), and the
commands of the core family.
-/
namespace Sys2Proof.Machine

/-! ### Products, interrupts and traps -/

/-- R161: products written to P0 to P3. -/
def VppCtx.land (x : VppCtx) (l : List Int) : VppCtx :=
  (List.range 4).foldl (fun (y : VppCtx) k => y.setProd k (l.getD k 0)) x

/-- R162: every product in flight is written, oldest first. -/
def VppCtx.landAll (x : VppCtx) : VppCtx :=
  { x.flight.foldl (fun (y : VppCtx) f => y.land f.2) x with flight := [] }

/-- R161: one issue cycle of the core: the products whose second issue cycle this is are written. -/
def VppCtx.ageFlight (x : VppCtx) : VppCtx :=
  let l := x.flight.map (fun (f : Nat × List Int) => (f.1 - 1, f.2))
  { (l.filter (fun f => f.1 == 0)).foldl (fun (y : VppCtx) f => y.land f.2) x with flight := l.filter (fun f => f.1 != 0) }

/-- R170, R172: the lowest-numbered cause that is pending and enabled on a core. -/
def State.wantedCause (s : State) (p : Nat) : Option Nat :=
  let w := (s.reg (rVPP_INT_PEND p) &&& s.reg (rVPP_INT_EN p)).toNat
  (List.range 32).find? (fun i => bitOf w i)

/-- R172, R191: a context takes interrupts, and one is wanted. -/
def State.intWanted (s : State) (p c : Nat) : Bool :=
  s.fld (rVPP_CTX_CTL p) fVPP_CTX_CTL_INTCTX == c && (s.ctx p c).stat 18 && (s.wantedCause p).isSome

/-- R226: a context's bundle waits on the scoreboard. -/
def State.sbWaits (s : State) (p c : Nat) : Bool := (s.sboard p).waits.any (fun w => w.who == .vpp c)

/-- The context's wait on the scoreboard is given up. -/
def State.dropWait (s : State) (p c : Nat) : State :=
  let b := s.sboard p
  s.setSboard p { b with waits := b.waits.filter (fun w => w.who != .vpp c) }

/-- R169: the stack may go down to here. -/
def VppCtx.stackFloor (x : VppCtx) : Nat := max (x.raw nSPLIM) 0x300000

/-- R174: the VPP halts on a trap in context `c`; CAUSE names it. -/
def State.trapHalt (s : State) (p c cause : Nat) : State :=
  let x := s.ctx p c
  let s1 := s.setCtx p c (x.setRaw nSTATUS (x.raw nSTATUS % 2 ^ 24 + cause * 2 ^ 24))
  (s1.setCore p { s1.core p with trapHalt := true }).setFld (rVPP_CTL p) fVPP_CTL_HALTED 1

/-- R172: entry of an interrupt or trap in context `c`: PC and STATUS are pushed, CAUSE is set, IE, LP0 and LP1 are cleared, and
the bundle at VEC_BASE + 32 × cause is next. A trap in a trap handler, or an entry that cannot push, halts the VPP (R174). The
reservation is dropped (R188). -/
def State.enter (s : State) (p c cause resume : Nat) (trap : Bool) : State :=
  let x := s.ctx p c
  let sp := x.raw nSP
  let s0 := (s.dropResv (4 * p + c)).dropWait p c
  let x1 := { x.landAll with
    stall := []
    timedOut := none
    regWait := none
    regReported := false }
  let s1 := s0.setCtx p c x1
  if trap ∧ x.stat 19 then s1.trapHalt p c cause
  else if sp < x.stackFloor + 4 then s1.trapHalt p c 0x24
  else
    let b := leBytes 4 (resume % 2 ^ 24) ++ leBytes 4 (s.statusWord p c)
    let k := s1.coreWord p (sp - 4)
    match k with
    | .mem k =>
      match (if sp ≤ 0x340000 then s1.writeMem k b else none) with
      | none => s1.trapHalt p c 0x23
      | some s2 =>
        let st := x1.raw nSTATUS % 2 ^ 24
        let x2 := x1.setRaw nSTATUS (st + cause * 2 ^ 24)
        let x3 := ((x2.setStat 18 false).setStat 16 false).setStat 17 false
        let x4 := if trap then (x3.setStat 19 true).setStat 20 (!x.flight.isEmpty) else x3
        s2.setCtx p c { x4.setRaw nSP (sp - 4) with pc := s.fld (rVPP_VEC_BASE p) fVPP_VEC_BASE_BASE * 2048 + 32 * cause }
    | _ => s1.trapHalt p c 0x23

/-- R171, R184: a trap of the bundle at the context's PC, with the address and element it reports. -/
def State.trap (s : State) (p c cause : Nat) (addr : Option Nat) (lane : Option Nat) : State :=
  let x := s.ctx p c
  let x1 := match addr with
    | some a => x.setRaw nFADDR a
    | none => x
  let x2 := match lane with
    | some l => x1.setRaw nFLANE (2 ^ 31 + l)
    | none => x1.setRaw nFLANE (x1.raw nFLANE % 2 ^ 31)
  (s.setCtx p c x2).enter p c cause x.pc true

/-! ### What a bundle traps on -/

/-- R166: a loop level is active. -/
def VppCtx.looping (x : VppCtx) (l : Nat) : Bool := x.stat (16 + l)

/-- R169: a stack operation of `n` words is outside the stack's limits. -/
def VppCtx.pushOut (x : VppCtx) (n : Nat) : Bool := decide (x.raw nSP < x.stackFloor + n)
/-- R169: a pop of `n` words goes above the stack. -/
def VppCtx.popOut (x : VppCtx) (n : Nat) : Bool := decide (0x320000 < x.raw nSP + n)

/-- R169: the address that RET and RETI find on the stack. -/
def State.stackPc (s : State) (p : Nat) (x : VppCtx) : Nat := s.num (corePlace p (x.raw nSP)) 4 % 2 ^ 24

/-- R169: an operation would take SP beyond the stack's limits. -/
def VppCtx.stackOut (x : VppCtx) : VppOp → Bool
  | .call _ => x.pushOut 2
  | .push r => x.pushOut r.words
  | .ret => x.popOut 2
  | .reti => x.popOut 4
  | .pop r => x.popOut r.words
  | _ => false

/-- R158 to R184: an operation that is illegal as the context stands. -/
def State.opIllegal (s : State) (p : Nat) (x : VppCtx) : VppOp → Bool
  | .loop l _ _ => x.looping l
  | .ret => decide (0x40000 ≤ s.stackPc p x)
  | .pop (.p _) => !x.flight.isEmpty
  | _ => false

/-- R158 to R184: the trap that an operation raises, with the address and element it reports. -/
def State.opTrap (s : State) (b p : Nat) (x : VppCtx) (o : VppOp) : Option (Nat × Option Nat × Option Nat) :=
  if x.stackOut o then some (0x24, none, none)
  else if s.opIllegal p x o then some (0x21, none, none)
  else match x.misaligned o with
    | some (a, l) => some (0x26, some a, l)
    | none =>
      match (s.accsOf b p x o).find? (fun a => a.oddElem || s.accBad p a) with
      | some a => some (if s.accBad p a then 0x23 else 0x26, some a.addr, a.lane)
      | none => none

/-- R171: the trap of a bundle's operations: the lowest slot's first (log entry 42). -/
def State.bundleTrap (s : State) (b p : Nat) (x : VppCtx) (ops : List VppOp) : Option (Nat × Option Nat × Option Nat) :=
  ops.findSome? (s.opTrap b p x)

/-! ### The effects of operations -/

/-- R147: what MV and MV.H move from register `a`, and the bits of register `d` that they write. -/
def mvBits (high : Bool) (v d a : Nat) (free : Nat) : Nat × Nat :=
  if !high then (v % 65536, 0xFFFF)
  else if regWide a then (if regWide d then (v / 65536 * 65536, 0xFFFF0000) else (v / 65536 % 65536, 0xFFFF))
  else if regWide d then (v % 65536 * 65536, 0xFFFF0000) else (free % 65536, 0xFFFF)

/-- R146, R147: the words that PUSH stores. -/
def State.pushWords (s : State) (p c : Nat) (x : VppCtx) : StackReg → List Nat
  | .num n =>
    let v := if n = nMODE ∨ n = nSTATUS ∨ 0x3C ≤ n then s.getR p c n else x.raw n
    if regWide n then [v % 65536, v / 65536 % 65536] else [v % 65536]
  | .p k => let v := wrapTo 32 (x.prod k); [v % 65536, v / 65536]
  | .ac k => let v := wrapTo 48 (x.acc k); [v % 65536, v / 65536 % 65536, v / 2 ^ 32]

/-- R147: what POP leaves in the register it names. -/
def VppCtx.popInto (y : VppCtx) (r : StackReg) (l : List Nat) : VppCtx :=
  let v := l.getD 0 0 + 65536 * l.getD 1 0
  match r with
  | .num n => if regWide n then y.writeR n 0xFFFFFFFF v else y.writeR n 0xFFFF (l.getD 0 0)
  | .p k => y.setProd k (signed 32 v)
  | .ac k => y.setAcc k (signed 40 (v + 2 ^ 32 * (l.getD 2 0 % 256)))

/-- R173: STATUS as RETI restores it: every field but CAUSE. -/
def VppCtx.restoreStatus (y : VppCtx) (v : Nat) : VppCtx :=
  y.setRaw nSTATUS (bitsOf (y.raw nSTATUS) 31 24 * 2 ^ 24 + (v &&& 0x1F030F))

/-- R158: the accumulators after an accumulate action with the products read at issue. -/
def VppCtx.accumulate (y x : VppCtx) (aop : Nat) : VppCtx :=
  if aop = 0 then y
  else (List.range 4).foldl (fun (y : VppCtx) k =>
    let (v, sat) := accStep aop (x.acc k) (x.prod k)
    let y1 := y.setAcc k v
    if sat then y1.setStat 8 true else y1) y

/-- R165: the value of a scalar source. -/
def VppCtx.src (x : VppCtx) : AluSrc → Nat
  | .g n => x.g n
  | .imm v => v

/-- The effect of an operation that accesses no memory on the context `y`; `x` is the context at issue. -/
def State.regOp (s : State) (p c : Nat) (x y : VppCtx) (o : VppOp) : VppCtx :=
  match o with
  | .alu f d a v flags =>
    let (r, cy, ov) := aluResult (Config.openFlag s.freeTick) f (x.g a) (x.src v)
    let y1 := y.setRaw d r
    if flags then y1.withFlags r cy ov else y1
  | .cmp a v =>
    let (r, cy, ov) := aluResult false .sub (x.g a) (x.g v)
    y.withFlags r cy ov
  | .mv high d a =>
    let v := if a = nMODE ∨ a = nSTATUS ∨ 0x3C ≤ a then s.getR p c a else x.raw a
    let (w, m) := mvBits high v d a (Config.openHalf s.freeTick)
    y.writeR d m w
  | .mvi d v => y.writeR d 0xFFFF v
  | .loop l n len =>
    let y1 := ((y.setRaw (0x30 + l) (x.src n)).setRaw (0x32 + l) (x.pc + 16)).setRaw (0x34 + l) (x.pc + 16 * len)
    y1.setStat (16 + l) (x.src n != 0)
  | .lexit l => y.setStat (16 + l) false
  | .irq on => y.setStat 18 on
  | .mva f d a =>
    let (v, sat, lost) := mvaResult f (signed 4 (x.raw nMODE)) (x.acc a)
    let y1 := if sat then y.setStat 8 true else y
    let y2 := if lost then y1.setStat 9 true else y1
    if f = .w then (y2.setRaw d (wrapTo 32 v % 65536)).setRaw (d + 1) (wrapTo 32 v / 65536) else y2.setRaw d (wrapTo 16 v)
  | .accp aop => y.accumulate x aop
  | .clra => (List.range 4).foldl (fun (y : VppCtx) k => y.setAcc k 0) y
  | .modi w m => y.postMod x m (widthWords w)
  | .vec op d a v p1 z fn => vecExec (fun k => Config.openVector (2 * s.freeTick + k)) x y op d a v p1 z fn
  | _ => y

/-- R187: an atomic at a place of one's own stores: the words it loads, whether it stored, and the state after it. -/
def State.atomicLocal (s : State) (who : Nat) (f : AtomicOp) (k : Nat) (n : Nat) (d : List Byte) : List Nat × Bool × State :=
  let old := bytesWords (s.bytes k (2 * n))
  match f with
  | .tas => (old, true, (s.writeMem k [1, 0]).getD s)
  | .ldrs => (old, true, s.reserve who k)
  | .stcd =>
    if (k / 64 * 64, who) ∈ s.resv then (old, true, ((s.writeMem k d).getD s).dropResv who)
    else (old, false, s.dropResv who)

/-- G registers from `g` up with these values. -/
def VppCtx.setGs (y : VppCtx) (g : Nat) : List Nat → VppCtx
  | [] => y
  | v :: l => (y.setRaw g v).setGs (g + 1) l

/-- G registers from `g` up. -/
def VppCtx.gs (x : VppCtx) (g n : Nat) : List Nat := (List.range n).map (fun k => x.g (g + k))

/-- The 128-bit value of eight words. -/
def ofWords (l : List Nat) : BitVec 128 := ofElems 2 l

/-- The bytes of a vector register. -/
def vBytes (v : BitVec 128) : List Byte := leBytes 16 v.toNat

/-- R155, R156: the size that a post-modify steps by. -/
def VppOp.size : VppOp → Nat
  | .load w _ _ | .store w _ _ | .modi w _ => widthWords w
  | .stm _ _ _ => 8
  | .atomic _ n _ _ => n
  | _ => 1

/-- R158: the index registers after a DSP operation. One register that both operands post-modify is left open. -/
def VppCtx.dspPost (y x : VppCtx) (mx my : MemRef) (free : Nat) : VppCtx :=
  let z := (y.postMod x mx 4).postMod x my 1
  if mx.posts ∧ my.posts ∧ mx.i = my.i then (z.setRaw (0x10 + mx.i) free).setRaw (0x18 + mx.i) (free / 65536) else z

/-- R183, R185: a scatter's elements are written, lowest first. -/
def State.scatterAll (s : State) (p c : Nat) (x : VppCtx) (d vi i z : Nat) : List Nat → State
  | [] => s
  | e :: l =>
    let (w, h) := x.elemAddr vi i z e
    let v := (velems z (x.vreg d)).getD e 0
    ((s.writeMemOwn (4 * p + c) (corePlace p w + h) (leBytes z v)).getD s).scatterAll p c x d vi i z l

/-- R183: the elements that a gather reads. -/
def State.gatherAll (s : State) (p : Nat) (x : VppCtx) (d vi i z : Nat) (k : Option Nat) : BitVec 128 × State :=
  let on := x.elemsOn k z
  let s1 := on.foldl (fun (t : State) e => (t.readMem (corePlace p (x.elemAddr vi i z e).1) (2 * ((z + 1) / 2))).2) s
  (ofElems z ((velems z (x.vreg d)).mapIdx (fun e v =>
    if on.contains e then s.num (corePlace p (x.elemAddr vi i z e).1 + (x.elemAddr vi i z e).2) z else v)), s1)

/-- The effect of an operation that accesses memory: `.ok` with the state and the context after it. `far` are the answers of
its remote accesses. -/
def State.memOp (s : State) (b p c : Nat) (x y : VppCtx) (far : List (List Byte)) (o : VppOp) : Answer × State × VppCtx :=
  let accs := s.accsOf b p x o
  let sp := x.raw nSP
  let put (d : List Byte) (m : List Bool) (l : List Hop) (y : VppCtx) : Answer × State × VppCtx :=
    let (a, t) := (s.setCtx p c y).writeAccs b p c d m l
    (a, t, t.ctx p c)
  match o with
  | .load w r m =>
    let (a, l, t) := s.readAccs b p c far accs
    let y1 := if w = 3 then y.setV r (ofWords l) else y.setGs r l
    (a, t, y1.postMod x m (widthWords w))
  | .store w r m =>
    let d := if w = 3 then vBytes (x.vreg r) else wordBytes (x.gs r (widthWords w))
    put d (List.replicate (2 * widthWords w) true) accs (y.postMod x m (widthWords w))
  | .stm r k m =>
    put (vBytes (x.vreg r)) ((List.range 16).map (bitOf (x.mreg k))) (s.accsAt b p (x.ea m) 8 false true) (y.postMod x m 8)
  | .push r =>
    put (wordBytes (s.pushWords p c x r)) (List.replicate (2 * r.words) true) accs (y.setRaw nSP (sp - r.words))
  | .pop r =>
    let (a, l, t) := s.readAccs b p c far accs
    (a, t, (y.setRaw nSP (sp + r.words)).popInto r l)
  | .call target =>
    let back := (x.pc + 16) % 2 ^ 24
    put (leBytes 4 back) (List.replicate 4 true) accs { y.setRaw nSP (sp - 2) with pc := target }
  | .ret =>
    let (a, l, t) := s.readAccs b p c far accs
    (a, t, { y.setRaw nSP (sp + 2) with pc := (l.getD 0 0 + 65536 * (l.getD 1 0 % 256)) / 16 * 16 })
  | .reti =>
    let (a, l, t) := s.readAccs b p c far accs
    let y1 := (y.setRaw nSP (sp + 4)).restoreStatus (l.getD 2 0 + 65536 * l.getD 3 0)
    (a, t.dropResv (4 * p + c), { y1 with pc := (l.getD 0 0 + 65536 * (l.getD 1 0 % 256)) / 16 * 16 })
  | .dsp tap aop mx my =>
    let (a, l, t) := s.readAccs b p c far (accs.take 2)
    let cf := signed 16 (l.getD 4 0)
    let y1 := (y.accumulate x aop).dspPost x mx my (Config.openHalf s.freeTick)
    let y2 := { y1 with flight := y1.flight ++ [(2, (l.take 4).map (fun v => signed 16 v * cf))] }
    if a.blocks ∨ !tap then (a, t, y2)
    else
      let (e, u) := t.writeAccs b p c (wordBytes (l.take 4)) (List.replicate 8 true) (accs.drop 2)
      (e, u, y2)
  | .gather d vi i z k =>
    let (v, t) := s.gatherAll p x d vi i z k
    (.ok 0, t, y.setV d v)
  | .scatter d vi i z k => (.ok 0, s.scatterAll p c x d vi i z (x.elemsOn k z), y)
  | .atomic f n g m =>
    let y0 := y.postMod x m n
    let (l, okay, t) := match (accs.headD ⟨0, .bad, 0, false, false, none⟩).seat with
      | .loc w => s.atomicLocal (4 * p + c) f (corePlace p w) n (wordBytes (x.gs g n))
      | _ => (bytesWords (far.headD []), far.headD [] == [1], s)
    match f with
    | .tas => (.ok 0, t, (y0.setRaw g (l.getD 0 0)).setStat 0 (l.getD 0 0 == 0))
    | .ldrs => (.ok 0, t, y0.setGs g l)
    | .stcd => (.ok 0, t, y0.setStat 0 okay)
  | _ => (.ok 0, s, y)

/-- An operation accesses memory. -/
def VppOp.inMemory : VppOp → Bool
  | .load _ _ _ | .store _ _ _ | .stm _ _ _ | .push _ | .pop _ | .call _ | .ret | .reti | .dsp _ _ _ _ | .gather _ _ _ _ _
  | .scatter _ _ _ _ _ | .atomic _ _ _ _ => true
  | _ => false

/-- The operation takes a free value. -/
def VppOp.takesFree : VppOp → Bool
  | .alu f _ _ _ _ => f == .shl || f == .shr || f == .shrl
  | .mv h _ _ => h
  | .dsp _ _ _ _ => true
  | .vec op _ _ _ _ _ _ => op == 0x52 || op == 0x53 || op == 0x57 || op == 0x5B
  | _ => false

/-- The effects of a bundle's operations, in slot order: every operand is read from the context `x` at issue (R153). -/
def State.runOps (s : State) (b p c : Nat) (x : VppCtx) (far : List (List Byte)) (y : VppCtx) :
    List VppOp → Answer × State × VppCtx
  | [] => (.ok 0, s, y)
  | o :: l =>
    if o.inMemory then
      let (a, t, z) := s.memOp b p c x y far o
      if a.blocks then (a, t, z)
      else
        let t1 := if o.takesFree then { t with freeTick := t.freeTick + 1 } else t
        t1.runOps b p c x far z l
    else
      let z := s.regOp p c x y o
      let t := match o with
        | .vec 0x5A _ a v k _ _ => s.vrqCount p x a v k
        | _ => s
      let t1 := if o.takesFree then { t with freeTick := t.freeTick + 1 } else t
      t1.runOps b p c x far z l

/-! ### Loops and the next bundle -/

/-- R166, R167: the loop ends at the bundle at the context's PC: the counters and flags after it, and where it loops back to. -/
def VppCtx.loopEnd (x : VppCtx) : VppCtx × Option Nat :=
  let level (y : VppCtx) (l : Nat) : VppCtx × Option Nat :=
    if x.looping l ∧ x.raw (0x34 + l) = x.pc then
      let n := (x.raw (0x30 + l) + 65535) % 65536
      let y1 := y.setRaw (0x30 + l) n
      if n ≠ 0 then (y1, some (x.raw (0x32 + l))) else (y1.setStat (16 + l) false, none)
    else (y, none)
  match level x 0 with
  | (y, some t) => (y, some t)
  | (y, none) => level y 1

/-- R165, R166, R169: where an operation of slot 0 sends the PC, other than by the stack. -/
def VppOp.target (x : VppCtx) : VppOp → Option Nat
  | .branch cond t => if condHolds x cond then some t else none
  | .loop _ n len => if x.src n = 0 then some (x.pc + 16 * len + 16) else none
  | _ => none

/-- A bundle sends the PC itself by the stack. -/
def VppOp.setsPc : VppOp → Bool
  | .call _ | .ret | .reti => true
  | _ => false

/-! ### Issue -/

/-- R161: every context of the core ages its products by one issue cycle. -/
def State.ageCore (s : State) (p : Nat) : State :=
  (List.range 4).foldl (fun (t : State) c => t.setCtx p c (t.ctx p c).ageFlight) s

/-- R162: an interrupt that waits for products in flight is deferred by one more issue cycle. -/
def State.noteDeferral (s : State) (p c : Nat) : State :=
  if s.intWanted p c ∧ !(s.ctx p c).flight.isEmpty then
    let n := (s.core p).deferred + 1
    let s1 := s.setCore p { s.core p with deferred := n }
    s1.setFld (rVPP_DEFER_MAX p) fVPP_DEFER_MAX_ISSUES (max (s1.fld (rVPP_DEFER_MAX p) fVPP_DEFER_MAX_ISSUES) (min n 65535))
  else s

/-- What the operations of a bundle end in: it has issued, it waits, or it traps. -/
def State.finish (s : State) (b p c : Nat) (x : VppCtx) (far : List (List Byte)) (ops : List VppOp) : State :=
  let s0 := s.ageCore p
  let (y, back) := { (s0.ctx p c) with pc := x.pc }.loopEnd
  let y0 := { y with
    stall := []
    regWait := none
    regReported := false }
  match s0.runOps b p c x far y0 ops with
  | (.waits, _, _) =>
    if x.regWait.isSome then s
    else s.setCtx p c { x with
      regWait := some s.time.ns
      regReported := false }
  | (.error, _, _) => s.trap p c 0x23 ((ops.flatMap (s.accsOf b p x)).head?.map (·.addr)) none
  | (.ok _, t, z) =>
    let next := match ops.findSome? (VppOp.target x) with
      | some n => n
      | none => if ops.any VppOp.setsPc then z.pc else back.getD (x.pc + 16)
    let t1 := (t.setCtx p c { z with pc := next % 2 ^ 24 }).noteDeferral p c
    match ops.findSome? (fun o => match o with | .trap k => some k | _ => none) with
    | some k =>
      let w := t1.ctx p c
      (t1.setCtx p c ((w.setRaw nFADDR k).setRaw nFLANE (w.raw nFLANE % 2 ^ 31))).enter p c 0x27 w.pc true
    | none =>
      if ops.contains .tend then
        (t1.ctxStop p c).dropResv (4 * p + c)
      else t1

/-- R215: remote accesses that return data are issued, and the bundle stalls on them. -/
def State.issueFar (s : State) (b p c : Nat) (x : VppCtx) (ops : List VppOp) (l : List Hop) : State :=
  let stcd : Option (AtomicOp × Nat × Nat) := ops.findSome? (fun o => match o with | .atomic f n g _ => some (f, n, g) | _ => none)
  let (s1, ids) := l.foldl (fun (r : State × List Nat) a =>
    match a.seat with
    | .far dpa cached =>
      let (op, d) : RemoteOp × List Byte := match stcd with
        | some (.tas, _, _) => (.tas, [])
        | some (.ldrs, _, _) => (.ldrs, [])
        | some (.stcd, n, g) => (.stcd, wordBytes (x.gs g n))
        | none => (.load, [])
      (r.1.issueRemote b c op dpa (2 * a.n) d [] cached, r.2 ++ [r.1.remoteCount])
    | _ => r) (s, [])
  s1.setCtx p c { s1.ctx p c with stall := ids }

/-- R221, R226: the bundle waits on the scoreboard. -/
def State.startWait (s : State) (p c : Nat) (ws rs : List (Nat × Nat)) : State :=
  let b := s.sboard p
  s.setSboard p { b with waits := b.waits ++ [⟨.vpp c, ws, rs, s.time.ns, (s.reg (rSB_CFG p)).toNat, false, false⟩] }

/-- R215, R216, R221: a bundle whose operations raise no trap themselves: it waits, traps on an earlier posted store or an ECC
error, issues its remote accesses, or takes effect. -/
def State.access (s : State) (b p c : Nat) (x : VppCtx) (ops : List VppOp) : State :=
  let accs := ops.flatMap (s.accsOf b p x)
  let ws := ranges (·.wr) accs
  let rs := ranges (·.rd) accs
  let posts := (accs.filter Hop.posted).length
  if accs.any (s.accRising p) then s
  else if s.sbWaits p c then s
  else if !(s.sboard p).clear ws rs then s.startWait p c ws rs
  else if 32 < s.fld (rCORE_RWIN_STAT p) fCORE_RWIN_STAT_POSTED + posts then s
  else match accs.find? Hop.fenced with
    | some a =>
      if s.postedOf b c then s
      else if x.perr then
        let s1 := s.setCtx p c { x with perr := false }
        s1.trap p c 0x23 (some a.addr) a.lane
      else match accs.find? (s.accEcc p) with
        | some e => (s.noteEcc (match e.seat with | .loc w => corePlace p w | _ => 0) true).trap p c 0x23 (some e.addr) e.lane
        | none =>
          if (accs.any Hop.farRead) then s.issueFar b p c x ops (accs.filter Hop.farRead) else s.finish b p c x [] ops
    | none =>
      match accs.find? (s.accEcc p) with
      | some e => (s.noteEcc (match e.seat with | .loc w => corePlace p w | _ => 0) true).trap p c 0x23 (some e.addr) e.lane
      | none => s.finish b p c x [] ops

/-- R204, R232: a fetch from instruction memory: the four slot words, or the cause of the trap it raises. -/
def State.fetchBundle (s : State) (p pc : Nat) : Except Nat (List Nat) :=
  if 0x40000 ≤ pc ∨ !bitOf (s.fld (rCORE_IMEM_LOCK p) fCORE_IMEM_LOCK_LOCK) (pc / 0x4000) then .error 0x21
  else if s.eccDouble (imemPlace p pc) 16 then .error 0x23
  else .ok ((List.range 4).map (fun k => s.num (imemPlace p pc + 4 * k) 4))

/-- R193: the registers that name the bundle that raised EMULATE. -/
def State.latchEmu (s : State) (p slot half : Nat) (ws : List Nat) : State :=
  let s1 := (List.range 4).foldl (fun (t : State) k => t.setReg (rVPP_EMU_WORD p k) (BitVec.ofNat 32 (ws.getD k 0))) s
  (s1.setFld (rVPP_EMU_SLOT p) fVPP_EMU_SLOT_SLOT slot).setFld (rVPP_EMU_SLOT p) fVPP_EMU_SLOT_HALF half

/-- R150 to R193: the bundle at the PC of context `c` is fetched, checked and decoded; with `go` it goes on. -/
def State.decodeAt (s : State) (b p c : Nat) (go : State → VppCtx → List VppOp → State) : State :=
  let x := s.ctx p c
  match s.fetchBundle p x.pc with
  | .error cause => (if cause = 0x23 then s.noteEcc (imemPlace p x.pc) true else s).trap p c cause none none
  | .ok ws =>
    let s1 := (s.readMem (imemPlace p x.pc) 16).2
    match decodeBundle (s.core p).emu x.circ ws with
    | .emulate slot half => (s1.latchEmu p slot half ws).trap p c 0x22 none none
    | .illegal => s1.trap p c 0x21 none none
    | .pair => s1.trap p c 0x20 none none
    | .ok ops =>
      match s.bundleTrap b p x ops.flatten with
      | some (cause, a, l) => s1.trap p c cause a l
      | none => go s1 x ops.flatten

/-- The bundle of the running context issues, waits or traps. -/
def State.issueBundle (s : State) (b p c : Nat) : State :=
  match (s.ctx p c).timedOut with
  | some w => s.trap p c 0x25 (some w) none
  | none => s.decodeAt b p c (fun t x ops => t.access b p c x ops)

/-! ### Contexts -/

/-- R189: the context of a core that is RUNNING. -/
def State.running (s : State) (p : Nat) : Option Nat := (List.range 4).find? (fun c => s.ctxSt p c == 2)

/-- R190: the READY context that the scheduler picks. -/
def State.pickCtx (s : State) (p : Nat) : Option Nat :=
  let ready := (List.range 4).filter (fun c => s.ctxSt p c == 1)
  match ready.find? (fun c => s.intWanted p c) with
  | some c => some c
  | none =>
    match ready.find? (fun c => s.rtCtx p c) with
    | some c => some c
    | none => ((List.range 4).map (fun k => ((s.core p).lastBatch + 1 + k) % 4)).find? (fun c => ready.contains c)

/-- R189, R190: with no context RUNNING, the one that the scheduler picks runs. A switch from another context is counted, and ends
that context's reservation (R188). -/
def State.schedule (s : State) (p : Nat) : State :=
  if (s.running p).isSome then s
  else match s.pickCtx p with
    | none => s
    | some c =>
      let k := s.core p
      let s1 := if k.cur = c then s else (s.count (rVPP_CTX_SWCNT p)).dropResv (4 * p + k.cur)
      let s2 := s1.setCore p { s1.core p with
        cur := c
        lastBatch := if s1.rtCtx p c then (s1.core p).lastBatch else c }
      s2.setCtxSt p c 2

/-- R162, R190: a READY context preempts the running batch context: a real-time one, or the one that takes a wanted
interrupt. -/
def State.preemptDue (s : State) (p c : Nat) : Bool :=
  !s.rtCtx p c && (s.ctx p c).flight.isEmpty && (s.ctx p c).stall.isEmpty &&
    (List.range 4).any (fun d => d != c && s.ctxSt p d == 1 && (s.rtCtx p d || s.intWanted p d))

/-- R172: an interrupt is accepted by the running context at this bundle boundary. -/
def State.intDue (s : State) (p c : Nat) : Bool :=
  s.intWanted p c && (s.ctx p c).flight.isEmpty && (s.ctx p c).stall.isEmpty && (s.ctx p c).timedOut.isNone

/-- R148, R161: VPP_BUNDLE_ISSUE: the VPP of a core issues a bundle. It does not while halted, while the running bundle waits for
remote data, and while an interrupt or a preemption comes first. -/
def execVppBundleIssue (b : Fin 9) (s : State) : Out :=
  let p := s.phys b.val
  if s.halted p ∨ !s.awake then done s
  else
    let s1 := s.schedule p
    match s1.running p with
    | none => done s1
    | some c =>
      if !(s1.ctx p c).stall.isEmpty ∨ s1.intDue p c ∨ s1.preemptDue p c then done s1
      else done (s1.issueBundle b.val p c)

/-- R172: VPP_INTERRUPT_ENTRY: the running context takes the lowest-numbered enabled cause that is pending. -/
def execVppInterruptEntry (b : Fin 9) (s : State) : Out :=
  let p := s.phys b.val
  match s.running p, s.wantedCause p with
  | some c, some cause =>
    if s.intDue p c ∧ !s.halted p ∧ s.awake then
      let s1 := s.setCore p { s.core p with deferred := 0 }
      done (s1.enter p c cause (s.ctx p c).pc false)
    else done s
  | _, _ => done s

/-- R189: CONTEXT_SWITCH_OUT: the running batch context, whose scoreboard wait exceeds SW_THRESH, waits on the side, and another
context runs. -/
def execContextSwitchOut (b : Fin 9) (s : State) : Out :=
  let p := s.phys b.val
  match s.running p with
  | none => done s
  | some c =>
    let long := (s.sboard p).waits.any (fun w => w.who == .vpp c &&
      decide (w.since + s.fld (rVPP_CTX_CTL p) fVPP_CTX_CTL_SW_THRESH < s.time.ns))
    if long ∧ !s.rtCtx p c ∧ (s.ctx p c).flight.isEmpty ∧ !s.halted p ∧
        (List.range 4).any (fun d => s.ctxSt p d == 1) then
      done ((s.setCtxSt p c 3).schedule p)
    else done s

/-- R189: CONTEXT_WAIT_CLEAR: the wait of a context that waits on the side has cleared, or timed out (R226). -/
def execContextWaitClear (b : Fin 9) (c : Fin 4) (s : State) : Out :=
  let p := s.phys b.val
  if s.ctxSt p c.val = 3 ∧ !s.sbWaits p c.val then done (s.setCtxSt p c.val 1) else done s

/-- R190: CONTEXT_PREEMPT: the running batch context becomes READY, and the context that preempts it runs. -/
def execContextPreempt (b : Fin 9) (s : State) : Out :=
  let p := s.phys b.val
  match s.running p with
  | none => done s
  | some c => if s.preemptDue p c ∧ !s.halted p then done ((s.setCtxSt p c 1).schedule p) else done s

/-- R159, R215: REMOTE_LOAD_RETURN: every remote access that the bundle of a context waits for has returned: their tags are free, a
bus error traps, and the bundle takes effect. With no bundle waiting (its context has been stopped), what has returned is
dropped. -/
def execRemoteLoadReturn (b : Fin 9) (c : Fin 4) (s : State) : Out :=
  let p := s.phys b.val
  let x := s.ctx p c.val
  let mine := s.remotes.filter (fun r => x.stall.contains r.id)
  if x.stall.isEmpty then
    let stray (r : RemoteAccess) : Bool := r.slot == b.val && r.ctx == c.val && r.op != .store && r.answered
    let s1 := (s.remotes.filter stray).foldl (fun (t : State) _ => t.freeTag b.val) s
    done { s1 with remotes := s1.remotes.filter (fun r => !stray r) }
  else if mine.length ≠ x.stall.length ∨ mine.any (fun r => !r.answered) then done s
  else
    let s1 := x.stall.foldl (fun (t : State) _ => t.freeTag b.val) s
    let s2 := ({ s1 with remotes := s1.remotes.filter (fun r => !x.stall.contains r.id) }).setCtx p c.val { x with stall := [] }
    done (s2.decodeAt b.val p c.val (fun t y ops =>
      let far := (ops.flatMap (t.accsOf b.val p y)).filter Hop.farRead
      match (List.range mine.length).find? (fun k => ((mine[k]?).map (·.failed)).getD false) with
      | some k => t.trap p c.val 0x23 ((far[k]?).map (·.addr)) none
      | none => t.finish b.val p c.val y (mine.map (·.answer)) ops))

end Sys2Proof.Machine
end

