-- ==== Sys2Proof/Machine/Families.lean ====
section
/-!
DEFINITION. All the families of commands (imports only).
-/
end

