-- ==== Sys2Proof/Machine/Dispatch.lean ====
section
/-!
DEFINITION. The meaning of every command: one arm per constructor of `Instr`.
-/
namespace Sys2Proof.Machine

def exec (i : Instr) (s : State) : Host.Outcome State Fault Refusal :=
  match i with
  | .registerWrite x a v => Sys2Proof.Machine.execRegisterWrite x a v s
  | .rcCounterRead x a => Sys2Proof.Machine.execRcCounterRead x a s
  | .tagWaitIssue r => Sys2Proof.Machine.execTagWaitIssue r s
  | .coreIndexSwitch => Sys2Proof.Machine.execCoreIndexSwitch s
  | .aonTick => Sys2Proof.Machine.execAonTick s
  | .cueTrimStep => Sys2Proof.Machine.execCueTrimStep s
  | .cueSlewStep => Sys2Proof.Machine.execCueSlewStep s
  | .cueHandoverWake => Sys2Proof.Machine.execCueHandoverWake s
  | .cueHandoverSleep => Sys2Proof.Machine.execCueHandoverSleep s
  | .ppsEdge high => Sys2Proof.Machine.execPpsEdge high s
  | .ppsTimeout => Sys2Proof.Machine.execPpsTimeout s
  | .timeSyncTimer => Sys2Proof.Machine.execTimeSyncTimer s
  | .timeHoldEnd => Sys2Proof.Machine.execTimeHoldEnd s
  | .cueqPush q w => Sys2Proof.Machine.execCueqPush q w s
  | .cueqFlush q => Sys2Proof.Machine.execCueqFlush q s
  | .cueqResume q => Sys2Proof.Machine.execCueqResume q s
  | .cuePrewake q => Sys2Proof.Machine.execCuePrewake q s
  | .cueLate q => Sys2Proof.Machine.execCueLate q s
  | .nop q => Sys2Proof.Machine.execNop q s
  | .dmaLaunch q => Sys2Proof.Machine.execDmaLaunch q s
  | .frondJob b => Sys2Proof.Machine.execFrondJob b s
  | .taskStart b => Sys2Proof.Machine.execTaskStart b s
  | .vppInt b => Sys2Proof.Machine.execVppInt b s
  | .barrierRelease => Sys2Proof.Machine.execBarrierRelease s
  | .nocWindowOpen => Sys2Proof.Machine.execNocWindowOpen s
  | .nocWindowClose => Sys2Proof.Machine.execNocWindowClose s
  | .fsyncPulse p => Sys2Proof.Machine.execFsyncPulse p s
  | .fsyncPulseEnd n => Sys2Proof.Machine.execFsyncPulseEnd n s
  | .sensorWrite p => Sys2Proof.Machine.execSensorWrite p s
  | .ispApply p => Sys2Proof.Machine.execIspApply p s
  | .wingsApply n => Sys2Proof.Machine.execWingsApply n s
  | .wake => Sys2Proof.Machine.execWake s
  | .hostEvent => Sys2Proof.Machine.execHostEvent s
  | .wingsCommitDeadline n => Sys2Proof.Machine.execWingsCommitDeadline n s
  | .frondJobQWrite b w => Sys2Proof.Machine.execFrondJobQWrite b w s
  | .frondJobStart b => Sys2Proof.Machine.execFrondJobStart b s
  | .frondRtPreempt b => Sys2Proof.Machine.execFrondRtPreempt b s
  | .frondWeightBlockLoad b => Sys2Proof.Machine.execFrondWeightBlockLoad b s
  | .frondPassStart b => Sys2Proof.Machine.execFrondPassStart b s
  | .frondJobComplete b => Sys2Proof.Machine.execFrondJobComplete b s
  | .frondBusError b => Sys2Proof.Machine.execFrondBusError b s
  | .frondFlush b => Sys2Proof.Machine.execFrondFlush b s
  | .frondResume b => Sys2Proof.Machine.execFrondResume b s
  | .vppStart b => Sys2Proof.Machine.execVppStart b s
  | .vppHalt b => Sys2Proof.Machine.execVppHalt b s
  | .vppIntSet b w => Sys2Proof.Machine.execVppIntSet b w s
  | .vppBundleIssue b => Sys2Proof.Machine.execVppBundleIssue b s
  | .vppInterruptEntry b => Sys2Proof.Machine.execVppInterruptEntry b s
  | .contextSwitchOut b => Sys2Proof.Machine.execContextSwitchOut b s
  | .contextWaitClear b c => Sys2Proof.Machine.execContextWaitClear b c s
  | .contextPreempt b => Sys2Proof.Machine.execContextPreempt b s
  | .vppDeadlineMiss b c => Sys2Proof.Machine.execVppDeadlineMiss b c s
  | .prompterOpIssue o => Sys2Proof.Machine.execPrompterOpIssue o s
  | .remoteLoadReturn b c => Sys2Proof.Machine.execRemoteLoadReturn b c s
  | .remoteStoreAck id => Sys2Proof.Machine.execRemoteStoreAck id s
  | .remoteAccessArrive id => Sys2Proof.Machine.execRemoteAccessArrive id s
  | .ssInvalidateGo source c => Sys2Proof.Machine.execSsInvalidateGo source c s
  | .ssInvalidateDone c => Sys2Proof.Machine.execSsInvalidateDone c s
  | .cacheFill c => Sys2Proof.Machine.execCacheFill c s
  | .sbRegister b agent ws rs => Sys2Proof.Machine.execSbRegister b agent ws rs s
  | .sbRelease b agent entry write narrow => Sys2Proof.Machine.execSbRelease b agent entry write narrow s
  | .sbWaitClear b => Sys2Proof.Machine.execSbWaitClear b s
  | .sbTimeout b j => Sys2Proof.Machine.execSbTimeout b j s
  | .bankSwitchOff way u j => Sys2Proof.Machine.execBankSwitchOff way u j s
  | .powerDownWithdrawn way u j => Sys2Proof.Machine.execPowerDownWithdrawn way u j s
  | .bankPowerUpDone way u j => Sys2Proof.Machine.execBankPowerUpDone way u j s
  | .eccCorrectedWriteback => Sys2Proof.Machine.execEccCorrectedWriteback s
  | .dmaKick b n => Sys2Proof.Machine.execDmaKick b n s
  | .dmaDescFetch b n => Sys2Proof.Machine.execDmaDescFetch b n s
  | .dmaDescStart b n => Sys2Proof.Machine.execDmaDescStart b n s
  | .dmaShadowHandover b n => Sys2Proof.Machine.execDmaShadowHandover b n s
  | .dmaReadReturn b n k => Sys2Proof.Machine.execDmaReadReturn b n k s
  | .dmaWriteAck b n => Sys2Proof.Machine.execDmaWriteAck b n s
  | .dmaRingWriteback b n => Sys2Proof.Machine.execDmaRingWriteback b n s
  | .dmaCqRecordPost n => Sys2Proof.Machine.execDmaCqRecordPost n s
  | .dmaPostingResume b n => Sys2Proof.Machine.execDmaPostingResume b n s
  | .dmaPaceResume b n => Sys2Proof.Machine.execDmaPaceResume b n s
  | .dmaBusError b n => Sys2Proof.Machine.execDmaBusError b n s
  | .dmaPtWalk b n => Sys2Proof.Machine.execDmaPtWalk b n s
  | .dmaTranslationFault b n => Sys2Proof.Machine.execDmaTranslationFault b n s
  | .dmaResume b n => Sys2Proof.Machine.execDmaResume b n s
  | .dmaAbort b n => Sys2Proof.Machine.execDmaAbort b n s
  | .dmaAbortDone b n => Sys2Proof.Machine.execDmaAbortDone b n s
  | .dmaShadowSeal b n => Sys2Proof.Machine.execDmaShadowSeal b n s
  | .tvaInvalidate v => Sys2Proof.Machine.execTvaInvalidate v s
  | .tvaInvalidateDone => Sys2Proof.Machine.execTvaInvalidateDone s
  | .pageRetire frame spare => Sys2Proof.Machine.execPageRetire frame spare s
  | .dmaPost b v => Sys2Proof.Machine.execDmaPost b v s
  | .postTimeout b => Sys2Proof.Machine.execPostTimeout b s
  | .mailboxArrive b => Sys2Proof.Machine.execMailboxArrive b s
  | .mbxPop b => Sys2Proof.Machine.execMbxPop b s
  | .faultQueuePop => Sys2Proof.Machine.execFaultQueuePop s
  | .hqAlloc a p => Sys2Proof.Machine.execHqAlloc a p s
  | .hqPush a q h => Sys2Proof.Machine.execHqPush a q h s
  | .hqPop a q => Sys2Proof.Machine.execHqPop a q s
  | .hqFree a h => Sys2Proof.Machine.execHqFree a h s
  | .hqFill a q => Sys2Proof.Machine.execHqFill a q s
  | .barArrive a b gen => Sys2Proof.Machine.execBarArrive a b gen s
  | .barWait b c => Sys2Proof.Machine.execBarWait b c s
  | .barCountRelease b => Sys2Proof.Machine.execBarCountRelease b s
  | .barReset b cfg => Sys2Proof.Machine.execBarReset b cfg s
  | .barTimeout b => Sys2Proof.Machine.execBarTimeout b s
  | .chainTileArrive b => Sys2Proof.Machine.execChainTileArrive b s
  | .chainTileForward b => Sys2Proof.Machine.execChainTileForward b s
  | .chainWaitExpire b => Sys2Proof.Machine.execChainWaitExpire b s
  | .scriptFault n => Sys2Proof.Machine.execScriptFault n s
  | .auditRun => Sys2Proof.Machine.execAuditRun s
  | .auditRunNow => Sys2Proof.Machine.execAuditRunNow s
  | .portCfgApply p => Sys2Proof.Machine.execPortCfgApply p s
  | .deskewSequence p => Sys2Proof.Machine.execDeskewSequence p s
  | .hsBurstDiscard p sot => Sys2Proof.Machine.execHsBurstDiscard p sot s
  | .frameStart p vc num corrected => Sys2Proof.Machine.execFrameStart p vc num corrected s
  | .frameEnd p vc num corrected => Sys2Proof.Machine.execFrameEnd p vc num corrected s
  | .frameEndTimeout k => Sys2Proof.Machine.execFrameEndTimeout k s
  | .lineStart p vc num corrected => Sys2Proof.Machine.execLineStart p vc num corrected s
  | .imageLine p vc dt b crcOk corrected => Sys2Proof.Machine.execImageLine p vc dt b crcOk corrected s
  | .embeddedLine p vc b crcOk corrected => Sys2Proof.Machine.execEmbeddedLine p vc b crcOk corrected s
  | .watchEnable p w => Sys2Proof.Machine.execWatchEnable p w s
  | .i2cXfer b w => Sys2Proof.Machine.execI2cXfer b w s
  | .i2cListComplete b nack rd => Sys2Proof.Machine.execI2cListComplete b nack rd s
  | .i2cStuckTimeout b j => Sys2Proof.Machine.execI2cStuckTimeout b j s
  | .trigEdge n fall us => Sys2Proof.Machine.execTrigEdge n fall us s
  | .trigFsyncDelay n => Sys2Proof.Machine.execTrigFsyncDelay n s
  | .saRowWrite => Sys2Proof.Machine.execSaRowWrite s
  | .slotReady k b j => Sys2Proof.Machine.execSlotReady k b j s
  | .stripePop b c => Sys2Proof.Machine.execStripePop b c s
  | .stripeFb b c w => Sys2Proof.Machine.execStripeFb b c w s
  | .stripeXrel b w => Sys2Proof.Machine.execStripeXrel b w s
  | .stripeDone b c w => Sys2Proof.Machine.execStripeDone b c w s
  | .stripeDres b c => Sys2Proof.Machine.execStripeDres b c s
  | .stripeDrop k => Sys2Proof.Machine.execStripeDrop k s
  | .saStreamDisable k => Sys2Proof.Machine.execSaStreamDisable k s
  | .saStreamFlush k => Sys2Proof.Machine.execSaStreamFlush k s
  | .stripeCountPoll k => Sys2Proof.Machine.execStripeCountPoll k s
  | .eplGroupRx l g => Sys2Proof.Machine.execEplGroupRx l g s
  | .eplReplayTimeout l => Sys2Proof.Machine.execEplReplayTimeout l s
  | .eplTrailerTimeout l => Sys2Proof.Machine.execEplTrailerTimeout l s
  | .eplLinkReset l => Sys2Proof.Machine.execEplLinkReset l s
  | .eplTrainDone l => Sys2Proof.Machine.execEplTrainDone l s
  | .eplResetWrite l => Sys2Proof.Machine.execEplResetWrite l s
  | .eplWinLock w => Sys2Proof.Machine.execEplWinLock w s
  | .wr l => Sys2Proof.Machine.execWr l s
  | .rd l => Sys2Proof.Machine.execRd l s
  | .wrAck l => Sys2Proof.Machine.execWrAck l s
  | .rdData l => Sys2Proof.Machine.execRdData l s
  | .nb4Ann l => Sys2Proof.Machine.execNb4Ann l s
  | .nb4Data l => Sys2Proof.Machine.execNb4Data l s
  | .nb4Ctl l => Sys2Proof.Machine.execNb4Ctl l s
  | .tsSync l => Sys2Proof.Machine.execTsSync l s
  | .tsDreq l => Sys2Proof.Machine.execTsDreq l s
  | .tsDrsp l => Sys2Proof.Machine.execTsDrsp l s
  | .barArr l => Sys2Proof.Machine.execBarArr l s
  | .barRel l => Sys2Proof.Machine.execBarRel l s
  | .barBroken l => Sys2Proof.Machine.execBarBroken l s
  | .wingsRpt l => Sys2Proof.Machine.execWingsRpt l s
  | .wingsCommit l => Sys2Proof.Machine.execWingsCommit l s
  | .heartbeatTimer l => Sys2Proof.Machine.execHeartbeatTimer l s
  | .heartbeat l => Sys2Proof.Machine.execHeartbeat l s
  | .peerAliveTimeout l => Sys2Proof.Machine.execPeerAliveTimeout l s
  | .goodbye l => Sys2Proof.Machine.execGoodbye l s
  | .linit l => Sys2Proof.Machine.execLinit l s
  | .linitAck l => Sys2Proof.Machine.execLinitAck l s
  | .commandRunt n => Sys2Proof.Machine.execCommandRunt n s
  | .commandTimeout tag => Sys2Proof.Machine.execCommandTimeout tag s
  | .ping h => Sys2Proof.Machine.execPing h s
  | .getIdentity h => Sys2Proof.Machine.execGetIdentity h s
  | .cmdAbort h target => Sys2Proof.Machine.execCmdAbort h target s
  | .getStatus h => Sys2Proof.Machine.execGetStatus h s
  | .getCounters h blk inst cont => Sys2Proof.Machine.execGetCounters h blk inst cont s
  | .timeGet h => Sys2Proof.Machine.execTimeGet h s
  | .timeSetEpoch h t => Sys2Proof.Machine.execTimeSetEpoch h t s
  | .timePps h en => Sys2Proof.Machine.execTimePps h en s
  | .wingsOpen h id => Sys2Proof.Machine.execWingsOpen h id s
  | .wingsStage h n ms => Sys2Proof.Machine.execWingsStage h n ms s
  | .wingsCheck h n t => Sys2Proof.Machine.execWingsCheck h n t s
  | .wingsApplyAt h n t isp => Sys2Proof.Machine.execWingsApplyAt h n t isp s
  | .wingsCancel h n => Sys2Proof.Machine.execWingsCancel h n s
  | .wingsRelease h n => Sys2Proof.Machine.execWingsRelease h n s
  | .wingsStatus h n => Sys2Proof.Machine.execWingsStatus h n s
  | .memMap h asid bytes writable page frames => Sys2Proof.Machine.execMemMap h asid bytes writable page frames s
  | .memUnmap h asid tva => Sys2Proof.Machine.execMemUnmap h asid tva s
  | .xfer h dir stream asid tva bytes frc type => Sys2Proof.Machine.execXfer h dir stream asid tva bytes frc type s
  | .memWrite h asid tva b => Sys2Proof.Machine.execMemWrite h asid tva b s
  | .memRead h asid tva n => Sys2Proof.Machine.execMemRead h asid tva n s
  | .loadScript h asid tva len d => Sys2Proof.Machine.execLoadScript h asid tva len d s
  | .unloadScript h n => Sys2Proof.Machine.execUnloadScript h n s
  | .run h n anchor => Sys2Proof.Machine.execRun h n anchor s
  | .stop h n t => Sys2Proof.Machine.execStop h n t s
  | .submit h n inp inLen outp outLen => Sys2Proof.Machine.execSubmit h n inp inLen outp outLen s
  | .scriptStatus h n => Sys2Proof.Machine.execScriptStatus h n s
  | .restart h n => Sys2Proof.Machine.execRestart h n s
  | .sensorSettings h k fidx expo gain lists firsts times => Sys2Proof.Machine.execSensorSettings h k fidx expo gain lists firsts times s
  | .ispParams h k fidx t w => Sys2Proof.Machine.execIspParams h k fidx t w s
  | .i2cRead h bus dev reg a16 n => Sys2Proof.Machine.execI2cRead h bus dev reg a16 n s
  | .fsyncSchedule h n period phase width => Sys2Proof.Machine.execFsyncSchedule h n period phase width s
  | .streamStatus h k => Sys2Proof.Machine.execStreamStatus h k s
  | .powerGet h => Sys2Proof.Machine.execPowerGet h s
  | .setOp h c op => Sys2Proof.Machine.execSetOp h c op s
  | .setPowerCap h w => Sys2Proof.Machine.execSetPowerCap h w s
  | .sleep h t mask => Sys2Proof.Machine.execSleep h t mask s
  | .dark h mask => Sys2Proof.Machine.execDark h mask s
  | .rehearsalStatus h => Sys2Proof.Machine.execRehearsalStatus h s
  | .rehearsalCfg h hours => Sys2Proof.Machine.execRehearsalCfg h hours s
  | .rehearseNow h block => Sys2Proof.Machine.execRehearseNow h block s
  | .repairMapGet h cont => Sys2Proof.Machine.execRepairMapGet h cont s
  | .coreReplace h b => Sys2Proof.Machine.execCoreReplace h b s
  | .fullTest h mask finds => Sys2Proof.Machine.execFullTest h mask finds s
  | .attest h nonce => Sys2Proof.Machine.execAttest h nonce s
  | .fwUpdateBegin h fw cfg => Sys2Proof.Machine.execFwUpdateBegin h fw cfg s
  | .fwUpdateData h o b => Sys2Proof.Machine.execFwUpdateData h o b s
  | .fwUpdateCommit h => Sys2Proof.Machine.execFwUpdateCommit h s
  | .lifecycleToken h tok => Sys2Proof.Machine.execLifecycleToken h tok s
  | .fabricStatus h => Sys2Proof.Machine.execFabricStatus h s
  | .linkReset h l => Sys2Proof.Machine.execLinkReset h l s
  | .lichenInfo h => Sys2Proof.Machine.execLichenInfo h s
  | .lichenRead h first count => Sys2Proof.Machine.execLichenRead h first count s
  | .regRead h dpa n => Sys2Proof.Machine.execRegRead h dpa n s
  | .regWrite h dpa value mask => Sys2Proof.Machine.execRegWrite h dpa value mask s
  | .fenceUnit h unit on => Sys2Proof.Machine.execFenceUnit h unit on s
  | .usbAttach speed => Sys2Proof.Machine.execUsbAttach speed s
  | .usbReset kind => Sys2Proof.Machine.execUsbReset kind s
  | .clearEndpointHalt ep inward => Sys2Proof.Machine.execClearEndpointHalt ep inward s
  | .ep2OutData n b retries => Sys2Proof.Machine.execEp2OutData n b retries s
  | .usbU1U2Entry u2 => Sys2Proof.Machine.execUsbU1U2Entry u2 s
  | .usbSuspend => Sys2Proof.Machine.execUsbSuspend s
  | .usbResume => Sys2Proof.Machine.execUsbResume s
  | .usbTrainFail speed => Sys2Proof.Machine.execUsbTrainFail speed s
  | .pllLock k => Sys2Proof.Machine.execPllLock k s
  | .opTransition c => Sys2Proof.Machine.execOpTransition c s
  | .avsTick c below above => Sys2Proof.Machine.execAvsTick c below above s
  | .droopEvent c => Sys2Proof.Machine.execDroopEvent c s
  | .powerLimiterSample mv curr c0 c1 => Sys2Proof.Machine.execPowerLimiterSample mv curr c0 c1 s
  | .thermalCheck sensor t => Sys2Proof.Machine.execThermalCheck sensor t s
  | .limitHoldEnd kind c => Sys2Proof.Machine.execLimitHoldEnd kind c s
  | .idleEntry => Sys2Proof.Machine.execIdleEntry s
  | .idleExit => Sys2Proof.Machine.execIdleExit s
  | .sleepEntry => Sys2Proof.Machine.execSleepEntry s
  | .darkEntry => Sys2Proof.Machine.execDarkEntry s
  | .wakeSource src => Sys2Proof.Machine.execWakeSource src s
  | .wakeComplete => Sys2Proof.Machine.execWakeComplete s
  | .watchdogKick => Sys2Proof.Machine.execWatchdogKick s
  | .watchdogExpire => Sys2Proof.Machine.execWatchdogExpire s
  | .rstNAssert => Sys2Proof.Machine.execRstNAssert s
  | .powerOnReset => Sys2Proof.Machine.execPowerOnReset s
  | .prompterReset => Sys2Proof.Machine.execPrompterReset s
  | .uvWarn mv => Sys2Proof.Machine.execUvWarn mv s
  | .uvShutdown mv => Sys2Proof.Machine.execUvShutdown mv s
  | .uvRecover mv => Sys2Proof.Machine.execUvRecover mv s
  | .moduleInsert => Sys2Proof.Machine.execModuleInsert s
  | .bootRomStart forced => Sys2Proof.Machine.execBootRomStart forced s
  | .slotConfirm level => Sys2Proof.Machine.execSlotConfirm level s
  | .secLockBoot => Sys2Proof.Machine.execSecLockBoot s
  | .secLockCfg => Sys2Proof.Machine.execSecLockCfg s
  | .emuGateReq => Sys2Proof.Machine.execEmuGateReq s
  | .sigEngineGo op => Sys2Proof.Machine.execSigEngineGo op s
  | .sigEngineDone => Sys2Proof.Machine.execSigEngineDone s
  | .norAccess x => Sys2Proof.Machine.execNorAccess x s
  | .rehGo block => Sys2Proof.Machine.execRehGo block s
  | .rehSliceStart => Sys2Proof.Machine.execRehSliceStart s
  | .rehDrainTimeout => Sys2Proof.Machine.execRehDrainTimeout s
  | .rehSliceEnd cut misr ds => Sys2Proof.Machine.execRehSliceEnd cut misr ds s
  | .plannedSwap => Sys2Proof.Machine.execPlannedSwap s
  | .swapQuiesceTimeout => Sys2Proof.Machine.execSwapQuiesceTimeout s
  | .migrationDone => Sys2Proof.Machine.execMigrationDone s
  | .coreFailure b cause => Sys2Proof.Machine.execCoreFailure b cause s
  | .ddr4PatrolScrub line spare => Sys2Proof.Machine.execDdr4PatrolScrub line spare s
  | .dphyLoopback p errors => Sys2Proof.Machine.execDphyLoopback p errors s
  | .eplPrbsLoopback l errors => Sys2Proof.Machine.execEplPrbsLoopback l errors s
  | .pllLockLoss k => Sys2Proof.Machine.execPllLockLoss k s
  | .tempCrosscheck => Sys2Proof.Machine.execTempCrosscheck s
  | .voltageCrosscheck a b => Sys2Proof.Machine.execVoltageCrosscheck a b s
  | .lichenRequest code ongoing => Sys2Proof.Machine.execLichenRequest code ongoing s
  | .lichenRecordWrite ok => Sys2Proof.Machine.execLichenRecordWrite ok s
  | .lichenPositionFind => Sys2Proof.Machine.execLichenPositionFind s
  | .lichenTokenRefill => Sys2Proof.Machine.execLichenTokenRefill s
  | .opsecTick => Sys2Proof.Machine.execOpsecTick s
  | .smbIdentity => Sys2Proof.Machine.execSmbIdentity s
  | .smbState => Sys2Proof.Machine.execSmbState s
  | .smbVin => Sys2Proof.Machine.execSmbVin s
  | .smbCurrent => Sys2Proof.Machine.execSmbCurrent s
  | .smbPower => Sys2Proof.Machine.execSmbPower s
  | .smbTemp => Sys2Proof.Machine.execSmbTemp s
  | .smbTempSensor => Sys2Proof.Machine.execSmbTempSensor s
  | .smbAlertStatRead => Sys2Proof.Machine.execSmbAlertStatRead s
  | .smbAlertStatClear v pecOk => Sys2Proof.Machine.execSmbAlertStatClear v pecOk s
  | .smbAlertMaskRead => Sys2Proof.Machine.execSmbAlertMaskRead s
  | .smbAlertMaskWrite v pecOk => Sys2Proof.Machine.execSmbAlertMaskWrite v pecOk s
  | .smbWake => Sys2Proof.Machine.execSmbWake s
  | .smbAlertResponse => Sys2Proof.Machine.execSmbAlertResponse s
  | .smbClockTimeout => Sys2Proof.Machine.execSmbClockTimeout s
  | .jtagBypass => Sys2Proof.Machine.execJtagBypass s
  | .jtagIdcode => Sys2Proof.Machine.execJtagIdcode s
  | .jtagSamplePreload pins load => Sys2Proof.Machine.execJtagSamplePreload pins load s
  | .jtagExtest pins load => Sys2Proof.Machine.execJtagExtest pins load s
  | .jtagExtestPulse pins load => Sys2Proof.Machine.execJtagExtestPulse pins load s
  | .jtagExtestTrain pins load => Sys2Proof.Machine.execJtagExtestTrain pins load s
  | .cueSheetRefill => Sys2Proof.Machine.execCueSheetRefill s
  | .loLatchRead x a => Sys2Proof.Machine.execLoLatchRead x a s
  | .unmatchedPacket p => Sys2Proof.Machine.execUnmatchedPacket p s
  | .ep3InTransfer => Sys2Proof.Machine.execEp3InTransfer s
  | .usbStandardRequest r => Sys2Proof.Machine.execUsbStandardRequest r s
  | .vioCamLoss => Sys2Proof.Machine.execVioCamLoss s
  | .vioCamReturn => Sys2Proof.Machine.execVioCamReturn s
  | .eplSignalDetect l => Sys2Proof.Machine.execEplSignalDetect l s
  | .aonCrystalStable => Sys2Proof.Machine.execAonCrystalStable s
  | .prompterRestartDone => Sys2Proof.Machine.execPrompterRestartDone s
  | .activeHourTick => Sys2Proof.Machine.execActiveHourTick s
  | .jtagDebugInstruction => Sys2Proof.Machine.execJtagDebugInstruction s

end Sys2Proof.Machine
end

