-- ==== Sys2Proof/Machine/Step.lean ====
section
/-!
DEFINITION. One step of the block: the command at the front of the queue, or, with none, what the block does on its own.
-/
namespace Sys2Proof.Machine

/-- The first command that waits takes effect, with the rest of the queue behind it. With no command waiting, a held host command
that may start does so (R383); else outstanding commands are looked after and 1 ns passes (log entry 1). -/
def step (s : State) : Host.Outcome State Fault Refusal :=
  match s.pending with
  | c :: rest => exec c { s with pending := rest }
  | [] =>
    match s.nextHeld with
    | some x => endHeld (exec x.2 (s.takeHeld x.1))
    | none => .next s.quiet

/-- No word spells a command (Decode.lean), so the state is unchanged. -/
def State.withFetchWord (s : State) (nbits w : Nat) : State :=
  match decodeTableWord nbits w with
  | some c => { s with pending := c :: s.pending }
  | none => s

end Sys2Proof.Machine
end

