-- ==== Sys2Proof/Safety.lean ====
section
/-!
DEFINITION. What counts as a safe run, in the terms that statements use: the canonical form of registers and memory, what a
command leaves unchanged, and what no command may do.
-/
namespace Sys2Proof.Machine

/-! ### The invariant -/

/-- Registers and memory stand in their canonical form, so that a register that is read after a write holds what was written. -/
abbrev State.canon (s : State) : Prop := Cells.wf regReset s.regs = true ∧ Memory.wf s.mem = true

/-! ### What a command leaves unchanged -/

/-- Every register but those listed reads as before. -/
def SameRegs (l : List Nat) (s t : State) : Prop := ∀ a, a ∉ l → t.reg a = s.reg a

/-- Every byte of memory reads as before. -/
def SameBytes (s t : State) : Prop := ∀ k, t.byte k = s.byte k

/-- Every byte of memory outside `n` bytes from `k` up reads as before. -/
def SameBytesBut (k n : Nat) (s t : State) : Prop := ∀ j, (j < k ∨ k + n ≤ j) → t.byte j = s.byte j

/-- R470 to R478: nothing has changed but what the recorder holds, its slots in flash, and the alert of a full log. -/
structure Recorded (s t : State) : Prop where
  rest : t = { s with
    lichen := t.lichen
    mem := t.mem
    regs := t.regs
    power := { s.power with alertAnswered := t.power.alertAnswered } }
  regs : SameRegs [rSIDE_ALERT_STAT] s t
  bytes : SameBytesBut (norPlace 0x3C00000) 0x400000 s t

/-- R390, R391, R402: a host event has been posted: it is in the EP3 IN queue or counted as lost, and where the link was in U3 with
remote wake enabled, it has woken the module or ended U3; nothing else has changed. -/
structure Posted (code source index param : Nat) (s t : State) : Prop where
  rest : t = { s with
    events := s.events.post ⟨code, source, index, s.time.now, param % 2 ^ 32⟩
    regs := t.regs
    power := t.power }
  regs : SameRegs [rAON_WAKE_CAUSE, rUSB_STAT] s t
  power : ¬(s.fld rUSB_STAT fUSB_STAT_LINK = 4 ∧ s.flag rUSB_STAT fUSB_STAT_RWAKE_EN = true) → t.power = s.power ∧ t.regs = s.regs

/-- R44: the state from which the entry `e` at the head of a queue has been taken to be fired: it has left the queue, or, if it is
periodic, stands there with its next time; if it is late, it has been counted. -/
def State.taken (s : State) (q : QueueId) (e : CueEntry) : State :=
  let s1 := if s.isLate e ∧ !e.counted then s.countLate q e else s
  s1.setCq q.num ((s1.cq q.num).pop CueEntry.again)

/-! ### A command that is accepted -/

/-- R25, R373 to R389: a command with this header, opcode and objects starts as it arrives: command transfers reach the Prompter,
no test fails, nothing makes it wait, its reserved bits are 0 and its time limit is not clamped. -/
def State.accepts (s : State) (h : CmdHeader) (op : Nat) (objects : List Nat) : Bool :=
  s.hostReady && s.power.st != .entering && s.host.releasing != some h.tag && (s.receiveFault h op).isNone &&
    !(s.mustWait s.host.outstanding h.fence objects) && h.rsvOk && decide (h.timeout ≤ 600000000)

/-- R374, R383, R386: the entry of a command among those that are outstanding. -/
def State.outEntry (s : State) (h : CmdHeader) (op limit : Nat) (objects : List Nat) : Outstanding :=
  { opcode := opField h op, tag := h.tag, fence := h.fence, deadline := s.time.ns + 1000 * cmdLimit h limit, objects := objects }

/-- R383, R421, R437: the state in which an accepted command stands before it is executed: the link and the module have been in
use, the running slot is confirmed, and the command is outstanding, with this entry. -/
def State.withCommand (s : State) (o : Outstanding) : State :=
  let s1 := State.noteAccepted { s with
    usb := { s.usb with idleSince := s.time.ns }
    power := { s.power with lastWork := s.time.ns } }
  { s1 with host := { s1.host with outstanding := s1.host.outstanding ++ [o] } }

/-- R386: the state in which an accepted command is executed; it is then past its commit point, if that is its start. -/
def State.accepted (s : State) (h : CmdHeader) (op limit : Nat) (objects : List Nat) : State :=
  s.withCommand { s.outEntry h op limit objects with committed := !lateCommit op }

/-- R384, R394, R421: the state in which a packet that reaches the Prompter is answered: link and module have been in use. -/
def State.inUse (s : State) : State :=
  { s with
    usb := { s.usb with idleSince := s.time.ns }
    power := { s.power with lastWork := s.time.ns } }

/-- The command that a step of this state runs, if any: the one at the front of the queue, or the held one that starts. -/
def State.stepCommand (s : State) : Option Instr :=
  match s.pending with
  | c :: _ => some c
  | [] => s.nextHeld.map (·.2)

/-! ### What no command may do -/

/-- R443, R450: no fuse bit of the life-cycle field that is blown is restored, the anti-rollback counter does not fall, and no
key slot that is revoked is restored. -/
structure FusesRise (s t : State) : Prop where
  blown : ∀ n, n ∈ s.sec.blown → n ∈ t.sec.blown
  rollback : s.sec.rollback ≤ t.sec.rollback
  revoked : ∀ k, bitOf s.sec.revoked k = true → bitOf t.sec.revoked k = true

end Sys2Proof.Machine
end

