-- ==== Sys2Proof/Certificates/Slice0/Obligations.lean ====
section
/-!
DEFINITION. The statements about the model, for the provers. A clause of a statement about a command says that the command
answers a next state, under conditions on the state and the operands alone, and what that state holds.
-/
open Sys2Proof Sys2Proof.Machine

/-- An AON tick adds exactly 30,517 + 37/64 ns while the AON domain drives cue time; a trim step that is due adds or withholds one increment; a slew step that is due doubles or withholds one increment and moves SLEW one step toward 0; a hand-over changes the source and drops the fraction, and neither moves cue time; each leaves every other register and all memory as they were. -/
def Obligations.CueTimeCommands : Prop :=
  (∀ (s : State), s.fastSource = false → 
      ∃ t, exec .aonTick s = .next t ∧ t.time.now * 64 + t.time.frac = s.time.now * 64 + s.time.frac + 1953125 ∧ t.time.frac < 64 ∧
        t = { s with time := { s.time with now := t.time.now, frac := t.time.frac } }) ∧
  (∀ (s : State), 
      exec .aonCrystalStable s = .next { s with time := { s.time with crystal := true } }) ∧
  (∀ (s : State), 0 < s.trim → s.fastRuns = true → s.time.lastTrim + 10 ^ 9 / s.trim.natAbs ≤ s.time.ns → 
      exec .cueTrimStep s = .next { s with time := { s.time with now := s.time.now + 1, lastTrim := s.time.ns } }) ∧
  (∀ (s : State), s.trim < 0 → s.fastRuns = true → s.time.lastTrim + 10 ^ 9 / s.trim.natAbs ≤ s.time.ns → 
      exec .cueTrimStep s = .next { s with time := { s.time with skip := s.time.skip + 1, lastTrim := s.time.ns } }) ∧
  (∀ (s : State), s.canon → 0 < s.slew → s.fastRuns = true → s.time.lastSlew + 4096 ≤ s.time.ns → 
      ∃ t, exec .cueSlewStep s = .next t ∧ t.slew = s.slew - 1 ∧ SameRegs [rCUE_SLEW] s t ∧
        t = { s with regs := t.regs, time := { s.time with now := s.time.now + 1, lastSlew := s.time.ns } }) ∧
  (∀ (s : State), s.canon → s.slew < 0 → s.fastRuns = true → s.time.lastSlew + 4096 ≤ s.time.ns → 
      ∃ t, exec .cueSlewStep s = .next t ∧ t.slew = s.slew + 1 ∧ SameRegs [rCUE_SLEW] s t ∧
        t = { s with regs := t.regs, time := { s.time with skip := s.time.skip + 1, lastSlew := s.time.ns } }) ∧
  (∀ (s : State), s.canon → s.power.st = .waking → s.fastSource = false → 0 ∈ s.power.locked → 
      ∃ t, exec .cueHandoverWake s = .next t ∧ t.fastSource = true ∧ (s.master = true → t.flag rCUE_STATUS fCUE_STATUS_ALIGN_OK = true) ∧
        SameRegs [rCUE_STATUS] s t ∧ t = { s with regs := t.regs, time := { s.time with frac := 0 } }) ∧
  (∀ (s : State), s.canon → ((∃ e, s.power.entry = some e ∧ e.step = 6 ∧ e.dark = false) ∨ (s.power.entry = none ∧ s.power.st = .sleep)) → s.fastSource = true → 
      ∃ t, exec .cueHandoverSleep s = .next t ∧ t.fastSource = false ∧ t.flag rCUE_STATUS fCUE_STATUS_ALIGN_OK = false ∧
        SameRegs [rCUE_STATUS] s t ∧ t = { s with regs := t.regs, time := { s.time with frac := 0 } })

/-- An accepted PPS edge (high for 1 µs, 0.5 s after the last) captures cue time in CUE_PPS_CAP and, with discipline enabled, loads SLEW with the distance to the nearest whole second; another edge is ignored and counted; 1.5 s without an edge clears PPS_LOCK and sets PPS_LOST; a hold ends once the parent's time has been reached, and HOLDING clears. -/
def Obligations.PpsAndHold : Prop :=
  (∀ (s : State) (high : Nat), s.canon → s.awake = true → 1000 ≤ high → s.time.ppsLast.any (fun l => decide (s.time.ns < l + 500000000)) = false → s.time.ppsEnabled = false → 
      ∃ t, exec (.ppsEdge high) s = .next t ∧ t.reg rCUE_PPS_CAP_LO = BitVec.ofNat 32 s.now ∧
        t.reg rCUE_PPS_CAP_HI = BitVec.ofNat 32 (s.now / 2 ^ 32) ∧ SameRegs [rCUE_PPS_CAP_LO, rCUE_PPS_CAP_HI] s t ∧
        t = { s with regs := t.regs, time := { s.time with ppsLast := some s.time.ns, ppsGood := t.time.ppsGood } }) ∧
  (∀ (s : State) (high : Nat), s.canon → s.awake = true → 1000 ≤ high → s.time.ppsLast.any (fun l => decide (s.time.ns < l + 500000000)) = false → s.time.ppsEnabled = true → -(2 ^ 23) ≤ secondDistance s.now → secondDistance s.now < 2 ^ 23 → 
      ∃ t, exec (.ppsEdge high) s = .next t ∧ t.reg rCUE_PPS_CAP_LO = BitVec.ofNat 32 s.now ∧
        t.reg rCUE_PPS_CAP_HI = BitVec.ofNat 32 (s.now / 2 ^ 32) ∧ t.slew = secondDistance s.now ∧
        SameRegs [rCUE_PPS_CAP_LO, rCUE_PPS_CAP_HI, rCUE_SLEW, rCUE_STATUS] s t ∧
        t = { s with regs := t.regs, time := { s.time with ppsLast := some s.time.ns, ppsGood := t.time.ppsGood } }) ∧
  (∀ (s : State) (high : Nat), s.canon → s.awake = true → 1000 ≤ high → s.time.ppsLast.any (fun l => decide (s.time.ns < l + 500000000)) = false → s.time.ppsEnabled = true → (secondDistance s.now < -(2 ^ 23) ∨ 2 ^ 23 ≤ secondDistance s.now) → 
      ∃ t, exec (.ppsEdge high) s = .next t ∧ t.reg rCUE_PPS_CAP_LO = BitVec.ofNat 32 s.now ∧
        t.reg rCUE_PPS_CAP_HI = BitVec.ofNat 32 (s.now / 2 ^ 32) ∧ SameRegs [rCUE_PPS_CAP_LO, rCUE_PPS_CAP_HI, rCUE_SLEW, rCUE_STATUS] s t ∧
        t = { s with regs := t.regs, freeTick := s.freeTick + 1, time := { s.time with ppsLast := some s.time.ns, ppsGood := t.time.ppsGood } }) ∧
  (∀ (s : State) (high : Nat), s.awake = true → (high < 1000 ∨ s.time.ppsLast.any (fun l => decide (s.time.ns < l + 500000000)) = true) → 
      exec (.ppsEdge high) s = .next { s with time := { s.time with ppsIgnored := s.time.ppsIgnored + 1 } }) ∧
  (∀ (s : State) (l : Nat), s.canon → s.time.ppsLast = some l → l + 1500000000 ≤ s.time.ns → 
      ∃ t, exec .ppsTimeout s = .next t ∧ t.flag rCUE_STATUS fCUE_STATUS_PPS_LOCK = false ∧ t.flag rCUE_STATUS fCUE_STATUS_PPS_LOST = true ∧
        t.time = { s.time with ppsLast := none, ppsGood := 0 } ∧ SameRegs [rCUE_STATUS, rSIDE_ALERT_STAT] s t ∧
        SameBytesBut (norPlace 0x3C00000) 0x400000 s t) ∧
  (∀ (s : State) (u : Nat), s.canon → s.time.holdUntil = some u → u ≤ s.time.ns → 
      ∃ t, exec .timeHoldEnd s = .next t ∧ t.holding = false ∧ t.flag rCUE_STATUS fCUE_STATUS_HOLDING = false ∧ SameRegs [rCUE_STATUS] s t ∧
        t = { s with regs := t.regs, time := { s.time with holdUntil := none } })

/-- A pushed entry that is legal and finds room is put into its queue in the order of TIME; one whose TIME has passed by more than the tolerance is handled at once by its late policy; one that finds no room, has a reserved bit set or an illegal field sets REFUSED and changes nothing else. FLUSH empties a queue, RESUME drops a halted queue's head, the pre-wake ungates a queue's unit in IDLE, and a head that is late is counted, skipped or halts its queue as its policy says. -/
def Obligations.CueQueueCommands : Prop :=
  (∀ (s : State) (q : QueueId) (w : Word) (e : CueEntry), e = CueEntry.ofWords (s.cq q.num).w0 (s.cq q.num).w1 (s.cq q.num).w2 w → (s.cq q.num).entries.length < queueCap q → entryReserved (s.cq q.num).w2 = false → legalEntry s q e = true → s.now ≤ e.time + s.tol → 
      exec (.cueqPush q w) s = .next (s.setCq q.num { s.cq q.num with entries := insertEntry e (s.cq q.num).entries })) ∧
  (∀ (s : State) (q : QueueId) (w : Word) (e : CueEntry), e = CueEntry.ofWords (s.cq q.num).w0 (s.cq q.num).w1 (s.cq q.num).w2 w → (s.cq q.num).entries.length < queueCap q → entryReserved (s.cq q.num).w2 = false → legalEntry s q e = true → e.time + s.tol < s.now → e.late = 0 → 
      exec (.cueqPush q w) s = .next ((s.setCq q.num { s.cq q.num with entries := insertEntry { e with counted := true } (s.cq q.num).entries }).countLate q e)) ∧
  (∀ (s : State) (q : QueueId) (w : Word) (e : CueEntry), e = CueEntry.ofWords (s.cq q.num).w0 (s.cq q.num).w1 (s.cq q.num).w2 w → (s.cq q.num).entries.length < queueCap q → entryReserved (s.cq q.num).w2 = false → legalEntry s q e = true → e.time + s.tol < s.now → e.late = 1 → 
      exec (.cueqPush q w) s = .next (if e.period = 0 then s.countMiss q else
        (s.countMiss q).setCq q.num { s.cq q.num with entries := insertEntry (e.firstFuture s.now) (s.cq q.num).entries })) ∧
  (∀ (s : State) (q : QueueId) (w : Word) (e : CueEntry), e = CueEntry.ofWords (s.cq q.num).w0 (s.cq q.num).w1 (s.cq q.num).w2 w → (s.cq q.num).entries.length < queueCap q → entryReserved (s.cq q.num).w2 = false → legalEntry s q e = true → e.time + s.tol < s.now → e.late = 2 → 
      exec (.cueqPush q w) s = .next ((s.setCq q.num { s.cq q.num with entries := e :: (s.cq q.num).entries }).haltQueue q e)) ∧
  (∀ (s : State) (q : QueueId) (w : Word), (queueCap q ≤ (s.cq q.num).entries.length ∨ entryReserved (s.cq q.num).w2 = true ∨
        legalEntry s q (CueEntry.ofWords (s.cq q.num).w0 (s.cq q.num).w1 (s.cq q.num).w2 w) = false) → 
      exec (.cueqPush q w) s = .next (s.setFld (rCUEQ_STAT (queueGroup q)) fCUEQ_STAT_REFUSED 1)) ∧
  (∀ (s : State) (q : QueueId), 
      exec (.cueqFlush q) s = .next (s.setCq q.num { s.cq q.num with entries := [], halted := false })) ∧
  (∀ (s : State) (q : QueueId), (s.cq q.num).halted = true → 
      exec (.cueqResume q) s = .next (s.setCq q.num { s.cq q.num with entries := (s.cq q.num).entries.tail, halted := false })) ∧
  (∀ (s : State) (q : QueueId) (e : CueEntry), (s.cq q.num).entries.head? = some e → s.power.st = .idle → e.time ≤ s.now + 256 → q.num ∉ s.power.ungated → 
      exec (.cuePrewake q) s = .next { s with power := { s.power with ungated := s.power.ungated ++ [q.num] } }) ∧
  (∀ (s : State) (q : QueueId) (e : CueEntry) (l : List CueEntry), (s.cq q.num).entries = e :: l → (s.cq q.num).halted = false → s.isLate e = true → s.holding = false → s.queueRuns q = true → s.fabWaits e = false → e.late = 0 → e.counted = false → 
      exec (.cueLate q) s = .next ((s.setCq q.num { s.cq q.num with entries := { e with counted := true } :: l }).countLate q e)) ∧
  (∀ (s : State) (q : QueueId) (e : CueEntry) (l : List CueEntry), (s.cq q.num).entries = e :: l → (s.cq q.num).halted = false → s.isLate e = true → s.holding = false → s.queueRuns q = true → s.fabWaits e = false → e.late = 1 → 
      exec (.cueLate q) s = .next ((s.countMiss q).setCq q.num ((s.cq q.num).pop (fun x => x.firstFuture s.now)))) ∧
  (∀ (s : State) (q : QueueId) (e : CueEntry) (l : List CueEntry), (s.cq q.num).entries = e :: l → (s.cq q.num).halted = false → s.isLate e = true → s.holding = false → s.queueRuns q = true → s.fabWaits e = false → e.late ≠ 0 → e.late ≠ 1 → 
      exec (.cueLate q) s = .next (s.haltQueue q e))

/-- A cue that may start leaves its queue (a periodic one stands in it with its next time) and has the effect of its action: nothing for NOP, an event record for HOST_EVENT, the opening and closing of a NoC window, the launch of a DMA channel, a descriptor for the frond job queue, the release of a task context, a pending VPP interrupt, the release of a barrier, an FSYNC pulse, a sensor write list, the binding of an ISP set, a wake source. -/
def Obligations.CueActions : Prop :=
  (∀ (s : State) (e : CueEntry) (q : QueueId), s.firing q 0x00 = some e → 
      exec (.nop q) s = .next (s.taken q e)) ∧
  (∀ (s : State) (e : CueEntry), s.firing .hub 0x0D = some e → 
      ∃ t, exec .hostEvent s = .next t ∧
        Posted (bitsOf e.arg 15 0) e.owner (Config.cueEventField (s.taken .hub e).freeTick % 256) (Config.cueEventField ((s.taken .hub e).freeTick + 1))
          { s.taken .hub e with freeTick := (s.taken .hub e).freeTick + 2 } t) ∧
  (∀ (s : State) (e : CueEntry) (n : Nat), s.firing .hub 0x06 = some e → bitsOf e.arg 3 0 = n → ((s.taken .hub e).window n).booked = true → 
      exec (.nocWindowOpen) s = .next ((s.taken .hub e).setWindow n { (s.taken .hub e).window n with opened := some (s.taken .hub e).time.ns })) ∧
  (∀ (s : State) (e : CueEntry) (n : Nat), s.firing .hub 0x07 = some e → bitsOf e.arg 3 0 = n → 
      exec (.nocWindowClose) s = .next ((s.taken .hub e).setWindow n { (s.taken .hub e).window n with opened := none })) ∧
  (∀ (s : State) (e : CueEntry) (q : QueueId), s.firing q 0x01 = some e → ((s.taken q e).chan ((s.taken q e).queueEngine q) (bitsOf e.arg 5 0)).launchPend = false → 
      exec (.dmaLaunch q) s = .next ((s.taken q e).dmaLaunch ((s.taken q e).queueEngine q) (bitsOf e.arg 5 0))) ∧
  (∀ (s : State) (e : CueEntry) (b : Fin 8), s.firing (.core b) 0x02 = some e → (s.taken (.core b) e).frondFull b.val = false → 
      exec (.frondJob b) s = .next ((s.taken (.core b) e).frondPush b.val (bitsOf e.arg 15 0))) ∧
  (∀ (s : State) (e : CueEntry) (b : Fin 8), s.firing (.core b) 0x03 = some e → (s.taken (.core b) e).ctxSt ((s.taken (.core b) e).phys b.val) (bitsOf e.arg 1 0) = 0 → 
      exec (.taskStart b) s = .next ((s.taken (.core b) e).taskStart ((s.taken (.core b) e).phys b.val) (bitsOf e.arg 1 0))) ∧
  (∀ (s : State) (e : CueEntry) (b : Fin 8), s.firing (.core b) 0x04 = some e → 
      exec (.vppInt b) s = .next ((s.taken (.core b) e).raiseInt b.val (bitsOf e.arg 4 0))) ∧
  (∀ (s : State) (e : CueEntry), s.firing .hub 0x05 = some e → 
      exec (.barrierRelease) s = .next ((s.taken .hub e).barCue (bitsOf e.arg 4 0) (e.time + (s.taken .hub e).tol))) ∧
  (∀ (s : State) (e : CueEntry) (p : Fin 12), s.firing (.port p) 0x08 = some e → 
      exec (.fsyncPulse p) s = .next ((s.taken (.port p) e).fsyncPulse (bitsOf e.arg 3 0) (bitsOf e.arg 15 8))) ∧
  (∀ (s : State) (e : CueEntry) (p : Fin 12), s.firing (.port p) 0x09 = some e → (s.taken (.port p) e).i2cBusy p.val = false → 
      exec (.sensorWrite p) s = .next ((s.taken (.port p) e).i2cStartList p.val (bitsOf e.arg 7 0))) ∧
  (∀ (s : State) (e : CueEntry) (p : Fin 12), s.firing (.port p) 0x0A = some e → s.power.st ≠ .sleep → s.power.st ≠ .waking → 
      exec (.ispApply p) s = .next ((s.taken (.port p) e).bindIsp (4 * p.val + bitsOf e.arg 9 8) (bitsOf e.arg 5 0))) ∧
  (∀ (s : State) (e : CueEntry), s.firing .aon 0x0C = some e → 
      exec (.wake) s = .next ((s.taken .aon e).wakeFire 0))

/-- At T the strobe of an armed set switches every sealed member and the set is APPLIED, whether the hub cue that names the set fires or the strobe comes on its own; a set with an unsealed member fails with APPLY_ABORTED; a fabric share without COMMIT by T - 1 ms is cancelled; a report reaches the time master; COMMIT marks every armed share of its set whose deadline has not passed. -/
def Obligations.WingsEvents : Prop :=
  (∀ (s : State) (n : Fin 64) (e : CueEntry), s.firing .hub 0x0B = some e → bitsOf e.arg 5 0 = n.val → (s.taken .hub e).awake = true → (s.taken .hub e).strobeDue n.val = true → 
      exec (.wingsApply n) s = .next ((s.taken .hub e).strobe n.val)) ∧
  (∀ (s : State) (n : Fin 64), s.firing .hub 0x0B = none → s.awake = true → s.strobeDue n.val = true → (s.wset n.val).members.all (fun m => m.isSealed) = true → 
      ∃ t, exec (.wingsApply n) s = .next t ∧ t = (s.applyMembers (s.wset n.val)).setWset n.val { s.wset n.val with
          st := .applied, appliedAt := s.now, members := (s.wset n.val).members.map (fun (m : WMember) => { m with isSealed := false }) }) ∧
  (∀ (s : State) (n : Fin 64) (i : Nat), s.firing .hub 0x0B = none → s.awake = true → s.strobeDue n.val = true → (s.wset n.val).members.findIdx? (fun m => !m.isSealed) = some i → 
      exec (.wingsApply n) s = .next (((s.setWset n.val { s.wset n.val with failedMember := some i }).failSet n.val 0x11).recheckLater (s.wset n.val).time)) ∧
  (∀ (s : State) (n : Fin 64), (s.wset n.val).st = .armed → (s.wset n.val).fabric ≠ 0 → (s.wset n.val).committed = false → (s.wset n.val).time ≤ s.now + 1000000 → 
      exec (.wingsCommitDeadline n) s = .next ((s.failSet n.val 0x10).recheckLater (s.wset n.val).time)) ∧
  (∀ (s : State) (l : Fin 7) (m : LinkMsg), s.headMsg l.val 0x38 = some m → s.master = true → 
      exec (.wingsRpt l) s = .next ((s.freeRx l.val m).takeReport m)) ∧
  (∀ (s : State) (l : Fin 7) (m : LinkMsg), s.headMsg l.val 0x39 = some m → 
      exec (.wingsCommit l) s = .next ((s.freeRx l.val m).mapWings (fun x =>
        if x.st = .armed ∧ x.fabric = m.field 16 2 ∧ m.field 16 2 ≠ 0 ∧ s.now + 1000000 ≤ x.time then { x with committed := true } else x)))

/-- A descriptor push that names an aligned offset, finds room, is read without error and passes the checks joins the queue; the next job leaves it once its ranges are granted; a queued real-time job takes the idle plane of a running batch job, which is set aside; each block that arrives and carries the right tag and group size enters the plane, and one that does not halts the job. -/
def Obligations.FrondQueue : Prop :=
  (∀ (s s1 : State) (b : Fin 9) (w : Word) (bytes : List Byte) (j : FrondJob), getF w fFROND_JOB_Q_DESC_OFS % 32 = 0 → s.frondFull b.val = false → (s.readMem (corePlace (s.phys b.val) (0x300000 + getF w fFROND_JOB_Q_DESC_OFS)) 64 = (some bytes, s1)) → (j = { ofs := getF w fFROND_JOB_Q_DESC_OFS, d := (List.range 16).map (fun (i : Nat) => ofLeBytes ((bytes.drop (4 * i)).take 4)) }) → j.check = 0 → 
      exec (.frondJobQWrite b w) s = .next (s1.setFrond (s.phys b.val) { s1.frond (s.phys b.val) with queue := (s1.frond (s.phys b.val)).queue ++ [j] })) ∧
  (∀ (s : State) (b : Fin 9) (w : Word), getF w fFROND_JOB_Q_DESC_OFS % 32 = 0 → s.frondFull b.val = true → 
      exec (.frondJobQWrite b w) s = .next (s.frondRefuse b.val 4 0 (getF w fFROND_JOB_Q_DESC_OFS))) ∧
  (∀ (s s1 : State) (b : Fin 9) (j j1 : FrondJob), (s.frond (s.phys b.val)).next = some j → (s.frond (s.phys b.val)).cur = none → (s.frond (s.phys b.val)).halted = [] → s.frondFenced b.val = false → ((s.frond (s.phys b.val)).saved = none ∨ j.rt = true) → (s.frondLeave (s.phys b.val) j = (s1, some j1)) → 
      exec (.frondJobStart b) s = .next (s1.setFrond (s.phys b.val) { s1.frond (s.phys b.val) with cur := some j1 })) ∧
  (∀ (s s1 : State) (b : Fin 9) (c j j1 : FrondJob), (s.frond (s.phys b.val)).cur = some c → (s.frond (s.phys b.val)).queue.find? FrondJob.rt = some j → c.rt = false → c.bad = none → (s.frond (s.phys b.val)).saved = none → (s.frond (s.phys b.val)).halted = [] → s.frondFenced b.val = false → (s.frondLeave (s.phys b.val) j = (s1, some j1)) → 
      exec (.frondRtPreempt b) s = .next (s1.setFrond (s.phys b.val) { s1.frond (s.phys b.val) with cur := some j1, saved := some { c with plane := [] } })) ∧
  (∀ (s s1 : State) (b : Fin 9) (j j1 : FrondJob) (blk : List Byte), (s.frond (s.phys b.val)).cur = some j → j.bad = none → j.pass < j.kt → j.plane.length < j.blocks j.pass → (s.frond (s.phys b.val)).halted = [] → (s.nextBlock b.val j = (some (some blk), s1)) → j.blockOk (j.blockNo j.pass j.plane.length) blk = true → j1 = { j with plane := j.plane ++ [blk] } → 
      exec (.frondWeightBlockLoad b) s = .next (if j1.plane.length = j.blocks j.pass then
          (s1.setFrond (s.phys b.val) { s1.frond (s.phys b.val) with cur := some j1 }).tileLoaded (s.phys b.val) j1
        else s1.setFrond (s.phys b.val) { s1.frond (s.phys b.val) with cur := some j1 })) ∧
  (∀ (s s1 : State) (b : Fin 9) (j : FrondJob) (blk : List Byte), (s.frond (s.phys b.val)).cur = some j → j.bad = none → j.pass < j.kt → j.plane.length < j.blocks j.pass → (s.frond (s.phys b.val)).halted = [] → (s.nextBlock b.val j = (some (some blk), s1)) → j.blockOk (j.blockNo j.pass j.plane.length) blk = false → 
      exec (.frondWeightBlockLoad b) s = .next (s1.frondHalt b.val { j with bad := some (2, j.pass,
        if j.wsrc = 0 then (j.tileAddr j.pass + j.plane.length * j.blockBytes) / 2 else j.tileAddr j.pass + j.plane.length * j.blockBytes) }))

/-- When the tile is loaded and nothing waits, the planes swap and the pass runs over every row; the last pass hands the job to the output stage. A completed job releases its ranges, counts, shows its tag, raises its interrupt where it asks and has its clipping tested; a bus error halts a job; RESUME and FLUSH act on halted and queued jobs. -/
def Obligations.FrondRun : Prop :=
  (∀ (s s1 : State) (b : Fin 9) (j : FrondJob) (rows : List (List Byte)) (acc : List (List (Int × Bool))), (s.frond (s.phys b.val)).cur = some j → j.bad = none → j.pass < j.kt → j.blocks j.pass ≤ j.plane.length → (s.frond (s.phys b.val)).halted = [] → ([j.actRange] ++ j.biasRange ++ [j.outRange]).any (fun (r : Nat × Nat) => s.coreSpan (s.phys b.val) r.1 (r.2 - r.1) == .wait) = false → (s.actRows (s.phys b.val) j 0 j.m = (.ok rows, s1)) → (acc = (rows.zip (if j.pass = 0 then List.replicate j.m (List.replicate j.n ((0 : Int), false)) else j.acc)).map (fun (x : List Byte × List (Int × Bool)) =>
          ((List.range j.n).zip x.2).map (fun (y : Nat × (Int × Bool)) => j.column x.1 y.1 y.2))) → 
      exec (.frondPassStart b) s = .next (if j.pass + 1 = j.kt then s1.frondOutput (s.phys b.val) j acc else
        s1.setFrond (s.phys b.val) { s1.frond (s.phys b.val) with cur := some { j with pass := j.pass + 1, plane := [], acc := acc, since := s.time.ns } })) ∧
  (∀ (s : State) (b : Fin 9) (j : FrondJob) (rest : List FrondJob) (s1 s2 : State), (s.frond (s.phys b.val)).drain = j :: rest → j.bad = none → s1 = (s.setFrond (s.phys b.val) { s.frond (s.phys b.val) with drain := rest }).sbReleaseAll (s.phys b.val) (j.agent.getD 0) → s2 = (s1.countWrap (rFROND_DONE_CNT (s.phys b.val)) wholeReg).setFld (rFROND_STATUS (s.phys b.val)) fFROND_STATUS_LAST_TAG (j.f 15 15 0) → 
      exec (.frondJobComplete b) s = .next ((if j.f 0 26 26 = 1 then s2.raiseInt b.val 16 else s2).clipTest b.val j)) ∧
  (∀ (s : State) (b : Fin 9) (j : FrondJob), ((s.frond (s.phys b.val)).drain ++ (s.frond (s.phys b.val)).cur.toList ++ (s.frond (s.phys b.val)).saved.toList).find? (fun j => j.bad.isSome) = some j → 
      exec (.frondBusError b) s = .next (s.frondHalt b.val j)) ∧
  (∀ (s : State) (b : Fin 9), (s.frond (s.phys b.val)).halted ≠ [] → 
      exec (.frondResume b) s = .next (s.frondResume b.val)) ∧
  (∀ (s : State) (b : Fin 9), 
      exec (.frondFlush b) s = .next (s.frondFlush (s.phys b.val)))

/-- A tile that has arrived whole is marked so and the buffer swept of tiles that no job expects; the oldest tile that has not been forwarded goes to the next member once that has a free slot, and no further than the last member before the head; a member that has waited CHAIN_WAIT x 256 cycles reads its remaining tiles itself. -/
def Obligations.ChainCommands : Prop :=
  (∀ (s : State) (b : Fin 9), 
      exec (.chainTileArrive b) s = .next ((s.setChainBuf (s.phys b.val) ((s.chainBuf (s.phys b.val)).map (fun (t : ChainTile) => { t with filling := false }))).chainSweep (s.phys b.val))) ∧
  (∀ (s : State) (b : Fin 9) (t : ChainTile) (q : Nat), (s.chainBuf (s.phys b.val)).find? (fun t => !t.forwarded && !t.filling) = some t → s.chainNext (s.phys b.val) = some q → s.flag (rCHAIN_CFG q) fCHAIN_CFG_HEAD = false → (s.chainBuf q).length < 2 → 
      exec (.chainTileForward b) s = .next ((s.setChainBuf (s.phys b.val)
          ((s.chainBuf (s.phys b.val)).map (fun (y : ChainTile) => if y = t then { y with forwarded := true } else y))).setChainBuf q (s.chainBuf q ++ [⟨t.dpa, t.data, true, false, false⟩]))) ∧
  (∀ (s : State) (b : Fin 9) (t : ChainTile), (s.chainBuf (s.phys b.val)).find? (fun t => !t.forwarded && !t.filling) = some t → ((∃ q, s.chainNext (s.phys b.val) = some q ∧ s.flag (rCHAIN_CFG q) fCHAIN_CFG_HEAD = true) ∨ s.chainNext (s.phys b.val) = none) → 
      exec (.chainTileForward b) s = .next (s.setChainBuf (s.phys b.val)
          ((s.chainBuf (s.phys b.val)).map (fun (y : ChainTile) => if y = t then { y with forwarded := true } else y)))) ∧
  (∀ (s : State) (b : Fin 9) (j : FrondJob), (s.frond (s.phys b.val)).cur = some j → s.chainMember (s.phys b.val) (s.fld (rCHAIN_CFG (s.phys b.val)) fCHAIN_CFG_ID) = true → s.flag (rCHAIN_CFG (s.phys b.val)) fCHAIN_CFG_HEAD = false → j.wsrc = 2 → j.fallback = false → j.plane = [] → j.pass < j.kt → (s.chainBuf (s.phys b.val)).any (fun t => t.dpa == j.tileAddr j.pass && !t.filling) = false → j.since + s.fld (rCHAIN_CFG (s.phys b.val)) fCHAIN_CFG_WAIT * 256 ≤ s.time.ns → 
      exec (.chainWaitExpire b) s = .next ((s.setFrond (s.phys b.val) { s.frond (s.phys b.val) with cur := some { j with fallback := true } }).chainSweep (s.phys b.val)))

/-- START makes the context at VPP_PC run and clears HALTED; HALT sets it; VPP_INT_SET pends the causes written as 1; a VPP that is neither halted nor waiting nor due an interrupt or a preemption issues the running context's bundle; the running context enters the lowest-numbered enabled cause that is pending at a bundle boundary. -/
def Obligations.VppCommands : Prop :=
  (∀ (s : State) (b : Fin 9), s.canon → 
      ∃ t, exec (.vppStart b) s = .next t ∧ t.halted (s.phys b.val) = false ∧ t = s.vppStart (s.phys b.val) ∧ SameBytes s t) ∧
  (∀ (s : State) (b : Fin 9), s.canon → 
      ∃ t, exec (.vppHalt b) s = .next t ∧ t.halted (s.phys b.val) = true ∧ SameRegs [rVPP_CTL (s.phys b.val)] s t ∧ t = { s with regs := t.regs }) ∧
  (∀ (s : State) (b : Fin 9) (w : Word), s.canon → 
      ∃ t, exec (.vppIntSet b w) s = .next t ∧ t.reg (rVPP_INT_PEND (s.phys b.val)) = s.reg (rVPP_INT_PEND (s.phys b.val)) ||| w ∧
        SameRegs [rVPP_INT_PEND (s.phys b.val)] s t ∧ t = { s with regs := t.regs }) ∧
  (∀ (s : State) (b : Fin 9) (c : Nat), s.halted (s.phys b.val) = false → s.awake = true → (s.schedule (s.phys b.val)).running (s.phys b.val) = some c → ((s.schedule (s.phys b.val)).ctx (s.phys b.val) c).stall = [] → (s.schedule (s.phys b.val)).intDue (s.phys b.val) c = false → (s.schedule (s.phys b.val)).preemptDue (s.phys b.val) c = false → 
      exec (.vppBundleIssue b) s = .next ((s.schedule (s.phys b.val)).issueBundle b.val (s.phys b.val) c)) ∧
  (∀ (s : State) (b : Fin 9) (c cause : Nat), s.running (s.phys b.val) = some c → s.wantedCause (s.phys b.val) = some cause → s.intDue (s.phys b.val) c = true → s.halted (s.phys b.val) = false → s.awake = true → 
      exec (.vppInterruptEntry b) s = .next ((s.setCore (s.phys b.val) { s.core (s.phys b.val) with deferred := 0 }).enter (s.phys b.val) c cause (s.ctx (s.phys b.val) c).pc false))

/-- The running batch context whose scoreboard wait has exceeded SW_THRESH moves to WAITING and the scheduler picks another; a waiting context whose wait has cleared is READY; a due preemption makes the running batch context READY; a real-time context that waits past its enabled deadline has its miss counted once for the wait. -/
def Obligations.ContextCommands : Prop :=
  (∀ (s : State) (b : Fin 9) (c : Nat), s.running (s.phys b.val) = some c → (s.sboard (s.phys b.val)).waits.any (fun w => w.who == .vpp c && decide (w.since + s.fld (rVPP_CTX_CTL (s.phys b.val)) fVPP_CTX_CTL_SW_THRESH < s.time.ns)) = true → s.rtCtx (s.phys b.val) c = false → (s.ctx (s.phys b.val) c).flight = [] → s.halted (s.phys b.val) = false → (List.range 4).any (fun d => s.ctxSt (s.phys b.val) d == 1) = true → 
      exec (.contextSwitchOut b) s = .next ((s.setCtxSt (s.phys b.val) c 3).schedule (s.phys b.val))) ∧
  (∀ (s : State) (b : Fin 9) (c : Fin 4), s.canon → s.ctxSt (s.phys b.val) c.val = 3 → s.sbWaits (s.phys b.val) c.val = false → 
      ∃ t, exec (.contextWaitClear b c) s = .next t ∧ t.ctxSt (s.phys b.val) c.val = 1 ∧ (∀ d : Fin 4, d ≠ c → t.ctxSt (s.phys b.val) d.val = s.ctxSt (s.phys b.val) d.val) ∧
        SameRegs [rVPP_CTX_STAT (s.phys b.val)] s t ∧ t = { s with regs := t.regs }) ∧
  (∀ (s : State) (b : Fin 9) (c : Nat), s.running (s.phys b.val) = some c → s.preemptDue (s.phys b.val) c = true → s.halted (s.phys b.val) = false → 
      exec (.contextPreempt b) s = .next ((s.setCtxSt (s.phys b.val) c 1).schedule (s.phys b.val))) ∧
  (∀ (s : State) (b : Fin 9) (c : Fin 4) (i : Nat) (w : SbWait), s.rtCtx (s.phys b.val) c.val = true → s.deadlinePast (s.phys b.val) c.val = true → (s.sboard (s.phys b.val)).waits.findIdx? (fun w => w.who == .vpp c.val && !w.reported) = some i → (s.sboard (s.phys b.val)).waits[i]? = some w → 
      exec (.vppDeadlineMiss b c) s = .next ((s.setSboard (s.phys b.val) { s.sboard (s.phys b.val) with
          waits := (s.sboard (s.phys b.val)).waits.set i { w with reported := true } }).deadlineMiss (s.phys b.val) c.val)) ∧
  (∀ (s : State) (b : Fin 9) (c : Fin 4), s.rtCtx (s.phys b.val) c.val = true → s.deadlinePast (s.phys b.val) c.val = true → (s.sboard (s.phys b.val)).waits.findIdx? (fun w => w.who == .vpp c.val && !w.reported) = none → (s.ctx (s.phys b.val) c.val).regWait.isSome = true → (s.ctx (s.phys b.val) c.val).regReported = false → 
      exec (.vppDeadlineMiss b c) s = .next ((s.setCtx (s.phys b.val) c.val { s.ctx (s.phys b.val) c.val with regReported := true }).deadlineMiss (s.phys b.val) c.val))

/-- A requester with a free share of tags obtains one and its oldest request goes out; an access that is first of its order and has not been answered is performed at its target; an answered store leaves, its tag free and POSTED one lower, and an error sets PERR and latches the DPA; when every answer of a bundle's accesses is there, the bundle takes effect. -/
def Obligations.RemoteCommands : Prop :=
  (∀ (s : State) (r : Fin 15) (x : RemoteAccess), 0 < (s.tag r.val).waiting → (s.tag r.val).held < (s.tag r.val).share → s.remotes.find? (fun (x : RemoteAccess) => x.slot == r.val && x.untagged) = some x → 
      exec (.tagWaitIssue r) s = .next { s.setTag r.val { s.tag r.val with held := (s.tag r.val).held + 1, waiting := (s.tag r.val).waiting - 1 } with
          remotes := s.remotes.map (fun (y : RemoteAccess) => if y.id = x.id then { y with untagged := false } else y) }) ∧
  (∀ (s : State) (r : Fin 15), 0 < (s.tag r.val).waiting → (s.tag r.val).held < (s.tag r.val).share → s.remotes.find? (fun (x : RemoteAccess) => x.slot == r.val && x.untagged) = none → 
      exec (.tagWaitIssue r) s = .next (s.setTag r.val { s.tag r.val with held := (s.tag r.val).held + 1, waiting := (s.tag r.val).waiting - 1 })) ∧
  (∀ (s : State) (id : Nat) (r : RemoteAccess), s.remotes.find? (fun (r : RemoteAccess) => r.id == id) = some r → r.answered = false → r.untagged = false → s.remoteFirst r = true → 
      exec (.remoteAccessArrive id) s = .next (s.arriveRemote r)) ∧
  (∀ (s : State) (id : Nat) (r : RemoteAccess), s.remotes.find? (fun (r : RemoteAccess) => r.id == id) = some r → r.op = .store → r.answered = true → r.failed = false → 
      ∃ t, exec (.remoteStoreAck id) s = .next t ∧ t.remotes = s.remotes.filter (fun (x : RemoteAccess) => x.id != id) ∧
        t.tags = (s.setTag r.slot { s.tag r.slot with held := (s.tag r.slot).held - 1 }).tags ∧ SameRegs [rCORE_RWIN_STAT (s.phys r.slot)] s t ∧
        t = { s with regs := t.regs, tags := t.tags, remotes := t.remotes }) ∧
  (∀ (s t : State) (id : Nat) (r : RemoteAccess), s.remotes.find? (fun (r : RemoteAccess) => r.id == id) = some r → r.op = .store → r.answered = true → r.failed = true → t = ({ s with remotes := s.remotes.filter (fun (x : RemoteAccess) => x.id != id) }).freeTag r.slot → 
      exec (.remoteStoreAck id) s = .next (((((t.setFld (rCORE_RWIN_STAT (s.phys r.slot)) fCORE_RWIN_STAT_POSTED (t.fld (rCORE_RWIN_STAT (s.phys r.slot)) fCORE_RWIN_STAT_POSTED - 1)).setFld
        (rCORE_RWIN_STAT (s.phys r.slot)) fCORE_RWIN_STAT_PERR 1).setReg (rCORE_RWIN_ERR_LO (s.phys r.slot)) (BitVec.ofNat 32 r.dpa)).setReg
        (rCORE_RWIN_ERR_HI (s.phys r.slot)) (BitVec.ofNat 32 (r.dpa / 2 ^ 32))).setCtx (s.phys r.slot) r.ctx { t.ctx (s.phys r.slot) r.ctx with perr := true })) ∧
  (∀ (s : State) (b : Fin 9) (c : Fin 4) (mine : List RemoteAccess) (u : State), (s.ctx (s.phys b.val) c.val).stall ≠ [] → mine = s.remotes.filter (fun r => (s.ctx (s.phys b.val) c.val).stall.contains r.id) → mine.length = (s.ctx (s.phys b.val) c.val).stall.length → mine.all (fun r => r.answered) = true → u = { ((s.ctx (s.phys b.val) c.val).stall.foldl (fun (t : State) _ => t.freeTag b.val) s) with
          remotes := ((s.ctx (s.phys b.val) c.val).stall.foldl (fun (t : State) _ => t.freeTag b.val) s).remotes.filter (fun r => !(s.ctx (s.phys b.val) c.val).stall.contains r.id) } → 
      exec (.remoteLoadReturn b c) s = .next ((u.setCtx (s.phys b.val) c.val { s.ctx (s.phys b.val) c.val with stall := [] }).decodeAt b.val (s.phys b.val) c.val (fun t y ops =>
        match (List.range mine.length).find? (fun k => ((mine[k]?).map (·.failed)).getD false) with
        | some k => t.trap (s.phys b.val) c.val 0x23 (((((ops.flatMap (t.accsOf b.val (s.phys b.val) y)).filter Hop.farRead)[k]?).map (·.addr))) none
        | none => t.finish b.val (s.phys b.val) c.val y (mine.map (·.answer)) ops)))

/-- A bank whose power-down request is pending and which nothing uses is switched off: its ON and TRANS bits read 0; 4,096 core cycles after the request it is withdrawn, PWR_FAIL is set and BANK_BUSY recorded; a bank whose ramp has ended is on and every byte of it reads zero, and no byte outside it changes. The same of the ways of a shared store. The oldest corrected word is written back and holds no single-bit error. -/
def Obligations.BankCommands : Prop :=
  (∀ (s : State) (u : Fin 9) (i : Fin 16) (t : BankTrans), s.bankTrans (16 * s.phys u.val + i.val) = some t → t.up = false → s.bankBusy (s.phys u.val) i.val = false → 
      exec (.bankSwitchOff false u i) s = .next (({ s with banks := Cells.erase s.banks (16 * s.phys u.val + i.val) }.setFld (rLS_PWR_STAT (s.phys u.val)) ⟨i.val, i.val⟩ 0).setFld (rLS_PWR_STAT (s.phys u.val)) ⟨12 + i.val, 12 + i.val⟩ 0)) ∧
  (∀ (s : State) (u : Fin 9) (i : Fin 16) (t : BankTrans), s.bankTrans (256 + 16 * u.val + i.val) = some t → t.up = false → s.wayBusy u.val i.val = false → 
      exec (.bankSwitchOff true u i) s = .next ((s.setWayTrans u.val i.val none).setFld (rSS_WAY_STAT u.val) ⟨i.val, i.val⟩ 0)) ∧
  (∀ (s : State) (u : Fin 9) (i : Fin 16) (t : BankTrans), s.bankTrans (16 * s.phys u.val + i.val) = some t → t.up = false → t.since + 4096 ≤ s.time.ns → 
      exec (.powerDownWithdrawn false u i) s = .next ((({ s with banks := Cells.erase s.banks (16 * s.phys u.val + i.val) }.setFld (rLS_PWR_STAT (s.phys u.val)) ⟨12 + i.val, 12 + i.val⟩ 0).setFld (rLS_PWR_FAIL (s.phys u.val)) ⟨i.val, i.val⟩ 1).lichenFw 0x0106 u.val i.val 0 0)) ∧
  (∀ (s : State) (u : Fin 9) (i : Fin 16) (t : BankTrans), s.bankTrans (256 + 16 * u.val + i.val) = some t → t.up = false → t.since + 4096 ≤ s.time.ns → 
      exec (.powerDownWithdrawn true u i) s = .next (((s.setWayTrans u.val i.val none).setFld (rSS_PWR_FAIL u.val) ⟨i.val, i.val⟩ 1).lichenFw 0x0106 (0x10 + u.val) i.val 0 0)) ∧
  (∀ (s : State) (u : Fin 9) (i : Fin 12) (t : BankTrans), s.bankTrans (16 * s.phys u.val + i.val) = some t → t.up = true → t.since + 1524 ≤ s.time.ns → 
      ∃ v, exec (.bankPowerUpDone false u ⟨i.val, by omega⟩) s = .next v ∧
        (∀ k, corePlace (s.phys u.val) (i.val * 0x40000) ≤ k → k < corePlace (s.phys u.val) ((i.val + 1) * 0x40000) → v.byte k = 0) ∧
        (∀ k, (k < corePlace (s.phys u.val) (i.val * 0x40000) ∨ corePlace (s.phys u.val) ((i.val + 1) * 0x40000) ≤ k) → v.byte k = s.byte k) ∧
        SameRegs [rLS_PWR_STAT (s.phys u.val), rLS_PWR_CTL (s.phys u.val)] s v) ∧
  (∀ (s : State) (u : Fin 9) (i : Fin 16) (t : BankTrans), s.bankTrans (16 * s.phys u.val + i.val) = some t → t.up = true → t.since + 1524 ≤ s.time.ns → i.val < 12 → 
      exec (.bankPowerUpDone false u i) s = .next ((((({ s with banks := Cells.erase s.banks (16 * s.phys u.val + i.val) }).zeroRange (corePlace (s.phys u.val) (i.val * 0x40000)) (corePlace (s.phys u.val) ((i.val + 1) * 0x40000))).setFld (rLS_PWR_STAT (s.phys u.val)) ⟨i.val, i.val⟩ 1).setFld (rLS_PWR_STAT (s.phys u.val)) ⟨12 + i.val, 12 + i.val⟩ 0).setBankOn (s.phys u.val)
        ((((({ s with banks := Cells.erase s.banks (16 * s.phys u.val + i.val) }).zeroRange (corePlace (s.phys u.val) (i.val * 0x40000)) (corePlace (s.phys u.val) ((i.val + 1) * 0x40000))).setFld (rLS_PWR_STAT (s.phys u.val)) ⟨i.val, i.val⟩ 1).setFld (rLS_PWR_STAT (s.phys u.val)) ⟨12 + i.val, 12 + i.val⟩ 0).fld (rLS_PWR_CTL (s.phys u.val)) fLS_PWR_CTL_BANK_ON))) ∧
  (∀ (s v : State) (u : Fin 9) (i : Fin 16) (t : BankTrans), s.bankTrans (256 + 16 * u.val + i.val) = some t → t.up = true → t.since + 2548 ≤ s.time.ns → (v = ((s.setWayTrans u.val i.val none).zeroRange (0x4800000000 + u.val * 0x2000000 + i.val * 0x100000)
          (0x4800000000 + u.val * 0x2000000 + (i.val + 1) * 0x100000)).setFld (rSS_WAY_STAT u.val) ⟨i.val, i.val⟩ 1) → v.wayMode u.val i.val ≠ 0 → 
      exec (.bankPowerUpDone true u i) s = .next (v)) ∧
  (∀ (s : State) (w : Nat) (l : List Nat), s.writeBacks = w :: l → 
      exec (.eccCorrectedWriteback) s = .next ({ s with writeBacks := l, ecc := s.ecc.filter (fun (x : Nat × Nat) => !(x.1 == w && x.2 == 1)) }))

/-- SS_INVALIDATE_GO from a core slot acts on its own cluster and from the Prompter on the cluster it names; an invalidation that has run for its time ends and the oldest queued one starts; a fill that returns is allocated unless an invalidation that covers its line started after it or its way has left CACHE, and then the not-filled counter rises. -/
def Obligations.CacheCommands : Prop :=
  (∀ (s : State) (b : Fin 10) (c : Fin 2), 
      exec (.ssInvalidateGo b c) s = .next (s.invGo (if b.val = 9 then c.val else clusterOf b.val) b.val)) ∧
  (∀ (s : State) (c : Fin 2) (v : Invalidation), (s.cache c.val).running = some v → (v.since + (if v.all then 16400 else v.lines + 16) ≤ s.time.ns) → (s.cache c.val).queued = [] → 
      exec (.ssInvalidateDone c) s = .next ((s.setFld (s.invStat c.val v.source) fCORE_SS_INV_STAT_BUSY 0).setCache c.val { s.cache c.val with running := none })) ∧
  (∀ (s : State) (c : Fin 2) (v w : Invalidation) (l : List Invalidation), (s.cache c.val).running = some v → (v.since + (if v.all then 16400 else v.lines + 16) ≤ s.time.ns) → (s.cache c.val).queued = w :: l → 
      exec (.ssInvalidateDone c) s = .next (((if (w :: l).any (fun q => q.source == v.source) then s else s.setFld (s.invStat c.val v.source) fCORE_SS_INV_STAT_BUSY 0).setCache c.val
        { s.cache c.val with running := none, queued := l }).startInv c.val w)) ∧
  (∀ (s v : State) (c : Fin 2) (f : Fill) (l : List Fill) (d : List Byte), (s.cache c.val).fills = f :: l → ((s.setCache c.val { s.cache c.val with fills := l }).readMem (64 * f.line) 64 = (some d, v)) → 
      exec (.cacheFill c) s = .next (let u : State := { v with remotes := v.remotes.map (fun (r : RemoteAccess) =>
          if r.id = f.access then { r with answered := true, waiting := false, answer := (d.drop (r.dpa % 64)).take r.len } else r) }
        if ((s.cache c.val).running.any (fun v => v.covers f.line && decide (f.seq < v.seq)) || !(u.cacheWays c.val).contains f.way) = true then u.count (rSS_NOFILL_CNT c.val)
        else u.cacheAlloc c.val f.line f.way d))

/-- Ranges that are clear are granted at once and otherwise the agent waits, with the time limit of SB_CFG; a release lowers the entry's count by 1 or narrows the registrant's own range; the first waiter that is clear proceeds, in the order of arrival; a wait that exceeds its limit is counted, latched in SB_FAULT, and a remote access then fails. -/
def Obligations.ScoreboardCommands : Prop :=
  (∀ (s : State) (b : Fin 9) (agent : Nat) (ws rs : List (Nat × Nat)), (s.sboard (s.phys b.val)).clear ws rs = true → 
      exec (.sbRegister b agent ws rs) s = .next (s.sbGrant (s.phys b.val) agent ws rs)) ∧
  (∀ (s : State) (b : Fin 9) (agent : Nat) (ws rs : List (Nat × Nat)), (s.sboard (s.phys b.val)).clear ws rs = false → 
      exec (.sbRegister b agent ws rs) s = .next (s.setSboard (s.phys b.val) { s.sboard (s.phys b.val) with
          waits := (s.sboard (s.phys b.val)).waits ++ [⟨.reg agent, ws, rs, s.time.ns, (s.reg (rSB_CFG (s.phys b.val))).toNat, false, false⟩] })) ∧
  (∀ (s : State) (b : Fin 9) (agent : Nat) (e : Fin 64), (⟨e.val, true⟩ ∈ Cells.get (fun _ => []) (s.sboard (s.phys b.val)).granted agent) → 
      exec (.sbRelease b agent e true none) s = .next (s.setSboard (s.phys b.val) { (s.sboard (s.phys b.val)).setEntry e.val { (s.sboard (s.phys b.val)).entry e.val with w := ((s.sboard (s.phys b.val)).entry e.val).w - 1 } with
          granted := Cells.set (fun _ => []) (s.sboard (s.phys b.val)).granted agent ((Cells.get (fun _ => []) (s.sboard (s.phys b.val)).granted agent).erase ⟨e.val, true⟩) })) ∧
  (∀ (s : State) (b : Fin 9) (agent : Nat) (e : Fin 64), (⟨e.val, false⟩ ∈ Cells.get (fun _ => []) (s.sboard (s.phys b.val)).granted agent) → 
      exec (.sbRelease b agent e false none) s = .next (s.setSboard (s.phys b.val) { (s.sboard (s.phys b.val)).setEntry e.val { (s.sboard (s.phys b.val)).entry e.val with r := ((s.sboard (s.phys b.val)).entry e.val).r - 1 } with
          granted := Cells.set (fun _ => []) (s.sboard (s.phys b.val)).granted agent ((Cells.get (fun _ => []) (s.sboard (s.phys b.val)).granted agent).erase ⟨e.val, false⟩) })) ∧
  (∀ (s : State) (b : Fin 9) (agent lo hi : Nat) (e : Fin 64) (w : Bool) (x : SbEntry), (⟨e.val, w⟩ ∈ Cells.get (fun _ => []) (s.sboard (s.phys b.val)).granted agent) → x = (s.sboard (s.phys b.val)).entry e.val → x.merged = false → x.joined = false → x.used = true → 
      exec (.sbRelease b agent e w (some (lo, hi))) s = .next (s.setSboard (s.phys b.val) ((s.sboard (s.phys b.val)).setEntry e.val { x with lo := max x.lo lo, hi := min x.hi hi }))) ∧
  (∀ (s : State) (b : Fin 9) (w : SbWait) (c : Nat), (s.sboard (s.phys b.val)).nextClear = some w → w.who = .vpp c → 
      exec (.sbWaitClear b) s = .next ((s.setSboard (s.phys b.val) { s.sboard (s.phys b.val) with waits := (s.sboard (s.phys b.val)).waits.erase w }).countBy (rSB_VWAIT_CYC (s.phys b.val)) wholeReg (s.time.ns - w.since))) ∧
  (∀ (s : State) (b : Fin 9) (w : SbWait) (a : Nat), (s.sboard (s.phys b.val)).nextClear = some w → w.who = .reg a → 
      exec (.sbWaitClear b) s = .next ((s.setSboard (s.phys b.val) { s.sboard (s.phys b.val) with waits := (s.sboard (s.phys b.val)).waits.erase w }).sbGrant (s.phys b.val) a w.writes w.reads)) ∧
  (∀ (s : State) (b : Fin 9) (i : Nat) (w : SbWait) (a : Nat), (s.sboard (s.phys b.val)).waits[i]? = some w → w.who = .reg a → w.since + w.limit ≤ s.time.ns → w.timed = false → 
      exec (.sbTimeout b i) s = .next ((((s.count (rSB_TIMEOUT_CNT (s.phys b.val))).setFld (rSB_FAULT (s.phys b.val)) fSB_FAULT_KIND 2).setFld (rSB_FAULT (s.phys b.val)) fSB_FAULT_ENTRY
          ((((s.sboard (s.phys b.val)).blockers w.writes w.reads).head?.map (·.1)).getD 0)).setSboard (s.phys b.val)
          { s.sboard (s.phys b.val) with waits := (s.sboard (s.phys b.val)).waits.set i { w with timed := true, reported := true } })) ∧
  (∀ (s : State) (b : Fin 9) (i : Nat) (w : SbWait) (id : Nat), (s.sboard (s.phys b.val)).waits[i]? = some w → w.who = .remote id → w.since + w.limit ≤ s.time.ns → w.timed = false → 
      exec (.sbTimeout b i) s = .next (((((s.count (rSB_TIMEOUT_CNT (s.phys b.val))).setFld (rSB_FAULT (s.phys b.val)) fSB_FAULT_KIND 1).setFld (rSB_FAULT (s.phys b.val)) fSB_FAULT_ENTRY
          ((((s.sboard (s.phys b.val)).blockers w.writes w.reads).head?.map (·.1)).getD 0)).setSboard (s.phys b.val)
          { s.sboard (s.phys b.val) with waits := (s.sboard (s.phys b.val)).waits.erase w }).answerRemote id false []))

/-- KICK of an enabled channel sets LAUNCH_PEND and an IDLE channel fetches; KICK of a disabled one has no effect. A fetch copies a descriptor whose OWN bit is set, leaves the channel IDLE where it is not set, and halts it where the access fails. A descriptor that fails its checks halts the channel and is counted; one that passes starts and registers its ranges. A sealed set takes over at a descriptor boundary. -/
def Obligations.DmaLaunchCommands : Prop :=
  (∀ (s : State) (b : Fin 10) (n : Fin 64), chanOk (s.engine b.val) n.val = true → s.chEn (s.engine b.val) n.val = true → 
      exec (.dmaKick b n) s = .next (s.modChan (s.engine b.val) n.val (fun x => { x with launchPend := true, fetching := x.fetching || x.st == .idle }))) ∧
  (∀ (s : State) (b : Fin 10) (n : Fin 64), chanOk (s.engine b.val) n.val = true → s.chEn (s.engine b.val) n.val = false → 
      exec (.dmaKick b n) s = .next (s)) ∧
  (∀ (s : State) (b : Fin 10) (n : Fin 64) (d : List Byte) (t : State), chanOk (s.engine b.val) n.val = true → (s.chan (s.engine b.val) n.val).fetching = true → (s.chan (s.engine b.val) n.val).st = .idle → (s.ctrlRead (s.engine b.val) (s.ringSlot (s.engine b.val) n.val) 64 = (some d, t)) → bitOf ((fieldsOf d).getD 0 0) 31 = true → 
      exec (.dmaDescFetch b n) s = .next (t.modChan (s.engine b.val) n.val (fun y => { y with
          fetching := false, desc := fieldsOf d, gen := dfield (fieldsOf d) 0 30 23, slotAddr := s.ringSlot (s.engine b.val) n.val, slotIdx := y.head,
          newRing := false, pos := 0, started := false, status := none, stage := 0, collided := false,
          stale := y.stale + y.unacked, unacked := 0, err := 0, check := 0, nb4Seq := dfield (fieldsOf d) 13 27 24,
          nb4Open := false, nb4Stopped := false, nb4Done := false,
          st := if bitOf ((fieldsOf d).getD 0 0) 20 ∧ !y.launchPend then .waitLaunch else .run }))) ∧
  (∀ (s : State) (b : Fin 10) (n : Fin 64) (d : List Byte) (t : State), chanOk (s.engine b.val) n.val = true → (s.chan (s.engine b.val) n.val).fetching = true → (s.chan (s.engine b.val) n.val).st = .idle → (s.ctrlRead (s.engine b.val) (s.ringSlot (s.engine b.val) n.val) 64 = (some d, t)) → bitOf ((fieldsOf d).getD 0 0) 31 = false → 
      exec (.dmaDescFetch b n) s = .next (t.modChan (s.engine b.val) n.val (fun y => { y with fetching := false }))) ∧
  (∀ (s : State) (b : Fin 10) (n : Fin 64) (t : State), chanOk (s.engine b.val) n.val = true → (s.chan (s.engine b.val) n.val).fetching = true → (s.chan (s.engine b.val) n.val).st = .idle → (s.ctrlRead (s.engine b.val) (s.ringSlot (s.engine b.val) n.val) 64 = (none, t)) → 
      exec (.dmaDescFetch b n) s = .next ((t.modChan (s.engine b.val) n.val (fun y => { y with fetching := false })).dmaCtrlFail (s.engine b.val) n.val .fetch (s.ringSlot (s.engine b.val) n.val))) ∧
  (∀ (s : State) (b : Fin 10) (n : Fin 64) (c : Nat) (t : State), chanOk (s.engine b.val) n.val = true → (s.chan (s.engine b.val) n.val).started = false → (s.chan (s.engine b.val) n.val).status = none → (s.chan (s.engine b.val) n.val).st = .run → (t = s.modChan (s.engine b.val) n.val (fun y => { y with st := .run, launchPend := if bitOf ((s.chan (s.engine b.val) n.val).desc.getD 0 0) 20 then false else y.launchPend })) → t.descCheck (s.engine b.val) (s.chan (s.engine b.val) n.val).desc = c → c ≠ 0 → 
      exec (.dmaDescStart b n) s = .next (((t.modChan (s.engine b.val) n.val (fun y => { y with check := c })).count (rDMA_ENG_REFUSE_CNT (s.engine b.val))).dmaHalt (s.engine b.val) n.val (if c = 9 then 3 else 4) 0 false 0)) ∧
  (∀ (s : State) (b : Fin 10) (n : Fin 64) (t v : State), chanOk (s.engine b.val) n.val = true → (s.chan (s.engine b.val) n.val).started = false → (s.chan (s.engine b.val) n.val).status = none → (s.chan (s.engine b.val) n.val).st = .run → (t = s.modChan (s.engine b.val) n.val (fun y => { y with st := .run, launchPend := if bitOf ((s.chan (s.engine b.val) n.val).desc.getD 0 0) 20 then false else y.launchPend })) → t.descCheck (s.engine b.val) (s.chan (s.engine b.val) n.val).desc = 0 → xform (s.chan (s.engine b.val) n.val).desc ≠ 9 → xform (s.chan (s.engine b.val) n.val).desc ≠ 0xA → (v = t.modChan (s.engine b.val) n.val (fun y => { y with started := true, levels := s.levels (dfield (s.chan (s.engine b.val) n.val).desc 13 21 20) })) → 
      exec (.dmaDescStart b n) s = .next (match v.chRanges (s.engine b.val) n.val 0 0 with
        | none => v
        | some (p, ws, rs) => (v.sbRegister p (chanAgent (s.engine b.val) n.val) ws rs).1.modChan (s.engine b.val) n.val (fun y => { y with
            ticketCore := p, regWait := !(v.sbRegister p (chanAgent (s.engine b.val) n.val) ws rs).2 }))) ∧
  (∀ (s : State) (b : Fin 10) (n : Fin 64), chanOk (s.engine b.val) n.val = true → s.flag (rDMA_CH_SHCTL (s.engine b.val) n.val) fDMA_CH_SHCTL_SEALED = true → s.flag (rDMA_CH_SHCTL (s.engine b.val) n.val) fDMA_CH_SHCTL_AT_DESC = true → (s.chan (s.engine b.val) n.val).st = .idle → (s.chan (s.engine b.val) n.val).fetching = false → 
      exec (.dmaShadowHandover b n) s = .next (s.dmaHandover (s.engine b.val) n.val)) ∧
  (∀ (s : State) (b : Fin 10) (n : Fin 64), chanOk (s.engine b.val) n.val = true → 
      exec (.dmaShadowSeal b n) s = .next (s.setFld (rDMA_CH_SHCTL (s.engine b.val) n.val) fDMA_CH_SHCTL_SEALED 1))

/-- A running channel moves atoms in stream order and its position follows them; a channel whose watched queue has met STOP is paced and runs again at START; an acknowledgement lowers the count of writes outstanding, those of earlier descriptors first; the write-back clears OWN and writes the status where the slot still holds the descriptor, and counts a collision where it does not; a hub channel writes its completion record and advances PROD, or waits in POSTING where the queue is full. -/
def Obligations.DmaRunCommands : Prop :=
  (∀ (s : State) (b : Fin 10) (n : Fin 64) (k : Nat) (t : State), chanOk (s.engine b.val) n.val = true → (s.chan (s.engine b.val) n.val).started = true → (s.chan (s.engine b.val) n.val).st = .run → (s.chan (s.engine b.val) n.val).status = none → ((s.chan (s.engine b.val) n.val).regWait && (Cells.get (fun _ => []) (s.sboard (s.chan (s.engine b.val) n.val).ticketCore).granted (chanAgent (s.engine b.val) n.val)).isEmpty) = false → (s.chan (s.engine b.val) n.val).walk = none → (s.chan (s.engine b.val) n.val).stopFault = none → (s.chan (s.engine b.val) n.val).stopErr = none → (s.chan (s.engine b.val) n.val).nb4Stopped = false → xform (s.chan (s.engine b.val) n.val).desc ≠ 0xA → t = s.modChan (s.engine b.val) n.val (fun y => { y with regWait := false }) → t.paceStops (s.engine b.val) n.val = false → (t.chSides (s.engine b.val) n.val).1.kind ≠ 4 → 
      exec (.dmaReadReturn b n k) s = .next (((t.moveAtoms (s.engine b.val) n.val k).notePos (s.engine b.val) n.val).dmaPoint (s.engine b.val) n.val)) ∧
  (∀ (s : State) (b : Fin 10) (n : Fin 64) (k : Nat) (t : State), chanOk (s.engine b.val) n.val = true → (s.chan (s.engine b.val) n.val).started = true → (s.chan (s.engine b.val) n.val).st = .run → (s.chan (s.engine b.val) n.val).status = none → ((s.chan (s.engine b.val) n.val).regWait && (Cells.get (fun _ => []) (s.sboard (s.chan (s.engine b.val) n.val).ticketCore).granted (chanAgent (s.engine b.val) n.val)).isEmpty) = false → (s.chan (s.engine b.val) n.val).walk = none → (s.chan (s.engine b.val) n.val).stopFault = none → (s.chan (s.engine b.val) n.val).stopErr = none → (s.chan (s.engine b.val) n.val).nb4Stopped = false → xform (s.chan (s.engine b.val) n.val).desc ≠ 0xA → t = s.modChan (s.engine b.val) n.val (fun y => { y with regWait := false }) → t.paceStops (s.engine b.val) n.val = true → 
      exec (.dmaReadReturn b n k) s = .next (t.modChan (s.engine b.val) n.val (fun y => { y with st := .paced }))) ∧
  (∀ (s : State) (b : Fin 10) (n : Fin 64), chanOk (s.engine b.val) n.val = true → 0 < (s.chan (s.engine b.val) n.val).stale → 
      exec (.dmaWriteAck b n) s = .next (s.modChan (s.engine b.val) n.val (fun y => { y with stale := y.stale - 1 }))) ∧
  (∀ (s : State) (b : Fin 10) (n : Fin 64), chanOk (s.engine b.val) n.val = true → (s.chan (s.engine b.val) n.val).stale = 0 → 0 < (s.chan (s.engine b.val) n.val).unacked → 
      exec (.dmaWriteAck b n) s = .next ((s.modChan (s.engine b.val) n.val (fun y => { y with unacked := y.unacked - 1 })).dmaPoint (s.engine b.val) n.val)) ∧
  (∀ (s : State) (b : Fin 10) (n : Fin 64) (v : Nat) (d0 d15 : List Byte) (t : State), chanOk (s.engine b.val) n.val = true → (s.chan (s.engine b.val) n.val).status = some v → (s.chan (s.engine b.val) n.val).stage = 0 → (s.chan (s.engine b.val) n.val).st = .run → (s.chan (s.engine b.val) n.val).fw = false → (s.ctrlRead (s.engine b.val) (s.chan (s.engine b.val) n.val).slotAddr 4).1 = some d0 → (s.ctrlRead (s.engine b.val) ((s.chan (s.engine b.val) n.val).slotAddr + 60) 4).1 = some d15 → bitsOf (ofLeBytes d0) 30 23 = (s.chan (s.engine b.val) n.val).gen → (s.ctrlWrite (s.engine b.val) (s.chan (s.engine b.val) n.val).slotAddr (leBytes 4 (ofLeBytes d0 % 2 ^ 31))).bind (fun u =>
        u.ctrlWrite (s.engine b.val) ((s.chan (s.engine b.val) n.val).slotAddr + 60) (leBytes 4 (ofLeBytes d15 % 2 ^ 24 + v * 2 ^ 24))) = some t → 
      exec (.dmaRingWriteback b n) s = .next (if (s.engine b.val) < 9 then ((t.modChan (s.engine b.val) n.val (fun y => { y with stage := 1, collided := false })).modChan (s.engine b.val) n.val (fun y => { y with stage := 2 })).dmaPush (s.engine b.val) n.val
        else t.modChan (s.engine b.val) n.val (fun y => { y with stage := 1, collided := false }))) ∧
  (∀ (s : State) (b : Fin 10) (n : Fin 64) (v : Nat) (d0 d15 : List Byte), chanOk (s.engine b.val) n.val = true → (s.chan (s.engine b.val) n.val).status = some v → (s.chan (s.engine b.val) n.val).stage = 0 → (s.chan (s.engine b.val) n.val).st = .run → (s.chan (s.engine b.val) n.val).fw = false → (s.ctrlRead (s.engine b.val) (s.chan (s.engine b.val) n.val).slotAddr 4).1 = some d0 → (s.ctrlRead (s.engine b.val) ((s.chan (s.engine b.val) n.val).slotAddr + 60) 4).1 = some d15 → bitsOf (ofLeBytes d0) 30 23 ≠ (s.chan (s.engine b.val) n.val).gen → 
      exec (.dmaRingWriteback b n) s = .next (if (s.engine b.val) < 9 then (((s.count (rDMA_CH_COLL_CNT (s.engine b.val) n.val)).modChan (s.engine b.val) n.val (fun y => { y with stage := 1, collided := true })).modChan (s.engine b.val) n.val (fun y => { y with stage := 2 })).dmaPush (s.engine b.val) n.val
        else (s.count (rDMA_CH_COLL_CNT (s.engine b.val) n.val)).modChan (s.engine b.val) n.val (fun y => { y with stage := 1, collided := true }))) ∧
  (∀ (s t : State) (n : Fin 64) (q log2 prod : Nat), (s.chan 9 n.val).status.isSome = true → (s.chan 9 n.val).stage = 1 → (s.chan 9 n.val).st = .run → s.chCfg 9 n.val fDMA_CH_CFG_CQ = q → s.fld (rHUB_CQ_BASE_HI q) fHUB_CQ_BASE_HI_SIZE_LOG2 = log2 → s.fld (rHUB_CQ_PROD q) fHUB_CQ_PROD_PROD = prod → (prod + 65536 - s.fld (rHUB_CQ_CONS q) fHUB_CQ_CONS_CONS) % 65536 ≠ 2 ^ log2 → s.dpaWrite false (s.fld (rHUB_CQ_BASE_LO q) fHUB_CQ_BASE_LO_BASE * 64 + s.fld (rHUB_CQ_BASE_HI q) fHUB_CQ_BASE_HI_BASE_HI * 2 ^ 32 +
        16 * (prod % 2 ^ log2)) (s.cqRecord n.val prod log2) = some t → 
      exec (.dmaCqRecordPost n) s = .next (((t.setFld (rHUB_CQ_PROD q) fHUB_CQ_PROD_PROD ((prod + 1) % 65536)).modChan 9 n.val (fun y => { y with stage := 2, st := .run })).dmaPush 9 n.val)) ∧
  (∀ (s : State) (n : Fin 64) (q : Nat), (s.chan 9 n.val).status.isSome = true → (s.chan 9 n.val).stage = 1 → (s.chan 9 n.val).st = .run → s.chCfg 9 n.val fDMA_CH_CFG_CQ = q → (s.fld (rHUB_CQ_PROD q) fHUB_CQ_PROD_PROD + 65536 - s.fld (rHUB_CQ_CONS q) fHUB_CQ_CONS_CONS) % 65536 = 2 ^ s.fld (rHUB_CQ_BASE_HI q) fHUB_CQ_BASE_HI_SIZE_LOG2 → 
      exec (.dmaCqRecordPost n) s = .next ((s.count rHUB_CQ_FULL_CNT).modChan 9 n.val (fun y => { y with st := .posting }))) ∧
  (∀ (s : State) (b : Fin 10) (n : Fin 64), (s.chan (s.engine b.val) n.val).st = .posting → 
      exec (.dmaPostingResume b n) s = .next (if (s.chan (s.engine b.val) n.val).stage = 1 then s.dmaRecord n.val else s.dmaPush (s.engine b.val) n.val)) ∧
  (∀ (s : State) (b : Fin 10) (n : Fin 64) (e : Nat), s.engine b.val = e → (s.chan e n.val).st = .paced → s.fld (rDMA_CH_PACE e n.val) fDMA_CH_PACE_MODE = 1 → (s.hq (s.fld (rDMA_CH_PACE e n.val) fDMA_CH_PACE_QID)).length ≤ s.fld (rDMA_CH_PACE e n.val) fDMA_CH_PACE_START → 
      exec (.dmaPaceResume b n) s = .next (s.modChan e n.val (fun y => { y with st := .run }))) ∧
  (∀ (s : State) (b : Fin 10) (n : Fin 64) (e : Nat), s.engine b.val = e → (s.chan e n.val).st = .paced → s.fld (rDMA_CH_PACE e n.val) fDMA_CH_PACE_MODE = 2 → s.fld (rDMA_CH_PACE e n.val) fDMA_CH_PACE_START ≤ (s.hq (s.fld (rDMA_CH_PACE e n.val) fDMA_CH_PACE_QID)).length → 
      exec (.dmaPaceResume b n) s = .next (s.modChan e n.val (fun y => { y with st := .run })))

/-- A bus error halts a channel and a translation fault stops it, once its issued writes are acknowledged, with the address latched and a fault-queue entry; the page-table read of a miss fills the translation cache or yields the fault; RESUME of a faulted channel runs it again and of a halted one completes its descriptor with the error; ABORT of a running channel makes it ABORTING with EN 0 and result 1, of an idle one gives result 3; an aborting channel with no access outstanding completes with ABORTED. -/
def Obligations.DmaStopCommands : Prop :=
  (∀ (s : State) (b : Fin 10) (n : Fin 64) (e kind addr : Nat) (dst : Bool), s.engine b.val = e → ((s.chan e n.val).stopErr = some (kind, dst, addr)) → (s.chan e n.val).unacked = 0 → (s.chan e n.val).st = .run → 
      exec (.dmaBusError b n) s = .next (((s.noteErrAddr e n.val (if dst then (s.chSides e n.val).2 else (s.chSides e n.val).1).kind false addr).notePos e n.val).dmaHalt e n.val 1 kind dst addr)) ∧
  (∀ (s : State) (b : Fin 10) (n : Fin 64) (e : Nat) (w : Walk) (bs : List Byte) (v : State), s.engine b.val = e → (s.chan e n.val).walk = some w → (s.ptRead e n.val w = (some bs, v)) → ptFault (ofLeBytes bs) false = 0 → ptFault (ofLeBytes bs) w.write = 0 → 
      exec (.dmaPtWalk b n) s = .next { v with hub := { v.hub with tlb := (v.hub.tlb ++ [(w.asid, w.page, ofLeBytes bs)]).drop (v.hub.tlb.length + 1 - 4096) } }) ∧
  (∀ (s : State) (b : Fin 10) (n : Fin 64) (e : Nat) (w : Walk) (bs : List Byte) (v : State), s.engine b.val = e → (s.chan e n.val).walk = some w → (s.ptRead e n.val w = (some bs, v)) → ptFault (ofLeBytes bs) false ≠ 0 → ptFault (ofLeBytes bs) w.write ≠ 0 → ptFault (ofLeBytes bs) w.write ≠ 4 → 
      exec (.dmaPtWalk b n) s = .next (v.modChan e n.val (fun y => { y with stopFault := some (ptFault (ofLeBytes bs) w.write, w.dst, w.addr) }))) ∧
  (∀ (s : State) (b : Fin 10) (n : Fin 64) (e kind addr : Nat) (dst : Bool), s.engine b.val = e → ((s.chan e n.val).stopFault = some (kind, dst, addr)) → (s.chan e n.val).unacked = 0 → (s.chan e n.val).st = .run → 
      exec (.dmaTranslationFault b n) s = .next (((((s.notePos e n.val).chNarrow e n.val).noteErrAddr e n.val 1 false addr).modChan e n.val (fun y => { y with
          st := .fault, err := 2, faultKind := kind, faultDst := dst, stopFault := none })).postFault e n.val 2 kind dst addr)) ∧
  (∀ (s : State) (b : Fin 10) (n : Fin 64), chanOk (s.engine b.val) n.val = true → (s.chan (s.engine b.val) n.val).st = .fault → 
      exec (.dmaResume b n) s = .next (s.modChan (s.engine b.val) n.val (fun y => { y with st := .run, err := 0, faultKind := 0 }))) ∧
  (∀ (s : State) (b : Fin 10) (n : Fin 64), chanOk (s.engine b.val) n.val = true → (s.chan (s.engine b.val) n.val).st = .halt → (s.chan (s.engine b.val) n.val).ctrl = none → (s.chan (s.engine b.val) n.val).err ≠ 5 → 
      exec (.dmaResume b n) s = .next (s.modChan (s.engine b.val) n.val (fun y => { y with st := .run, status := some (errStatus (s.chan (s.engine b.val) n.val).err) }))) ∧
  (∀ (s : State) (b : Fin 10) (n : Fin 64), chanOk (s.engine b.val) n.val = true → (s.chan (s.engine b.val) n.val).st = .run → (s.chan (s.engine b.val) n.val).status = none → 
      exec (.dmaAbort b n) s = .next ((s.setFld (rDMA_CH_CTL (s.engine b.val) n.val) fDMA_CH_CTL_EN 0).modChan (s.engine b.val) n.val (fun y => { y with
          st := .aborting, walk := none, stopFault := none, stopErr := none, peerAtoms := 0, peerGot := [], abortRes := 1 }))) ∧
  (∀ (s : State) (b : Fin 10) (n : Fin 64), chanOk (s.engine b.val) n.val = true → (s.chan (s.engine b.val) n.val).st = .idle → 
      exec (.dmaAbort b n) s = .next ((s.setFld (rDMA_CH_CTL (s.engine b.val) n.val) fDMA_CH_CTL_EN 0).modChan (s.engine b.val) n.val (fun y => { y with abortRes := 3 }))) ∧
  (∀ (s : State) (b : Fin 10) (n : Fin 64), chanOk (s.engine b.val) n.val = true → (s.chan (s.engine b.val) n.val).st = .aborting → (s.chan (s.engine b.val) n.val).unacked = 0 → (s.chan (s.engine b.val) n.val).peerLeft = 0 → 
      exec (.dmaAbortDone b n) s = .next ((s.notePos (s.engine b.val) n.val).modChan (s.engine b.val) n.val (fun y => { y with st := .run, status := some 1 })))

/-- An invalidation removes the entries it covers from the translation cache and is BUSY until no access of its address space is outstanding; a retired frame that accesses still use has its entries marked RETIRED; a post is queued with BUSY set, or refused with result 2 where its target is illegal; it lands in its target's mailbox where there is room and times out with result 1; popping removes the head of a mailbox or of the fault queue. -/
def Obligations.HubCommands : Prop :=
  (∀ (s : State) (v : Word), 
      exec (.tvaInvalidate v) s = .next ({ s.setReg rHUB_TVA_INV (v &&& 0x7C07FFFF) with hub := { s.hub with
          tlb := s.hub.tlb.filter (fun x => !(x.1 == getF v fHUB_TVA_INV_ASID && ((getF v fHUB_TVA_INV_ALL == 1) || x.2.1 == getF v fHUB_TVA_INV_PAGE))),
          inv := some (getF v fHUB_TVA_INV_ASID, getF v fHUB_TVA_INV_PAGE, getF v fHUB_TVA_INV_ALL == 1) } }.setFld rHUB_TVA_INV_STAT fHUB_TVA_INV_STAT_BUSY 1)) ∧
  (∀ (s : State) (asid page : Nat) (all : Bool), (s.hub.inv = some (asid, page, all)) → s.asidQuiet asid = true → 
      exec .tvaInvalidateDone s = .next ({ s with hub := { s.hub with inv := none } }.setFld rHUB_TVA_INV_STAT fHUB_TVA_INV_STAT_BUSY 0)) ∧
  (∀ (s t : State) (f p : Fin 32768) (l : List (Nat × Nat × Nat)), s.mappings f.val = l → (t = s.remap l (fun v => if bitOf v 2 then v else v + 4)) → l.all (fun x => t.asidQuiet x.1) = true → 
      exec (.pageRetire f p) s = .next (t.pageMove l f.val p.val)) ∧
  (∀ (s t : State) (f p : Fin 32768) (l : List (Nat × Nat × Nat)), s.mappings f.val = l → (t = s.remap l (fun v => if bitOf v 2 then v else v + 4)) → l.all (fun x => t.asidQuiet x.1) = false → 
      exec (.pageRetire f p) s = .next t) ∧
  (∀ (s t : State) (b : Fin 10) (v : Word), (getF v ⟨27, 24⟩ < 8 ∨ getF v ⟨27, 24⟩ = 0xE) → t = s.setReg (postReg (s.poster b.val) 0) (v &&& 0x0F00FFFF) → 
      exec (.dmaPost b v) s = .next ({ t with hub := { t.hub with posts := Cells.set (fun _ => []) t.hub.posts (s.poster b.val) (Cells.get (fun _ => []) t.hub.posts (s.poster b.val) ++ [(⟨getF v ⟨27, 24⟩, t.postMsg (s.poster b.val) (getF v ⟨15, 0⟩), t.time.ns⟩ : Post)]) } }.setFld (postReg (s.poster b.val) 1) ⟨2, 2⟩ 1)) ∧
  (∀ (s : State) (b : Fin 10) (v : Word), (8 ≤ getF v ⟨27, 24⟩) → (getF v ⟨27, 24⟩ ≠ 0xE) → 
      exec (.dmaPost b v) s = .next ((s.setReg (postReg (s.poster b.val) 0) (v &&& 0x0F00FFFF)).setFld (postReg (s.poster b.val) 1) ⟨1, 0⟩ 2)) ∧
  (∀ (s : State) (b : Fin 10) (x : Post) (l : List Post), (Cells.get (fun _ => []) s.hub.posts (s.poster b.val)) = x :: l → x.since + (s.reg (postReg (s.poster b.val) 2)).toNat ≤ s.time.ns → 
      exec (.postTimeout b) s = .next (s.postEnd (s.poster b.val) 1)) ∧
  (∀ (s : State) (b : Fin 10) (x : Post) (l : List Post), (Cells.get (fun _ => []) s.hub.posts (s.poster b.val)) = x :: l → ((Cells.get (fun _ => []) s.hub.boxes (s.boxOf x.target)).length < (if s.boxOf x.target = 16 then 32 else 8)) → 
      exec (.mailboxArrive b) s = .next ({ s with hub := { s.hub with
          boxes := Cells.set (fun _ => []) s.hub.boxes (s.boxOf x.target) (Cells.get (fun _ => []) s.hub.boxes (s.boxOf x.target) ++ [x.msg]),
          prompterInts := if s.boxOf x.target = 16 ∧ 0 ∉ s.hub.prompterInts then s.hub.prompterInts ++ [0] else s.hub.prompterInts } }.postEnd (s.poster b.val) 0)) ∧
  (∀ (s : State) (b : Fin 10), 
      exec (.mbxPop b) s = .next { s with hub := { s.hub with boxes := Cells.set (fun _ => []) s.hub.boxes (s.poster b.val) ((Cells.get (fun _ => []) s.hub.boxes (s.poster b.val)).drop 1) } }) ∧
  (∀ (s : State), 
      exec .faultQueuePop s = .next { s with hub := { s.hub with faultQ := s.hub.faultQ.drop 1 } })

/-- ALLOC takes the head of the pool's free list and makes its buffer HELD by the issuer; PUSH puts a HELD handle at the tail of a queue of its pool and makes it QUEUED; POP takes the head and makes it HELD; FREE returns a HELD handle to the tail of its free list; FILL returns the number queued; the refusals return EMPTY, FULL, NOT_HELD, WRONG_POOL or NO_ACCESS, change nothing else, and NOT_HELD and WRONG_POOL are counted. The counters of the pool follow. -/
def Obligations.HandleCommands : Prop :=
  (∀ (s : State) (a : Agent) (p : Fin 16) (j : Nat) (l : List Nat) (e : Nat) (t : State), s.poolOk a p.val = true → p.val ≠ 0 → s.flag (rHP_CFG p.val) fHP_CFG_EN = true → s.freeList p.val = j :: l → (s.fld (rHP_BASE p.val) fHP_BASE_FIRST + j) % 16384 = e → t = (({ s with pools := Cells.set (fun _ => []) s.pools p.val l }).setBuf e 2 (holderOf a)).poolMove p.val (-1) 0 1 → 
      exec (.hqAlloc a p) s = .next { t with hqp := Cells.set (fun _ => {}) t.hqp (t.agentKey a) ⟨0, p.val * 4096 + j, (t.bufAddr e).1, (t.bufAddr e).2⟩ }) ∧
  (∀ (s : State) (a : Agent) (p : Fin 16), s.poolOk a p.val = true → p.val ≠ 0 → s.flag (rHP_CFG p.val) fHP_CFG_EN = true → s.freeList p.val = [] → 
      exec (.hqAlloc a p) s = .next { s with hqp := Cells.set (fun _ => {}) s.hqp (s.agentKey a) { status := 1 } }) ∧
  (∀ (s : State) (a : Agent) (q : Fin 256) (h : Half) (e : Nat), s.queueOk a q.val = true → s.flag (rHQ_CFG q.val) fHQ_CFG_EN = true → s.handleEntry h.toNat = some e → s.bufState e = 2 → h.toNat / 4096 = s.fld (rHQ_CFG q.val) fHQ_CFG_POOL → (s.hq q.val).length < 256 → 
      exec (.hqPush a q h) s = .next { ((s.setHq q.val (s.hq q.val ++ [h.toNat])).setBuf e 1 0).poolMove (h.toNat / 4096) 0 1 (-1) with
          hqp := Cells.set (fun _ => {}) s.hqp (s.agentKey a) ⟨0, 0, 0, 0⟩ }) ∧
  (∀ (s : State) (a : Agent) (q : Fin 256) (h : Half) (e : Nat), s.queueOk a q.val = true → s.flag (rHQ_CFG q.val) fHQ_CFG_EN = true → s.handleEntry h.toNat = some e → s.bufState e = 2 → h.toNat / 4096 = s.fld (rHQ_CFG q.val) fHQ_CFG_POOL → 256 ≤ (s.hq q.val).length → 
      exec (.hqPush a q h) s = .next { s with hqp := Cells.set (fun _ => {}) s.hqp (s.agentKey a) { status := 2 } }) ∧
  (∀ (s : State) (a : Agent) (q : Fin 256) (h : Half) (e : Nat), s.queueOk a q.val = true → s.flag (rHQ_CFG q.val) fHQ_CFG_EN = true → s.handleEntry h.toNat = some e → s.bufState e = 2 → h.toNat / 4096 ≠ s.fld (rHQ_CFG q.val) fHQ_CFG_POOL → 
      exec (.hqPush a q h) s = .next { s.count rHQ_BADOP_CNT with hqp := Cells.set (fun _ => {}) s.hqp (s.agentKey a) { status := 4 } }) ∧
  (∀ (s : State) (a : Agent) (q : Fin 256) (h : Half) (e : Nat), s.queueOk a q.val = true → s.flag (rHQ_CFG q.val) fHQ_CFG_EN = true → s.handleEntry h.toNat = some e → s.bufState e ≠ 2 → 
      exec (.hqPush a q h) s = .next { s.count rHQ_BADOP_CNT with hqp := Cells.set (fun _ => {}) s.hqp (s.agentKey a) { status := 3 } }) ∧
  (∀ (s : State) (a : Agent) (q : Fin 256) (h : Half), (s.queueOk a q.val = false ∨ s.flag (rHQ_CFG q.val) fHQ_CFG_EN = false) → 
      exec (.hqPush a q h) s = .next { s with hqp := Cells.set (fun _ => {}) s.hqp (s.agentKey a) { status := 5 } }) ∧
  (∀ (s : State) (a : Agent) (q : Fin 256) (h : Nat) (l : List Nat) (t : State), s.queueOk a q.val = true → s.flag (rHQ_CFG q.val) fHQ_CFG_EN = true → s.hq q.val = h :: l → t = ((s.setHq q.val l).setBuf ((s.handleEntry h).getD 0) 2 (holderOf a)).poolMove (h / 4096) 0 (-1) 1 → 
      exec (.hqPop a q) s = .next { t with hqp := Cells.set (fun _ => {}) t.hqp (t.agentKey a) ⟨0, h, (t.bufAddr ((s.handleEntry h).getD 0)).1, (t.bufAddr ((s.handleEntry h).getD 0)).2⟩ }) ∧
  (∀ (s : State) (a : Agent) (q : Fin 256), s.queueOk a q.val = true → s.flag (rHQ_CFG q.val) fHQ_CFG_EN = true → s.hq q.val = [] → 
      exec (.hqPop a q) s = .next { s with hqp := Cells.set (fun _ => {}) s.hqp (s.agentKey a) { status := 1 } }) ∧
  (∀ (s : State) (a : Agent) (h : Half) (e : Nat) (t : State), s.poolOk a (h.toNat / 4096) = true → s.handleEntry h.toNat = some e → s.bufState e = 2 → t = (({ s with pools := Cells.set (fun _ => []) s.pools (h.toNat / 4096) (s.freeList (h.toNat / 4096) ++ [h.toNat % 4096]) }).setBuf e 0 0).poolMove (h.toNat / 4096) 1 0 (-1) → 
      exec (.hqFree a h) s = .next { t with hqp := Cells.set (fun _ => {}) t.hqp (t.agentKey a) ⟨0, 0, 0, 0⟩ }) ∧
  (∀ (s : State) (a : Agent) (q : Fin 256), s.queueOk a q.val = true → s.flag (rHQ_CFG q.val) fHQ_CFG_EN = true → 
      exec (.hqFill a q) s = .next { s with hqp := Cells.set (fun _ => {}) s.hqp (s.agentKey a) ⟨0, (s.hq q.val).length, 0, 0⟩ })

/-- Setting EN starts the next generation with ARRIVED 0 and OPEN; an arrival of the current generation raises ARRIVED and completes the barrier at PARTS, one of another generation is STALE and counted, one without access is noted and changes nothing else; a complete COUNT barrier and a fabric barrier whose time has come release; a wait on the current generation waits and on an earlier one returns; a fabric generation that times out at its home breaks with the missing modules. -/
def Obligations.BarrierCommands : Prop :=
  (∀ (s : State) (b : Fin 32) (cfg : Word), getF cfg fBAR_CFG_EN = 1 → 
      exec (.barReset b cfg) s = .next ((s.setReg (rBAR_CFG b.val) (cfg &&& 0xF7FFFFFF)).barNext b.val)) ∧
  (∀ (s : State) (a : Agent) (b : Fin 32) (gen : Byte) (t : State), s.flag (rBAR_CFG b.val) fBAR_CFG_EN = true → s.owns a (s.fld (rBAR_CFG b.val) fBAR_CFG_OWNER) = true → gen.toNat = s.barGen b.val → s.barSt b.val = 0 → s.fld (rBAR_STAT b.val) fBAR_STAT_ARRIVED + 1 < s.fld (rBAR_CFG b.val) fBAR_CFG_PARTS → (t = ({ s with arrivals := Cells.set (fun _ => {}) s.arrivals (s.agentKey a) { bar := b.val, gen := gen.toNat } }).setFld (rBAR_STAT b.val) fBAR_STAT_ARRIVED (s.fld (rBAR_STAT b.val) fBAR_STAT_ARRIVED + 1)) → 
      exec (.barArrive a b gen) s = .next (t.setBar b.val { t.bar b.val with first := some ((t.bar b.val).first.getD s.time.ns) })) ∧
  (∀ (s : State) (a : Agent) (b : Fin 32) (gen : Byte) (t : State), s.flag (rBAR_CFG b.val) fBAR_CFG_EN = true → s.owns a (s.fld (rBAR_CFG b.val) fBAR_CFG_OWNER) = true → gen.toNat = s.barGen b.val → s.barSt b.val = 0 → s.fld (rBAR_CFG b.val) fBAR_CFG_PARTS ≤ s.fld (rBAR_STAT b.val) fBAR_STAT_ARRIVED + 1 → (t = ({ s with arrivals := Cells.set (fun _ => {}) s.arrivals (s.agentKey a) { bar := b.val, gen := gen.toNat } }).setFld (rBAR_STAT b.val) fBAR_STAT_ARRIVED (s.fld (rBAR_STAT b.val) fBAR_STAT_ARRIVED + 1)) → 
      exec (.barArrive a b gen) s = .next ((t.setBar b.val { t.bar b.val with first := some ((t.bar b.val).first.getD s.time.ns) }).barComplete b.val)) ∧
  (∀ (s : State) (a : Agent) (b : Fin 32) (gen : Byte), s.flag (rBAR_CFG b.val) fBAR_CFG_EN = true → s.owns a (s.fld (rBAR_CFG b.val) fBAR_CFG_OWNER) = true → gen.toNat ≠ s.barGen b.val → 
      exec (.barArrive a b gen) s = .next (({ s with arrivals := Cells.set (fun _ => {}) s.arrivals (s.agentKey a) { bar := b.val, gen := gen.toNat, stale := true } }).count rBAR_STALE_CNT)) ∧
  (∀ (s : State) (a : Agent) (b : Fin 32) (gen : Byte), (s.flag (rBAR_CFG b.val) fBAR_CFG_EN = false ∨ s.owns a (s.fld (rBAR_CFG b.val) fBAR_CFG_OWNER) = false) → 
      exec (.barArrive a b gen) s = .next { s with arrivals := Cells.set (fun _ => {}) s.arrivals (s.agentKey a) { bar := b.val, gen := gen.toNat, noAccess := true } }) ∧
  (∀ (s : State) (b : Fin 32), s.barSt b.val = 1 → s.flag (rBAR_CFG b.val) fBAR_CFG_FAB = false → s.flag (rBAR_CFG b.val) fBAR_CFG_MODE = false → 
      exec (.barCountRelease b) s = .next (s.barNext b.val)) ∧
  (∀ (s : State) (b : Fin 32) (t : Nat), s.barSt b.val = 1 → s.flag (rBAR_CFG b.val) fBAR_CFG_FAB = true → (s.bar b.val).releaseAt = some t → t ≤ s.now → 
      exec (.barCountRelease b) s = .next (s.barNext b.val)) ∧
  (∀ (s : State) (b : Fin 8) (c : Fin 4) (w : Word), s.barWait (.core b c) = some w → 
      exec (.barWait b c) s = .next { s with host := { s.host with busData := w, busError := false } }) ∧
  (∀ (s : State) (b : Fin 32) (t : Nat), (s.bar b.val).first = some t → s.flag (rBAR_CFG b.val) fBAR_CFG_FAB = true → s.barSt b.val ≠ 2 → (s.bar b.val).releaseAt = none → t + s.fld (rBAR_TMO b.val) fBAR_TMO_TMO_US * 1000 ≤ s.time.ns → 
      exec (.barTimeout b) s = .next (if s.fld (rBAR_CFG b.val) fBAR_CFG_HOME = s.modId then s.barBreakHome b.val else s.barBreak b.val 0))

/-- A script with a context that has halted its VPP faults with that cause; the cue sheet is refilled; the auditor runs when its period has passed or when it is told to; the Prompter issues an operation and its program counter goes 4 further, or to the target. -/
def Obligations.RuntimeCommands : Prop :=
  (∀ (s : State) (n : Fin 128) (b cause : Nat), (s.haltedScript n.val = some (b, cause)) → 
      exec (.scriptFault n) s = .next (s.scriptFault n.val cause b)) ∧
  (∀ (s : State) (n : Fin 128), s.haltedScript n.val = none → s.poolFenced n.val = true → 
      exec (.scriptFault n) s = .next (s.scriptFault n.val (Config.haltCause 2) 0)) ∧
  (∀ (s : State), 
      exec .cueSheetRefill s = .next s.refill) ∧
  (∀ (s : State), s.awake = true → (Cells.get (fun _ => none) s.marks 1).getD 0 + s.fld rAUD_CTL fAUD_CTL_PERIOD_US * 1000 ≤ s.time.ns → 
      exec .auditRun s = .next ({ s with marks := Cells.put s.marks 1 (some s.time.ns) }).audit) ∧
  (∀ (s : State), 
      exec .auditRunNow s = .next s.audit) ∧
  (∀ (s t : State) (o : PromptOp), s.prompt.down = none → s.awake = true → s.promptOp o = .ok t → 
      exec (.prompterOpIssue o) s = .next { t with prompt := { t.prompt with pc := s.prompt.pc + 4 } }) ∧
  (∀ (s t : State) (o : PromptOp) (pc : Nat), s.prompt.down = none → s.awake = true → s.promptOp o = .go t pc → 
      exec (.prompterOpIssue o) s = .next { t with prompt := { t.prompt with pc := pc } })

/-- Frame Start, Frame End, Line Start, image and embedded lines act on each enabled stream of the port that matches, in order; a packet that matches no stream raises UNMATCHED and changes nothing else; a corrected header and a CRC error are counted; a Frame End or line without an open frame raises the stream's orphan counter; a line with a CRC error marks its frame. -/
def Obligations.CameraPackets : Prop :=
  (∀ (s t : State) (p : Fin 12) (vc : Fin 16) (num : Half) (c : Bool), t = s.noteHeader p.val c → (t.streamsOn p.val vc.val) ≠ [] → 
      exec (.frameStart p vc num c) s = .next ((t.streamsOn p.val vc.val).foldl (fun u k => u.frameStart k num.toNat) t)) ∧
  (∀ (s t : State) (p : Fin 12) (vc : Fin 16) (num : Half) (c : Bool), t = s.noteHeader p.val c → (t.streamsOn p.val vc.val) = [] → 
      exec (.frameStart p vc num c) s = .next (t.count (rINT_PORT_UNMATCHED p.val))) ∧
  (∀ (s t : State) (p : Fin 12) (vc : Fin 16) (num : Half) (c : Bool), t = s.noteHeader p.val c → (t.streamsOn p.val vc.val) ≠ [] → 
      exec (.frameEnd p vc num c) s = .next ((t.streamsOn p.val vc.val).foldl (fun u k => match (u.stream k).frame with
          | none => u.count (rINT_STR_ORPHAN k)
          | some f => (if f.fnum ≠ 0 ∧ num.toNat ≠ f.fnum then u.setFrame k (f.mark 8) else u).closeFrame k false) t)) ∧
  (∀ (s t : State) (p : Fin 12) (vc : Fin 16) (num : Half) (c : Bool), t = s.noteHeader p.val c → (t.streamsOn p.val vc.val) = [] → 
      exec (.frameEnd p vc num c) s = .next (t.count (rINT_PORT_UNMATCHED p.val))) ∧
  (∀ (s t : State) (p : Fin 12) (vc : Fin 16) (num : Half) (c : Bool), t = s.noteHeader p.val c → (t.streamsOn p.val vc.val) ≠ [] → 
      exec (.lineStart p vc num c) s = .next ((t.streamsOn p.val vc.val).foldl (fun u k => match (u.stream k).frame with
          | none => u
          | some f => if getF f.cfg fINT_STR_CFG_LNUM = 1 then u.setFrame k { f with lineNo := some num.toNat, n0 := some (f.n0.getD num.toNat) } else u) t)) ∧
  (∀ (s t : State) (p : Fin 12) (vc : Fin 16) (num : Half) (c : Bool), t = s.noteHeader p.val c → (t.streamsOn p.val vc.val) = [] → 
      exec (.lineStart p vc num c) s = .next (t.count (rINT_PORT_UNMATCHED p.val))) ∧
  (∀ (s t : State) (p : Fin 12) (vc : Fin 16) (dt : Fin 64) (b : List Byte) (ok c : Bool), t = s.noteHeader p.val c → ((t.streamsOn p.val vc.val).filter (fun k => (match (t.stream k).frame with
          | some f => getF f.cfg fINT_STR_CFG_DT
          | none => t.fld (rINT_STR_CFG k) fINT_STR_CFG_DT) == dt.val)) ≠ [] → 
      exec (.imageLine p vc dt b ok c) s = .next (((t.streamsOn p.val vc.val).filter (fun k => (match (t.stream k).frame with
          | some f => getF f.cfg fINT_STR_CFG_DT
          | none => t.fld (rINT_STR_CFG k) fINT_STR_CFG_DT) == dt.val)).foldl (fun u k => match (u.stream k).frame with
          | none => u.count (rINT_STR_ORPHAN k)
          | some f => (u.setFrame k (if ok then f else f.mark 4)).imageLine k (if ok then f else f.mark 4) b) (if ok then t else t.count (rINT_PORT_CRC_ERR p.val)))) ∧
  (∀ (s t : State) (p : Fin 12) (vc : Fin 16) (dt : Fin 64) (b : List Byte) (ok c : Bool), t = s.noteHeader p.val c → ((t.streamsOn p.val vc.val).filter (fun k => (match (t.stream k).frame with
          | some f => getF f.cfg fINT_STR_CFG_DT
          | none => t.fld (rINT_STR_CFG k) fINT_STR_CFG_DT) == dt.val)) = [] → 
      exec (.imageLine p vc dt b ok c) s = .next (t.count (rINT_PORT_UNMATCHED p.val))) ∧
  (∀ (s t : State) (p : Fin 12) (vc : Fin 16) (b : List Byte) (ok c : Bool), t = s.noteHeader p.val c → ((t.streamsOn p.val vc.val).filter (fun k => (match (t.stream k).frame with
          | some f => getF f.cfg fINT_STR_CFG_EMB_LINES
          | none => t.fld (rINT_STR_CFG k) fINT_STR_CFG_EMB_LINES) != 0)) ≠ [] → 
      exec (.embeddedLine p vc b ok c) s = .next (((t.streamsOn p.val vc.val).filter (fun k => (match (t.stream k).frame with
          | some f => getF f.cfg fINT_STR_CFG_EMB_LINES
          | none => t.fld (rINT_STR_CFG k) fINT_STR_CFG_EMB_LINES) != 0)).foldl (fun u k => match (u.stream k).frame with
          | none => u.count (rINT_STR_ORPHAN k)
          | some f => (u.setFrame k (if ok then f else f.mark 4)).embeddedLine k (if ok then f else f.mark 4) b) (if ok then t else t.count (rINT_PORT_CRC_ERR p.val)))) ∧
  (∀ (s t : State) (p : Fin 12) (vc : Fin 16) (b : List Byte) (ok c : Bool), t = s.noteHeader p.val c → ((t.streamsOn p.val vc.val).filter (fun k => (match (t.stream k).frame with
          | some f => getF f.cfg fINT_STR_CFG_EMB_LINES
          | none => t.fld (rINT_STR_CFG k) fINT_STR_CFG_EMB_LINES) != 0)) = [] → 
      exec (.embeddedLine p vc b ok c) s = .next (t.count (rINT_PORT_UNMATCHED p.val))) ∧
  (∀ (s : State) (p : Fin 12), getF (s.port p.val).cfg fINT_PORT_CFG_EN = 1 → 
      exec (.unmatchedPacket p) s = .next (s.count (rINT_PORT_UNMATCHED p.val))) ∧
  (∀ (s : State) (p : Fin 12) (sot : Bool), getF (s.port p.val).cfg fINT_PORT_CFG_EN = 1 → 
      exec (.hsBurstDiscard p sot) s = .next ((s.count (if sot then rINT_PORT_SOT_ERR p.val else rINT_PORT_ECC_UNC p.val)).markPort p.val))

/-- At LP-11 a port takes INT_PORT_CFG, and enabling it clears DESKEWED; a deskew sequence sets it; a frame whose Frame End does not come in FE_TMO closes as truncated; a write of INT_WATCH_CFG with EN makes the reference invalid; loss of VIO_CAM ends every sync pulse. -/
def Obligations.CameraPortEvents : Prop :=
  (∀ (s : State) (p : Fin 12), getF (s.reg (rINT_PORT_CFG p.val)) fINT_PORT_CFG_EN = 1 → getF (s.port p.val).cfg fINT_PORT_CFG_EN = 0 → 
      exec (.portCfgApply p) s = .next ((s.setPort p.val { s.port p.val with cfg := s.reg (rINT_PORT_CFG p.val) }).setFld (rINT_PORT_STAT p.val) fINT_PORT_STAT_DESKEWED 0)) ∧
  (∀ (s : State) (p : Fin 12), (getF (s.reg (rINT_PORT_CFG p.val)) fINT_PORT_CFG_EN ≠ 1 ∨ getF (s.port p.val).cfg fINT_PORT_CFG_EN ≠ 0) → 
      exec (.portCfgApply p) s = .next (s.setPort p.val { s.port p.val with cfg := s.reg (rINT_PORT_CFG p.val) })) ∧
  (∀ (s : State) (p : Fin 12), getF (s.port p.val).cfg fINT_PORT_CFG_EN = 1 → 
      exec (.deskewSequence p) s = .next (s.setFld (rINT_PORT_STAT p.val) fINT_PORT_STAT_DESKEWED 1)) ∧
  (∀ (s : State) (k : Fin 48) (f : OpenFrame), (s.stream k.val).frame = some f → f.ns + s.fld (rINT_STR_TMO k.val) fINT_STR_TMO_FE_TMO_US * 1000 ≤ s.time.ns → 
      exec (.frameEndTimeout k) s = .next (s.closeFrame k.val true)) ∧
  (∀ (s : State) (p : Fin 12) (w : Word), getF w fINT_WATCH_CFG_EN = 1 → 
      exec (.watchEnable p w) s = .next ((s.setReg (rINT_WATCH_CFG p.val) (s.watchClamp p.val w &&& 0xBFF8FF00)).setFld (rINT_WATCH_STAT p.val) fINT_WATCH_STAT_REF_VALID 0)) ∧
  (∀ (s : State) (p : Fin 12) (w : Word), getF w fINT_WATCH_CFG_EN ≠ 1 → 
      exec (.watchEnable p w) s = .next (s.setReg (rINT_WATCH_CFG p.val) (s.watchClamp p.val w &&& 0xBFF8FF00))) ∧
  (∀ (s : State), 
      exec .vioCamLoss s = .next ({ s with power := { s.power with vioLow := true }, fsync := s.fsync.map (fun (x : Nat × FsyncOut) => (x.1, { x.2 with ends := none })) })) ∧
  (∀ (s : State), 
      exec .vioCamReturn s = .next ({ s with power := { s.power with vioLow := false } }))

/-- A list or transfer that ends reports its result with the item, a NACK is counted and marks the list's frames; a stuck bus is reset and counted; a sync pulse ends at its time; an edge that is too short or too soon is counted as rejected, and an accepted one is counted, captured and acts as configured; a linked pulse starts after its delay. -/
def Obligations.CameraControl : Prop :=
  (∀ (s : State) (b : Fin 12) (w : Word), getF w fI2C_XFER_GO = 1 → 
      exec (.i2cXfer b w) s = .next ((s.setReg (rI2C_XFER b.val) (w &&& 0x7FF0FFFF)).i2cGo b.val w)) ∧
  (∀ (s : State) (b : Fin 12) (w : Word), getF w fI2C_XFER_GO ≠ 1 → 
      exec (.i2cXfer b w) s = .next (s.setReg (rI2C_XFER b.val) (w &&& 0x7FF0FFFF))) ∧
  (∀ (s : State) (b : Fin 12) (n : Nat) (rd : Word), (s.bus b.val).list = some n → 
      exec (.i2cListComplete b none rd) s = .next (((s.setBus b.val { s.bus b.val with list := none }).i2cResult b.val n (s.fld (rINT_WL n) fINT_WL_COUNT - 1) 0).i2cNext b.val)) ∧
  (∀ (s : State) (b : Fin 12) (n : Nat) (i : Fin 256) (data : Bool) (rd : Word), (s.bus b.val).list = some n → 
      exec (.i2cListComplete b (some (i, data)) rd) s = .next ((((((s.count (rI2C_NACK_CNT b.val)).setBus b.val { s.bus b.val with list := none }).i2cResult b.val n i.val (if data then 2 else 1)).listFailed b.val n).i2cNext b.val))) ∧
  (∀ (s : State) (b : Fin 12) (w rd : Word), (s.bus b.val).list = none → (s.bus b.val).xfer = some w → getF w fI2C_XFER_RD ≠ 1 → 
      exec (.i2cListComplete b none rd) s = .next (((s.setBus b.val { s.bus b.val with xfer := none }).setFld (rI2C_STAT b.val) fI2C_STAT_RESULT 0).i2cNext b.val)) ∧
  (∀ (s : State) (b : Fin 12) (w rd : Word), (s.bus b.val).list = none → (s.bus b.val).xfer = some w → getF w fI2C_XFER_RD = 1 → 
      exec (.i2cListComplete b none rd) s = .next ((((s.setBus b.val { s.bus b.val with xfer := none }).setFld (rI2C_STAT b.val) fI2C_STAT_RESULT 0).setReg (rI2C_XDATA b.val) (BitVec.ofNat 32 (rd.toNat % 2 ^ (8 * (getF w fI2C_XFER_LEN_M1 + 1))))).i2cNext b.val)) ∧
  (∀ (s : State) (b : Fin 12) (n : Nat) (i : Fin 256), (s.bus b.val).list = some n → 
      exec (.i2cStuckTimeout b i) s = .next ((((s.setBus b.val { s.bus b.val with list := none }).i2cStuck b.val n i.val).listFailed b.val n).i2cNext b.val)) ∧
  (∀ (s : State) (b : Fin 12) (i : Fin 256) (w : Word), (s.bus b.val).list = none → (s.bus b.val).xfer = some w → 
      exec (.i2cStuckTimeout b i) s = .next ((((s.setBus b.val { s.bus b.val with xfer := none }).setFld (rI2C_STAT b.val) fI2C_STAT_RESULT 4).count (rI2C_RESET_CNT b.val)).i2cNext b.val)) ∧
  (∀ (s : State) (n : Fin 12) (t : Nat), (s.fsOut n.val).ends = some t → t ≤ s.time.ns → 
      exec (.fsyncPulseEnd n) s = .next (s.setFsOut n.val { s.fsOut n.val with ends := none })) ∧
  (∀ (s : State) (n : Fin 4) (fall : Bool) (us : Nat), getF (s.reg (rINT_TRIG_CFG n.val)) fINT_TRIG_CFG_EN ≠ 0 → getF (s.reg (rINT_TRIG_CFG n.val)) fINT_TRIG_CFG_FALL = b2n fall → s.power.vioLow = false → us < s.glitch (getF (s.reg (rINT_TRIG_CFG n.val)) fINT_TRIG_CFG_GLITCH_US) → 
      exec (.trigEdge n fall us) s = .next (s.countBy (rINT_TRIG_CNT n.val) fINT_TRIG_CNT_REJ 1)) ∧
  (∀ (s t u : State) (n : Fin 4) (fall : Bool) (us : Nat) (x : TrigIn), getF (s.reg (rINT_TRIG_CFG n.val)) fINT_TRIG_CFG_EN ≠ 0 → getF (s.reg (rINT_TRIG_CFG n.val)) fINT_TRIG_CFG_FALL = b2n fall → s.power.vioLow = false → s.glitch (getF (s.reg (rINT_TRIG_CFG n.val)) fINT_TRIG_CFG_GLITCH_US) ≤ us → Cells.get (fun _ => {}) s.trig n.val = x → x.last = none → (t = (({ s with trig := Cells.set (fun _ => {}) s.trig n.val { x with last := some s.time.ns, due := if getF (s.reg (rINT_TRIG_ACT n.val)) fINT_TRIG_ACT_LINK = 1 ∧ s.awake = true then some (s.time.ns + 1000 * getF (s.reg (rINT_TRIG_ACT n.val)) fINT_TRIG_ACT_DELAY_US) else x.due } }).countBy (rINT_TRIG_CNT n.val) fINT_TRIG_CNT_ACC 1).setTime (rINT_TRIG_CAP_LO n.val) s.time.now) → (u = if getF (s.reg (rINT_TRIG_CFG n.val)) fINT_TRIG_CFG_HOSTEV = 1 then t.postEvent 0x0005 255 n.val (s.time.now % 2 ^ 32) else t) → 
      exec (.trigEdge n fall us) s = .next (if getF (s.reg (rINT_TRIG_CFG n.val)) fINT_TRIG_CFG_WAKE = 1 then u.wakeFire 3 else u)) ∧
  (∀ (s : State) (n : Fin 4) (x : TrigIn) (t : Nat), Cells.get (fun _ => {}) s.trig n.val = x → x.due = some t → t ≤ s.time.ns → 
      exec (.trigFsyncDelay n) s = .next ({ s with trig := Cells.set (fun _ => {}) s.trig n.val { x with due := none } }.fsyncPulse (getF (s.reg (rINT_TRIG_ACT n.val)) fINT_TRIG_ACT_FSYNC) (getF (s.reg (rINT_TRIG_ACT n.val)) fINT_TRIG_ACT_WIDTH_US)))

/-- The earliest row whose slots are there is moved, a row of a void frame is dropped; a slot whose last row has landed is READY with its deadline and queued; a read of STRIPE_NEXT0 hands a real-time context the earliest entry, gives a batch context 0, and waits while the queue is empty; a stripe past its deadline on a stream that drops is judged and removed; a change of the miss and skip counts posts an event and clears them. -/
def Obligations.StripeCommands : Prop :=
  (∀ (s : State) (r : BufRow) (l : List BufRow) (f : SaFrame), s.rowsInOrder = r :: l → s.saFrame r.stream r.fidx = some f → f.void = true → 
      exec .saRowWrite s = .next (s.takeRow r)) ∧
  (∀ (s t u : State) (r : BufRow) (l : List BufRow) (f : SaFrame), s.rowsInOrder = r :: l → s.saFrame r.stream r.fidx = some f → f.void = false → (((f.stripesFor r.row).foldl (fun (t : State × Bool) j => let u := t.1.saSlotFor r.stream f j; (u.1, t.2 && u.2)) (s, true)) = (t, true)) → u = (f.stripesFor r.row).foldl (fun t j => t.saPut r.stream f r.row r.samples j) (((t.countBy (rSA_STR_SLOTWAIT r.stream) wholeReg ((t.saStream r.stream).waits.elim 0 (fun k => s.time.ns - k))).setSaStream r.stream { t.saStream r.stream with waits := none }).takeRow r) → 
      exec .saRowWrite s = .next ({ u with sa := { u.sa with rowOrder := served u.sa.rowOrder r.stream } })) ∧
  (∀ (s : State) (k : Fin 48) (b : Fin 8) (n : Fin 4) (x : SaSlot) (f : SaFrame), s.saSlot (slotKey k.val b.val n.val) = some x → s.saFrame k.val x.fidx = some f → x.st = 1 → f.lastRow x.stripe < x.got → 
      exec (.slotReady k b n) s = .next (((s.saRelease (slotKey k.val b.val n.val) (x.lo, x.hi)).setSaSlot (slotKey k.val b.val n.val) { x with
          st := 2, ready := s.time.now, deadline := s.time.now + f.dl }).saQueue (slotKey k.val b.val n.val))) ∧
  (∀ (s t : State) (b : Fin 8) (c : Fin 4) (w : Word), (s.stripePop b.val c.val = some (w, t)) → 
      exec (.stripePop b c) s = .next ({ t with host := { t.host with busData := w, busError := false } })) ∧
  (∀ (s : State) (b : Fin 8) (c : Fin 4), s.rtCtx (s.phys b.val) c.val = false → 
      exec (.stripePop b c) s = .next ({ s with host := { s.host with busData := 0, busError := false } })) ∧
  (∀ (s : State) (b : Fin 8) (c : Fin 4), s.rtCtx (s.phys b.val) c.val = true → s.popNext b.val = none → 
      exec (.stripePop b c) s = .next (s)) ∧
  (∀ (s t : State) (b : Fin 8) (c : Fin 4) (w : Word) (y : Nat × SaSlot), s.sa.slots.find? (fun (y : Nat × SaSlot) => y.1 / 32 == getF w fSTRIPE_FB_STREAM && y.1 / 4 % 8 == b.val && y.2.st == 3 && y.2.ctx == c.val && y.2.stripe == 0) = some y → t = s.modSaFrame (getF w fSTRIPE_FB_STREAM) y.2.fidx (fun f => { f with handle := some (getF w fSTRIPE_FB_HANDLE) }) → 
      exec (.stripeFb b c w) s = .next ((if getF w fSTRIPE_FB_HANDLE = 0 then t.count (rSA_STR_NOBUF (getF w fSTRIPE_FB_STREAM)) else t).saSettle)) ∧
  (∀ (s : State) (b : Fin 8) (w : Word) (x : SaSlot) (r : Nat × Nat), s.saSlot (slotKey (getF w fSTRIPE_XREL_STREAM) b.val (getF w fSTRIPE_XREL_SLOT)) = some x → x.xr[getF w fSTRIPE_XREL_RANGE]? = some r → x.st = 3 → 
      exec (.stripeXrel b w) s = .next (s.saRelease (slotKey (getF w fSTRIPE_XREL_STREAM) b.val (getF w fSTRIPE_XREL_SLOT)) r)) ∧
  (∀ (s : State) (b : Fin 8) (c : Fin 4) (w : Word), s.saSlot (slotKey (getF w fSTRIPE_DONE_STREAM) b.val (getF w fSTRIPE_DONE_SLOT)) = none → 
      exec (.stripeDone b c w) s = .next (s.setStripePort (s.phys b.val) c.val { s.stripePort (s.phys b.val) c.val with dres := 0 })) ∧
  (∀ (s t v : State) (b : Fin 8) (c : Fin 4) (w : Word) (x : SaSlot) (f : SaFrame), s.saSlot (slotKey (getF w fSTRIPE_DONE_STREAM) b.val (getF w fSTRIPE_DONE_SLOT)) = some x → x.st = 3 → x.done = false → getF w fSTRIPE_DONE_STREAM < 48 → t = (s.stripeJudge (getF w fSTRIPE_DONE_STREAM) x (min 2 (getF w fSTRIPE_DONE_STATUS))).setReg (rSA_STR_LAT_MAX (getF w fSTRIPE_DONE_STREAM)) (BitVec.ofNat 32 (max ((s.stripeJudge (getF w fSTRIPE_DONE_STREAM) x (min 2 (getF w fSTRIPE_DONE_STATUS))).reg (rSA_STR_LAT_MAX (getF w fSTRIPE_DONE_STREAM))).toNat (min (s.time.now - x.ready) (2 ^ 32 - 1)))) → t.saFrame (getF w fSTRIPE_DONE_STREAM) x.fidx = some f → f.stripes.length ≠ f.j → f.xchg = false → v = t.setStripePort (s.phys b.val) c.val { t.stripePort (s.phys b.val) c.val with dres := BitVec.ofNat 32 (2 ^ 30 + b2n f.refMiss * 2 ^ 29 + b2n f.nbrBad * 2 ^ 28 + b2n f.past * 2 ^ 27 + f.late % 1024 * 2 ^ 10 + f.bad % 1024) } → 
      exec (.stripeDone b c w) s = .next ((((x.xr.foldl (fun t r => t.saRelease (slotKey (getF w fSTRIPE_DONE_STREAM) b.val (getF w fSTRIPE_DONE_SLOT)) r) v).saFree (slotKey (getF w fSTRIPE_DONE_STREAM) b.val (getF w fSTRIPE_DONE_SLOT))).saSweep (getF w fSTRIPE_DONE_STREAM)).saSettle)) ∧
  (∀ (s : State) (b : Fin 8) (c : Fin 4), 
      exec (.stripeDres b c) s = .next ({ s with host := { s.host with busData := (s.stripePort (s.phys b.val) c.val).dres, busError := false } })) ∧
  (∀ (s : State) (k : Fin 48) (y : Nat × SaSlot) (l : List (Nat × SaSlot)), s.pastEntries k.val = y :: l → y.2.stripe ≠ 0 → 
      exec (.stripeDrop k) s = .next ((((s.stripeJudge k.val y.2 3).saFree y.1).saSweep k.val).saSettle)) ∧
  (∀ (s : State) (k : Fin 48) (y : Nat × SaSlot) (l : List (Nat × SaSlot)), s.pastEntries k.val = y :: l → y.2.stripe = 0 → 
      exec (.stripeDrop k) s = .next (((((s.stripeJudge k.val y.2 3).count (rSA_STR_NOBUF k.val)).saFree y.1).saSweep k.val).saSettle)) ∧
  (∀ (s : State) (k : Fin 48), 
      exec (.saStreamDisable k) s = .next (s.saDisable k.val)) ∧
  (∀ (s : State) (k : Fin 48), 
      exec (.saStreamFlush k) s = .next (((s.sa.slots.filter (fun (y : Nat × SaSlot) => y.1 / 32 == k.val)).foldl (fun t (y : Nat × SaSlot) => t.saFree y.1) s).saSettle)) ∧
  (∀ (s : State) (k : Fin 48) (m n : Nat), (s.reg (rSA_STR_MISS k.val)).toNat = m → (s.reg (rSA_STR_SKIP k.val)).toNat = n → (m ≠ 0 ∨ n ≠ 0) → 
      ∃ t, exec (.stripeCountPoll k) s = .next t ∧
        Posted 0x0003 (s.streamScript k.val) k.val (min m 65535 * 2 ^ 16 + min n 65535) ((s.setReg (rSA_STR_MISS k.val) 0).setReg (rSA_STR_SKIP k.val) 0) t)

/-- Attachment with CONNECT enumerates at the highest speed; a reset ends the commands that are outstanding, clears CONFIGURED and RWAKE_EN and is counted and recorded; U1 and U2 are entered after their idle time, U3 on suspend, which puts an idle module with remote wake to SLEEP; resume leaves U3 and wakes; data for an armed channel is taken in order; the host takes up to four event records; requests on endpoint 0 set what they name. -/
def Obligations.UsbEvents : Prop :=
  (∀ (s t : State) (v : Fin 7), s.usbOn = true → s.power.st ≠ .dark → s.flag rUSB_CFG fUSB_CFG_CONNECT = true → v.val ≠ 0 → v.val ≠ 1 → s.flag rUSB_CFG fUSB_CFG_SS_DIS = false → t = ((({ s with power := { s.power with vbus := true } }.setFld rUSB_STAT fUSB_STAT_ATTACHED 1).setFld rUSB_STAT fUSB_STAT_SPEED v.val).setUsbLink 1) → 
      exec (.usbAttach v) s = .next ({ t with usb := { t.usb with idleSince := s.time.ns, enumerated := true } })) ∧
  (∀ (s : State) (v : Fin 7), s.power.st = .dark → 
      exec (.usbAttach v) s = .next (({ s with power := { s.power with vbus := true } }).wakeFire 1)) ∧
  (∀ (s t u : State) (k : Fin 3), s.usbOn = true → k.val ≠ 2 → t = ((s.endCommands.count rUSB_RESET_CNT).setFld rUSB_STAT fUSB_STAT_CONFIGURED 0).setFld rUSB_STAT fUSB_STAT_RWAKE_EN 0 → (u = { t with usb := { t.usb with u1 := false, u2 := false, enumerated := false, idleSince := s.time.ns } }) → 
      exec (.usbReset k) s = .next ((u.setUsbLink 1).lichenFw 0x0A12 k.val 0 0 0)) ∧
  (∀ (s t u : State), s.usbOn = true → t = ((({ s with power := { s.power with vbus := false } }).endCommands.count rUSB_RESET_CNT).setFld rUSB_STAT fUSB_STAT_CONFIGURED 0).setFld rUSB_STAT fUSB_STAT_RWAKE_EN 0 → (u = { t with usb := { t.usb with u1 := false, u2 := false, enumerated := false, idleSince := s.time.ns } }) → 
      exec (.usbReset 2) s = .next ((((u.setFld rUSB_STAT fUSB_STAT_ATTACHED 0).setFld rUSB_STAT fUSB_STAT_SPEED 0).setUsbLink 0).lichenFw 0x0A12 2 0 0 0)) ∧
  (∀ (s : State) (inward : Bool), 
      exec (.clearEndpointHalt 2 inward) s = .next ((s.host.outstanding.filter (fun o => o.opcode % 4096 == 0x202 && decide (48 ≤ o.object) == inward)).foldl (fun t o => t.stopXfer o 0x0F) s)) ∧
  (∀ (s : State) (ep : Fin 4) (inward : Bool), ep.val ≠ 2 → ep.val ≠ 0 → 
      exec (.clearEndpointHalt ep inward) s = .next ({ s with usb := { s.usb with seqReset := if (2 * ep.val + b2n inward) ∈ s.usb.seqReset then s.usb.seqReset else s.usb.seqReset ++ [2 * ep.val + b2n inward] } })) ∧
  (∀ (s t u : State) (n : Fin 16) (b : List Byte) (r left : Nat), t = s.countBy rUSB_ERR_CNT fUSB_ERR_CNT_RETRY r → Cells.get (fun _ => 0) t.usb.armed (32 + n.val) = left → t.flag rUSB_STAT fUSB_STAT_CONFIGURED = true → t.usbOn = true → b.length ≤ left → 0 < left → (t.fld rUSB_STAT fUSB_STAT_SPEED ≠ 2 ∨ n.val = 0) → u = t.usbTraffic → 
      exec (.ep2OutData n b r) s = .next ({ u with usb := { u.usb with
          armed := Cells.set (fun _ => 0) u.usb.armed (32 + n.val) (left - b.length),
          outData := Cells.set (fun _ => []) u.usb.outData (32 + n.val) (Cells.get (fun _ => []) u.usb.outData (32 + n.val) ++ b) } })) ∧
  (∀ (s : State), s.usb.u1 = true → s.usbLink = 1 → s.usbOn = true → s.usb.idleSince + 2000 ≤ s.time.ns → 
      exec (.usbU1U2Entry false) s = .next (s.setUsbLink 2)) ∧
  (∀ (s : State), s.usb.u2 = true → (s.usbLink = 1 ∨ s.usbLink = 2) → s.usbOn = true → s.usb.idleSince + 100000 ≤ s.time.ns → 
      exec (.usbU1U2Entry true) s = .next (s.setUsbLink 3)) ∧
  (∀ (s : State), s.usbOn = true → s.usbLink ≠ 0 → s.flag rUSB_STAT fUSB_STAT_RWAKE_EN = false → 
      exec .usbSuspend s = .next (s.setUsbLink 4)) ∧
  (∀ (s : State) (m : Nat), s.usbOn = true → s.usbLink ≠ 0 → s.flag rUSB_STAT fUSB_STAT_RWAKE_EN = true → s.host.outstanding.isEmpty = true → s.host.held.isEmpty = true → s.awake = true → s.scripts.all (fun (x : Nat × Script) => x.2.st != .running) = true → s.usb.sleepMask.getD 0x3F = m → 
      exec .usbSuspend s = .next ((s.setUsbLink 4).beginEntry false none (if bitOf m 1 then m else m + 2))) ∧
  (∀ (s : State), s.usbLink = 4 → s.awake = true → 
      exec .usbResume s = .next ((s.setUsbLink 1).wakeFire 1)) ∧
  (∀ (s : State), s.usbLink = 4 → (s.power.st = .sleep ∨ s.power.st = .waking) → 
      exec .usbResume s = .next ((s.setUsbLink 5).wakeFire 1)) ∧
  (∀ (s : State) (v : Fin 7), 3 ≤ s.fld rUSB_STAT fUSB_STAT_SPEED → v.val < s.fld rUSB_STAT fUSB_STAT_SPEED → 
      exec (.usbTrainFail v) s = .next ((s.setFld rUSB_STAT fUSB_STAT_SPEED v.val).lichenFw 0x0A11 v.val 0 0 0)) ∧
  (∀ (s : State), s.flag rUSB_STAT fUSB_STAT_CONFIGURED = true → s.usbOn = true → 
      exec .ep3InTransfer s = .next (({ s with events := { s.events with queue := s.events.queue.drop (min 4 s.events.queue.length), taken := s.events.taken + min 4 s.events.queue.length } }).usbTraffic)) ∧
  (∀ (s : State) (v : Fin 2), s.usbOn = true → s.fld rUSB_STAT fUSB_STAT_SPEED ≠ 0 → 
      exec (.usbStandardRequest (.setConfiguration v.val)) s = .next (s.usbTraffic.setFld rUSB_STAT fUSB_STAT_CONFIGURED v.val)) ∧
  (∀ (s : State) (on : Bool), s.usbOn = true → s.fld rUSB_STAT fUSB_STAT_SPEED ≠ 0 → 
      exec (.usbStandardRequest (.feature .u1Enable on)) s = .next ({ s.usbTraffic with usb := { s.usbTraffic.usb with u1 := on } })) ∧
  (∀ (s : State) (on : Bool), s.usbOn = true → s.fld rUSB_STAT fUSB_STAT_SPEED ≠ 0 → 
      exec (.usbStandardRequest (.feature .u2Enable on)) s = .next ({ s.usbTraffic with usb := { s.usbTraffic.usb with u2 := on } })) ∧
  (∀ (s : State) (on : Bool), s.usbOn = true → s.fld rUSB_STAT fUSB_STAT_SPEED ≠ 0 → 
      exec (.usbStandardRequest (.feature .remoteWake on)) s = .next (s.usbTraffic.setFld rUSB_STAT fUSB_STAT_RWAKE_EN (b2n on)))

/-- A group with a CRC error is counted and a NAK is due; a good group in order delivers its flits and one out of order only its trailer; ACK that has not advanced for 4 microseconds makes a resend; no good trailer for 16 microseconds, a write of RESET and a LINIT while UP start the reset protocol with their cause; after it the link trains and sends LINIT; LINIT with new sizes is answered with LINIT_ACK; LINIT_ACK makes the link UP and records a reset; LOCK locks a window. -/
def Obligations.LinkEvents : Prop :=
  (∀ (s : State) (l : Fin 6) (g : FlitGroup), (s.linkSt l.val = 2 ∨ s.linkSt l.val = 3) → g.good = false → 
      exec (.eplGroupRx l g) s = .next ((s.count (rEPL_CRC_ERR_CNT l.val)).setLink l.val { s.link l.val with nak := true })) ∧
  (∀ (s t : State) (l : Fin 6) (g : FlitGroup), (s.linkSt l.val = 2 ∨ s.linkSt l.val = 3) → g.good = true → g.kinds.any (· == 3) = false → g.nak = false → t = s.acceptTrailer l.val g → g.seq.toNat = (t.link l.val).rxSeq → 
      exec (.eplGroupRx l g) s = .next ((t.setLink l.val { t.link l.val with rxSeq := ((t.link l.val).rxSeq + 1) % 4096, nak := false }).acceptFlits l.val g.replay (g.kinds.zip g.flits))) ∧
  (∀ (s t : State) (l : Fin 6) (g : FlitGroup), (s.linkSt l.val = 2 ∨ s.linkSt l.val = 3) → g.good = true → g.kinds.any (· == 3) = false → g.nak = false → t = s.acceptTrailer l.val g → g.seq.toNat ≠ (t.link l.val).rxSeq → 
      exec (.eplGroupRx l g) s = .next (t)) ∧
  (∀ (s : State) (l : Fin 6), s.linkSt l.val = 3 → 0 < (s.link l.val).replayBuf → (s.link l.val).lastAck + 4000 ≤ s.time.ns → 
      exec (.eplReplayTimeout l) s = .next (s.resend l.val)) ∧
  (∀ (s : State) (l : Fin 6), s.linkSt l.val = 3 → (s.link l.val).lastTrailer + 16000 ≤ s.time.ns → 
      exec (.eplTrailerTimeout l) s = .next (s.linkReset l.val 1)) ∧
  (∀ (s : State) (l : Fin 6), s.linkSt l.val ≠ 0 → s.linkSt l.val ≠ 5 → 
      exec (.eplResetWrite l) s = .next (s.linkReset l.val 4)) ∧
  (∀ (s : State) (l : Fin 6), s.linkSt l.val = 4 → (s.link l.val).rx.isEmpty = true → 
      exec (.eplLinkReset l) s = .next (s.setLinkSt l.val 1)) ∧
  (∀ (s t : State) (l : Fin 6), s.linkSt l.val = 0 → s.flag (rEPL_CTL l.val) fEPL_CTL_EN = true → s.modId < 24 → s.awake = true → t = s.setLink l.val { s.link l.val with signal := true } → 
      exec (.eplSignalDetect l) s = .next (t.setLinkSt l.val 1)) ∧
  (∀ (s t : State) (l : Fin 6), s.linkSt l.val = 1 → t = (s.setLinkSt l.val 2).transmit l.val ((s.setLinkSt l.val 2).initMsg l.val 0x48) → 
      exec (.eplTrainDone l) s = .next (t.setLink l.val { t.link l.val with lastTrailer := s.time.ns, lastAck := s.time.ns })) ∧
  (∀ (s : State) (w : Fin 16), s.canon → 
      ∃ t, exec (.eplWinLock w) s = .next t ∧ t.flag (rEPL_WIN_CTL w.val) fEPL_WIN_CTL_LOCK = true ∧ SameRegs [rEPL_WIN_CTL w.val] s t ∧ t = { s with regs := t.regs }) ∧
  (∀ (s t v : State) (l : Fin 6) (m : LinkMsg) (sizes : List Nat), (s.link l.val).slot = some m → m.type = 0x48 → s.linkSt l.val = 2 → m.src ≠ s.modId → m.src < 24 → (sizes = [m.field 16 2, m.field 18 2, m.field 20 1]) → (s.link l.val).peerSize.any (fun o => o != sizes) = false → (s.link l.val).rx.isEmpty = true → m.field 24 4 % 2 ^ 24 = s.fld rEPL_FAB_CFG fEPL_FAB_CFG_EPOCH → t = (s.setLink l.val { s.link l.val with slot := none }).setFld (rEPL_STAT l.val) fEPL_STAT_PEER_MOD m.src → v = (List.range 3).foldl (fun t c => t.setFld (rEPL_CRED l.val) (classFld c) (sizes.getD c 0)) (t.setLink l.val { t.link l.val with peerSize := some sizes }) → 
      exec (.linit l) s = .next (v.transmit l.val (v.initMsg l.val 0x49))) ∧
  (∀ (s : State) (l : Fin 6) (m : LinkMsg), (s.link l.val).slot = some m → m.type = 0x48 → s.linkSt l.val = 3 → 
      exec (.linit l) s = .next ((s.setLink l.val { s.link l.val with slot := none }).linkReset l.val 5)) ∧
  (∀ (s t : State) (l : Fin 6) (m : LinkMsg), (s.link l.val).slot = some m → m.type = 0x49 → s.linkSt l.val = 2 → (t = (((s.setLink l.val { s.link l.val with slot := none, lastBeat := s.time.ns, lastSent := s.time.ns, lastTrailer := s.time.ns, cause := 0 }).setLinkSt l.val 3).setFld (rEPL_STAT l.val) fEPL_STAT_ASLEEP 0).setFld (rEPL_STAT l.val) fEPL_STAT_PEER_ALIVE 1) → 
      exec (.linitAck l) s = .next (if (s.link l.val).cause = 0 then t else t.lichenFw 0x0903 l.val (s.link l.val).cause (s.link l.val).reclaimReq (s.link l.val).reclaimOther))

/-- A write or read that no window admits is counted and answered DENIED, one that cannot be translated or performed with a bus error, and one that is performed is answered OK, the read with its data; a WR_ACK or RD_DATA returns to its channel; an announcement opens a waiting channel, which halts where the table differs; data goes to an open channel in order; NB4_CTL stops, restarts, aborts or completes the sender. -/
def Obligations.LinkRequests : Prop :=
  (∀ (s : State) (l : Fin 7) (m : LinkMsg), s.headMsg l.val 0x01 = some m → s.admits m (m.field 16 2) true = false → 
      exec (.wr l) s = .next ((s.winDenied l.val m).wrReply l.val m 1)) ∧
  (∀ (s : State) (l : Fin 7) (m : LinkMsg), s.headMsg l.val 0x01 = some m → s.admits m (m.field 16 2) true = true → s.linkAddr m true = none → 
      exec (.wr l) s = .next (s.wrReply l.val m 2)) ∧
  (∀ (s t : State) (l : Fin 7) (m : LinkMsg) (a : Nat), s.headMsg l.val 0x01 = some m → s.admits m (m.field 16 2) true = true → s.linkAddr m true = some a → s.linkWaits a (m.field 16 2) true = false → s.dpaWrite false a (m.data.take (m.field 16 2)) = some t → 
      exec (.wr l) s = .next (t.wrReply l.val m 0)) ∧
  (∀ (s : State) (l : Fin 7) (m : LinkMsg) (a : Nat), s.headMsg l.val 0x01 = some m → s.admits m (m.field 16 2) true = true → s.linkAddr m true = some a → s.linkWaits a (m.field 16 2) true = true → 
      exec (.wr l) s = .next (s)) ∧
  (∀ (s : State) (l : Fin 7) (m : LinkMsg), s.headMsg l.val 0x02 = some m → s.admits m (m.field 16 2) false = false → 
      exec (.rd l) s = .next ((s.winDenied l.val m).rdReply l.val m 1 [])) ∧
  (∀ (s t : State) (l : Fin 7) (m : LinkMsg) (a : Nat) (d : List Byte), s.headMsg l.val 0x02 = some m → s.admits m (m.field 16 2) false = true → s.linkAddr m false = some a → s.linkWaits a (m.field 16 2) false = false → (s.dpaRead false a (m.field 16 2) = (some d, t)) → 
      exec (.rd l) s = .next (t.rdReply l.val m 0 d)) ∧
  (∀ (s t : State) (l : Fin 7) (m : LinkMsg) (r : LinkReq), s.headMsg l.val 0x03 = some m → ((s.freeRx l.val m).takeReq m = some (r, t)) → 
      exec (.wrAck l) s = .next (if m.field 16 1 = 0 then t.dmaAck 9 r.chan else t.failReq r)) ∧
  (∀ (s : State) (l : Fin 7) (m : LinkMsg), s.headMsg l.val 0x03 = some m → (s.freeRx l.val m).takeReq m = none → 
      exec (.wrAck l) s = .next (s.freeRx l.val m)) ∧
  (∀ (s t : State) (l : Fin 7) (m : LinkMsg) (r : LinkReq), s.headMsg l.val 0x04 = some m → ((s.freeRx l.val m).takeReq m = some (r, t)) → 
      exec (.rdData l) s = .next (if m.field 16 1 = 0 then t.dmaPeerData 9 r.chan r.pos (m.data.take r.bytes) else t.failReq r)) ∧
  (∀ (s : State) (l : Fin 7) (m : LinkMsg), s.headMsg l.val 0x10 = some m → s.nb4Waits (m.field 16 1) = false → 
      exec (.nb4Ann l) s = .next ((s.freeRx l.val m).denyMsg m 2)) ∧
  (∀ (s t : State) (l : Fin 7) (m : LinkMsg) (lv : List Nat), s.headMsg l.val 0x10 = some m → (s.admits m 1 true = true ∨ m.src = s.modId) → s.nb4Waits (m.field 16 1) = true → lv = s.levels (dfield (s.chan 9 (m.field 16 1)).desc 13 21 20) → (t = (s.freeRx l.val m).modChan 9 (m.field 16 1) (fun x => { x with nb4Open := true, nb4Chan := m.tag % 256, nb4Mod := m.src, levels := lv })) → 
      exec (.nb4Ann l) s = .next (if (decide (m.data.take 7 = (lv.drop 1).map (fun x => BitVec.ofNat 8 x)) && ((m.data.getD 7 0).toNat == dfield (s.chan 9 (m.field 16 1)).desc 13 21 20)) = true then t else t.skew (m.field 16 1))) ∧
  (∀ (s : State) (l : Fin 7) (m : LinkMsg), s.headMsg l.val 0x11 = some m → s.nb4Waits (m.field 16 1) = false → 
      exec (.nb4Data l) s = .next ((s.freeRx l.val m).denyMsg m 2)) ∧
  (∀ (s t : State) (l : Fin 7) (m : LinkMsg) (ok : Bool), s.headMsg l.val 0x11 = some m → s.nb4Waits (m.field 16 1) = true → (s.chan 9 (m.field 16 1)).nb4Open = true → (s.nb4Blocks (m.field 16 1) (m.field 20 4) (m.field 17 1) m.data = (t, ok)) → 
      exec (.nb4Data l) s = .next (if ok then t.freeRx l.val m else t)) ∧
  (∀ (s : State) (l : Fin 7) (m : LinkMsg) (t : State), s.headMsg l.val 0x12 = some m → t = s.freeRx l.val m → xform (t.chan 9 (m.field 16 1)).desc = 9 → (t.chan 9 (m.field 16 1)).started = true → (t.chan 9 (m.field 16 1)).status = none → 
      exec (.nb4Ctl l) s = .next (if m.field 17 1 = 0 then t.modChan 9 (m.field 16 1) (fun y => { y with nb4Stopped := true })
        else if m.field 17 1 = 1 then t.modChan 9 (m.field 16 1) (fun y => { y with nb4Stopped := false, pos := m.field 20 4 })
        else if m.field 17 1 = 2 then t.modChan 9 (m.field 16 1) (fun y => { y with status := some 1 })
        else (t.modChan 9 (m.field 16 1) (fun y => { y with nb4Done := true })).dmaPoint 9 (m.field 16 1)))

/-- A child answers TS_SYNC of its parent with TS_DREQ, a parent TS_DREQ with TS_DRSP, and a child corrects itself from TS_DRSP; the home counts arrivals and a released generation releases at its time or at once; a broken generation breaks; a heartbeat leaves when its period has passed, keeps PEER_ALIVE and shows an epoch that differs; three periods without one clear PEER_ALIVE; GOODBYE sets ASLEEP. -/
def Obligations.LinkServices : Prop :=
  (∀ (s t : State) (l : Fin 7) (m : LinkMsg), s.headMsg l.val 0x20 = some m → s.time.sync.parent = some l.val → (t = { s.freeRx l.val m with time := { (s.freeRx l.val m).time with sync := { (s.freeRx l.val m).time.sync with t1 := m.field 16 8, t2 := m.arrival, t3 := some s.now } } }) → 
      exec (.tsSync l) s = .next (t.handLink l.val (t.message 0x21 m.src 0 (leBytes 8 s.now) []))) ∧
  (∀ (s : State) (l : Fin 7) (m : LinkMsg), s.headMsg l.val 0x20 = some m → s.time.sync.parent ≠ some l.val → 
      exec (.tsSync l) s = .next (s.freeRx l.val m)) ∧
  (∀ (s : State) (l : Fin 7) (m : LinkMsg), s.headMsg l.val 0x21 = some m → 
      exec (.tsDreq l) s = .next ((s.freeRx l.val m).handLink l.val ((s.freeRx l.val m).message 0x22 m.src 0 (leBytes 8 m.arrival) []))) ∧
  (∀ (s : State) (l : Fin 7) (m : LinkMsg), s.headMsg l.val 0x22 = some m → 
      exec (.tsDrsp l) s = .next (if s.time.sync.parent = some l.val then (s.freeRx l.val m).correct (m.field 16 8) else s.freeRx l.val m)) ∧
  (∀ (s t : State), s.time.sync.started + 1000000 ≤ s.time.ns → s.awake = true → s.time.sync.parent = none → s.time.sync.running = false → (t = { s with time := { s.time with sync := { s.time.sync with running := false, started := s.time.ns, missed := 0 } } }) → 
      exec .timeSyncTimer s = .next ((List.range 6).foldl (fun u l => if u.linkSt l = 3 then u.handLink l (u.message 0x20 (u.neighbour l) 0 (leBytes 8 u.now) []) else u) t)) ∧
  (∀ (s : State) (l : Fin 7) (m : LinkMsg) (t : State), s.headMsg l.val 0x30 = some m → t = s.freeRx l.val m → t.flag (rBAR_CFG (m.field 16 1)) fBAR_CFG_FAB = true → t.fld (rBAR_CFG (m.field 16 1)) fBAR_CFG_HOME = t.modId → 
      exec (.barArr l) s = .next (t.homeArrive (m.field 16 1) (m.field 17 1) m.src)) ∧
  (∀ (s : State) (l : Fin 7) (m : LinkMsg) (t : State), s.headMsg l.val 0x31 = some m → t = s.freeRx l.val m → m.field 17 1 = t.barGen (m.field 16 1) → t.barSt (m.field 16 1) ≠ 2 → t.now ≤ m.field 20 8 → 
      exec (.barRel l) s = .next ((t.setFld (rBAR_STAT (m.field 16 1)) fBAR_STAT_STATE 1).setBar (m.field 16 1) { t.bar (m.field 16 1) with releaseAt := some (m.field 20 8) })) ∧
  (∀ (s : State) (l : Fin 7) (m : LinkMsg) (t : State), s.headMsg l.val 0x31 = some m → t = s.freeRx l.val m → m.field 17 1 = t.barGen (m.field 16 1) → t.barSt (m.field 16 1) ≠ 2 → m.field 20 8 < t.now → 
      exec (.barRel l) s = .next ((t.barNext (m.field 16 1)).count (rBAR_LATE_CNT (m.field 16 1)))) ∧
  (∀ (s : State) (l : Fin 7) (m : LinkMsg) (t : State), s.headMsg l.val 0x32 = some m → t = s.freeRx l.val m → m.field 17 1 = t.barGen (m.field 16 1) → t.barSt (m.field 16 1) ≠ 2 → 
      exec (.barBroken l) s = .next (t.barBreak (m.field 16 1) 0)) ∧
  (∀ (s t : State) (l : Fin 6), s.linkSt l.val = 3 → (s.link l.val).lastSent + s.fld (rEPL_CTL l.val) fEPL_CTL_HB_US * 1000 ≤ s.time.ns → t = s.setLink l.val { s.link l.val with lastSent := s.time.ns } → 
      exec (.heartbeatTimer l) s = .next (t.handLink l.val (t.message 0x40 (s.neighbour l.val) 0 (leBytes 1 s.power.st.num ++ leBytes 3 0 ++ leBytes 4 (s.fld rEPL_FAB_CFG fEPL_FAB_CFG_EPOCH)) []))) ∧
  (∀ (s : State) (l : Fin 7) (m : LinkMsg) (t u : State), s.headMsg l.val 0x40 = some m → l.val ≠ 6 → t = (s.freeRx l.val m).setFld (rEPL_STAT l.val) fEPL_STAT_PEER_ALIVE 1 → u = t.setLink l.val { t.link l.val with lastBeat := s.time.ns } → 
      exec (.heartbeat l) s = .next (if m.field 20 4 % 2 ^ 24 ≠ s.fld rEPL_FAB_CFG fEPL_FAB_CFG_EPOCH then u.setFld (rEPL_STAT l.val) fEPL_STAT_EPOCH_MISMATCH 1 else u)) ∧
  (∀ (s t : State) (l : Fin 6), s.linkSt l.val = 3 → s.flag (rEPL_STAT l.val) fEPL_STAT_PEER_ALIVE = true → (s.link l.val).lastBeat + 3 * s.fld (rEPL_CTL l.val) fEPL_CTL_HB_US * 1000 ≤ s.time.ns → t = s.setFld (rEPL_STAT l.val) fEPL_STAT_PEER_ALIVE 0 → 
      exec (.peerAliveTimeout l) s = .next ((if s.flag (rEPL_STAT l.val) fEPL_STAT_ASLEEP = true then t else t.lichenFw 0x0906 l.val (s.neighbour l.val) 0 0).peerFails (s.neighbour l.val))) ∧
  (∀ (s : State) (l : Fin 7) (m : LinkMsg), s.headMsg l.val 0x41 = some m → l.val ≠ 6 → 
      exec (.goodbye l) s = .next (((s.freeRx l.val m).setFld (rEPL_STAT l.val) fEPL_STAT_ASLEEP 1).peerFails (s.neighbour l.val)))

/-- A locked cluster PLL ungates its cluster and a lost one gates it and is recorded; a transition takes voltage before frequency upward and frequency before voltage downward; AVS adds 5 mV on low slack and removes 5 mV after 1 ms above the guard band; a droop halves the clock for 1 microsecond and is counted; two samples above 125 % of the cap drop both clusters to OP0; a reading above the critical temperature enters DARK; a hold that has ended is recorded and closed. -/
def Obligations.PowerAndClocks : Prop :=
  (∀ (s t : State) (k : Fin 5), (t = { s with power := { s.power with locked := if k.val ∈ s.power.locked then s.power.locked else s.power.locked ++ [k.val] } }) → 
      exec (.pllLock k) s = .next (if k.val = 1 ∨ k.val = 2 then t.setCluster (k.val - 1) { t.cluster (k.val - 1) with unlocked := false } else t)) ∧
  (∀ (s t u v : State) (k : Fin 5) (m l : Nat), t = { s with power := { s.power with locked := s.power.locked.filter (· != k.val) } } → (t.free Config.analogueFigure = (m, u)) → (u.free Config.analogueFigure = (l, v)) → 
      exec (.pllLockLoss k) s = .next (if k.val = 1 ∨ k.val = 2 then (v.lichenFw 0x040A (Config.checkNumber 2) k.val m l).setCluster (k.val - 1) { (v.lichenFw 0x040A (Config.checkNumber 2) k.val m l).cluster (k.val - 1) with unlocked := true } else v.lichenFw 0x040A (Config.checkNumber 2) k.val m l)) ∧
  (∀ (s : State) (c : Fin 2), (s.cluster c.val).clockOp < s.effOp c.val → (s.cluster c.val).voltOp < s.effOp c.val → 
      exec (.opTransition c) s = .next ((s.setCluster c.val { s.cluster c.val with voltOp := s.effOp c.val }).setFld (rPWR_AVS c.val) fPWR_AVS_MV (opNominal (s.effOp c.val)))) ∧
  (∀ (s : State) (c : Fin 2), (s.cluster c.val).clockOp < s.effOp c.val → s.effOp c.val ≤ (s.cluster c.val).voltOp → 
      exec (.opTransition c) s = .next (s.setCluster c.val { s.cluster c.val with clockOp := s.effOp c.val })) ∧
  (∀ (s : State) (c : Fin 2), s.effOp c.val < (s.cluster c.val).clockOp → 
      exec (.opTransition c) s = .next (s.setCluster c.val { s.cluster c.val with clockOp := s.effOp c.val })) ∧
  (∀ (s : State) (c : Fin 2), (s.cluster c.val).clockOp = s.effOp c.val → (s.cluster c.val).voltOp ≠ s.effOp c.val → 
      exec (.opTransition c) s = .next ((s.setCluster c.val { s.cluster c.val with voltOp := s.effOp c.val }).setFld (rPWR_AVS c.val) fPWR_AVS_MV (opNominal (s.effOp c.val)))) ∧
  (∀ (s : State) (c : Fin 2) (a : Bool), 
      exec (.avsTick c true a) s = .next ((s.setCluster c.val { s.cluster c.val with slackSince := none }).setFld (rPWR_AVS c.val) fPWR_AVS_MV (clampNat (opFloor (s.cluster c.val).voltOp) (opNominal (s.cluster c.val).voltOp + 50) (s.fld (rPWR_AVS c.val) fPWR_AVS_MV + 5)))) ∧
  (∀ (s : State) (c : Fin 2) (n : Nat), (s.cluster c.val).slackSince = some n → n + 1000000 ≤ s.time.ns → 
      exec (.avsTick c false true) s = .next ((s.setCluster c.val { s.cluster c.val with slackSince := some s.time.ns }).setFld (rPWR_AVS c.val) fPWR_AVS_MV (clampNat (opFloor (s.cluster c.val).voltOp) (opNominal (s.cluster c.val).voltOp + 50) (s.fld (rPWR_AVS c.val) fPWR_AVS_MV - 5)))) ∧
  (∀ (s : State) (c : Fin 2), (s.cluster c.val).slackSince = none → 
      exec (.avsTick c false true) s = .next (s.setCluster c.val { s.cluster c.val with slackSince := some s.time.ns })) ∧
  (∀ (s : State) (c : Fin 2), 
      exec (.avsTick c false false) s = .next (s.setCluster c.val { s.cluster c.val with slackSince := none })) ∧
  (∀ (s : State) (c : Fin 2) (h : Hold), (h = (s.cluster c.val).droopHold.getD ⟨s.time.ns, s.reqOp c.val, s.effOp c.val, none⟩) → ((s.cluster c.val).droopHold = none ∨ s.time.ns ≤ (s.cluster c.val).lastDroop + 1000000) → 
      exec (.droopEvent c) s = .next ((s.setCluster c.val { s.cluster c.val with droopUntil := s.time.ns + 1000, lastDroop := s.time.ns, droopHold := some { h with lowest := min h.lowest (s.effOp c.val) } }).count rPWR_DROOP_CNT)) ∧
  (∀ (s t : State) (mv curr c0 c1 : Nat), (t = { s with power := { s.power with samples := (mv * curr / 100 :: s.power.samples).take 100, nSamples := s.power.nSamples + 1 } }) → 2 ≤ t.power.samples.length → (t.power.samples.take 2).all (fun x => decide (5 * (1000 * s.fld rPWR_CAP fPWR_CAP_CAP) < 4 * x)) = true → 
      exec (.powerLimiterSample mv curr c0 c1) s = .next ((((((t.setFld rPWR_IN fPWR_IN_MV mv).setFld rPWR_IN fPWR_IN_CURR curr).setReg rPWR_IN_AVG (BitVec.ofNat 32 (meanOf 100 t.power.samples))).setCluster 0
          { (((t.setFld rPWR_IN fPWR_IN_MV mv).setFld rPWR_IN fPWR_IN_CURR curr).setReg rPWR_IN_AVG (BitVec.ofNat 32 (meanOf 100 t.power.samples))).cluster 0 with powerOp := 0 }).setCluster 1
          { (((t.setFld rPWR_IN fPWR_IN_MV mv).setFld rPWR_IN fPWR_IN_CURR curr).setReg rPWR_IN_AVG (BitVec.ofNat 32 (meanOf 100 t.power.samples))).cluster 1 with powerOp := 0 }).settle)) ∧
  (∀ (s t : State) (mv curr c0 c1 : Nat), (t = { s with power := { s.power with samples := (mv * curr / 100 :: s.power.samples).take 100, nSamples := s.power.nSamples + 1 } }) → meanOf 10 t.power.samples ≤ 1000 * s.fld rPWR_CAP fPWR_CAP_CAP → (t.power.samples.take 2).all (fun x => decide (5 * (1000 * s.fld rPWR_CAP fPWR_CAP_CAP) < 4 * x)) = false → s.reqOp 0 ≤ (s.cluster 0).powerOp → s.reqOp 1 ≤ (s.cluster 1).powerOp → 
      exec (.powerLimiterSample mv curr c0 c1) s = .next (((t.setFld rPWR_IN fPWR_IN_MV mv).setFld rPWR_IN fPWR_IN_CURR curr).setReg rPWR_IN_AVG (BitVec.ofNat 32 (meanOf 100 t.power.samples)))) ∧
  (∀ (s t u : State) (n : Fin 14) (x : Int), t = { s with power := { s.power with temps := Cells.set (fun _ => 0) s.power.temps n.val x } } → u = (((((t.setFld rTHERM_STAT fTHERM_STAT_SENSOR (t.hotSensor 13)).setFld rTHERM_STAT fTHERM_STAT_TEMP (wrapTo 16 (t.temp (t.hotSensor 13)))).throttle 0).throttle 1).settle.trip 0 n.val).trip 1 n.val → (u.temp n.val ≤ (if n.val ≤ 11 then 1150 else 1100)) → 
      exec (.thermalCheck n x) s = .next (u)) ∧
  (∀ (s t u v : State) (n : Fin 14) (x : Int), t = { s with power := { s.power with temps := Cells.set (fun _ => 0) s.power.temps n.val x } } → u = (((((t.setFld rTHERM_STAT fTHERM_STAT_SENSOR (t.hotSensor 13)).setFld rTHERM_STAT fTHERM_STAT_TEMP (wrapTo 16 (t.temp (t.hotSensor 13)))).throttle 0).throttle 1).settle.trip 0 n.val).trip 1 n.val → ((if n.val ≤ 11 then 1150 else 1100) < u.temp n.val) → u.power.st ≠ .dark → u.power.entry = none → v = (u.setReg rAON_RST_CAUSE (u.reg rAON_RST_CAUSE ||| 0x40)).lichenHw 0x0203 n.val (wrapTo 32 (u.temp n.val)) 0 0 → 
      exec (.thermalCheck n x) s = .next (v.beginEntry true none (v.fld rAON_WAKE_EN fAON_WAKE_EN_SRC))) ∧
  (∀ (s : State) (k : Fin 3) (c : Fin 2) (h : Hold) (n : Nat), (s.cluster c.val).holdOf k.val = some h → h.ended = some n → k.val ≠ 2 → 
      exec (.limitHoldEnd k c) s = .next ((s.recordHold k.val c.val h false).setCluster c.val (((s.recordHold k.val c.val h false).cluster c.val).setHold k.val none))) ∧
  (∀ (s : State) (k : Fin 3) (c : Fin 2) (h : Hold), (s.cluster c.val).holdOf k.val = some h → h.ended = none → k.val ≠ 2 → h.since + 86400000000000 ≤ s.time.ns → 
      exec (.limitHoldEnd k c) s = .next ((s.recordHold k.val c.val h true).setCluster c.val (((s.recordHold k.val c.val h true).cluster c.val).setHold k.val (some { h with since := s.time.ns, lowest := s.effOp c.val }))))

/-- IDLE is entered IDLE_HYST_US after the last work and left at once by work; an entry to SLEEP or DARK performs its steps in order: steps 1 to 4, then the commit point (self-refresh, or writing the recorder state), then the state itself; a wake source fires; WAKE_COMPLETE, 120 microseconds after the source was accepted, returns the module to ACTIVE and posts the wake. -/
def Obligations.PowerStates : Prop :=
  (∀ (s : State), s.power.st = .active → s.working = false → s.power.lastWork + 1000 * s.fld rAON_IDLE_HYST fAON_IDLE_HYST_IDLE_HYST_US ≤ s.time.ns → 
      exec .idleEntry s = .next ({ s with power := { s.power with st := .idle, prev := .active, ungated := [] } })) ∧
  (∀ (s : State), s.power.st = .idle → 
      exec .idleExit s = .next ({ s with power := { s.power with st := .active, prev := .idle, ungated := [], lastWork := s.time.ns } })) ∧
  (∀ (s : State) (e : PowerEntry), s.power.entry = some e → s.power.st = .entering → e.dark = false → e.step ≤ 4 → 
      exec .sleepEntry s = .next (s.entryWork e)) ∧
  (∀ (s : State) (e : PowerEntry), s.power.entry = some e → s.power.st = .entering → e.dark = false → e.step = 5 → 
      exec .sleepEntry s = .next (State.entryStep { s with power := { s.power with selfRefresh := true } } 6)) ∧
  (∀ (s : State) (e : PowerEntry), s.power.entry = some e → s.power.st = .entering → e.dark = false → 5 < e.step → s.fastSource = false → 
      exec .sleepEntry s = .next (s.enterSleep)) ∧
  (∀ (s : State) (e : PowerEntry), s.power.entry = some e → s.power.st = .entering → e.dark = true → e.step ≤ 4 → 
      exec .darkEntry s = .next (s.entryWork e)) ∧
  (∀ (s : State) (e : PowerEntry), s.power.entry = some e → s.power.st = .entering → e.dark = true → e.step = 5 → 
      exec .darkEntry s = .next (s.lichenDark.entryStep 6)) ∧
  (∀ (s : State) (e : PowerEntry), s.power.entry = some e → s.power.st = .entering → e.dark = true → 5 < e.step → 
      exec .darkEntry s = .next (s.enterDark)) ∧
  (∀ (s : State) (k : Fin 6), 
      exec (.wakeSource k) s = .next (s.wakeFire k.val)) ∧
  (∀ (s : State), 
      exec .smbWake s = .next (if s.power.st = .sleep ∨ s.power.st = .dark ∨ s.power.st = .waking then s.wakeFire 5 else s)) ∧
  (∀ (s t u : State), s.power.st = .waking → s.fastSource = true → s.power.wakeAt + 120000 ≤ s.time.ns → (t = { s.discardFrames with power := { s.power with st := .active, prev := .waking, selfRefresh := false, lastWork := s.time.ns, wdog := 0 } }) → (u = ((List.range 6).foldl (fun t l => if t.flag (rEPL_CTL l) fEPL_CTL_EN ∧ t.linkSt l = 0 ∧ t.modId < 24 then t.retrain l else t) t.powerStores).refill) → 
      exec .wakeComplete s = .next ((State.postWake (u.scripts.foldl (fun (t : State) (x : Nat × Script) => t.resumeScript x.1) u) ((u.scripts.foldl (fun (t : State) (x : Nat × Script) => t.resumeScript x.1) u).fld rAON_WAKE_CAUSE fAON_WAKE_CAUSE_CAUSE)).postWatch))

/-- KICK clears the watchdog; its expiry while awake is recorded, resets the module and alerts; RST_N resets everything outside the AON domain; power-on leaves only the pins, the fuses and the serial NOR; a tag fault in the fault handler resets the Prompter, whose restart faults every script and is recorded; low input alerts, or puts the module in DARK at once, and a module so put boots when the input has recovered. -/
def Obligations.Resets : Prop :=
  (∀ (s : State), 
      exec .watchdogKick s = .next ({ s with power := { s.power with wdog := 0 } })) ∧
  (∀ (s : State) (ms : Nat), ms = s.fld rAON_WDOG fAON_WDOG_TIMEOUT_MS → s.awake = true → ms * 1000000 ≤ s.power.wdog → 
      exec .watchdogExpire s = .next (((s.lichenFw 0x0A21 ms 0 0 0).bootReset 0x04).alert 6)) ∧
  (∀ (s : State), 
      exec .rstNAssert s = .next (s.bootReset 0x02)) ∧
  (∀ (s : State), 
      ∃ t, exec .powerOnReset s = .next t ∧ t.pending = s.pending ∧ t.mem = s.mem.filter (fun x => norKey x.1) ∧ t.sec.blown = s.sec.blown ∧ t.sec.half = s.sec.half ∧ t.sec.revoked = s.sec.revoked ∧ t.sec.rollback = s.sec.rollback ∧ t.sec.pwrCyc = s.sec.pwrCyc + 1 ∧ t.time.now = 0 ∧ t.scripts = [] ∧ t.regs = (State.reset.setFld rEPL_FAB_CFG fEPL_FAB_CFG_MOD_ID s.sec.straps).regs) ∧
  (∀ (s : State), s.prompt.inHandler = true → s.prompt.down = none → 
      exec .prompterReset s = .next (s.resetPrompter)) ∧
  (∀ (s t u : State) (n pc : Nat), (s.prompt.down = some (n, pc)) → t = { s with prompt := { s.prompt with down := none } } → u = t.scripts.foldl (fun (t : State) (x : Nat × Script) => t.scriptFault x.1 (Config.haltCause 1) 0) t → 
      exec .prompterRestartDone s = .next (State.startPrompter (u.endCommands.lichenFw 0x0A20 pc 0 0 0))) ∧
  (∀ (s t : State) (mv low : Nat), mv < 9200 → (low = (if s.power.lowestMv = 0 then mv else min mv s.power.lowestMv)) → (t = { s with power := { s.power with uvNow := true, lowestMv := low } }) → 
      exec (.uvWarn mv) s = .next ((t.alert 0).lichenFw 0x0102 mv low 0 0)) ∧
  (∀ (s t : State) (mv : Nat), mv < 8600 → s.power.st ≠ .dark → t = State.lichenUv (s.setReg rAON_RST_CAUSE (s.reg rAON_RST_CAUSE ||| 0x08)) mv → 
      exec (.uvShutdown mv) s = .next (State.enterDark { t with power := { t.power with undervolt := true, uvNow := true, lowestMv := if t.power.lowestMv = 0 then mv else min mv t.power.lowestMv } })) ∧
  (∀ (s : State) (mv : Nat), 9300 ≤ mv → s.power.undervolt = true → s.power.st = .dark → 
      exec (.uvRecover mv) s = .next (State.bootReset { s with power := { s.power with uvNow := false, undervolt := false } } 0x10)) ∧
  (∀ (s : State) (mv : Nat), 9300 ≤ mv → s.power.undervolt = false → 
      exec (.uvRecover mv) s = .next ({ s with power := { s.power with uvNow := false, undervolt := false } }))

/-- Each SMBus read command answers with its value in every power state; the alert status is cleared and the alert mask written, unless a required PEC byte is missing, in which case the write is not acknowledged and is counted; an Alert Response read while ALERT_N is driven returns the address and releases ALERT_N; a clock timeout resets the interface and is counted; insertion lets the input capacitance charge. -/
def Obligations.SidebandCommands : Prop :=
  (∀ (s : State), 
      exec .moduleInsert s = .next ({ s with power := { s.power with inserted := true } })) ∧
  (∀ (s : State), 
      exec .smbIdentity s = .next ({ s with smb := ⟨partNumber ++ leBytes 8 s.sec.serial ++ leBytes 1 s.sec.lifeCycle ++ leBytes 1 s.sec.straps ++ leBytes 4 s.sec.version, false⟩ })) ∧
  (∀ (s : State), 
      exec .smbState s = .next ({ s with smb := ⟨leBytes 1 s.power.st.code, false⟩ })) ∧
  (∀ (s : State), 
      exec .smbVin s = .next ({ s with smb := ⟨leBytes 2 (s.fld rPWR_IN fPWR_IN_MV), false⟩ })) ∧
  (∀ (s : State), 
      exec .smbCurrent s = .next ({ s with smb := ⟨leBytes 2 (s.fld rPWR_IN fPWR_IN_CURR), false⟩ })) ∧
  (∀ (s : State), 
      exec .smbPower s = .next ({ s with smb := ⟨leBytes 2 ((s.reg rPWR_IN_AVG).toNat / 10), false⟩ })) ∧
  (∀ (s : State), 
      exec .smbTemp s = .next ({ s with smb := ⟨leBytes 2 (wrapTo 16 (s.temp s.smbSensor)), false⟩ })) ∧
  (∀ (s : State), 
      exec .smbTempSensor s = .next ({ s with smb := ⟨leBytes 1 s.smbSensor, false⟩ })) ∧
  (∀ (s : State), 
      exec .smbAlertStatRead s = .next ({ s with smb := ⟨leBytes 1 (s.reg rSIDE_ALERT_STAT).toNat, false⟩ })) ∧
  (∀ (s : State), 
      exec .smbAlertMaskRead s = .next ({ s with smb := ⟨leBytes 1 (s.reg rSIDE_ALERT_MASK).toNat, false⟩ })) ∧
  (∀ (s : State) (v : Byte) (p : Bool), (s.flag rSIDE_CFG fSIDE_CFG_PEC_REQ = false ∨ p = true) → 
      exec (.smbAlertStatClear v p) s = .next ({ s.clearAlerts (v.setWidth 32) with smb := ⟨[], false⟩ })) ∧
  (∀ (s : State) (v : Byte), s.flag rSIDE_CFG fSIDE_CFG_PEC_REQ = true → 
      exec (.smbAlertStatClear v false) s = .next ({ s.countBy rSIDE_ERR_CNT fSIDE_ERR_CNT_PEC 1 with smb := ⟨[], true⟩ })) ∧
  (∀ (s : State) (v : Byte) (p : Bool), (s.flag rSIDE_CFG fSIDE_CFG_PEC_REQ = false ∨ p = true) → 
      exec (.smbAlertMaskWrite v p) s = .next ({ s.setFld rSIDE_ALERT_MASK fSIDE_ALERT_MASK_MASK (v.toNat / 2) with smb := ⟨[], false⟩ })) ∧
  (∀ (s : State) (v : Byte), s.flag rSIDE_CFG fSIDE_CFG_PEC_REQ = true → 
      exec (.smbAlertMaskWrite v false) s = .next ({ s.countBy rSIDE_ERR_CNT fSIDE_ERR_CNT_PEC 1 with smb := ⟨[], true⟩ })) ∧
  (∀ (s : State), s.alertDriven = true → 
      exec .smbAlertResponse s = .next ({ s with power := { s.power with alertAnswered := (s.reg rSIDE_ALERT_STAT &&& s.reg rSIDE_ALERT_MASK).toNat }, smb := ⟨leBytes 1 s.smbAddr, false⟩ })) ∧
  (∀ (s : State), s.alertDriven = false → 
      exec .smbAlertResponse s = .next ({ s with smb := ⟨[], true⟩ })) ∧
  (∀ (s : State), 
      exec .smbClockTimeout s = .next ({ s.countBy rSIDE_ERR_CNT fSIDE_ERR_CNT_TIMEOUT 1 with smb := {} }))

/-- Where the TAP is not held in reset, BYPASS selects the bypass register, IDCODE reads the identity, SAMPLE/PRELOAD samples the pins; EXTEST and its 1149.6 forms drive the pins while RST_N is low and otherwise sample; a debug instruction selects the bypass register where the life-cycle state does not permit debug; in SLEEP and DARK the TAP is held in reset and nothing changes. -/
def Obligations.TapInstructions : Prop :=
  (∀ (s : State), s.tapHeld = false → 
      exec .jtagBypass s = .next ({ s with tap := { s.tap with ir := .bypass, driving := false, tdo := 0 } })) ∧
  (∀ (s : State), s.tapHeld = false → 
      exec .jtagIdcode s = .next ({ s with tap := { s.tap with ir := .idcode, driving := false, tdo := s.idcode } })) ∧
  (∀ (s : State) (p l : Nat), s.tapHeld = false → 
      exec (.jtagSamplePreload p l) s = .next ({ s with tap := s.tap.doSample p l })) ∧
  (∀ (s : State) (p l : Nat), s.tapHeld = false → s.power.rstLow = true → 
      exec (.jtagExtest p l) s = .next ({ s with tap := { ir := .extest, driving := true, tdo := p, boundary := l } })) ∧
  (∀ (s : State) (p l : Nat), s.tapHeld = false → s.power.rstLow = false → 
      exec (.jtagExtest p l) s = .next ({ s with tap := s.tap.doSample p l })) ∧
  (∀ (s : State) (p l : Nat), s.tapHeld = false → s.power.rstLow = true → 
      exec (.jtagExtestPulse p l) s = .next ({ s with tap := { ir := .pulse, driving := true, tdo := p, boundary := l } })) ∧
  (∀ (s : State) (p l : Nat), s.tapHeld = false → s.power.rstLow = false → 
      exec (.jtagExtestPulse p l) s = .next ({ s with tap := s.tap.doSample p l })) ∧
  (∀ (s : State) (p l : Nat), s.tapHeld = false → s.power.rstLow = true → 
      exec (.jtagExtestTrain p l) s = .next ({ s with tap := { ir := .train, driving := true, tdo := p, boundary := l } })) ∧
  (∀ (s : State) (p l : Nat), s.tapHeld = false → s.power.rstLow = false → 
      exec (.jtagExtestTrain p l) s = .next ({ s with tap := s.tap.doSample p l })) ∧
  (∀ (s : State), s.tapHeld = false → debugAllowed s.sec.lifeCycle = false → 
      exec .jtagDebugInstruction s = .next ({ s with tap := { s.tap with ir := .bypass, driving := false, tdo := 0 } })) ∧
  (∀ (s : State), s.tapHeld = true → 
      exec .jtagDebugInstruction s = .next (s))

/-- With PWRGD high, the boot ROM completes half-blown fuse pairs; with WAKE_N held it enters recovery boot, with a manifest that fails too; it hands over to the first slot that can be started, else to the other one, else enters recovery; a confirmed slot advances the anti-rollback counter; the locks set; the signature engine starts unless it runs, and its end writes RESULT or the report; a program or erase of the NOR is performed where the table permits it and else denied. -/
def Obligations.SecurityCommands : Prop :=
  (∀ (s t : State), s.power.st = .starting → s.power.rstLow = false → s.sec.handedOver = false → t = (s.powerGood.completeFuses s.sec.half).setFld rSEC_BOOT fSEC_BOOT_MANIFEST_SKIPPED (b2n ((s.powerGood.completeFuses s.sec.half).sec.lifeCycle == 0)) → 
      exec (.bootRomStart true) s = .next (t.recoveryBoot 3)) ∧
  (∀ (s t : State), s.power.st = .starting → s.power.rstLow = false → s.sec.handedOver = false → t = (s.powerGood.completeFuses s.sec.half).setFld rSEC_BOOT fSEC_BOOT_MANIFEST_SKIPPED (b2n ((s.powerGood.completeFuses s.sec.half).sec.lifeCycle == 0)) → ((s.powerGood.completeFuses s.sec.half).sec.lifeCycle == 0) = false → Config.sha384 (t.bytes (norPlace 0x3000000) 1792) ≠ t.sec.manifestHash → 
      exec (.bootRomStart false) s = .next (t.recoveryBoot 1)) ∧
  (∀ (s t : State) (f : Nat), s.power.st = .starting → s.power.rstLow = false → s.sec.handedOver = false → t = (s.powerGood.completeFuses s.sec.half).setFld rSEC_BOOT fSEC_BOOT_MANIFEST_SKIPPED (b2n ((s.powerGood.completeFuses s.sec.half).sec.lifeCycle == 0)) → ((s.powerGood.completeFuses s.sec.half).sec.lifeCycle = 0 ∨ Config.sha384 (t.bytes (norPlace 0x3000000) 1792) = t.sec.manifestHash) → f = t.firstSlot → 
      exec (.bootRomStart false) s = .next (if (t.trySlot f).2 = true then (t.trySlot f).1.handOver f false else if ((t.trySlot f).1.trySlot (1 - f)).2 = true then ((t.trySlot f).1.trySlot (1 - f)).1.handOver (1 - f) true else ((t.trySlot f).1.trySlot (1 - f)).1.recoveryBoot 2)) ∧
  (∀ (s : State) (l : Fin 128), s.sec.handedOver = true → 
      exec (.slotConfirm l) s = .next (s.confirmSlot.rbAdvance l.val)) ∧
  (∀ (s : State), 
      exec .secLockBoot s = .next ((s.setFld rSEC_LOCK fSEC_LOCK_BOOT 1).endStart)) ∧
  (∀ (s : State), 
      exec .secLockCfg s = .next (s.setFld rSEC_LOCK fSEC_LOCK_CFG 1)) ∧
  (∀ (s : State), 
      exec .emuGateReq s = .next (if s.sec.fullTest = true ∧ testAllowed s.sec.lifeCycle = true then s.setFld rSEC_EMU_GATE fSEC_EMU_GATE_OPEN 1 else s)) ∧
  (∀ (s t : State) (op : Fin 2), s.sec.sigOp = none → t = s.setFld rSEC_SIG_CTL fSEC_SIG_CTL_OP op.val → 
      exec (.sigEngineGo op) s = .next ({ t.setFld rSEC_SIG_STAT fSEC_SIG_STAT_BUSY 1 with sec := { t.sec with sigOp := some op.val } })) ∧
  (∀ (s t : State), s.sec.sigOp = some 0 → t = { s.setFld rSEC_SIG_STAT fSEC_SIG_STAT_BUSY 0 with sec := { s.sec with sigOp := none } } → 
      exec .sigEngineDone s = .next (t.setFld rSEC_SIG_STAT fSEC_SIG_STAT_RESULT (s.imageCheck (s.dpaReader s.sigAddr) true 3))) ∧
  (∀ (s t : State) (n : Nat), s.sec.sigOp = some 1 → n = 52 + 52 * imgNum (s.dpaReader s.sigAddr) 48 4 → t = State.setFld { s.setFld rSEC_SIG_STAT fSEC_SIG_STAT_BUSY 0 with sec := { s.sec with sigOp := none } } rSEC_SIG_STAT fSEC_SIG_STAT_RESULT 0 → 
      exec .sigEngineDone s = .next ((t.dpaWrite false (s.sigAddr + n) (s.report (imgBytes (s.dpaReader s.sigAddr) 0 48) (imgBytes (s.dpaReader s.sigAddr) 48 (n - 48)))).getD t)) ∧
  (∀ (s : State) (o : Fin (2 ^ 26)) (b : List Byte), (List.range b.length).all (fun i => s.norMay (o.val + i) && decide (o.val + i < 2 ^ 26)) = true → 
      exec (.norAccess (.program o b)) s = .next ({ s.norProgram o.val b with host := { s.host with busError := false } })) ∧
  (∀ (s : State) (o : Fin (2 ^ 26)) (n : Nat), (((o.val :: norBorders.filter (fun x => decide (o.val < x ∧ x < o.val + n))).all (fun x => s.norMay x) && decide (o.val + n ≤ 2 ^ 26)) = true) → 
      exec (.norAccess (.erase o n)) s = .next ({ s.norErase o.val n with host := { s.host with busError := false } })) ∧
  (∀ (s : State) (o : Fin (2 ^ 26)) (n : Nat), (((o.val :: norBorders.filter (fun x => decide (o.val < x ∧ x < o.val + n))).all (fun x => s.norMay x) && decide (o.val + n ≤ 2 ^ 26)) = false) → 
      exec (.norAccess (.erase o n)) s = .next (s.norDenied true o.val)) ∧
  (∀ (s : State) (o : Fin (2 ^ 26)) (b : List Byte), (List.range b.length).all (fun i => s.norMay (o.val + i) && decide (o.val + i < 2 ^ 26)) = false → 
      exec (.norAccess (.program o b)) s = .next (s.norDenied false o.val))

/-- A request for a hardware code is flagged; a queued request is written into the next slot and, where it is echoed, posted to the host; a torn write moves on and is retried once; a request past the last ordinary slot starts the end area; at start-up the first erased slot is found; each code regains a token per 3,600 operating seconds; an operating second is counted, and saved at every whole hour. -/
def Obligations.RecorderCommands : Prop :=
  (∀ (s : State) (c : Nat) (o : Bool), c ∈ hardwareOnly → 
      exec (.lichenRequest c o) s = .next (s.setFld rLCH_REQ_STAT fLCH_REQ_STAT_HWCODE 1)) ∧
  (∀ (s t : State) (c : Nat) (o b : Bool), c ∉ hardwareOnly → (s.lichenReq false o c (s.reg (rLCH_P 0)).toNat (s.reg (rLCH_P 1)).toNat (s.reg (rLCH_P 2)).toNat (s.reg (rLCH_P 3)).toNat = (t, b)) → 
      exec (.lichenRequest c o) s = .next (if b = true then t.setFld rLCH_REQ_STAT fLCH_REQ_STAT_REFUSED 1 else t)) ∧
  (∀ (s t u : State) (r : LichenReq) (l : List LichenReq), s.lichen.queue = r :: l → s.lichen.ready = true → s.lichen.full = false → s.lichen.next < 131008 → t = s.setBytes (lichenPlace s.lichen.next) (s.recordBytes r s.lichen.next 0x5A) → (u = { t with lichen := { s.lichen with queue := l, next := s.lichen.next + 1, supp := Cells.set (fun _ => 0) s.lichen.supp r.code 0 } }) → 
      exec (.lichenRecordWrite true) s = .next (if echoed r.code = true then u.postEvent 0x0009 255 0 r.code else u)) ∧
  (∀ (s t : State) (r : LichenReq) (l : List LichenReq), s.lichen.queue = r :: l → s.lichen.ready = true → s.lichen.full = false → s.lichen.next < 131008 → t = s.setBytes (lichenPlace s.lichen.next) (tornBytes s.freeTick 3 ++ [0xFF] ++ tornBytes (s.freeTick + 1) 28) → 
      exec (.lichenRecordWrite false) s = .next ({ t with freeTick := s.freeTick + 2, lichen := { s.lichen with queue := if r.retried = true then l else { r with retried := true } :: l, next := s.lichen.next + 1 } })) ∧
  (∀ (s : State) (r : LichenReq) (l : List LichenReq) (ok : Bool), s.lichen.queue = r :: l → s.lichen.ready = true → s.lichen.full = false → 131008 ≤ s.lichen.next → 
      exec (.lichenRecordWrite ok) s = .next (State.endArea { s with lichen := { s.lichen with endCode := some (s.lichen.endCode.getD r.code) } })) ∧
  (∀ (s : State), s.findErased 18 0 131008 < 131008 → 
      exec .lichenPositionFind s = .next ({ s with lichen := { s.lichen with next := s.findErased 18 0 131008, ready := true } })) ∧
  (∀ (s : State), 131008 ≤ s.findErased 18 0 131008 → s.slotComplete 131071 = true → s.num (lichenPlace 131071) 2 = 0x0AFF → 
      exec .lichenPositionFind s = .next ({ s with lichen := { s.lichen with next := 131072, ready := true, full := true } })) ∧
  (∀ (s : State), s.lichen.lastRefill + 3600 ≤ s.lichen.opsec → 
      exec .lichenTokenRefill s = .next ({ s with lichen := { s.lichen with lastRefill := s.lichen.lastRefill + 3600, taken := (s.lichen.taken.map (fun (x : Nat × Nat) => (x.1, x.2 - 1))).filter (fun x => x.2 != 0) } })) ∧
  (∀ (s : State), 
      exec .opsecTick s = .next ({ s with lichen := { s.lichen with opsec := s.lichen.opsec + 1, opsecSaved := if (s.lichen.opsec + 1) % 3600 = 0 then s.lichen.opsec + 1 else s.lichen.opsecSaved } }))

/-- An access outside the registers ends in a bus error; an access to a core index that is being switched waits; a write of a listed register merges the word by the access codes of its fields and starts what the register starts, a write of an unlisted offset is dropped, and a write of sealed instruction memory ends in a bus error; a read answers the word with write-only and command fields reading 0, clears what clears on read, and latches the high word of a time. -/
def Obligations.RegisterAccess : Prop :=
  (∀ (s : State) (x : Agent) (a : BitVec 40) (v : Word), s.spot x a.toNat = none → 
      exec (.registerWrite x a v) s = .next ({ s with host := { s.host with busData := 0, busError := true } })) ∧
  (∀ (s u : State) (x : Agent) (a : BitVec 40) (v : Word) (p : Spot) (r : RegRow), s.spot x a.toNat = some p → s.switching ≠ some p.blk → p.imem = false → p.embedded = false → regRow (blkBase p.blk + p.o) = some r → s.writeIgnored x p = false → u = (s.noteOverride p.a).regStore x p r 0xFFFFFFFF v → 
      exec (.registerWrite x a v) s = .next ({ u with host := { u.host with busData := 0, busError := false } })) ∧
  (∀ (s : State) (x : Agent) (a : BitVec 40) (v : Word) (p : Spot) (r : RegRow), s.spot x a.toNat = some p → s.switching ≠ some p.blk → p.imem = false → p.embedded = false → regRow (blkBase p.blk + p.o) = some r → s.writeIgnored x p = true → 
      exec (.registerWrite x a v) s = .next ({ s with host := { s.host with busData := 0, busError := false } })) ∧
  (∀ (s : State) (x : Agent) (a : BitVec 40) (v : Word) (p : Spot), s.spot x a.toNat = some p → s.switching ≠ some p.blk → p.imem = false → p.embedded = false → regRow (blkBase p.blk + p.o) = none → 
      exec (.registerWrite x a v) s = .next ({ s with host := { s.host with busData := 0, busError := false } })) ∧
  (∀ (s : State) (x : Agent) (a : BitVec 40) (v : Word) (p : Spot), s.spot x a.toNat = some p → s.switching ≠ some p.blk → p.imem = true → bitOf (s.fld (rCORE_IMEM_LOCK p.p) fCORE_IMEM_LOCK_LOCK) ((p.o - 0x80000) / 0x4000) = true → 
      exec (.registerWrite x a v) s = .next ({ s with host := { s.host with busData := 0, busError := true } })) ∧
  (∀ (s : State) (x : Agent) (a : BitVec 40) (v : Word) (p : Spot), s.spot x a.toNat = some p → s.switching = some p.blk → 
      exec (.registerWrite x a v) s = .next ({ s with waiting := s.waiting ++ [⟨true, a.toNat, v⟩] })) ∧
  (∀ (s : State) (x : Agent) (a : BitVec 40), s.spot x a.toNat = none → 
      exec (.rcCounterRead x a) s = .next ({ s with host := { s.host with busData := 0, busError := true } })) ∧
  (∀ (s t u : State) (x : Agent) (a : BitVec 40) (p : Spot) (r : RegRow) (w : Word), s.spot x a.toNat = some p → s.switching ≠ some p.blk → p.imem = false → p.embedded = false → regRow (blkBase p.blk + p.o) = some r → (p.blk < 9 → p.a ≠ rCORE_BAR_WAIT p.p ∧ p.a ≠ rSTRIPE_NEXT0 p.p) → (w = s.regView x p &&& ~~~(r.maskOf [.wo, .cmd])) → t = s.clearRc x p.a w 0xFFFFFFFF r → u = t.latchHi p.a → 
      exec (.rcCounterRead x a) s = .next ({ u with host := { u.host with busData := w, busError := false } })) ∧
  (∀ (s : State) (x : Agent) (a : BitVec 40) (p : Spot), s.spot x a.toNat = some p → s.switching = some p.blk → 
      exec (.rcCounterRead x a) s = .next ({ s with waiting := s.waiting ++ [⟨false, a.toNat, 0⟩] })) ∧
  (∀ (s : State) (x : Agent) (a : BitVec 40), s.spot x a.toNat = none → 
      exec (.loLatchRead x a) s = .next ({ s with host := { s.host with busData := 0, busError := true } })) ∧
  (∀ (s t u : State) (x : Agent) (a : BitVec 40) (p : Spot) (r : RegRow) (w : Word), s.spot x a.toNat = some p → s.switching ≠ some p.blk → p.imem = false → p.embedded = false → regRow (blkBase p.blk + p.o) = some r → (p.blk < 9 → p.a ≠ rCORE_BAR_WAIT p.p ∧ p.a ≠ rSTRIPE_NEXT0 p.p) → (w = s.regView x p &&& ~~~(r.maskOf [.wo, .cmd])) → t = s.clearRc x p.a w 0xFFFFFFFF r → u = t.latchHi p.a → 
      exec (.loLatchRead x a) s = .next ({ u with host := { u.host with busData := w, busError := false } })) ∧
  (∀ (s : State) (x : Agent) (a : BitVec 40) (p : Spot), s.spot x a.toNat = some p → s.switching = some p.blk → 
      exec (.loLatchRead x a) s = .next ({ s with waiting := s.waiting ++ [⟨false, a.toNat, 0⟩] }))

/-- A write leaves in a bit of an RW or WO field, or of an RWL field that is not locked, the bit written; it leaves a bit of no writable field, and one of an RWL field that is locked, as it is; it clears a W1C bit by a 1 and keeps it by a 0; it sets a W1S bit by a 1 and keeps it by a 0; a bit outside the mask of the write stays. -/
def Obligations.AccessCodes : Prop :=
  (∀ (r : RegRow) (lock : Bool) (old mask v : Word) (k : Nat), mask.getLsbD k = true → ((r.maskOf (if lock then [.rw, .wo] else [.rw, .wo, .rwl])).getLsbD k = true) → (r.maskOf [.w1c]).getLsbD k = false → (r.maskOf [.w1s]).getLsbD k = false → 
      (r.merge lock old mask v).getLsbD k = v.getLsbD k) ∧
  (∀ (r : RegRow) (lock : Bool) (old mask v : Word) (k : Nat), mask.getLsbD k = true → ((r.maskOf (if lock then [.rw, .wo] else [.rw, .wo, .rwl])).getLsbD k = false) → (r.maskOf [.w1c]).getLsbD k = false → (r.maskOf [.w1s]).getLsbD k = false → 
      (r.merge lock old mask v).getLsbD k = old.getLsbD k) ∧
  (∀ (r : RegRow) (lock : Bool) (old mask v : Word) (k : Nat), mask.getLsbD k = true → ((r.maskOf (if lock then [.rw, .wo] else [.rw, .wo, .rwl])).getLsbD k = false) → (r.maskOf [.w1c]).getLsbD k = true → (r.maskOf [.w1s]).getLsbD k = false → 
      (r.merge lock old mask v).getLsbD k = (old.getLsbD k && !(v.getLsbD k))) ∧
  (∀ (r : RegRow) (lock : Bool) (old mask v : Word) (k : Nat), mask.getLsbD k = true → ((r.maskOf (if lock then [.rw, .wo] else [.rw, .wo, .rwl])).getLsbD k = false) → (r.maskOf [.w1c]).getLsbD k = false → (r.maskOf [.w1s]).getLsbD k = true → 
      (r.merge lock old mask v).getLsbD k = (old.getLsbD k || v.getLsbD k)) ∧
  (∀ (r : RegRow) (lock : Bool) (old mask v : Word) (k : Nat), k < 32 → mask.getLsbD k = false → 
      (r.merge lock old mask v).getLsbD k = old.getLsbD k)

/-- A write of REH_GO starts a slice; the block is fenced and drains; a block that has not drained in time is given up, and recorded when that happens twice; a slice cut short, passed, or mismatched ends as its result says: a first mismatch repeats the slice, a pass after it is counted as transient, and a second mismatch is a failure, recorded and repaired; the hour tick counts and ends the rotation. -/
def Obligations.Slices : Prop :=
  (∀ (s : State) (b : Half), 
      exec (.rehGo b) s = .next (s.rehGo b.toNat)) ∧
  (∀ (s : State) (x : Slice), s.reh.slice = some x → x.phase = 1 → 
      exec .rehSliceStart s = .next (State.setFld { s.sliceFence x.block with reh := { s.reh with slice := some { x with phase := 2, since := s.time.ns } } } rREH_STAT fREH_STAT_STATE 2)) ∧
  (∀ (s t : State) (x : Slice), s.reh.slice = some x → x.phase = 2 → x.since + 100000 ≤ s.time.ns → s.sliceDrained x.block = false → (t = (State.setFld { s.sliceUnfence x.block with reh := { s.reh with slice := none, abandoned := if s.reh.abandoned.contains (s.sliceId x.block) = true then s.reh.abandoned else s.reh.abandoned ++ [s.sliceId x.block] } } rREH_STAT fREH_STAT_STATE 0).setFld rREH_STAT fREH_STAT_RESULT 3) → 
      exec .rehDrainTimeout s = .next (if s.reh.abandoned.contains (s.sliceId x.block) = true then t.lichenFw 0x040B x.block 1 0 0 else t)) ∧
  (∀ (s t : State) (x : Slice) (misr : Word) (ds : List Defect), s.reh.slice = some x → x.phase = 2 → s.sliceDrained x.block = true → t = State.setFld ((s.setReg rREH_MISR misr).sliceReinit x.block) rREH_STAT fREH_STAT_STATE 0 → 
      exec (.rehSliceEnd true misr ds) s = .next (State.setFld { t.sliceUnfence x.block with reh := { t.reh with slice := none } } rREH_STAT fREH_STAT_RESULT 2)) ∧
  (∀ (s t u : State) (x : Slice) (misr : Word) (ds : List Defect), s.reh.slice = some x → x.phase = 2 → s.sliceDrained x.block = true → t = State.setFld ((s.setReg rREH_MISR misr).sliceReinit x.block) rREH_STAT fREH_STAT_STATE 0 → u = t.countWrap rREH_SLICE_CNT wholeReg → misr = s.reg rREH_EXPECT → x.repeated = false → 
      exec (.rehSliceEnd false misr ds) s = .next (State.slicePassed (State.setFld { u.sliceUnfence x.block with reh := { u.reh with slice := none } } rREH_STAT fREH_STAT_RESULT 0) x.block)) ∧
  (∀ (s t u : State) (x : Slice) (misr : Word) (ds : List Defect) (v : State), s.reh.slice = some x → x.phase = 2 → s.sliceDrained x.block = true → t = State.setFld ((s.setReg rREH_MISR misr).sliceReinit x.block) rREH_STAT fREH_STAT_STATE 0 → u = t.countWrap rREH_SLICE_CNT wholeReg → misr = s.reg rREH_EXPECT → x.repeated = true → v = State.slicePassed (State.setFld { u.sliceUnfence x.block with reh := { u.reh with slice := none } } rREH_STAT fREH_STAT_RESULT 0) x.block → 
      exec (.rehSliceEnd false misr ds) s = .next (State.lichenFw { v.count rREH_TRANS_CNT with reh := { v.reh with transients := v.reh.transients + 1 } } 0x0402 x.block x.misr (s.reg rREH_EXPECT).toNat (if x.block < 4096 then s.phys 8 else 0))) ∧
  (∀ (s t u : State) (x : Slice) (misr : Word) (ds : List Defect), s.reh.slice = some x → x.phase = 2 → s.sliceDrained x.block = true → t = State.setFld ((s.setReg rREH_MISR misr).sliceReinit x.block) rREH_STAT fREH_STAT_STATE 0 → u = t.countWrap rREH_SLICE_CNT wholeReg → misr ≠ s.reg rREH_EXPECT → x.repeated = false → 
      exec (.rehSliceEnd false misr ds) s = .next (State.setFld { u.sliceUnfence x.block with reh := { u.reh with slice := some { x with phase := 1, since := s.time.ns, repeated := true, misr := misr.toNat } } } rREH_STAT fREH_STAT_STATE 1)) ∧
  (∀ (s t u : State) (x : Slice) (misr : Word) (ds : List Defect) (v : State), s.reh.slice = some x → x.phase = 2 → s.sliceDrained x.block = true → t = State.setFld ((s.setReg rREH_MISR misr).sliceReinit x.block) rREH_STAT fREH_STAT_STATE 0 → u = t.countWrap rREH_SLICE_CNT wholeReg → misr ≠ s.reg rREH_EXPECT → x.repeated = true → v = State.setFld { u.sliceUnfence x.block with reh := { u.reh with slice := none } } rREH_STAT fREH_STAT_RESULT 1 → 
      exec (.rehSliceEnd false misr ds) s = .next (State.repairBlock (State.lichenFw { v.count rREH_FAIL_CNT with reh := { v.reh with failed := v.reh.failed + 1 } } 0x0401 x.block misr.toNat (s.reg rREH_EXPECT).toNat (if x.block < 4096 then s.phys 8 else 0)) x.block ds)) ∧
  (∀ (s t : State), s.awake = true → t = { s with sec := { s.sec with activeHours := s.sec.activeHours + 1 } } → 
      exec .activeHourTick s = .next (if t.reh.rotStart + t.fld rREH_CTL fREH_CTL_ROT_HOURS ≤ t.sec.activeHours then t.rotationEnd else t))

/-- A planned swap begins at its time and then quiesces; a core that is not quiet in time keeps its index; a finished migration switches the index and is recorded; a failed core faults its scripts, and with a healthy spare its index begins to switch, else it is fenced; once its accesses have drained, or 100 microseconds have passed, the index switches to the spare; loopback errors, a bandgap disagreement and patrol-scrub errors are recorded and acted on. -/
def Obligations.SwapsAndReplacements : Prop :=
  (∀ (s : State) (x : Swap), s.reh.swap = some x → x.phase = 1 → s.awake = true → 
      exec .plannedSwap s = .next (s.swapQuiesce x)) ∧
  (∀ (s : State) (b : Nat), s.reh.swap = none → s.awake = true → s.reh.swaps < 8 → s.reh.rotStart * 9 + s.fld rREH_CTL fREH_CTL_ROT_HOURS * (s.reh.swaps + 1) ≤ s.sec.activeHours * 9 → s.spareHealthy = true → s.reh.slice = none → s.flag rREH_CTL fREH_CTL_PAUSE = false → s.swapChoice = some b → 
      exec .plannedSwap s = .next (State.swapStart { s with reh := { s.reh with swaps := s.reh.swaps + 1 } } b)) ∧
  (∀ (s t u : State) (x : Swap) (n : Nat), s.reh.swap = some x → x.phase = 1 → x.since + 10000000 ≤ s.time.ns → n = Cells.get (fun _ => 0) s.reh.attempts x.logical + 1 → (t = { s with reh := { s.reh with swap := none, attempts := Cells.set (fun _ => 0) s.reh.attempts x.logical n } }) → (u = if x.halted = true then t else t.setFld (rVPP_CTL (s.phys x.logical)) fVPP_CTL_HALTED 0) → 
      exec .swapQuiesceTimeout s = .next (if n = 3 then u.lichenFw 0x040B 0 2 0 0 else u)) ∧
  (∀ (s t u v : State) (x : Swap), s.reh.swap = some x → x.phase = 2 → x.since + s.migrationBytes (s.phys x.logical) / 64 + 2000 ≤ s.time.ns → t = s.migrate (s.phys x.logical) (s.phys 8) → (u = if x.halted = true then t else t.setFld (rVPP_CTL (s.phys 8)) fVPP_CTL_HALTED 0) → v = ((u.switchIndex x.logical).count rREH_SWAP_CNT).setFld rREH_STAT fREH_STAT_STATE 0 → 
      exec .migrationDone s = .next (v.lichenFw 0x0405 x.logical (s.phys x.logical) (s.phys 8) ((s.time.ns - x.since) / 1000))) ∧
  (∀ (s t u v : State) (b : Fin 8) (c : Fin 3), s.hasFailed b.val c.val = true → s.switching = none → t = ((s.scripts.filter (fun (x : Nat × Script) => x.2.decl.cores.any (fun d => d.core == b.val))).map (·.1)).foldl (fun (t : State) n => t.scriptFault n (Config.haltCause 0) b.val) s → s.spareHealthy = true → (u = if t.reh.slice.any (fun x => decide (x.block < 4096)) = true then t.sliceAbort else t) → (v = match u.reh.swap with | some x => (if x.halted = true then u else u.setFld (rVPP_CTL (u.phys x.logical)) fVPP_CTL_HALTED 0) | none => u) → 
      exec (.coreFailure b c) s = .next ({ v with switching := some b.val, reh := { v.reh with swap := some { logical := b.val, since := s.time.ns, phase := 3, cause := c.val } } })) ∧
  (∀ (s t : State) (b : Fin 8) (c : Fin 3), s.hasFailed b.val c.val = true → s.switching = none → t = ((s.scripts.filter (fun (x : Nat × Script) => x.2.decl.cores.any (fun d => d.core == b.val))).map (·.1)).foldl (fun (t : State) n => t.scriptFault n (Config.haltCause 0) b.val) s → s.spareHealthy = false → 
      exec (.coreFailure b c) s = .next ((t.fence b.val).lichenFw 0x0408 b.val 0 0 0)) ∧
  (∀ (s t u v : State) (x : Swap), s.reh.swap = some x → x.phase = 3 → ((s.flightTo x.logical).isEmpty = true ∨ x.since + 100000 ≤ s.time.ns) → t = (s.flightTo x.logical).foldl (fun (t : State) r => t.answerRemote r.id false []) s → u = ((t.clearCore (s.phys 8)).setReg (rCHAIN_CFG (s.phys 8)) (t.reg (rCHAIN_CFG (s.phys x.logical)))).barArrive .prompter 31 (((t.clearCore (s.phys 8)).setReg (rCHAIN_CFG (s.phys 8)) (t.reg (rCHAIN_CFG (s.phys x.logical)))).barGen 31) → (v = State.switchIndex (if u.barSt 31 = 1 then u.barRelease 31 false else u) x.logical) → 
      exec .coreIndexSwitch s = .next (State.lichenFw (State.unfence ((v.scripts.map (·.2)).foldl (fun (t : State) y => t.loadCode x.logical y) { v with chain := dropKey 1 (s.phys x.logical) (if u.barSt 31 = 1 then u.barRelease 31 false else u).chain }) x.logical) 0x0406 x.logical (s.phys x.logical) (s.phys 8) (Config.replaceCause x.cause))) ∧
  (∀ (s : State) (p : Fin 12) (n : Nat), s.awake = true → (List.range 4).any (fun k => (s.stream (4 * p.val + k)).frame.isSome) = false → 0 < n → 
      exec (.dphyLoopback p n) s = .next (s.analogueFail 0 p.val n 0)) ∧
  (∀ (s : State) (l : Fin 6) (n : Nat), s.awake = true → (s.linkSt l.val = 0 ∨ s.flag (rEPL_CTL l.val) fEPL_CTL_EN = false) → 0 < n → 
      exec (.eplPrbsLoopback l n) s = .next (s.analogueFail 1 l.val n (Config.analogueFigure 1))) ∧
  (∀ (s : State), 
      exec .tempCrosscheck s = .next ((List.range 2).foldl (fun (t : State) c => (t.clusterSensors c).foldl (fun (u : State) i => u.crossCheck c i) t) s)) ∧
  (∀ (s : State) (a b : Nat), a ≤ b → 
      exec (.voltageCrosscheck a b) s = .next (if a + b < (b - a) * 100 then s.analogueFail 4 0 (b - a) (Config.analogueFigure 4) else s)) ∧
  (∀ (s : State) (l : Fin 1073741824) (f : Fin 32768), s.awake = true → s.eccDouble (64 * l.val) 64 = true → 
      exec (.ddr4PatrolScrub l f) s = .next ((s.noteEcc (64 * l.val) true).scrubRetire (64 * l.val / 2 ^ 21) f.val)) ∧
  (∀ (s : State) (l : Fin 1073741824) (f : Fin 32768), s.awake = true → s.eccDouble (64 * l.val) 64 = false → (s.eccSingles (64 * l.val) 64).isEmpty = true → 
      exec (.ddr4PatrolScrub l f) s = .next (s)) ∧
  (∀ (s t : State) (l : Fin 1073741824) (f : Fin 32768) (all : List Nat), s.awake = true → s.eccDouble (64 * l.val) 64 = false → (s.eccSingles (64 * l.val) 64).isEmpty = false → t = { s with ecc := s.ecc.filter (fun (x : Nat × Nat) => !((s.eccSingles (64 * l.val) 64).contains x.1)) } → all = Cells.get (fun _ => []) t.reh.scrub (64 * l.val / 2 ^ 21) ++ (s.eccSingles (64 * l.val) 64).filter (fun a => !((Cells.get (fun _ => []) t.reh.scrub (64 * l.val / 2 ^ 21)).contains a)) → 
      exec (.ddr4PatrolScrub l f) s = .next (if 3 ≤ all.length then t.scrubRetire (64 * l.val / 2 ^ 21) f.val else { t with reh := { t.reh with scrub := Cells.set (fun _ => []) t.reh.scrub (64 * l.val / 2 ^ 21) all } }))

/-- A command that is accepted, with legal fields in range, replies with what it asks for: cue time, the identity, the state, counters, the recorder and its records; CMD_ABORT stops a command before its commit point and replies NOT_FOUND for none; a command past its limit is stopped; a runt is counted. -/
def Obligations.HostStatusCommands : Prop :=
  (∀ (s t : State) (h : CmdHeader) , s.accepts h 0x000 [] = true → t = s.accepted h 0x000 1000000 [] → 
      exec (.ping h) s = .next (State.cmdReply (t) h 0x000 0 [] ([t.now]))) ∧
  (∀ (s t : State) (h : CmdHeader) , s.accepts h 0x001 [] = true → t = s.accepted h 0x001 1000000 [] → 
      exec (.getIdentity h) s = .next (State.cmdReply (t) h 0x001 0 [] ((partNumber.take 9).map (·.toNat) ++ [t.sec.serial, t.sec.dieRev, t.sec.lifeCycle, t.modId, t.runningSlot.getD 0xFF, t.sec.version, t.slotVersion 0, t.slotVersion 1] ++ (List.range 4).flatMap (fun k => [t.slotRole k, b2n (bitOf t.sec.revoked k)])))) ∧
  (∀ (s t : State) (h : CmdHeader) (n : Nat) (o : Outstanding), s.accepts h 0x002 [] = true → t = s.accepted h 0x002 1000000 [] → t.outstandingTag n = some o → o.stop = none → (t.stopCommand o 0x0F).2 = true → 
      exec (.cmdAbort h n) s = .next (State.cmdReply ((t.stopCommand o 0x0F).1) h 0x002 0 [] ([]))) ∧
  (∀ (s t : State) (h : CmdHeader) (n : Nat), s.accepts h 0x002 [] = true → t = s.accepted h 0x002 1000000 [] → t.outstandingTag n = none → 
      exec (.cmdAbort h n) s = .next (State.cmdReply (t) h 0x002 0x0E [] ([]))) ∧
  (∀ (s t : State) (h : CmdHeader) , s.accepts h 0x003 [] = true → t = s.accepted h 0x003 1000000 [] → 
      exec (.getStatus h) s = .next (State.cmdReply (t) h 0x003 0 [] ([t.power.st.code, t.effOp 0, t.effOp 1, (t.reg rPWR_IN_AVG).toNat, t.smbSensor, wrapTo 16 (t.temp t.smbSensor)] ++ (List.range 8).map t.phys ++ [t.host.fenced.length] ++ t.host.fenced ++ [t.scripts.length] ++ t.scripts.map (·.1)))) ∧
  (∀ (s t : State) (h : CmdHeader) (b i k : Nat) (l : List (Nat × Nat)), s.accepts h 0x004 [] = true → t = s.accepted h 0x004 1000000 [] → (blockRows b).isEmpty = false → l = unitCounters b i → l.isEmpty = false → 
      exec (.getCounters h b i k) s = .next (State.cmdReply (t.gather (l.map (·.1)).eraseDups) h 0x004 0 [] ([((l.drop k).take 8192).length, min l.length (k + ((l.drop k).take 8192).length)] ++ ((l.drop k).take 8192).map (fun x => (t.gather (l.map (·.1)).eraseDups).total x.1 x.2)))) ∧
  (∀ (s t : State) (h : CmdHeader) , s.accepts h 0x900 [] = true → t = s.accepted h 0x900 1000000 [] → 
      exec (.lichenInfo h) s = .next (State.cmdReply (t) h 0x900 0 [] ([t.lichenCommitted, t.lichen.next, b2n t.lichen.full]))) ∧
  (∀ (s t : State) (h : CmdHeader) (f n : Nat), s.accepts h 0x901 [] = true → t = s.accepted h 0x901 1000000 [] → n ≤ 2047 → 
      exec (.lichenRead h f n) s = .next (State.cmdReply (t) h 0x901 0 [] (min 131072 (f + n) :: (((List.range n).map (f + ·)).filter (fun i => decide (i < 131072) && t.slotComplete i)).flatMap (fun i => (t.bytes (lichenPlace i) 32).map (·.toNat))))) ∧
  (∀ (s : State) (n : Nat) (o : Outstanding), s.outstandingTag n = some o → o.deadline ≤ s.time.ns → o.stop = none → 
      exec (.commandTimeout n) s = .next ((s.stopCommand o 0x05).1)) ∧
  (∀ (s : State) (n : Fin 16), s.hostReady = true → 
      exec (.commandRunt n) s = .next (s.countBy rUSB_ERR_CNT fUSB_ERR_CNT_RUNT 1))

/-- A command that is accepted, with legal fields in range, reads and sets cue time and PPS discipline, and opens, stages, checks, arms, cancels, releases and reads a Wings set; a set that violates a rule fails with its violations. -/
def Obligations.HostTimeCommands : Prop :=
  (∀ (s t : State) (h : CmdHeader) (u : State), s.accepts h 0x100 [] = true → t = s.accepted h 0x100 1000000 [] → u = (t.fwRead rCUE_STATUS).2 → 
      exec (.timeGet h) s = .next (State.cmdReply ((u.fwRead rCUE_TRIM).2) h 0x100 0 [] ([t.now, (t.fwRead rCUE_STATUS).1, (u.fwRead rCUE_TRIM).1]))) ∧
  (∀ (s t : State) (h : CmdHeader) (e : Nat), s.accepts h 0x101 [] = true → t = s.accepted h 0x101 1000000 [] → t.master = true → t.now < e → 
      exec (.timeSetEpoch h e) s = .next (State.cmdReply (t.jumpTo e) h 0x101 0 [] ([e]))) ∧
  (∀ (s t : State) (h : CmdHeader) (e : Nat), s.accepts h 0x101 [] = true → t = s.accepted h 0x101 1000000 [] → t.master = false → 
      exec (.timeSetEpoch h e) s = .next (State.cmdReply (t) h 0x101 0x12 [] ([]))) ∧
  (∀ (s t : State) (h : CmdHeader) (e : Nat), s.accepts h 0x102 [] = true → t = s.accepted h 0x102 1000000 [] → e ≤ 1 → 
      exec (.timePps h e) s = .next (State.cmdReply ({ t with time := { t.time with ppsEnabled := e == 1 } }) h 0x102 0 [] ([]))) ∧
  (∀ (s t : State) (h : CmdHeader) (id n : Nat), s.accepts h 0x103 [] = true → t = s.accepted h 0x103 1000000 [] → (List.range 64).find? (fun n => (t.wset n).st == .free) = some n → 
      exec (.wingsOpen h id) s = .next (State.cmdReply (t.setWset n { st := .opened, fabric := id }) h 0x103 0 [] ([n]))) ∧
  (∀ (s t : State) (h : CmdHeader) (n : Nat) (ms : List StageMember) (u : State), s.accepts h 0x104 [oSet n] = true → t = s.accepted h 0x104 1000000 [oSet n] → ms.all (fun m => m.rsv == 0 && stageRsvClear m) = true → t.setExists n = true → t.stageAll n (ms.map stageMemberOf) = .ok u [] → 
      exec (.wingsStage h n ms) s = .next (State.cmdReply (u) h 0x104 0 [] ([(u.wset n).st.num, (u.wset n).members.length]))) ∧
  (∀ (s t : State) (h : CmdHeader) (n e : Nat), s.accepts h 0x105 [oSet n] = true → t = s.accepted h 0x105 1000000 [oSet n] → t.setExists n = true → ((t.wset n).st = .opened ∨ (t.wset n).st = .checked) → (t.violations n (if e = 0 then none else some e) = []) → 
      exec (.wingsCheck h n e) s = .next (State.cmdReply (t.setWset n { t.wset n with st := .checked }) h 0x105 0 [] ([]))) ∧
  (∀ (s t : State) (h : CmdHeader) (n e : Nat), s.accepts h 0x105 [oSet n] = true → t = s.accepted h 0x105 1000000 [oSet n] → t.setExists n = true → ((t.wset n).st = .opened ∨ (t.wset n).st = .checked) → (t.violations n (if e = 0 then none else some e) ≠ []) → 
      exec (.wingsCheck h n e) s = .next (State.cmdReply (t.setWset n { t.wset n with st := .failed }) h 0x105 0x10 [] (violationWords (t.violations n (if e = 0 then none else some e))))) ∧
  (∀ (s t : State) (h : CmdHeader) (n e : Nat), s.accepts h 0x106 [oSet n] = true → t = s.accepted h 0x106 1000000 [oSet n] → t.clampApplyTime n 0 ≤ e → e < 2 ^ 64 → t.setExists n = true → (t.wset n).st = .checked → (t.armSet n (t.clampApplyTime n e) none).2 = [] → 
      exec (.wingsApplyAt h n e 0xFF) s = .next (State.cmdReply ((t.armSet n (t.clampApplyTime n e) none).1) h 0x106 0 [] ([t.clampApplyTime n e]))) ∧
  (∀ (s t : State) (h : CmdHeader) (n : Nat), s.accepts h 0x107 [oSet n] = true → t = s.accepted h 0x107 1000000 [oSet n] → t.setExists n = true → (t.wset n).st = .armed → t.strobeDue n = false → 
      exec (.wingsCancel h n) s = .next (State.cmdReply (t.releaseSet n) h 0x107 0 [] ([]))) ∧
  (∀ (s t : State) (h : CmdHeader) (n : Nat), s.accepts h 0x108 [oSet n] = true → t = s.accepted h 0x108 1000000 [oSet n] → t.setExists n = true → 
      exec (.wingsRelease h n) s = .next (State.cmdReply (t.releaseSet n) h 0x108 0 [] ([]))) ∧
  (∀ (s t : State) (h : CmdHeader) (n : Nat), s.accepts h 0x109 [oSet n] = true → t = s.accepted h 0x109 1000000 [oSet n] → n < 64 → 
      exec (.wingsStatus h n) s = .next (State.cmdReply (t) h 0x109 0 [] ([(t.wset n).st.num, (t.wset n).appliedAt, b2n (t.wset n).late, (t.wset n).overrides, (t.wset n).failedMember.getD 0xFFFF])))

/-- A command that is accepted, with legal fields in range, maps and unmaps a region, writes and reads its bytes, and arms a channel for a transfer of exactly N bytes. -/
def Obligations.HostMemoryCommands : Prop :=
  (∀ (s t : State) (h : CmdHeader) (a n w p k : Nat) (f : List (Fin 32768)) (u : State), s.accepts h 0x200 [] = true → t = s.accepted h 0x200 1000000 [] → a < 16 → w ≤ 1 → k = (n + 2 ^ 21 - 1) / 2 ^ 21 → 0 < k → f.length = k → t.framesFree (f.map (·.val)) = true → t.pagesFree a p k = true → u = t.mapPages a p (w == 1) (f.map (·.val)) → 
      exec (.memMap h a n w p f) s = .next (State.cmdReply ({ u with host := { u.host with regions := u.host.regions ++ [⟨a, p, f.map (·.val), w == 1⟩] } }) h 0x200 0 [] ([p * 2 ^ 21]))) ∧
  (∀ (s t : State) (h : CmdHeader) (a v : Nat) (r : Region) (u : State), s.accepts h 0x201 (s.regionObj a v) = true → t = s.accepted h 0x201 1000000 (s.regionObj a v) → a < 16 → t.regionOf a v = some r → v = r.page * 2 ^ 21 → u = t.unmapPages a r.page r.frames.length → 
      exec (.memUnmap h a v) s = .next ({ u with host := { u.host with regions := u.host.regions.filter (fun x => !(x.asid == a && x.page == r.page)) } })) ∧
  (∀ (s t : State) (h : CmdHeader) (a v : Nat) (b : List Byte) (u : State), s.accepts h 0x203 (s.regionObj a v) = true → t = s.accepted h 0x203 1000000 (s.regionObj a v) → a < 16 → b.length ≤ 65520 → (t.regionOf a v).isSome = true → t.tvaWrite a v b = some u → 
      exec (.memWrite h a v b) s = .next (State.cmdReply (u.dropCached) h 0x203 0 [] ([]))) ∧
  (∀ (s t : State) (h : CmdHeader) (a v n : Nat) (d : List Byte), s.accepts h 0x204 (s.regionObj a v) = true → t = s.accepted h 0x204 1000000 (s.regionObj a v) → a < 16 → n ≤ 65536 → (t.regionOf a v).isSome = true → (t.tvaRead a v n).1 = some d → 
      exec (.memRead h a v n) s = .next (State.cmdReply ((t.tvaRead a v n).2) h 0x204 0 [] (d.map (·.toNat)))) ∧
  (∀ (s t : State) (h : CmdHeader) (d k a v n f y : Nat) (u : State), s.accepts h 0x202 (oEp2 (s.xferChannel d k) :: s.regionObj a v) = true → t = s.accepted h 0x202 600000000 (oEp2 (s.xferChannel d k) :: s.regionObj a v) → d ≤ 1 → k < 16 → a < 16 → f ≤ 8 → y ≤ 3 → (t.regionOf a v).isSome = true → 0 < n → (u = (t.modOutstanding h.tag (fun o => { o with object := t.xferChannel d k, bytes := n, args := [a, t.xferChannel d k % 16, v, f, y] })).xferLaunch (t.xferChannel d k) a (xferDesc (d == 0) (t.xferChannel d k % 16) v n f y)) → 
      exec (.xfer h d k a v n f y) s = .next ({ u with usb := { u.usb with armed := Cells.set (fun _ => 0) u.usb.armed (t.xferChannel d k) n } }))

/-- A command that is accepted, with legal fields in range, loads a script whose image its check allows and that no limit refuses, and replies BAD_SIGNATURE to another image; unloads, runs and stops a script, hands it a request, reports its state, and puts it back as it was loaded. -/
def Obligations.HostScriptCommands : Prop :=
  (∀ (s t : State) (h : CmdHeader) (a v n k : Nat) (d : ScriptDecl) (u w : State) (img : List Byte) (ok : Bool × Bool), s.accepts h 0x300 (oAdmission :: s.regionObj a v) = true → t = s.accepted h 0x300 10000000 (oAdmission :: s.regionObj a v) → a < 16 → (t.regionOf a v).isSome = true → (t.tvaRead a v n = (some img, u)) → ok = u.scriptAllowed (u.imageCheck (fun i => img.getD i 0) (n == headerLen + imgBodyLen (fun i => img.getD i 0)) 3) → declOk d = true → u.refusals d = [] → (List.range 128).find? (fun n => (u.script n).isNone) = some k → w = u.grant k a d (imgHash (fun i => img.getD i 0)) → 
      exec (.loadScript h a v n d) s = .next (if ok.1 = true then State.cmdReply (if ok.2 = true then (State.lichenFw { w with sec := { w.sec with unsignedLoaded := true } } 0x0308 k (ofLeBytes ((imgHash (fun i => img.getD i 0)).take 4)) 0 0) else w) h 0x300 0 [] [k] else u.cmdReply h 0x300 0x07 [] [])) ∧
  (∀ (s t : State) (h : CmdHeader) (n : Nat) (x : Script), (s.accepts h 0x301 [oAdmission, oScript n] = true) → (t = s.accepted h 0x301 1000000 [oAdmission, oScript n]) → t.script n = some x → x.st ≠ .running → 
      exec (.unloadScript h n) s = .next (State.cmdReply (t.ungrant n) h 0x301 0 [] ([]))) ∧
  (∀ (s t : State) (h : CmdHeader) (n e : Nat) (x : Script), s.accepts h 0x302 [oScript n] = true → t = s.accepted h 0x302 1000000 [oScript n] → t.script n = some x → (x.st = .loaded ∨ x.st = .stopped) → 
      exec (.run h n e) s = .next (State.cmdReply (t.runScript n (if e = 0 then t.now else e)) h 0x302 0 [] ([if e = 0 then t.now else e]))) ∧
  (∀ (s t : State) (h : CmdHeader) (n e : Nat) (x : Script), s.accepts h 0x303 [oScript n] = true → t = s.accepted h 0x303 1000000 [oScript n] → t.script n = some x → x.st = .running → e ≤ t.now → 
      exec (.stop h n e) s = .next (State.cmdReply (t.endRun n) h 0x303 0 [] ([]))) ∧
  (∀ (s t : State) (h : CmdHeader) (n e : Nat) (x : Script), s.accepts h 0x303 [oScript n] = true → t = s.accepted h 0x303 1000000 [oScript n] → t.script n = some x → x.st = .running → t.now < e → 
      exec (.stop h n e) s = .next (State.cmdReply (t.setScript n { x with stopAt := some e }) h 0x303 0 [] ([]))) ∧
  (∀ (s t : State) (h : CmdHeader) (n i il p pl : Nat) (x : Script) (u : State), (s.accepts h 0x304 [oScript n, 0x5000 + n] = true) → (t = s.accepted h 0x304 600000000 [oScript n, 0x5000 + n]) → t.script n = some x → x.st = .running → x.batch.isEmpty = false → (u = t.modOutstanding h.tag (fun o => { o with object := n, bytes := pl, args := [i, il, p, pl] })) → 
      exec (.submit h n i il p pl) s = .next (match u.outstandingTag h.tag with | some o => u.handRequest o | none => u)) ∧
  (∀ (s t : State) (h : CmdHeader) (n : Nat) (x : Script) (l : List Nat), s.accepts h 0x305 [oScript n] = true → t = s.accepted h 0x305 1000000 [oScript n] → t.script n = some x → l = x.decl.streams.map (fun r => rSA_STR_MISS (recordField r 0 1)) → 
      exec (.scriptStatus h n) s = .next (State.cmdReply (t.gather l) h 0x305 0 [] ([x.st.num, x.misses + sumNat (l.map (fun a => (t.gather l).total a 0)), x.faults, x.haltCause]))) ∧
  (∀ (s t : State) (h : CmdHeader) (n : Nat) (x : Script), s.accepts h 0x306 [oScript n] = true → t = s.accepted h 0x306 1000000 [oScript n] → t.script n = some x → x.st ≠ .running → 
      exec (.restart h n) s = .next (State.cmdReply ((t.initScript x).setScript n { x with st := .loaded, anchor := none, pushed := [], stopAt := none, haltCause := 0, requests := [] }) h 0x306 0 [] ([])))

/-- A command that is accepted, with legal fields in range, places sensor settings for the frame they reach, binds an ISP parameter set to a frame, reads a camera register, schedules frame-sync pulses, and reports a stream's counters and last frame record. -/
def Obligations.HostCameraCommands : Prop :=
  (∀ (s t : State) (h : CmdHeader) (k f : Nat) (x g : List (Word × Word)) (a b c : Nat × Nat) (l : List Settings), s.accepts h 0x400 [oStream k] = true → t = s.accepted h 0x400 1000000 [oStream k] → l = t.settings k x g a b c → k < 48 → t.predicts k = true → t.indexOf k (t.reach k f l) = f → (x.length ≤ 255 ∧ x.all itemClear = true) → (g.length ≤ 255 ∧ g.all itemClear = true) → l.all (fun y => t.itemsAllowed (k / 4) y.items) = true → t.placesOk l = true → (t.cq (0x20 + k / 4)).entries.length + l.length ≤ 8 → l.all (fun y => t.inTime k (t.reach k f l) y) = true → 
      exec (.sensorSettings h k f x g a b c) s = .next (State.cmdReply (t.placeLists k l) h 0x400 0 [] (t.indexOf k (t.reach k f l) :: [if x.isEmpty then 0 else c.1, if g.isEmpty then 0 else c.2]))) ∧
  (∀ (s t : State) (h : CmdHeader) (k f e n m : Nat) (w : List Half) (v : State) (cl : List (Nat × Nat × Int × Int)), s.accepts h 0x401 [oStream k] = true → t = s.accepted h 0x401 1000000 [oStream k] → k < 48 → t.predicts k = true → n = t.ispReach k f → t.indexOf k n = f → w.length = 256 → (List.range 64).find? (fun m => (t.wset m).st == .free) = some m → t.portRoom k = true → t.now + 50000 + 20 * 128 ≤ e → t.startOf k (n - 1) < e → e < t.startOf k n → (t.setWset m { st := .opened }).stageAll m (ispMembers k w) = .ok v cl → (v.armSet m e (some k)).2 = [] → 
      exec (.ispParams h k f e w) s = .next (State.cmdReply ((v.armSet m e (some k)).1.pushIsp k m e) h 0x401 0 [] ([m, t.indexOf k n]))) ∧
  (∀ (s t : State) (h : CmdHeader) (b d r n : Nat) (a : Bool) (u : State), s.accepts h 0x402 [] = true → t = s.accepted h 0x402 1000000 [] → b < 12 → d < 128 → (r < if a then 65536 else 256) → 1 ≤ n → n ≤ 4 → (u = t.modOutstanding h.tag (fun o => { o with object := b, bytes := n, args := [(readWord d r a n).toNat] })) → 
      exec (.i2cRead h b d r a n) s = .next (match u.outstandingTag h.tag with | some o => u.issueRead o | none => u)) ∧
  (∀ (s t : State) (h : CmdHeader) (n p f w : Nat), s.accepts h 0x403 [] = true → t = s.accepted h 0x403 1000000 [] → n < 12 → t.fld (rINT_FSYNC_CFG n) fINT_FSYNC_CFG_MIN_PERIOD_US ≤ p → p ≤ 4194303 → 1 ≤ w → w ≤ 255 → ((t.dropFsync n).cq (0x20 + n)).entries.length < 8 → 
      exec (.fsyncSchedule h n p f w) s = .next (State.cmdReply ((t.dropFsync n).pushCue (.port ⟨n % 12, Nat.mod_lt n (by decide)⟩) { time := firstInstance t.now f p, op := 0x08, late := 0, fab := false, period := p, arg := n + w * 256 } false) h 0x403 0 [] ([]))) ∧
  (∀ (s t : State) (h : CmdHeader) (k : Nat) (u : State), s.accepts h 0x404 [oStream k] = true → t = s.accepted h 0x404 1000000 [oStream k] → k < 48 → u = t.gather ((streamCounters k).map (·.1)).eraseDups → 
      exec (.streamStatus h k) s = .next (State.cmdReply (u) h 0x404 0 [] ((streamCounters k).map (fun x => u.total x.1 x.2) ++ (u.stream k).lastRecord.map (·.toNat))))

/-- A command that is accepted, with legal fields in range, reports power, sets an operating point unless the cluster is pinned, sets the cap, and takes down a SLEEP or DARK; it reports the rehearsal, sets its period, runs a slice, reads the repair map, replaces a core where a healthy spare stands by and else replies WRONG_STATE, and runs the full test. -/
def Obligations.HostPowerAndRehearsalCommands : Prop :=
  (∀ (s t : State) (h : CmdHeader) , s.accepts h 0x500 [] = true → t = s.accepted h 0x500 1000000 [] → 
      exec (.powerGet h) s = .next (State.cmdReply (t) h 0x500 0 [] ((List.range 7).map (fun k => Cells.get (fun _ => 0) t.power.residency k) ++ [t.fld rPWR_IN fPWR_IN_MV, t.fld rPWR_IN fPWR_IN_CURR, t.fld rPWR_CAP fPWR_CAP_CAP, t.power.holds.length] ++ t.power.holds.flatMap (fun x => [x.1, x.2.1, x.2.2.1, x.2.2.2.1, x.2.2.2.2])))) ∧
  (∀ (s t : State) (h : CmdHeader) (c o : Nat), s.accepts h 0x501 [] = true → t = s.accepted h 0x501 1000000 [] → c < 2 → o < 8 → (t.pinned c = false ∨ o = 7) → 
      exec (.setOp h c o) s = .next (State.cmdReply (((t.setCluster c { t.cluster c with lastSet := some o }).setReqOp c o).settle) h 0x501 0 [] ([]))) ∧
  (∀ (s t : State) (h : CmdHeader) (c o : Nat), s.accepts h 0x501 [] = true → t = s.accepted h 0x501 1000000 [] → c < 2 → o < 7 → t.pinned c = true → 
      exec (.setOp h c o) s = .next (State.cmdReply (t) h 0x501 0x12 [] ([]))) ∧
  (∀ (s t : State) (h : CmdHeader) (w : Nat), s.accepts h 0x502 [] = true → t = s.accepted h 0x502 1000000 [] → 20 ≤ w → w ≤ t.fld rPWR_CAP fPWR_CAP_CEIL → 
      exec (.setPowerCap h w) s = .next (State.cmdReply (t.setFld rPWR_CAP fPWR_CAP_CAP w) h 0x502 0 [] ([]))) ∧
  (∀ (s t : State) (h : CmdHeader) (e m : Nat), s.accepts h 0x503 [] = true → t = s.accepted h 0x503 1000000 [] → (e = 0 ∨ (t.now + 5000000 ≤ e ∧ e < 2 ^ 64)) → m < 64 → 
      exec (.sleep h e m) s = .next (t.modOutstanding h.tag (fun o => { o with args := [e, m] }))) ∧
  (∀ (s t : State) (h : CmdHeader) (m : Nat), s.accepts h 0x504 [] = true → t = s.accepted h 0x504 1000000 [] → m < 64 → 
      exec (.dark h m) s = .next (t.modOutstanding h.tag (fun o => { o with args := [0, m] }))) ∧
  (∀ (s t : State) (h : CmdHeader) (u : State), s.accepts h 0x600 [] = true → t = s.accepted h 0x600 1000000 [] → u = t.gather [rREH_FAIL_CNT] → 
      exec (.rehearsalStatus h) s = .next (State.cmdReply (u) h 0x600 0 [] ([(u.reg rREH_ROT_CNT).toNat, u.total rREH_FAIL_CNT 0, u.nextSlice.getD 0xFFFF]))) ∧
  (∀ (s t : State) (h : CmdHeader) (n : Nat), s.accepts h 0x601 [] = true → t = s.accepted h 0x601 1000000 [] → 1 ≤ n → n ≤ 720 → 
      exec (.rehearsalCfg h n) s = .next (State.cmdReply (t.setFld rREH_CTL fREH_CTL_ROT_HOURS n) h 0x601 0 [] ([]))) ∧
  (∀ (s t : State) (h : CmdHeader) (b : Nat), s.accepts h 0x602 [] = true → t = s.accepted h 0x602 1000000 [] → listedBlock b = true → t.sliceOk b = true → t.reh.slice = none → (t.rehGo b).reh.slice.isSome = true → 
      exec (.rehearseNow h b) s = .next (t.rehGo b)) ∧
  (∀ (s t : State) (h : CmdHeader) (k : Nat) (l : List (List Nat)), s.accepts h 0x603 [] = true → t = s.accepted h 0x603 1000000 [] → l = t.sec.fuseRepairs.map (repairWords true) ++ t.fieldRepairs.map (repairWords false) → 
      exec (.repairMapGet h k) s = .next (State.cmdReply (t) h 0x603 0 [] ([((l.drop k).take 2047).length, min l.length (k + ((l.drop k).take 2047).length)] ++ ((l.drop k).take 2047).flatten))) ∧
  (∀ (s t : State) (h : CmdHeader) (b : Nat) (u : State), s.accepts h 0x604 [] = true → t = s.accepted h 0x604 1000000 [] → b < 8 → t.spareHealthy = true → (u = t.modOutstanding h.tag (fun o => { o with object := b, bytes := t.phys b })) → 
      exec (.coreReplace h b) s = .next (match u.outstandingTag h.tag with | some o => u.pollReplace o | none => u)) ∧
  (∀ (s t : State) (h : CmdHeader) (b : Nat), s.accepts h 0x604 [] = true → t = s.accepted h 0x604 1000000 [] → b < 8 → t.spareHealthy = false → 
      exec (.coreReplace h b) s = .next (State.cmdReply (t) h 0x604 0x12 [] ([]))) ∧
  (∀ (s t : State) (h : CmdHeader) (m : Nat) (f : List Nat) (u : State), s.accepts h 0x605 [] = true → t = s.accepted h 0x605 1000000 [] → m < 65536 → t.sec.fullTest = false → u = t.modOutstanding h.tag (fun o => { o with args := m :: f }) → 
      exec (.fullTest h m f) s = .next ({ u with sec := { u.sec with fullTest := true } }))

/-- A command that is accepted, with legal fields in range, attests with a nonce of 48 bytes, erases the inactive slot for an update, writes update data within the lengths stated, commits an update whose images both verify and else replies BAD_SIGNATURE, and performs a token that verifies and whose rules hold. -/
def Obligations.HostSecurityCommands : Prop :=
  (∀ (s t : State) (h : CmdHeader) (x : List Byte), s.accepts h 0x700 [] = true → t = s.accepted h 0x700 1000000 [] → x.length = 48 → 
      exec (.attest h x) s = .next (State.cmdReply (t) h 0x700 0 [] ((t.report x t.firmwarePart ++ t.certificate).map (·.toNat)))) ∧
  (∀ (s t : State) (h : CmdHeader) (f c : Nat) (u : State), s.accepts h 0x701 [oNor] = true → t = s.accepted h 0x701 1000000 [oNor] → f ≤ 0x1700000 → c ≤ 0x100000 → u = t.norErase (slotBase t.updateSlot) 0x1800000 → 
      exec (.fwUpdateBegin h f c) s = .next (State.cmdReply ({ u with sec := { u.sec with update := some (f, c), updHeader := [] } }) h 0x701 0 [] ([]))) ∧
  (∀ (s t : State) (h : CmdHeader) (o f c : Nat) (b : List Byte), s.accepts h 0x702 [oNor] = true → t = s.accepted h 0x702 1000000 [oNor] → b.length ≤ 65520 → (t.sec.update = some (f, c)) → (o + b.length ≤ f ∨ (0x1700000 ≤ o ∧ o + b.length ≤ 0x1700000 + c)) → 
      exec (.fwUpdateData h o b) s = .next (State.cmdReply (t.updateWrite o b) h 0x702 0 [] ([]))) ∧
  (∀ (s t : State) (h : CmdHeader) (o f c : Nat) (b : List Byte), s.accepts h 0x702 [oNor] = true → t = s.accepted h 0x702 1000000 [oNor] → b.length ≤ 65520 → (t.sec.update = some (f, c)) → f < o + b.length → (o < 0x1700000 ∨ 0x1700000 + c < o + b.length) → 
      exec (.fwUpdateData h o b) s = .next (State.cmdReply (t) h 0x702 0x03 [] ([]))) ∧
  (∀ (s t : State) (h : CmdHeader) (f c : Nat) (u : State), s.accepts h 0x703 [oNor] = true → t = s.accepted h 0x703 60000000 [oNor] → (t.sec.update = some (f, c)) → (u = (t.norProgram (slotBase t.updateSlot) (imgBytes t.updateReader 0 headerLen)).setFwSlot t.updateSlot { mark := .pending, attempts := 0 }) → 
      exec (.fwUpdateCommit h) s = .next (if t.imageCheck t.updateReader (f == headerLen + imgBodyLen t.updateReader) 1 = 0 ∧ t.imageCheck (t.norReader (slotBase t.updateSlot + 0x1700000)) (c == headerLen + imgBodyLen (t.norReader (slotBase t.updateSlot + 0x1700000))) 2 = 0 then State.cmdReply ({ u with sec := { u.sec with update := none, updHeader := [] } }) h 0x703 0 [] ([t.updateSlot, imgVersion t.updateReader]) else State.cmdReply (t) h 0x703 0x07 [] [])) ∧
  (∀ (s t : State) (h : CmdHeader) (b : List Byte) (x : Nat) (a c r n : Nat) (u : State), s.accepts h 0x704 [oNor] = true → t = s.accepted h 0x704 60000000 [oNor] → x = t.imageCheck (fun i => b.getD i 0) (b.length == headerLen + imgBodyLen (fun i => b.getD i 0)) 4 → (tokenBody (imgBody (fun i => b.getD i 0)) = some (a, c, r, n)) → t.tokenOk a c r n = true → u = t.lifeChange a c r → 
      exec (.lifecycleToken h b) s = .next (if x = 0 then u.cmdReply h 0x704 0 [] [u.sec.lifeCycle] else t.cmdReply h 0x704 (tokenStatus x) [] []))

/-- A command that is accepted, with legal fields in range, reports the fabric and resets a link; in SERVICE it reads words, writes a word under a mask with the word before as its reply, and fences or releases a unit. -/
def Obligations.HostFabricAndServiceCommands : Prop :=
  (∀ (s t : State) (h : CmdHeader) (u : State), s.accepts h 0x800 [] = true → t = s.accepted h 0x800 1000000 [] → u = t.gather ((List.range 6).flatMap (fun l => (linkCounters l).map (·.1))).eraseDups → 
      exec (.fabricStatus h) s = .next (State.cmdReply (u) h 0x800 0 [] ((List.range 6).flatMap (fun l => [u.linkSt l, u.fld (rEPL_STAT l) fEPL_STAT_PEER_MOD] ++ (linkCounters l).map (fun x => u.total x.1 x.2)) ++ (List.range 24).map (fun d => u.fld (rEPL_ROUTE d) fEPL_ROUTE_LINK) ++ [u.fld rCUE_STATUS fCUE_STATUS_MASTER, u.fld rCUE_STATUS fCUE_STATUS_HOPS, u.time.sync.parent.getD 7]))) ∧
  (∀ (s t : State) (h : CmdHeader) (l : Nat), s.accepts h 0x801 [oLink l] = true → t = s.accepted h 0x801 1000000 [oLink l] → l < 6 → 
      exec (.linkReset h l) s = .next (State.cmdReply (if t.linkSt l = 0 ∨ t.linkSt l = 5 then t else t.linkReset l 4) h 0x801 0 [] ([]))) ∧
  (∀ (s t : State) (h : CmdHeader) (d n : Nat) (l : List Nat) (u : State), s.accepts h 0xF00 [] = true → t = s.accepted h 0xF00 1000000 [] → n ≤ 16384 → (t.wordsAt d n = (none, l, u)) → 
      exec (.regRead h d n) s = .next (State.cmdReply (u) h 0xF00 0 [] (l))) ∧
  (∀ (s t : State) (h : CmdHeader) (d v m : Nat) (x w : Word) (u : State), s.accepts h 0xF01 [] = true → t = s.accepted h 0xF01 1000000 [] → v < 2 ^ 32 → m < 2 ^ 32 → (t.wordAt d).1 = .ok x → (t.wordSet d (BitVec.ofNat 32 m) (BitVec.ofNat 32 v) x = (.ok w, u)) → 
      exec (.regWrite h d v m) s = .next (State.cmdReply (u) h 0xF01 0 [] ([x.toNat]))) ∧
  (∀ (s t : State) (h : CmdHeader) (n o : Nat), s.accepts h 0xF02 [] = true → t = s.accepted h 0xF02 1000000 [] → (blockRows n).isEmpty = false → o ≤ 1 → 
      exec (.fenceUnit h n o) s = .next (State.cmdReply (if o = 1 then t.fence n else t.unfence n) h 0xF02 0 [] ([])))

/-- After reset no command waits, cue time is 0 (R29), every register reads its reset value from the tables of the spec (where they give none, the value named in log entries 63 and 64), a byte of memory that nothing has written reads as its blank value (FFh in the erased serial NOR, log entry 27, and 0 elsewhere, log entry 4), the module is in STARTING with PWRGD low (R427, R431), no host command is outstanding, no event waits, and the life-cycle fuses read FIELD (log entry 63). -/
def Obligations.ResetState : Prop :=
  (
      State.reset.pending = [] ∧ State.reset.now = 0 ∧ State.reset.host.outstanding = [] ∧ State.reset.host.replies = [] ∧
      State.reset.events.queue = [] ∧ State.reset.power.st = .starting ∧ State.reset.power.pwrgd = false ∧ State.reset.sec.blown = [0, 1]) ∧
  (∀ (a : Nat), 
      State.reset.reg a = regReset a) ∧
  (∀ (k : Nat), 
      State.reset.byte k = blankByte k) ∧
  (
      State.reset.flag rCUE_STATUS fCUE_STATUS_ALIGN_OK = false ∧ State.reset.flag rCUE_STATUS fCUE_STATUS_MASTER = false ∧
      State.reset.fld rCUE_LATE_TOL fCUE_LATE_TOL_TOL = 1000 ∧ State.reset.fld rAON_RST_CAUSE fAON_RST_CAUSE_CAUSE = 1 ∧
      blankByte (norPlace 0x3000000) = 0xFF ∧ blankByte 0 = 0)

/-- The registers and the memory after reset are in their canonical form: places strictly rising, and no entry equal to what an unlisted place reads as. The form is the model's own. -/
def Obligations.ResetCanonical : Prop :=
  (
      State.reset.canon)

/-- For every command and state, a step with that command at the front of the queue is exec of that command on the state with the queue's rest. The queue is the model's own (log entry 2). -/
def Obligations.StepTakesFront : Prop :=
  (∀ (c : Instr) (rest : List Instr) (s : State), 
      step { s with pending := c :: rest } = exec c { s with pending := rest })

/-- On an empty queue, the first held host command that may start does so and leaves the list in which it was held (R383, R388); with none, commands that are outstanding and stops that are due are looked after and time passes, 1 ns where no command is outstanding and no script is loaded (log entry 1: the model's choice). -/
def Obligations.StepOnEmptyQueue : Prop :=
  (∀ (s : State), s.pending = [] → s.nextHeld = none → 
      step s = .next s.quiet ∧ (s.host.outstanding = [] → s.scripts = [] → s.quiet.time.ns = s.time.ns + 1)) ∧
  (∀ (s : State) (tag : Nat) (c : Instr), s.pending = [] → (s.nextHeld = some (tag, c)) → 
      step s = endHeld (exec c (s.takeHeld tag)) ∧ (∀ x ∈ (s.takeHeld tag).host.held, x.1 ≠ tag))

/-- From every state whose registers and memory are in canonical form (places strictly rising, no entry equal to what an unlisted place reads as), every step that answers a next state answers one in canonical form: so equal registers and memories are equal data whatever the commands do. The form is the model's own. -/
def Obligations.CanonicalFormKept : Prop :=
  (∀ (s t : State), s.canon → step s = .next t → 
      t.canon)

/-- From every state, a step that answers a next state restores no blown fuse bit, does not lower the anti-rollback counter and restores no revoked key slot; a reset, a boot and a service command are no exception (R438, R443, R450). -/
def Obligations.FusesNeverRestored : Prop :=
  (∀ (s t : State), step s = .next t → 
      FusesRise s t)

/-- From every state, a step that answers a next state does not lower cue time, unless the command that it runs (the front one, or with an empty queue the held one that starts) is POWER_ON_RESET, which sets it to 0 (R28, R29, R37: corrections slew, hold or jump forward). -/
def Obligations.CueTimeNeverDecreases : Prop :=
  (∀ (s t : State), s.stepCommand ≠ some .powerOnReset → step s = .next t → 
      s.now ≤ t.now) ∧
  (∀ (s t : State), exec .powerOnReset s = .next t → 
      exec .powerOnReset s = .next t ∧ t.now = 0)

/-- A step with a command at the front of the queue answers a next state whose queue is the rest, in every state, unless the command is JTAG_DEBUG_INSTRUCTION, the TAP is not held in reset, and the life-cycle state unlocks debug (R444, R495): then the model stops, since the spec does not say what a debug instruction does (log entry 72). -/
def Obligations.EveryCommandAnswers : Prop :=
  (∀ (s : State) (c : Instr) (rest : List Instr), (c ≠ .jtagDebugInstruction ∨ s.tapHeld = true ∨ debugAllowed s.sec.lifeCycle = false) → 
      ∃ t, step { s with pending := c :: rest } = .next t ∧ t.pending = rest) ∧
  (∀ (s : State) (rest : List Instr), s.tapHeld = false → debugAllowed s.sec.lifeCycle = true → 
      step { s with pending := .jtagDebugInstruction :: rest } = .refused .debugUnit)

/-- For FRC8 and FRC16 at both ratios and both signednesses: the block of a unit has its fixed size; a decoded element is never above the original and at most 2^SH − 1 below it, with SH the shift of its lane, so that a lane of shift 0 decodes exactly; and no element of an encoded unit is saturated on decoding. -/
def Obligations.FrcErrorBound : Prop :=
  (∀ (f t : Nat) (unit : List Byte) (e : Nat), 1 ≤ f → f ≤ 4 → t < 4 → (t < 2 ↔ f < 3) → unit.length = frcUnit f → e < 256 → 
      (frcEncode f t unit).length = frcBlock f ∧ (frcDecode f t (frcEncode f t unit)).2 = 0 ∧
      0 ≤ (elems t unit).getD e 0 - (elems t (frcDecode f t (frcEncode f t unit)).1).getD e 0 ∧
      (elems t unit).getD e 0 - (elems t (frcDecode f t (frcEncode f t unit)).1).getD e 0 ≤
        2 ^ ((frcHeads f (elems t unit)).getD (e % 16) (0, 0)).2 - 1)

/-- A cue action marked FAB at the head of its queue does not fire while ALIGN_OK = 0: its command leaves the state as it is, and it is not counted late; with ALIGN_OK = 1 it fires as one that is not marked FAB does. It counts as late if cue time is then past its time plus TOL. Actions not marked FAB fire by local cue time whatever ALIGN_OK is. -/
def Obligations.FabricActions : Prop :=
  (∀ (s : State) (q : QueueId) (op : Nat) (e : CueEntry) (l : List CueEntry), (s.cq q.num).entries = e :: l → e.fab = true → s.flag rCUE_STATUS fCUE_STATUS_ALIGN_OK = false → 
      s.firing q op = none ∧ exec (.nop q) s = .next s ∧ exec (.dmaLaunch q) s = .next s ∧ exec (.cueLate q) s = .next s) ∧
  (∀ (s : State) (e : CueEntry) (l : List CueEntry), (s.cq QueueId.hub.num).entries = e :: l → e.fab = true → s.flag rCUE_STATUS fCUE_STATUS_ALIGN_OK = false → 
      exec .hostEvent s = .next s ∧ exec .nocWindowOpen s = .next s ∧ exec .nocWindowClose s = .next s ∧ exec .barrierRelease s = .next s) ∧
  (∀ (s : State) (q : QueueId) (op : Nat) (e : CueEntry) (l : List CueEntry), (s.cq q.num).entries = e :: l → e.op = op → (s.cq q.num).halted = false → e.time ≤ s.now → s.holding = false → s.queueRuns q = true → (e.fab = true → s.flag rCUE_STATUS fCUE_STATUS_ALIGN_OK = true) → (op = 0x0B ∨ s.wingsDue e.time = false) → e.late = 0 → s.targetGated q = false → 
      s.firing q op = some e) ∧
  (∀ (s : State) (q : QueueId) (op : Nat) (e : CueEntry) (l : List CueEntry), (s.cq q.num).entries = e :: l → e.op = op → (s.cq q.num).halted = false → e.time ≤ s.now → s.holding = false → s.queueRuns q = true → (e.fab = true → s.flag rCUE_STATUS fCUE_STATUS_ALIGN_OK = true) → (op = 0x0B ∨ s.wingsDue e.time = false) → e.late = 0 → s.targetGated q = false → op = 0 → 
      exec (.nop q) s = .next (s.taken q e) ∧
      (e.counted = false → e.jumped = false → (s.taken q e).fld rCUE_LATE_CNT wholeReg =
        min (s.fld rCUE_LATE_CNT wholeReg + (if e.time + s.tol < s.now then 1 else 0)) (2 ^ 32 - 1)))

/-- The n-th stripe since the stream was enabled goes to the (n mod K)-th set bit of CORES in ascending order, K being the number of bits set. Numbers count across frames: a frame's first stripe has the number of stripes that its stream has had so far, its stripe j has j more, and disabling a stream starts again at 0; a slot that is granted for stripe j stands at that core. -/
def Obligations.RoundRobin : Prop :=
  (∀ (f : SaFrame) (n core slot : Nat), (f.place n = some (core, slot)) → 
      core < 8 ∧ bitOf (getF f.cfg fSA_STR_CFG_CORES) core = true ∧
      ((List.range core).filter (fun b => bitOf (getF f.cfg fSA_STR_CFG_CORES) b)).length =
        n % ((List.range 8).filter (fun b => bitOf (getF f.cfg fSA_STR_CFG_CORES) b)).length) ∧
  (∀ (f : SaFrame) (n : Nat), getF f.cfg fSA_STR_CFG_CORES ≠ 0 → 
      ∃ core slot, f.place n = some (core, slot)) ∧
  (∀ (s : State) (k fidx height width : Nat) (raw : Bool), 
      ∃ f, ((s.saOpen k fidx height width raw).saStream k).frames.getLast? = some f ∧ f.fidx = fidx ∧
      f.first = (s.saStream k).count ∧ ((s.saOpen k fidx height width raw).saStream k).count = (s.saStream k).count + f.j) ∧
  (∀ (s : State) (k : Fin 48), 
      exec (.saStreamDisable k) s = .next (s.saDisable k.val) ∧ ((s.saDisable k.val).saStream k.val).count = 0) ∧
  (∀ (s t : State) (k : Nat) (f : SaFrame) (j : Nat), (s.saSlotFor k f j = (t, true)) → 
      ∃ core slot x, f.place (f.first + j) = some (core, slot) ∧ t.saSlot (slotKey k core slot) = some x ∧ x.stripe = j ∧ x.fidx = f.fidx)

/-- A command whose header is good and whose TAG equals that of an outstanding command is answered at once with BAD_HEADER and DUP = 1, whatever the command and its objects are, but in the step in which the outstanding command itself starts from hold. The outstanding commands stay as they are, and the one with this tag later sends its own reply, with its own opcode and status. PING stands as an instance. -/
def Obligations.DuplicateTag : Prop :=
  (∀ (s : State) (h : CmdHeader) (c : Instr) (spec : CmdSpec) (op : Nat) (o : Outstanding) (t : State), spec.op = op → s.host.releasing ≠ some h.tag → s.hostReady = true → cmdHeaderOk h op = true → h.rsv = 0 → s.outstandingTag h.tag = some o → (t = (s.inUse).reply { opcode := opField h op, tag := h.tag, status := 0x0B, dup := true }) → 
      s.command h c spec = .next t ∧ t.host.outstanding = s.host.outstanding ∧ t.outstandingTag h.tag = some o ∧ t.host.held = s.host.held) ∧
  (∀ (s : State) (h : CmdHeader) (o : Outstanding) (t : State), s.host.releasing ≠ some h.tag → s.hostReady = true → cmdHeaderOk h 0 = true → h.rsv = 0 → s.outstandingTag h.tag = some o → (t = (s.inUse).reply { opcode := opField h 0, tag := h.tag, status := 0x0B, dup := true }) → 
      exec (.ping h) s = .next t) ∧
  (∀ (s : State) (o : Outstanding) (status : Nat) (payload : List Nat), 
      (s.replyTo o status payload).host.replies = s.host.replies ++
      [{ opcode := o.opcode, tag := o.tag, status := if status = 0 ∧ !o.clamps.isEmpty then 1 else status, clamps := o.clamps, payload := payload }])
end

