-- ==== Sys2Proof/Laws/Cells.lean ====
section
/-!
SUPPORT. The laws of the sparse map `Cells`: a read after a write, and that every operation keeps the canonical form.
-/
namespace Sys2Proof.Machine

variable {α : Type}

/-! ### Reading after writing -/

theorem Cells.find_put_same (l : Cells α) (k : Nat) (x : α) : Cells.find (Cells.put l k x) k = some x := by
  induction l with
  | nil => simp [Cells.put, Cells.find]
  | cons p l ih =>
    obtain ⟨j, v⟩ := p
    simp only [Cells.put]
    split
    · simp [Cells.find]
    · split
      · simp [Cells.find]
      · simp only [Cells.find]; split
        · contradiction
        · exact ih

theorem Cells.find_put_other (l : Cells α) {k m : Nat} (x : α) (h : m ≠ k) :
    Cells.find (Cells.put l k x) m = Cells.find l m := by
  induction l with
  | nil => simp [Cells.put, Cells.find, Ne.symm h]
  | cons p l ih =>
    obtain ⟨j, v⟩ := p
    simp only [Cells.put]
    split
    · subst_vars; simp [Cells.find, Ne.symm h]
    · split
      · simp [Cells.find, Ne.symm h]
      · simp only [Cells.find]; split
        · rfl
        · exact ih

theorem Cells.find_erase_other (l : Cells α) {k m : Nat} (h : m ≠ k) :
    Cells.find (Cells.erase l k) m = Cells.find l m := by
  induction l with
  | nil => rfl
  | cons p l ih =>
    obtain ⟨j, v⟩ := p
    simp only [Cells.erase]
    split
    · subst_vars; rw [ih]; simp [Cells.find, Ne.symm h]
    · simp only [Cells.find]; split
      · rfl
      · exact ih

/-- A write leaves every other key alone. -/
theorem Cells.get_set_other [DecidableEq α] (d : Nat → α) (l : Cells α) {k m : Nat} (x : α) (h : m ≠ k) :
    Cells.get d (Cells.set d l k x) m = Cells.get d l m := by
  unfold Cells.get Cells.set
  split
  · rw [Cells.find_erase_other l h]
  · rw [Cells.find_put_other l x h]

/-! ### The canonical form -/

/-- Every key of a map is above a bound. -/
def Cells.above (b : Nat) (l : Cells α) : Prop := ∀ p ∈ l, b < p.1

theorem Cells.wf_cons [DecidableEq α] (d : Nat → α) (k : Nat) (v : α) (l : Cells α) :
    Cells.wf d ((k, v) :: l) = true ↔ v ≠ d k ∧ Cells.above k l ∧ Cells.wf d l = true := by
  induction l generalizing k v with
  | nil => simp [Cells.wf, Cells.above]
  | cons p l ih =>
    obtain ⟨j, w⟩ := p
    simp only [Cells.wf, Bool.and_eq_true, bne_iff_ne, decide_eq_true_eq]
    rw [ih]
    constructor
    · rintro ⟨⟨h1, h2⟩, h3, h4, h5⟩
      refine ⟨h1, ?_, h3, h4, h5⟩
      intro q hq
      rcases List.mem_cons.1 hq with rfl | hq
      · exact h2
      · exact lt_trans h2 (h4 q hq)
    · rintro ⟨h1, h2, h3, h4, h5⟩
      exact ⟨⟨h1, h2 _ (List.mem_cons_self ..)⟩, h3, h4, h5⟩

theorem Cells.above_erase (b : Nat) (l : Cells α) (k : Nat) (h : Cells.above b l) : Cells.above b (Cells.erase l k) := by
  induction l with
  | nil => exact h
  | cons p l ih =>
    obtain ⟨j, v⟩ := p
    have hl : Cells.above b l := fun q hq => h q (List.mem_cons_of_mem _ hq)
    have hj : b < j := h (j, v) (List.mem_cons_self ..)
    simp only [Cells.erase]
    split
    · exact ih hl
    · intro q hq
      rcases List.mem_cons.1 hq with rfl | hq
      · exact hj
      · exact ih hl q hq

theorem Cells.above_put (b : Nat) (l : Cells α) (k : Nat) (x : α) (hk : b < k) (h : Cells.above b l) :
    Cells.above b (Cells.put l k x) := by
  induction l with
  | nil => intro q hq; simp only [Cells.put, List.mem_singleton] at hq; subst hq; exact hk
  | cons p l ih =>
    obtain ⟨j, v⟩ := p
    have hl : Cells.above b l := fun q hq => h q (List.mem_cons_of_mem _ hq)
    have hj : b < j := h (j, v) (List.mem_cons_self ..)
    simp only [Cells.put]
    split
    · intro q hq
      rcases List.mem_cons.1 hq with rfl | hq
      · exact hk
      · exact hl q hq
    · split
      · intro q hq
        rcases List.mem_cons.1 hq with rfl | hq
        · exact hk
        · exact h q hq
      · intro q hq
        rcases List.mem_cons.1 hq with rfl | hq
        · exact hj
        · exact ih hl q hq

theorem Cells.wf_erase [DecidableEq α] (d : Nat → α) (l : Cells α) (k : Nat) (h : Cells.wf d l = true) :
    Cells.wf d (Cells.erase l k) = true := by
  induction l with
  | nil => exact h
  | cons p l ih =>
    obtain ⟨j, v⟩ := p
    obtain ⟨h1, h2, h3⟩ := (Cells.wf_cons ..).1 h
    simp only [Cells.erase]
    split
    · exact ih h3
    · exact (Cells.wf_cons ..).2 ⟨h1, Cells.above_erase _ _ _ h2, ih h3⟩

theorem Cells.wf_put [DecidableEq α] (d : Nat → α) (l : Cells α) (k : Nat) (x : α) (hx : x ≠ d k)
    (h : Cells.wf d l = true) : Cells.wf d (Cells.put l k x) = true := by
  induction l with
  | nil => simp [Cells.put, Cells.wf, hx]
  | cons p l ih =>
    obtain ⟨j, v⟩ := p
    obtain ⟨h1, h2, h3⟩ := (Cells.wf_cons ..).1 h
    simp only [Cells.put]
    split
    · next e => subst e; exact (Cells.wf_cons ..).2 ⟨hx, h2, h3⟩
    · split
      · next hlt =>
        refine (Cells.wf_cons ..).2 ⟨hx, ?_, h⟩
        intro q hq
        rcases List.mem_cons.1 hq with rfl | hq
        · exact hlt
        · exact lt_trans hlt (h2 q hq)
      · exact (Cells.wf_cons ..).2 ⟨h1, Cells.above_put _ _ _ _ (by omega) h2, ih h3⟩

/-- A write keeps the canonical form. -/
theorem Cells.wf_set [DecidableEq α] (d : Nat → α) (l : Cells α) (k : Nat) (x : α) (h : Cells.wf d l = true) :
    Cells.wf d (Cells.set d l k x) = true := by
  unfold Cells.set
  split
  · exact Cells.wf_erase d l k h
  · exact Cells.wf_put d l k x ‹_› h

theorem Cells.above_filter (b : Nat) (l : Cells α) (f : Nat × α → Bool) (h : Cells.above b l) : Cells.above b (l.filter f) :=
  fun q hq => h q (List.mem_filter.1 hq).1

/-- Dropping entries keeps the canonical form. -/
theorem Cells.wf_filter [DecidableEq α] (d : Nat → α) (l : Cells α) (f : Nat × α → Bool) (h : Cells.wf d l = true) :
    Cells.wf d (l.filter f) = true := by
  induction l with
  | nil => exact h
  | cons p l ih =>
    obtain ⟨j, v⟩ := p
    obtain ⟨h1, h2, h3⟩ := (Cells.wf_cons ..).1 h
    simp only [List.filter_cons]
    split
    · exact (Cells.wf_cons ..).2 ⟨h1, Cells.above_filter _ _ _ h2, ih h3⟩
    · exact ih h3

theorem Cells.find_of_above (l : Cells α) (k : Nat) (h : Cells.above k l) : Cells.find l k = none := by
  induction l with
  | nil => rfl
  | cons p l ih =>
    obtain ⟨j, v⟩ := p
    have hj : k < j := h (j, v) (List.mem_cons_self ..)
    simp only [Cells.find]
    rw [if_neg (by omega)]
    exact ih (fun q hq => h q (List.mem_cons_of_mem _ hq))

theorem Cells.find_erase_same (l : Cells α) (k : Nat) : Cells.find (Cells.erase l k) k = none := by
  induction l with
  | nil => rfl
  | cons p l ih =>
    obtain ⟨j, v⟩ := p
    simp only [Cells.erase]
    split
    · exact ih
    · simp only [Cells.find]; rw [if_neg ‹_›]; exact ih

/-- A read after a write gives what was written. -/
theorem Cells.get_set [DecidableEq α] (d : Nat → α) (l : Cells α) (k : Nat) (x : α) :
    Cells.get d (Cells.set d l k x) k = x := by
  unfold Cells.get Cells.set
  split
  · next e => rw [Cells.find_erase_same l k]; simp [e]
  · rw [Cells.find_put_same]; rfl

/-- A read after a write gives what was written, in a map of the canonical form. -/
theorem Cells.get_set_same [DecidableEq α] (d : Nat → α) (l : Cells α) (k : Nat) (x : α) (_ : Cells.wf d l = true) :
    Cells.get d (Cells.set d l k x) k = x := Cells.get_set d l k x

end Sys2Proof.Machine
end

