-- ==== Sys2Proof/Laws/Exec.lean ====
section
/-!
SUPPORT. What `exec` does with each command: one lemma per command, so that a proof about a command never unfolds the whole dispatch.
-/
namespace Sys2Proof.Machine

theorem exec_registerWrite (x a v s) : exec (.registerWrite x a v) s = execRegisterWrite x a v s := rfl
theorem exec_rcCounterRead (x a s) : exec (.rcCounterRead x a) s = execRcCounterRead x a s := rfl
theorem exec_tagWaitIssue (r s) : exec (.tagWaitIssue r) s = execTagWaitIssue r s := rfl
theorem exec_coreIndexSwitch (s) : exec (.coreIndexSwitch) s = execCoreIndexSwitch s := rfl
theorem exec_aonTick (s) : exec (.aonTick) s = execAonTick s := rfl
theorem exec_cueTrimStep (s) : exec (.cueTrimStep) s = execCueTrimStep s := rfl
theorem exec_cueSlewStep (s) : exec (.cueSlewStep) s = execCueSlewStep s := rfl
theorem exec_cueHandoverWake (s) : exec (.cueHandoverWake) s = execCueHandoverWake s := rfl
theorem exec_cueHandoverSleep (s) : exec (.cueHandoverSleep) s = execCueHandoverSleep s := rfl
theorem exec_ppsEdge (high s) : exec (.ppsEdge high) s = execPpsEdge high s := rfl
theorem exec_ppsTimeout (s) : exec (.ppsTimeout) s = execPpsTimeout s := rfl
theorem exec_timeSyncTimer (s) : exec (.timeSyncTimer) s = execTimeSyncTimer s := rfl
theorem exec_timeHoldEnd (s) : exec (.timeHoldEnd) s = execTimeHoldEnd s := rfl
theorem exec_cueqPush (q w s) : exec (.cueqPush q w) s = execCueqPush q w s := rfl
theorem exec_cueqFlush (q s) : exec (.cueqFlush q) s = execCueqFlush q s := rfl
theorem exec_cueqResume (q s) : exec (.cueqResume q) s = execCueqResume q s := rfl
theorem exec_cuePrewake (q s) : exec (.cuePrewake q) s = execCuePrewake q s := rfl
theorem exec_cueLate (q s) : exec (.cueLate q) s = execCueLate q s := rfl
theorem exec_nop (q s) : exec (.nop q) s = execNop q s := rfl
theorem exec_dmaLaunch (q s) : exec (.dmaLaunch q) s = execDmaLaunch q s := rfl
theorem exec_frondJob (b s) : exec (.frondJob b) s = execFrondJob b s := rfl
theorem exec_taskStart (b s) : exec (.taskStart b) s = execTaskStart b s := rfl
theorem exec_vppInt (b s) : exec (.vppInt b) s = execVppInt b s := rfl
theorem exec_barrierRelease (s) : exec (.barrierRelease) s = execBarrierRelease s := rfl
theorem exec_nocWindowOpen (s) : exec (.nocWindowOpen) s = execNocWindowOpen s := rfl
theorem exec_nocWindowClose (s) : exec (.nocWindowClose) s = execNocWindowClose s := rfl
theorem exec_fsyncPulse (p s) : exec (.fsyncPulse p) s = execFsyncPulse p s := rfl
theorem exec_fsyncPulseEnd (n s) : exec (.fsyncPulseEnd n) s = execFsyncPulseEnd n s := rfl
theorem exec_sensorWrite (p s) : exec (.sensorWrite p) s = execSensorWrite p s := rfl
theorem exec_ispApply (p s) : exec (.ispApply p) s = execIspApply p s := rfl
theorem exec_wingsApply (n s) : exec (.wingsApply n) s = execWingsApply n s := rfl
theorem exec_wake (s) : exec (.wake) s = execWake s := rfl
theorem exec_hostEvent (s) : exec (.hostEvent) s = execHostEvent s := rfl
theorem exec_wingsCommitDeadline (n s) : exec (.wingsCommitDeadline n) s = execWingsCommitDeadline n s := rfl
theorem exec_frondJobQWrite (b w s) : exec (.frondJobQWrite b w) s = execFrondJobQWrite b w s := rfl
theorem exec_frondJobStart (b s) : exec (.frondJobStart b) s = execFrondJobStart b s := rfl
theorem exec_frondRtPreempt (b s) : exec (.frondRtPreempt b) s = execFrondRtPreempt b s := rfl
theorem exec_frondWeightBlockLoad (b s) : exec (.frondWeightBlockLoad b) s = execFrondWeightBlockLoad b s := rfl
theorem exec_frondPassStart (b s) : exec (.frondPassStart b) s = execFrondPassStart b s := rfl
theorem exec_frondJobComplete (b s) : exec (.frondJobComplete b) s = execFrondJobComplete b s := rfl
theorem exec_frondBusError (b s) : exec (.frondBusError b) s = execFrondBusError b s := rfl
theorem exec_frondFlush (b s) : exec (.frondFlush b) s = execFrondFlush b s := rfl
theorem exec_frondResume (b s) : exec (.frondResume b) s = execFrondResume b s := rfl
theorem exec_vppStart (b s) : exec (.vppStart b) s = execVppStart b s := rfl
theorem exec_vppHalt (b s) : exec (.vppHalt b) s = execVppHalt b s := rfl
theorem exec_vppIntSet (b w s) : exec (.vppIntSet b w) s = execVppIntSet b w s := rfl
theorem exec_vppBundleIssue (b s) : exec (.vppBundleIssue b) s = execVppBundleIssue b s := rfl
theorem exec_vppInterruptEntry (b s) : exec (.vppInterruptEntry b) s = execVppInterruptEntry b s := rfl
theorem exec_contextSwitchOut (b s) : exec (.contextSwitchOut b) s = execContextSwitchOut b s := rfl
theorem exec_contextWaitClear (b c s) : exec (.contextWaitClear b c) s = execContextWaitClear b c s := rfl
theorem exec_contextPreempt (b s) : exec (.contextPreempt b) s = execContextPreempt b s := rfl
theorem exec_vppDeadlineMiss (b c s) : exec (.vppDeadlineMiss b c) s = execVppDeadlineMiss b c s := rfl
theorem exec_prompterOpIssue (o s) : exec (.prompterOpIssue o) s = execPrompterOpIssue o s := rfl
theorem exec_remoteLoadReturn (b c s) : exec (.remoteLoadReturn b c) s = execRemoteLoadReturn b c s := rfl
theorem exec_remoteStoreAck (id s) : exec (.remoteStoreAck id) s = execRemoteStoreAck id s := rfl
theorem exec_remoteAccessArrive (id s) : exec (.remoteAccessArrive id) s = execRemoteAccessArrive id s := rfl
theorem exec_ssInvalidateGo (source c s) : exec (.ssInvalidateGo source c) s = execSsInvalidateGo source c s := rfl
theorem exec_ssInvalidateDone (c s) : exec (.ssInvalidateDone c) s = execSsInvalidateDone c s := rfl
theorem exec_cacheFill (c s) : exec (.cacheFill c) s = execCacheFill c s := rfl
theorem exec_sbRegister (b agent ws rs s) : exec (.sbRegister b agent ws rs) s = execSbRegister b agent ws rs s := rfl
theorem exec_sbRelease (b agent entry write narrow s) : exec (.sbRelease b agent entry write narrow) s = execSbRelease b agent entry write narrow s := rfl
theorem exec_sbWaitClear (b s) : exec (.sbWaitClear b) s = execSbWaitClear b s := rfl
theorem exec_sbTimeout (b j s) : exec (.sbTimeout b j) s = execSbTimeout b j s := rfl
theorem exec_bankSwitchOff (way u j s) : exec (.bankSwitchOff way u j) s = execBankSwitchOff way u j s := rfl
theorem exec_powerDownWithdrawn (way u j s) : exec (.powerDownWithdrawn way u j) s = execPowerDownWithdrawn way u j s := rfl
theorem exec_bankPowerUpDone (way u j s) : exec (.bankPowerUpDone way u j) s = execBankPowerUpDone way u j s := rfl
theorem exec_eccCorrectedWriteback (s) : exec (.eccCorrectedWriteback) s = execEccCorrectedWriteback s := rfl
theorem exec_dmaKick (b n s) : exec (.dmaKick b n) s = execDmaKick b n s := rfl
theorem exec_dmaDescFetch (b n s) : exec (.dmaDescFetch b n) s = execDmaDescFetch b n s := rfl
theorem exec_dmaDescStart (b n s) : exec (.dmaDescStart b n) s = execDmaDescStart b n s := rfl
theorem exec_dmaShadowHandover (b n s) : exec (.dmaShadowHandover b n) s = execDmaShadowHandover b n s := rfl
theorem exec_dmaReadReturn (b n k s) : exec (.dmaReadReturn b n k) s = execDmaReadReturn b n k s := rfl
theorem exec_dmaWriteAck (b n s) : exec (.dmaWriteAck b n) s = execDmaWriteAck b n s := rfl
theorem exec_dmaRingWriteback (b n s) : exec (.dmaRingWriteback b n) s = execDmaRingWriteback b n s := rfl
theorem exec_dmaCqRecordPost (n s) : exec (.dmaCqRecordPost n) s = execDmaCqRecordPost n s := rfl
theorem exec_dmaPostingResume (b n s) : exec (.dmaPostingResume b n) s = execDmaPostingResume b n s := rfl
theorem exec_dmaPaceResume (b n s) : exec (.dmaPaceResume b n) s = execDmaPaceResume b n s := rfl
theorem exec_dmaBusError (b n s) : exec (.dmaBusError b n) s = execDmaBusError b n s := rfl
theorem exec_dmaPtWalk (b n s) : exec (.dmaPtWalk b n) s = execDmaPtWalk b n s := rfl
theorem exec_dmaTranslationFault (b n s) : exec (.dmaTranslationFault b n) s = execDmaTranslationFault b n s := rfl
theorem exec_dmaResume (b n s) : exec (.dmaResume b n) s = execDmaResume b n s := rfl
theorem exec_dmaAbort (b n s) : exec (.dmaAbort b n) s = execDmaAbort b n s := rfl
theorem exec_dmaAbortDone (b n s) : exec (.dmaAbortDone b n) s = execDmaAbortDone b n s := rfl
theorem exec_dmaShadowSeal (b n s) : exec (.dmaShadowSeal b n) s = execDmaShadowSeal b n s := rfl
theorem exec_tvaInvalidate (v s) : exec (.tvaInvalidate v) s = execTvaInvalidate v s := rfl
theorem exec_tvaInvalidateDone (s) : exec (.tvaInvalidateDone) s = execTvaInvalidateDone s := rfl
theorem exec_pageRetire (frame spare s) : exec (.pageRetire frame spare) s = execPageRetire frame spare s := rfl
theorem exec_dmaPost (b v s) : exec (.dmaPost b v) s = execDmaPost b v s := rfl
theorem exec_postTimeout (b s) : exec (.postTimeout b) s = execPostTimeout b s := rfl
theorem exec_mailboxArrive (b s) : exec (.mailboxArrive b) s = execMailboxArrive b s := rfl
theorem exec_mbxPop (b s) : exec (.mbxPop b) s = execMbxPop b s := rfl
theorem exec_faultQueuePop (s) : exec (.faultQueuePop) s = execFaultQueuePop s := rfl
theorem exec_hqAlloc (a p s) : exec (.hqAlloc a p) s = execHqAlloc a p s := rfl
theorem exec_hqPush (a q h s) : exec (.hqPush a q h) s = execHqPush a q h s := rfl
theorem exec_hqPop (a q s) : exec (.hqPop a q) s = execHqPop a q s := rfl
theorem exec_hqFree (a h s) : exec (.hqFree a h) s = execHqFree a h s := rfl
theorem exec_hqFill (a q s) : exec (.hqFill a q) s = execHqFill a q s := rfl
theorem exec_barArrive (a b gen s) : exec (.barArrive a b gen) s = execBarArrive a b gen s := rfl
theorem exec_barWait (b c s) : exec (.barWait b c) s = execBarWait b c s := rfl
theorem exec_barCountRelease (b s) : exec (.barCountRelease b) s = execBarCountRelease b s := rfl
theorem exec_barReset (b cfg s) : exec (.barReset b cfg) s = execBarReset b cfg s := rfl
theorem exec_barTimeout (b s) : exec (.barTimeout b) s = execBarTimeout b s := rfl
theorem exec_chainTileArrive (b s) : exec (.chainTileArrive b) s = execChainTileArrive b s := rfl
theorem exec_chainTileForward (b s) : exec (.chainTileForward b) s = execChainTileForward b s := rfl
theorem exec_chainWaitExpire (b s) : exec (.chainWaitExpire b) s = execChainWaitExpire b s := rfl
theorem exec_scriptFault (n s) : exec (.scriptFault n) s = execScriptFault n s := rfl
theorem exec_auditRun (s) : exec (.auditRun) s = execAuditRun s := rfl
theorem exec_auditRunNow (s) : exec (.auditRunNow) s = execAuditRunNow s := rfl
theorem exec_portCfgApply (p s) : exec (.portCfgApply p) s = execPortCfgApply p s := rfl
theorem exec_deskewSequence (p s) : exec (.deskewSequence p) s = execDeskewSequence p s := rfl
theorem exec_hsBurstDiscard (p sot s) : exec (.hsBurstDiscard p sot) s = execHsBurstDiscard p sot s := rfl
theorem exec_frameStart (p vc num corrected s) : exec (.frameStart p vc num corrected) s = execFrameStart p vc num corrected s := rfl
theorem exec_frameEnd (p vc num corrected s) : exec (.frameEnd p vc num corrected) s = execFrameEnd p vc num corrected s := rfl
theorem exec_frameEndTimeout (k s) : exec (.frameEndTimeout k) s = execFrameEndTimeout k s := rfl
theorem exec_lineStart (p vc num corrected s) : exec (.lineStart p vc num corrected) s = execLineStart p vc num corrected s := rfl
theorem exec_imageLine (p vc dt b crcOk corrected s) : exec (.imageLine p vc dt b crcOk corrected) s = execImageLine p vc dt b crcOk corrected s := rfl
theorem exec_embeddedLine (p vc b crcOk corrected s) : exec (.embeddedLine p vc b crcOk corrected) s = execEmbeddedLine p vc b crcOk corrected s := rfl
theorem exec_watchEnable (p w s) : exec (.watchEnable p w) s = execWatchEnable p w s := rfl
theorem exec_i2cXfer (b w s) : exec (.i2cXfer b w) s = execI2cXfer b w s := rfl
theorem exec_i2cListComplete (b nack rd s) : exec (.i2cListComplete b nack rd) s = execI2cListComplete b nack rd s := rfl
theorem exec_i2cStuckTimeout (b j s) : exec (.i2cStuckTimeout b j) s = execI2cStuckTimeout b j s := rfl
theorem exec_trigEdge (n fall us s) : exec (.trigEdge n fall us) s = execTrigEdge n fall us s := rfl
theorem exec_trigFsyncDelay (n s) : exec (.trigFsyncDelay n) s = execTrigFsyncDelay n s := rfl
theorem exec_saRowWrite (s) : exec (.saRowWrite) s = execSaRowWrite s := rfl
theorem exec_slotReady (k b j s) : exec (.slotReady k b j) s = execSlotReady k b j s := rfl
theorem exec_stripePop (b c s) : exec (.stripePop b c) s = execStripePop b c s := rfl
theorem exec_stripeFb (b c w s) : exec (.stripeFb b c w) s = execStripeFb b c w s := rfl
theorem exec_stripeXrel (b w s) : exec (.stripeXrel b w) s = execStripeXrel b w s := rfl
theorem exec_stripeDone (b c w s) : exec (.stripeDone b c w) s = execStripeDone b c w s := rfl
theorem exec_stripeDres (b c s) : exec (.stripeDres b c) s = execStripeDres b c s := rfl
theorem exec_stripeDrop (k s) : exec (.stripeDrop k) s = execStripeDrop k s := rfl
theorem exec_saStreamDisable (k s) : exec (.saStreamDisable k) s = execSaStreamDisable k s := rfl
theorem exec_saStreamFlush (k s) : exec (.saStreamFlush k) s = execSaStreamFlush k s := rfl
theorem exec_stripeCountPoll (k s) : exec (.stripeCountPoll k) s = execStripeCountPoll k s := rfl
theorem exec_eplGroupRx (l g s) : exec (.eplGroupRx l g) s = execEplGroupRx l g s := rfl
theorem exec_eplReplayTimeout (l s) : exec (.eplReplayTimeout l) s = execEplReplayTimeout l s := rfl
theorem exec_eplTrailerTimeout (l s) : exec (.eplTrailerTimeout l) s = execEplTrailerTimeout l s := rfl
theorem exec_eplLinkReset (l s) : exec (.eplLinkReset l) s = execEplLinkReset l s := rfl
theorem exec_eplTrainDone (l s) : exec (.eplTrainDone l) s = execEplTrainDone l s := rfl
theorem exec_eplResetWrite (l s) : exec (.eplResetWrite l) s = execEplResetWrite l s := rfl
theorem exec_eplWinLock (w s) : exec (.eplWinLock w) s = execEplWinLock w s := rfl
theorem exec_wr (l s) : exec (.wr l) s = execWr l s := rfl
theorem exec_rd (l s) : exec (.rd l) s = execRd l s := rfl
theorem exec_wrAck (l s) : exec (.wrAck l) s = execWrAck l s := rfl
theorem exec_rdData (l s) : exec (.rdData l) s = execRdData l s := rfl
theorem exec_nb4Ann (l s) : exec (.nb4Ann l) s = execNb4Ann l s := rfl
theorem exec_nb4Data (l s) : exec (.nb4Data l) s = execNb4Data l s := rfl
theorem exec_nb4Ctl (l s) : exec (.nb4Ctl l) s = execNb4Ctl l s := rfl
theorem exec_tsSync (l s) : exec (.tsSync l) s = execTsSync l s := rfl
theorem exec_tsDreq (l s) : exec (.tsDreq l) s = execTsDreq l s := rfl
theorem exec_tsDrsp (l s) : exec (.tsDrsp l) s = execTsDrsp l s := rfl
theorem exec_barArr (l s) : exec (.barArr l) s = execBarArr l s := rfl
theorem exec_barRel (l s) : exec (.barRel l) s = execBarRel l s := rfl
theorem exec_barBroken (l s) : exec (.barBroken l) s = execBarBroken l s := rfl
theorem exec_wingsRpt (l s) : exec (.wingsRpt l) s = execWingsRpt l s := rfl
theorem exec_wingsCommit (l s) : exec (.wingsCommit l) s = execWingsCommit l s := rfl
theorem exec_heartbeatTimer (l s) : exec (.heartbeatTimer l) s = execHeartbeatTimer l s := rfl
theorem exec_heartbeat (l s) : exec (.heartbeat l) s = execHeartbeat l s := rfl
theorem exec_peerAliveTimeout (l s) : exec (.peerAliveTimeout l) s = execPeerAliveTimeout l s := rfl
theorem exec_goodbye (l s) : exec (.goodbye l) s = execGoodbye l s := rfl
theorem exec_linit (l s) : exec (.linit l) s = execLinit l s := rfl
theorem exec_linitAck (l s) : exec (.linitAck l) s = execLinitAck l s := rfl
theorem exec_commandRunt (n s) : exec (.commandRunt n) s = execCommandRunt n s := rfl
theorem exec_commandTimeout (tag s) : exec (.commandTimeout tag) s = execCommandTimeout tag s := rfl
theorem exec_ping (h s) : exec (.ping h) s = execPing h s := rfl
theorem exec_getIdentity (h s) : exec (.getIdentity h) s = execGetIdentity h s := rfl
theorem exec_cmdAbort (h target s) : exec (.cmdAbort h target) s = execCmdAbort h target s := rfl
theorem exec_getStatus (h s) : exec (.getStatus h) s = execGetStatus h s := rfl
theorem exec_getCounters (h blk inst cont s) : exec (.getCounters h blk inst cont) s = execGetCounters h blk inst cont s := rfl
theorem exec_timeGet (h s) : exec (.timeGet h) s = execTimeGet h s := rfl
theorem exec_timeSetEpoch (h t s) : exec (.timeSetEpoch h t) s = execTimeSetEpoch h t s := rfl
theorem exec_timePps (h en s) : exec (.timePps h en) s = execTimePps h en s := rfl
theorem exec_wingsOpen (h id s) : exec (.wingsOpen h id) s = execWingsOpen h id s := rfl
theorem exec_wingsStage (h n ms s) : exec (.wingsStage h n ms) s = execWingsStage h n ms s := rfl
theorem exec_wingsCheck (h n t s) : exec (.wingsCheck h n t) s = execWingsCheck h n t s := rfl
theorem exec_wingsApplyAt (h n t isp s) : exec (.wingsApplyAt h n t isp) s = execWingsApplyAt h n t isp s := rfl
theorem exec_wingsCancel (h n s) : exec (.wingsCancel h n) s = execWingsCancel h n s := rfl
theorem exec_wingsRelease (h n s) : exec (.wingsRelease h n) s = execWingsRelease h n s := rfl
theorem exec_wingsStatus (h n s) : exec (.wingsStatus h n) s = execWingsStatus h n s := rfl
theorem exec_memMap (h asid bytes writable page frames s) : exec (.memMap h asid bytes writable page frames) s = execMemMap h asid bytes writable page frames s := rfl
theorem exec_memUnmap (h asid tva s) : exec (.memUnmap h asid tva) s = execMemUnmap h asid tva s := rfl
theorem exec_xfer (h dir stream asid tva bytes frc type s) : exec (.xfer h dir stream asid tva bytes frc type) s = execXfer h dir stream asid tva bytes frc type s := rfl
theorem exec_memWrite (h asid tva b s) : exec (.memWrite h asid tva b) s = execMemWrite h asid tva b s := rfl
theorem exec_memRead (h asid tva n s) : exec (.memRead h asid tva n) s = execMemRead h asid tva n s := rfl
theorem exec_loadScript (h asid tva len d s) : exec (.loadScript h asid tva len d) s = execLoadScript h asid tva len d s := rfl
theorem exec_unloadScript (h n s) : exec (.unloadScript h n) s = execUnloadScript h n s := rfl
theorem exec_run (h n anchor s) : exec (.run h n anchor) s = execRun h n anchor s := rfl
theorem exec_stop (h n t s) : exec (.stop h n t) s = execStop h n t s := rfl
theorem exec_submit (h n inp inLen outp outLen s) : exec (.submit h n inp inLen outp outLen) s = execSubmit h n inp inLen outp outLen s := rfl
theorem exec_scriptStatus (h n s) : exec (.scriptStatus h n) s = execScriptStatus h n s := rfl
theorem exec_restart (h n s) : exec (.restart h n) s = execRestart h n s := rfl
theorem exec_sensorSettings (h k fidx expo gain lists firsts times s) : exec (.sensorSettings h k fidx expo gain lists firsts times) s = execSensorSettings h k fidx expo gain lists firsts times s := rfl
theorem exec_ispParams (h k fidx t w s) : exec (.ispParams h k fidx t w) s = execIspParams h k fidx t w s := rfl
theorem exec_i2cRead (h bus dev reg a16 n s) : exec (.i2cRead h bus dev reg a16 n) s = execI2cRead h bus dev reg a16 n s := rfl
theorem exec_fsyncSchedule (h n period phase width s) : exec (.fsyncSchedule h n period phase width) s = execFsyncSchedule h n period phase width s := rfl
theorem exec_streamStatus (h k s) : exec (.streamStatus h k) s = execStreamStatus h k s := rfl
theorem exec_powerGet (h s) : exec (.powerGet h) s = execPowerGet h s := rfl
theorem exec_setOp (h c op s) : exec (.setOp h c op) s = execSetOp h c op s := rfl
theorem exec_setPowerCap (h w s) : exec (.setPowerCap h w) s = execSetPowerCap h w s := rfl
theorem exec_sleep (h t mask s) : exec (.sleep h t mask) s = execSleep h t mask s := rfl
theorem exec_dark (h mask s) : exec (.dark h mask) s = execDark h mask s := rfl
theorem exec_rehearsalStatus (h s) : exec (.rehearsalStatus h) s = execRehearsalStatus h s := rfl
theorem exec_rehearsalCfg (h hours s) : exec (.rehearsalCfg h hours) s = execRehearsalCfg h hours s := rfl
theorem exec_rehearseNow (h block s) : exec (.rehearseNow h block) s = execRehearseNow h block s := rfl
theorem exec_repairMapGet (h cont s) : exec (.repairMapGet h cont) s = execRepairMapGet h cont s := rfl
theorem exec_coreReplace (h b s) : exec (.coreReplace h b) s = execCoreReplace h b s := rfl
theorem exec_fullTest (h mask finds s) : exec (.fullTest h mask finds) s = execFullTest h mask finds s := rfl
theorem exec_attest (h nonce s) : exec (.attest h nonce) s = execAttest h nonce s := rfl
theorem exec_fwUpdateBegin (h fw cfg s) : exec (.fwUpdateBegin h fw cfg) s = execFwUpdateBegin h fw cfg s := rfl
theorem exec_fwUpdateData (h o b s) : exec (.fwUpdateData h o b) s = execFwUpdateData h o b s := rfl
theorem exec_fwUpdateCommit (h s) : exec (.fwUpdateCommit h) s = execFwUpdateCommit h s := rfl
theorem exec_lifecycleToken (h tok s) : exec (.lifecycleToken h tok) s = execLifecycleToken h tok s := rfl
theorem exec_fabricStatus (h s) : exec (.fabricStatus h) s = execFabricStatus h s := rfl
theorem exec_linkReset (h l s) : exec (.linkReset h l) s = execLinkReset h l s := rfl
theorem exec_lichenInfo (h s) : exec (.lichenInfo h) s = execLichenInfo h s := rfl
theorem exec_lichenRead (h first count s) : exec (.lichenRead h first count) s = execLichenRead h first count s := rfl
theorem exec_regRead (h dpa n s) : exec (.regRead h dpa n) s = execRegRead h dpa n s := rfl
theorem exec_regWrite (h dpa value mask s) : exec (.regWrite h dpa value mask) s = execRegWrite h dpa value mask s := rfl
theorem exec_fenceUnit (h unit on s) : exec (.fenceUnit h unit on) s = execFenceUnit h unit on s := rfl
theorem exec_usbAttach (speed s) : exec (.usbAttach speed) s = execUsbAttach speed s := rfl
theorem exec_usbReset (kind s) : exec (.usbReset kind) s = execUsbReset kind s := rfl
theorem exec_clearEndpointHalt (ep inward s) : exec (.clearEndpointHalt ep inward) s = execClearEndpointHalt ep inward s := rfl
theorem exec_ep2OutData (n b retries s) : exec (.ep2OutData n b retries) s = execEp2OutData n b retries s := rfl
theorem exec_usbU1U2Entry (u2 s) : exec (.usbU1U2Entry u2) s = execUsbU1U2Entry u2 s := rfl
theorem exec_usbSuspend (s) : exec (.usbSuspend) s = execUsbSuspend s := rfl
theorem exec_usbResume (s) : exec (.usbResume) s = execUsbResume s := rfl
theorem exec_usbTrainFail (speed s) : exec (.usbTrainFail speed) s = execUsbTrainFail speed s := rfl
theorem exec_pllLock (k s) : exec (.pllLock k) s = execPllLock k s := rfl
theorem exec_opTransition (c s) : exec (.opTransition c) s = execOpTransition c s := rfl
theorem exec_avsTick (c below above s) : exec (.avsTick c below above) s = execAvsTick c below above s := rfl
theorem exec_droopEvent (c s) : exec (.droopEvent c) s = execDroopEvent c s := rfl
theorem exec_powerLimiterSample (mv curr c0 c1 s) : exec (.powerLimiterSample mv curr c0 c1) s = execPowerLimiterSample mv curr c0 c1 s := rfl
theorem exec_thermalCheck (sensor t s) : exec (.thermalCheck sensor t) s = execThermalCheck sensor t s := rfl
theorem exec_limitHoldEnd (kind c s) : exec (.limitHoldEnd kind c) s = execLimitHoldEnd kind c s := rfl
theorem exec_idleEntry (s) : exec (.idleEntry) s = execIdleEntry s := rfl
theorem exec_idleExit (s) : exec (.idleExit) s = execIdleExit s := rfl
theorem exec_sleepEntry (s) : exec (.sleepEntry) s = execSleepEntry s := rfl
theorem exec_darkEntry (s) : exec (.darkEntry) s = execDarkEntry s := rfl
theorem exec_wakeSource (src s) : exec (.wakeSource src) s = execWakeSource src s := rfl
theorem exec_wakeComplete (s) : exec (.wakeComplete) s = execWakeComplete s := rfl
theorem exec_watchdogKick (s) : exec (.watchdogKick) s = execWatchdogKick s := rfl
theorem exec_watchdogExpire (s) : exec (.watchdogExpire) s = execWatchdogExpire s := rfl
theorem exec_rstNAssert (s) : exec (.rstNAssert) s = execRstNAssert s := rfl
theorem exec_powerOnReset (s) : exec (.powerOnReset) s = execPowerOnReset s := rfl
theorem exec_prompterReset (s) : exec (.prompterReset) s = execPrompterReset s := rfl
theorem exec_uvWarn (mv s) : exec (.uvWarn mv) s = execUvWarn mv s := rfl
theorem exec_uvShutdown (mv s) : exec (.uvShutdown mv) s = execUvShutdown mv s := rfl
theorem exec_uvRecover (mv s) : exec (.uvRecover mv) s = execUvRecover mv s := rfl
theorem exec_moduleInsert (s) : exec (.moduleInsert) s = execModuleInsert s := rfl
theorem exec_bootRomStart (forced s) : exec (.bootRomStart forced) s = execBootRomStart forced s := rfl
theorem exec_slotConfirm (level s) : exec (.slotConfirm level) s = execSlotConfirm level s := rfl
theorem exec_secLockBoot (s) : exec (.secLockBoot) s = execSecLockBoot s := rfl
theorem exec_secLockCfg (s) : exec (.secLockCfg) s = execSecLockCfg s := rfl
theorem exec_emuGateReq (s) : exec (.emuGateReq) s = execEmuGateReq s := rfl
theorem exec_sigEngineGo (op s) : exec (.sigEngineGo op) s = execSigEngineGo op s := rfl
theorem exec_sigEngineDone (s) : exec (.sigEngineDone) s = execSigEngineDone s := rfl
theorem exec_norAccess (x s) : exec (.norAccess x) s = execNorAccess x s := rfl
theorem exec_rehGo (block s) : exec (.rehGo block) s = execRehGo block s := rfl
theorem exec_rehSliceStart (s) : exec (.rehSliceStart) s = execRehSliceStart s := rfl
theorem exec_rehDrainTimeout (s) : exec (.rehDrainTimeout) s = execRehDrainTimeout s := rfl
theorem exec_rehSliceEnd (cut misr ds s) : exec (.rehSliceEnd cut misr ds) s = execRehSliceEnd cut misr ds s := rfl
theorem exec_plannedSwap (s) : exec (.plannedSwap) s = execPlannedSwap s := rfl
theorem exec_swapQuiesceTimeout (s) : exec (.swapQuiesceTimeout) s = execSwapQuiesceTimeout s := rfl
theorem exec_migrationDone (s) : exec (.migrationDone) s = execMigrationDone s := rfl
theorem exec_coreFailure (b cause s) : exec (.coreFailure b cause) s = execCoreFailure b cause s := rfl
theorem exec_ddr4PatrolScrub (line spare s) : exec (.ddr4PatrolScrub line spare) s = execDdr4PatrolScrub line spare s := rfl
theorem exec_dphyLoopback (p errors s) : exec (.dphyLoopback p errors) s = execDphyLoopback p errors s := rfl
theorem exec_eplPrbsLoopback (l errors s) : exec (.eplPrbsLoopback l errors) s = execEplPrbsLoopback l errors s := rfl
theorem exec_pllLockLoss (k s) : exec (.pllLockLoss k) s = execPllLockLoss k s := rfl
theorem exec_tempCrosscheck (s) : exec (.tempCrosscheck) s = execTempCrosscheck s := rfl
theorem exec_voltageCrosscheck (a b s) : exec (.voltageCrosscheck a b) s = execVoltageCrosscheck a b s := rfl
theorem exec_lichenRequest (code ongoing s) : exec (.lichenRequest code ongoing) s = execLichenRequest code ongoing s := rfl
theorem exec_lichenRecordWrite (ok s) : exec (.lichenRecordWrite ok) s = execLichenRecordWrite ok s := rfl
theorem exec_lichenPositionFind (s) : exec (.lichenPositionFind) s = execLichenPositionFind s := rfl
theorem exec_lichenTokenRefill (s) : exec (.lichenTokenRefill) s = execLichenTokenRefill s := rfl
theorem exec_opsecTick (s) : exec (.opsecTick) s = execOpsecTick s := rfl
theorem exec_smbIdentity (s) : exec (.smbIdentity) s = execSmbIdentity s := rfl
theorem exec_smbState (s) : exec (.smbState) s = execSmbState s := rfl
theorem exec_smbVin (s) : exec (.smbVin) s = execSmbVin s := rfl
theorem exec_smbCurrent (s) : exec (.smbCurrent) s = execSmbCurrent s := rfl
theorem exec_smbPower (s) : exec (.smbPower) s = execSmbPower s := rfl
theorem exec_smbTemp (s) : exec (.smbTemp) s = execSmbTemp s := rfl
theorem exec_smbTempSensor (s) : exec (.smbTempSensor) s = execSmbTempSensor s := rfl
theorem exec_smbAlertStatRead (s) : exec (.smbAlertStatRead) s = execSmbAlertStatRead s := rfl
theorem exec_smbAlertStatClear (v pecOk s) : exec (.smbAlertStatClear v pecOk) s = execSmbAlertStatClear v pecOk s := rfl
theorem exec_smbAlertMaskRead (s) : exec (.smbAlertMaskRead) s = execSmbAlertMaskRead s := rfl
theorem exec_smbAlertMaskWrite (v pecOk s) : exec (.smbAlertMaskWrite v pecOk) s = execSmbAlertMaskWrite v pecOk s := rfl
theorem exec_smbWake (s) : exec (.smbWake) s = execSmbWake s := rfl
theorem exec_smbAlertResponse (s) : exec (.smbAlertResponse) s = execSmbAlertResponse s := rfl
theorem exec_smbClockTimeout (s) : exec (.smbClockTimeout) s = execSmbClockTimeout s := rfl
theorem exec_jtagBypass (s) : exec (.jtagBypass) s = execJtagBypass s := rfl
theorem exec_jtagIdcode (s) : exec (.jtagIdcode) s = execJtagIdcode s := rfl
theorem exec_jtagSamplePreload (pins load s) : exec (.jtagSamplePreload pins load) s = execJtagSamplePreload pins load s := rfl
theorem exec_jtagExtest (pins load s) : exec (.jtagExtest pins load) s = execJtagExtest pins load s := rfl
theorem exec_jtagExtestPulse (pins load s) : exec (.jtagExtestPulse pins load) s = execJtagExtestPulse pins load s := rfl
theorem exec_jtagExtestTrain (pins load s) : exec (.jtagExtestTrain pins load) s = execJtagExtestTrain pins load s := rfl
theorem exec_cueSheetRefill (s) : exec (.cueSheetRefill) s = execCueSheetRefill s := rfl
theorem exec_loLatchRead (x a s) : exec (.loLatchRead x a) s = execLoLatchRead x a s := rfl
theorem exec_unmatchedPacket (p s) : exec (.unmatchedPacket p) s = execUnmatchedPacket p s := rfl
theorem exec_ep3InTransfer (s) : exec (.ep3InTransfer) s = execEp3InTransfer s := rfl
theorem exec_usbStandardRequest (r s) : exec (.usbStandardRequest r) s = execUsbStandardRequest r s := rfl
theorem exec_vioCamLoss (s) : exec (.vioCamLoss) s = execVioCamLoss s := rfl
theorem exec_vioCamReturn (s) : exec (.vioCamReturn) s = execVioCamReturn s := rfl
theorem exec_eplSignalDetect (l s) : exec (.eplSignalDetect l) s = execEplSignalDetect l s := rfl
theorem exec_aonCrystalStable (s) : exec (.aonCrystalStable) s = execAonCrystalStable s := rfl
theorem exec_prompterRestartDone (s) : exec (.prompterRestartDone) s = execPrompterRestartDone s := rfl
theorem exec_activeHourTick (s) : exec (.activeHourTick) s = execActiveHourTick s := rfl
theorem exec_jtagDebugInstruction (s) : exec (.jtagDebugInstruction) s = execJtagDebugInstruction s := rfl

end Sys2Proof.Machine
end

