-- ==== Sys2Proof/Laws/Fields.lean ====
section
/-!
SUPPORT. The laws of register fields: what a field reads after it, or another field of the same register, has been written.
-/
namespace Sys2Proof.Machine

theorem bitsOf_testBit (n hi lo i : Nat) : (bitsOf n hi lo).testBit i = (decide (i < hi + 1 - lo) && n.testBit (lo + i)) := by
  simp [bitsOf, Nat.testBit_mod_two_pow, Nat.testBit_div_two_pow, Nat.add_comm]

theorem getF_testBit (w : Word) (f : Fld) (i : Nat) :
    (getF w f).testBit i = (decide (i < f.width) && w.getLsbD (f.lo + i)) := by
  rw [getF, bitsOf_testBit]; rfl

theorem setF_getLsbD (w : Word) (f : Fld) (v i : Nat) (hw : f.lo ≤ f.hi) (h32 : f.hi < 32) :
    (setF w f v).getLsbD i =
      if f.lo ≤ i ∧ i ≤ f.hi then v.testBit (i - f.lo) else w.getLsbD i := by
  unfold setF
  simp only [BitVec.getLsbD_or, BitVec.getLsbD_and, BitVec.getLsbD_not, BitVec.getLsbD_shiftLeft, BitVec.getLsbD_ofNat,
    Nat.testBit_two_pow_sub_one, Nat.testBit_mod_two_pow, Fld.width]
  by_cases hi : i < 32
  · by_cases h1 : f.lo ≤ i <;> by_cases h2 : i ≤ f.hi
    · have a : i - f.lo < f.hi + 1 - f.lo := by omega
      have b : ¬ i < f.lo := by omega
      have c : i - f.lo < 32 := by omega
      simp [hi, h1, h2, a, b, c]
    · have a : ¬ i - f.lo < f.hi + 1 - f.lo := by omega
      simp [hi, h2, a]
    · have b : i < f.lo := by omega
      simp [hi, h1, b]
    · have b : i < f.lo := by omega
      simp [hi, h1, b]
  · have h1 : ¬ (f.lo ≤ i ∧ i ≤ f.hi) := by omega
    simp [hi, h1, BitVec.getLsbD_of_ge w i (by omega)]

/-- A field reads what was written to it. -/
theorem getF_setF_same (w : Word) (f : Fld) (v : Nat) (hw : f.lo ≤ f.hi) (h32 : f.hi < 32) :
    getF (setF w f v) f = v % 2 ^ f.width := by
  apply Nat.eq_of_testBit_eq
  intro i
  rw [getF_testBit, setF_getLsbD w f v _ hw h32, Nat.testBit_mod_two_pow]
  by_cases h : i < f.width
  · have : f.lo ≤ f.lo + i ∧ f.lo + i ≤ f.hi := by unfold Fld.width at h; omega
    simp [h, this]
  · simp [h]

/-- A write to one field leaves a field that shares no bit with it alone. -/
theorem getF_setF_other (w : Word) (f g : Fld) (v : Nat) (hw : f.lo ≤ f.hi) (h32 : f.hi < 32)
    (hd : f.hi < g.lo ∨ g.hi < f.lo) : getF (setF w f v) g = getF w g := by
  apply Nat.eq_of_testBit_eq
  intro i
  rw [getF_testBit, getF_testBit, setF_getLsbD w f v _ hw h32]
  by_cases h : i < g.width
  · have : ¬ (f.lo ≤ g.lo + i ∧ g.lo + i ≤ f.hi) := by unfold Fld.width at h; omega
    simp [this]
  · simp [h]

theorem getF_lt (w : Word) (f : Fld) : getF w f < 2 ^ f.width := Nat.mod_lt _ (Nat.two_pow_pos _)

end Sys2Proof.Machine
end

