-- ==== Sys2Proof/Laws/Host.lean ====
section
/-!
SUPPORT. What the command layer does with a command that is accepted (R373 to R389).
-/
namespace Sys2Proof.Machine

/-- A value that lies between the bounds of a clamp stays as it is. -/
theorem clampNat_between {lo hi n : Nat} (h1 : lo ≤ n) (h2 : n ≤ hi) : clampNat lo hi n = n := by
  unfold clampNat; rw [if_neg (Nat.not_lt.mpr h1), if_neg (Nat.not_lt.mpr h2)]

theorem State.setFwSlot_host (s : State) (k : Nat) (x : FwSlot) : (s.setFwSlot k x).host = s.host := by
  unfold State.setFwSlot; split <;> rfl

theorem State.confirmSlot_host (s : State) : s.confirmSlot.host = s.host := by
  unfold State.confirmSlot; split
  · exact State.setFwSlot_host _ _ _
  · rfl

theorem State.noteAccepted_host (s : State) : s.noteAccepted.host = s.host := by
  unfold State.noteAccepted; split
  · rfl
  · exact State.confirmSlot_host _

theorem State.mustWait_host {s t : State} (h : t.host = s.host) (l : List Outstanding) (f : Bool) (o : List Nat) :
    t.mustWait l f o = s.mustWait l f o := by
  unfold State.mustWait; rw [h]

/-- A tag that is not outstanding. -/
theorem State.tag_free {s : State} {h : CmdHeader} {op : Nat} (hr : s.receiveFault h op = none) :
    s.outstandingTag h.tag = none := by
  unfold State.receiveFault at hr
  cases ho : s.outstandingTag h.tag with
  | none => rfl
  | some x =>
    simp only [ho, Option.isSome_some, Bool.true_or, if_true] at hr
    split at hr
    · cases hr
    · split at hr <;> cases hr

/-- The entry of a command whose tag is free is the one that a change by its tag reaches. -/
theorem State.withCommand_mod {s : State} {h : CmdHeader} (ht : s.outstandingTag h.tag = none) (o : Outstanding)
    (htag : o.tag = h.tag) (f : Outstanding → Outstanding) :
    (s.withCommand o).modOutstanding h.tag f = s.withCommand (f o) := by
  have hm : s.host.outstanding.map (fun (o : Outstanding) => if o.tag = h.tag then f o else o) = s.host.outstanding := by
    refine (List.map_congr_left ?_).trans (List.map_id _)
    intro x hx
    have := List.find?_eq_none.mp ht x hx
    rw [if_neg (by simpa using this)]; rfl
  unfold State.withCommand State.modOutstanding
  dsimp only
  have hh := State.noteAccepted_host { s with
    usb := { s.usb with idleSince := s.time.ns }
    power := { s.power with lastWork := s.time.ns } }
  rw [hh, List.map_append, hm, List.map_cons, List.map_nil, if_pos htag]

/-- What a command that is accepted, and whose fields are legal and in range, does. -/
theorem command_runs {s : State} {h : CmdHeader} {i : Instr} {c : CmdSpec} (ha : s.accepts h c.op c.objects = true)
    (hf : (c.fields (s.withCommand (s.outEntry h c.op c.limit c.objects))).all (fun f => !f.bad && f.clamp.isNone) = true) :
    s.command h i c =
      (let r := c.run (s.accepted h c.op c.limit c.objects)
      if r.later then done r.s
      else if r.status = 0 then
        if r.clamps.isEmpty then done (r.s.cmdReply h c.op 0 [] r.payload)
        else if h.strict then done ((s.withCommand (s.outEntry h c.op c.limit c.objects)).cmdReply h c.op 0x03 r.clamps [])
        else done (r.s.cmdReply h c.op 1 r.clamps r.payload)
      else done (r.s.cmdReply h c.op r.status [] r.payload)) := by
  unfold State.accepts at ha
  simp only [Bool.and_eq_true, bne_iff_ne, ne_eq, Bool.not_eq_true', decide_eq_true_eq, Option.isNone_iff_eq_none] at ha
  obtain ⟨⟨⟨⟨⟨⟨h1, h2⟩, h3⟩, h4⟩, h5⟩, h6⟩, h7⟩ := ha
  have hbad : (c.fields (s.withCommand (s.outEntry h c.op c.limit c.objects))).any (·.bad) = false := by
    rw [List.any_eq_false]; intro f hm
    have := List.all_eq_true.mp hf f hm
    simp only [Bool.and_eq_true, Bool.not_eq_true'] at this
    rw [this.1]; exact Bool.false_ne_true
  have hcl : cmdClamps h c.op (c.fields (s.withCommand (s.outEntry h c.op c.limit c.objects))) = [] := by
    unfold cmdClamps
    rw [if_neg (by omega), List.nil_append, List.filterMap_eq_nil_iff]
    intro f hm
    have := List.all_eq_true.mp hf f hm
    simp only [Bool.and_eq_true, Option.isNone_iff_eq_none] at this
    rw [this.2]; rfl
  have hstart : (s.withCommand (s.outEntry h c.op c.limit c.objects)).start h c =
      (let r := c.run (s.accepted h c.op c.limit c.objects)
      if r.later then r.s
      else if r.status = 0 then
        if r.clamps.isEmpty then r.s.cmdReply h c.op 0 [] r.payload
        else if h.strict then (s.withCommand (s.outEntry h c.op c.limit c.objects)).cmdReply h c.op 0x03 r.clamps []
        else r.s.cmdReply h c.op 1 r.clamps r.payload
      else r.s.cmdReply h c.op r.status [] r.payload) := by
    unfold State.start
    dsimp only
    rw [hcl, hbad, h6, if_neg (by simp), if_neg (by simp), List.nil_append, State.withCommand_mod (State.tag_free h4) _ rfl]
    rfl
  unfold State.command
  rw [if_neg (fun h => h3 h.1), h1, if_neg (by simp)]
  dsimp only
  rw [if_neg h2]
  have hr : State.receiveFault { s with
      usb := { s.usb with idleSince := s.time.ns }
      power := { s.power with lastWork := s.time.ns } } h c.op = none := h4
  rw [hr]
  dsimp only
  have hh : (State.noteAccepted { s with
      usb := { s.usb with idleSince := s.time.ns }
      power := { s.power with lastWork := s.time.ns } }).host = s.host := State.noteAccepted_host _
  have hm : State.mustWait (State.noteAccepted { s with
      usb := { s.usb with idleSince := s.time.ns }
      power := { s.power with lastWork := s.time.ns } }) (State.noteAccepted { s with
      usb := { s.usb with idleSince := s.time.ns }
      power := { s.power with lastWork := s.time.ns } }).host.outstanding h.fence c.objects = false := by
    rw [State.mustWait_host hh, hh]; exact h5
  rw [hm, if_neg Bool.false_ne_true]
  refine Eq.trans (congrArg _ hstart) ?_
  dsimp only
  split
  · rfl
  · split
    · split
      · rfl
      · split <;> rfl
    · rfl

/-- An accepted command that is done. -/
theorem command_ok {s t : State} {h : CmdHeader} {i : Instr} {c : CmdSpec} {p : List Nat} (ha : s.accepts h c.op c.objects = true)
    (hf : (c.fields (s.withCommand (s.outEntry h c.op c.limit c.objects))).all (fun f => !f.bad && f.clamp.isNone) = true)
    (hr : c.run (s.accepted h c.op c.limit c.objects) = { s := t, payload := p }) :
    s.command h i c = .next (t.cmdReply h c.op 0 [] p) := by
  rw [command_runs ha hf, hr]; rfl

/-- An accepted command that is refused with a status. -/
theorem command_refused {s t : State} {h : CmdHeader} {i : Instr} {c : CmdSpec} {k : Nat} {p : List Nat}
    (ha : s.accepts h c.op c.objects = true)
    (hf : (c.fields (s.withCommand (s.outEntry h c.op c.limit c.objects))).all (fun f => !f.bad && f.clamp.isNone) = true)
    (hr : c.run (s.accepted h c.op c.limit c.objects) = { s := t, status := k, payload := p }) (hk : k ≠ 0) :
    s.command h i c = .next (t.cmdReply h c.op k [] p) := by
  rw [command_runs ha hf, hr]
  dsimp only
  rw [if_neg (by simp), if_neg hk]

/-- An accepted command whose reply comes later. -/
theorem command_later {s t : State} {h : CmdHeader} {i : Instr} {c : CmdSpec} (ha : s.accepts h c.op c.objects = true)
    (hf : (c.fields (s.withCommand (s.outEntry h c.op c.limit c.objects))).all (fun f => !f.bad && f.clamp.isNone) = true)
    (hr : c.run (s.accepted h c.op c.limit c.objects) = { s := t, later := true }) :
    s.command h i c = .next t := by
  rw [command_runs ha hf, hr]; rfl

end Sys2Proof.Machine
end

