-- ==== Sys2Proof/Laws/State.lean ====
section
/-!
SUPPORT. What each named update of the state leaves alone, one lemma for each field, and what a register, a field of a register
and a byte of memory read after a write.
-/
namespace Sys2Proof.Machine

/-! ### setReg -/

@[simp] theorem State.setReg_pending (s : State) (a : Nat) (w : Word) : (s.setReg a w).pending = s.pending := rfl
@[simp] theorem State.setReg_mem (s : State) (a : Nat) (w : Word) : (s.setReg a w).mem = s.mem := rfl
@[simp] theorem State.setReg_freeTick (s : State) (a : Nat) (w : Word) : (s.setReg a w).freeTick = s.freeTick := rfl
@[simp] theorem State.setReg_coreMap (s : State) (a : Nat) (w : Word) : (s.setReg a w).coreMap = s.coreMap := rfl
@[simp] theorem State.setReg_switching (s : State) (a : Nat) (w : Word) : (s.setReg a w).switching = s.switching := rfl
@[simp] theorem State.setReg_waiting (s : State) (a : Nat) (w : Word) : (s.setReg a w).waiting = s.waiting := rfl
@[simp] theorem State.setReg_tags (s : State) (a : Nat) (w : Word) : (s.setReg a w).tags = s.tags := rfl
@[simp] theorem State.setReg_time (s : State) (a : Nat) (w : Word) : (s.setReg a w).time = s.time := rfl
@[simp] theorem State.setReg_cueq (s : State) (a : Nat) (w : Word) : (s.setReg a w).cueq = s.cueq := rfl
@[simp] theorem State.setReg_noc (s : State) (a : Nat) (w : Word) : (s.setReg a w).noc = s.noc := rfl
@[simp] theorem State.setReg_wings (s : State) (a : Nat) (w : Word) : (s.setReg a w).wings = s.wings := rfl
@[simp] theorem State.setReg_lichen (s : State) (a : Nat) (w : Word) : (s.setReg a w).lichen = s.lichen := rfl
@[simp] theorem State.setReg_events (s : State) (a : Nat) (w : Word) : (s.setReg a w).events = s.events := rfl
@[simp] theorem State.setReg_power (s : State) (a : Nat) (w : Word) : (s.setReg a w).power = s.power := rfl
@[simp] theorem State.setReg_sec (s : State) (a : Nat) (w : Word) : (s.setReg a w).sec = s.sec := rfl
@[simp] theorem State.setReg_host (s : State) (a : Nat) (w : Word) : (s.setReg a w).host = s.host := rfl
@[simp] theorem State.setReg_usb (s : State) (a : Nat) (w : Word) : (s.setReg a w).usb = s.usb := rfl
@[simp] theorem State.setReg_links (s : State) (a : Nat) (w : Word) : (s.setReg a w).links = s.links := rfl
@[simp] theorem State.setReg_reports (s : State) (a : Nat) (w : Word) : (s.setReg a w).reports = s.reports := rfl
@[simp] theorem State.setReg_reh (s : State) (a : Nat) (w : Word) : (s.setReg a w).reh = s.reh := rfl
@[simp] theorem State.setReg_smb (s : State) (a : Nat) (w : Word) : (s.setReg a w).smb = s.smb := rfl
@[simp] theorem State.setReg_tap (s : State) (a : Nat) (w : Word) : (s.setReg a w).tap = s.tap := rfl
@[simp] theorem State.setReg_sb (s : State) (a : Nat) (w : Word) : (s.setReg a w).sb = s.sb := rfl
@[simp] theorem State.setReg_banks (s : State) (a : Nat) (w : Word) : (s.setReg a w).banks = s.banks := rfl
@[simp] theorem State.setReg_caches (s : State) (a : Nat) (w : Word) : (s.setReg a w).caches = s.caches := rfl
@[simp] theorem State.setReg_ecc (s : State) (a : Nat) (w : Word) : (s.setReg a w).ecc = s.ecc := rfl
@[simp] theorem State.setReg_writeBacks (s : State) (a : Nat) (w : Word) : (s.setReg a w).writeBacks = s.writeBacks := rfl
@[simp] theorem State.setReg_remotes (s : State) (a : Nat) (w : Word) : (s.setReg a w).remotes = s.remotes := rfl
@[simp] theorem State.setReg_remoteCount (s : State) (a : Nat) (w : Word) : (s.setReg a w).remoteCount = s.remoteCount := rfl
@[simp] theorem State.setReg_dma (s : State) (a : Nat) (w : Word) : (s.setReg a w).dma = s.dma := rfl
@[simp] theorem State.setReg_hub (s : State) (a : Nat) (w : Word) : (s.setReg a w).hub = s.hub := rfl
@[simp] theorem State.setReg_resv (s : State) (a : Nat) (w : Word) : (s.setReg a w).resv = s.resv := rfl
@[simp] theorem State.setReg_vpp (s : State) (a : Nat) (w : Word) : (s.setReg a w).vpp = s.vpp := rfl
@[simp] theorem State.setReg_pools (s : State) (a : Nat) (w : Word) : (s.setReg a w).pools = s.pools := rfl
@[simp] theorem State.setReg_hqueues (s : State) (a : Nat) (w : Word) : (s.setReg a w).hqueues = s.hqueues := rfl
@[simp] theorem State.setReg_hqp (s : State) (a : Nat) (w : Word) : (s.setReg a w).hqp = s.hqp := rfl
@[simp] theorem State.setReg_bars (s : State) (a : Nat) (w : Word) : (s.setReg a w).bars = s.bars := rfl
@[simp] theorem State.setReg_arrivals (s : State) (a : Nat) (w : Word) : (s.setReg a w).arrivals = s.arrivals := rfl
@[simp] theorem State.setReg_chain (s : State) (a : Nat) (w : Word) : (s.setReg a w).chain = s.chain := rfl
@[simp] theorem State.setReg_scripts (s : State) (a : Nat) (w : Word) : (s.setReg a w).scripts = s.scripts := rfl
@[simp] theorem State.setReg_marks (s : State) (a : Nat) (w : Word) : (s.setReg a w).marks = s.marks := rfl
@[simp] theorem State.setReg_fronds (s : State) (a : Nat) (w : Word) : (s.setReg a w).fronds = s.fronds := rfl
@[simp] theorem State.setReg_ports (s : State) (a : Nat) (w : Word) : (s.setReg a w).ports = s.ports := rfl
@[simp] theorem State.setReg_streams (s : State) (a : Nat) (w : Word) : (s.setReg a w).streams = s.streams := rfl
@[simp] theorem State.setReg_i2c (s : State) (a : Nat) (w : Word) : (s.setReg a w).i2c = s.i2c := rfl
@[simp] theorem State.setReg_fsync (s : State) (a : Nat) (w : Word) : (s.setReg a w).fsync = s.fsync := rfl
@[simp] theorem State.setReg_trig (s : State) (a : Nat) (w : Word) : (s.setReg a w).trig = s.trig := rfl
@[simp] theorem State.setReg_sa (s : State) (a : Nat) (w : Word) : (s.setReg a w).sa = s.sa := rfl
@[simp] theorem State.setReg_prompt (s : State) (a : Nat) (w : Word) : (s.setReg a w).prompt = s.prompt := rfl
@[simp] theorem State.setReg_timeHi (s : State) (a : Nat) (w : Word) : (s.setReg a w).timeHi = s.timeHi := rfl

/-! ### setFld -/

@[simp] theorem State.setFld_pending (s : State) (a : Nat) (f : Fld) (v : Nat) : (s.setFld a f v).pending = s.pending := rfl
@[simp] theorem State.setFld_mem (s : State) (a : Nat) (f : Fld) (v : Nat) : (s.setFld a f v).mem = s.mem := rfl
@[simp] theorem State.setFld_freeTick (s : State) (a : Nat) (f : Fld) (v : Nat) : (s.setFld a f v).freeTick = s.freeTick := rfl
@[simp] theorem State.setFld_coreMap (s : State) (a : Nat) (f : Fld) (v : Nat) : (s.setFld a f v).coreMap = s.coreMap := rfl
@[simp] theorem State.setFld_switching (s : State) (a : Nat) (f : Fld) (v : Nat) : (s.setFld a f v).switching = s.switching := rfl
@[simp] theorem State.setFld_waiting (s : State) (a : Nat) (f : Fld) (v : Nat) : (s.setFld a f v).waiting = s.waiting := rfl
@[simp] theorem State.setFld_tags (s : State) (a : Nat) (f : Fld) (v : Nat) : (s.setFld a f v).tags = s.tags := rfl
@[simp] theorem State.setFld_time (s : State) (a : Nat) (f : Fld) (v : Nat) : (s.setFld a f v).time = s.time := rfl
@[simp] theorem State.setFld_cueq (s : State) (a : Nat) (f : Fld) (v : Nat) : (s.setFld a f v).cueq = s.cueq := rfl
@[simp] theorem State.setFld_noc (s : State) (a : Nat) (f : Fld) (v : Nat) : (s.setFld a f v).noc = s.noc := rfl
@[simp] theorem State.setFld_wings (s : State) (a : Nat) (f : Fld) (v : Nat) : (s.setFld a f v).wings = s.wings := rfl
@[simp] theorem State.setFld_lichen (s : State) (a : Nat) (f : Fld) (v : Nat) : (s.setFld a f v).lichen = s.lichen := rfl
@[simp] theorem State.setFld_events (s : State) (a : Nat) (f : Fld) (v : Nat) : (s.setFld a f v).events = s.events := rfl
@[simp] theorem State.setFld_power (s : State) (a : Nat) (f : Fld) (v : Nat) : (s.setFld a f v).power = s.power := rfl
@[simp] theorem State.setFld_sec (s : State) (a : Nat) (f : Fld) (v : Nat) : (s.setFld a f v).sec = s.sec := rfl
@[simp] theorem State.setFld_host (s : State) (a : Nat) (f : Fld) (v : Nat) : (s.setFld a f v).host = s.host := rfl
@[simp] theorem State.setFld_usb (s : State) (a : Nat) (f : Fld) (v : Nat) : (s.setFld a f v).usb = s.usb := rfl
@[simp] theorem State.setFld_links (s : State) (a : Nat) (f : Fld) (v : Nat) : (s.setFld a f v).links = s.links := rfl
@[simp] theorem State.setFld_reports (s : State) (a : Nat) (f : Fld) (v : Nat) : (s.setFld a f v).reports = s.reports := rfl
@[simp] theorem State.setFld_reh (s : State) (a : Nat) (f : Fld) (v : Nat) : (s.setFld a f v).reh = s.reh := rfl
@[simp] theorem State.setFld_smb (s : State) (a : Nat) (f : Fld) (v : Nat) : (s.setFld a f v).smb = s.smb := rfl
@[simp] theorem State.setFld_tap (s : State) (a : Nat) (f : Fld) (v : Nat) : (s.setFld a f v).tap = s.tap := rfl
@[simp] theorem State.setFld_sb (s : State) (a : Nat) (f : Fld) (v : Nat) : (s.setFld a f v).sb = s.sb := rfl
@[simp] theorem State.setFld_banks (s : State) (a : Nat) (f : Fld) (v : Nat) : (s.setFld a f v).banks = s.banks := rfl
@[simp] theorem State.setFld_caches (s : State) (a : Nat) (f : Fld) (v : Nat) : (s.setFld a f v).caches = s.caches := rfl
@[simp] theorem State.setFld_ecc (s : State) (a : Nat) (f : Fld) (v : Nat) : (s.setFld a f v).ecc = s.ecc := rfl
@[simp] theorem State.setFld_writeBacks (s : State) (a : Nat) (f : Fld) (v : Nat) : (s.setFld a f v).writeBacks = s.writeBacks := rfl
@[simp] theorem State.setFld_remotes (s : State) (a : Nat) (f : Fld) (v : Nat) : (s.setFld a f v).remotes = s.remotes := rfl
@[simp] theorem State.setFld_remoteCount (s : State) (a : Nat) (f : Fld) (v : Nat) : (s.setFld a f v).remoteCount = s.remoteCount := rfl
@[simp] theorem State.setFld_dma (s : State) (a : Nat) (f : Fld) (v : Nat) : (s.setFld a f v).dma = s.dma := rfl
@[simp] theorem State.setFld_hub (s : State) (a : Nat) (f : Fld) (v : Nat) : (s.setFld a f v).hub = s.hub := rfl
@[simp] theorem State.setFld_resv (s : State) (a : Nat) (f : Fld) (v : Nat) : (s.setFld a f v).resv = s.resv := rfl
@[simp] theorem State.setFld_vpp (s : State) (a : Nat) (f : Fld) (v : Nat) : (s.setFld a f v).vpp = s.vpp := rfl
@[simp] theorem State.setFld_pools (s : State) (a : Nat) (f : Fld) (v : Nat) : (s.setFld a f v).pools = s.pools := rfl
@[simp] theorem State.setFld_hqueues (s : State) (a : Nat) (f : Fld) (v : Nat) : (s.setFld a f v).hqueues = s.hqueues := rfl
@[simp] theorem State.setFld_hqp (s : State) (a : Nat) (f : Fld) (v : Nat) : (s.setFld a f v).hqp = s.hqp := rfl
@[simp] theorem State.setFld_bars (s : State) (a : Nat) (f : Fld) (v : Nat) : (s.setFld a f v).bars = s.bars := rfl
@[simp] theorem State.setFld_arrivals (s : State) (a : Nat) (f : Fld) (v : Nat) : (s.setFld a f v).arrivals = s.arrivals := rfl
@[simp] theorem State.setFld_chain (s : State) (a : Nat) (f : Fld) (v : Nat) : (s.setFld a f v).chain = s.chain := rfl
@[simp] theorem State.setFld_scripts (s : State) (a : Nat) (f : Fld) (v : Nat) : (s.setFld a f v).scripts = s.scripts := rfl
@[simp] theorem State.setFld_marks (s : State) (a : Nat) (f : Fld) (v : Nat) : (s.setFld a f v).marks = s.marks := rfl
@[simp] theorem State.setFld_fronds (s : State) (a : Nat) (f : Fld) (v : Nat) : (s.setFld a f v).fronds = s.fronds := rfl
@[simp] theorem State.setFld_ports (s : State) (a : Nat) (f : Fld) (v : Nat) : (s.setFld a f v).ports = s.ports := rfl
@[simp] theorem State.setFld_streams (s : State) (a : Nat) (f : Fld) (v : Nat) : (s.setFld a f v).streams = s.streams := rfl
@[simp] theorem State.setFld_i2c (s : State) (a : Nat) (f : Fld) (v : Nat) : (s.setFld a f v).i2c = s.i2c := rfl
@[simp] theorem State.setFld_fsync (s : State) (a : Nat) (f : Fld) (v : Nat) : (s.setFld a f v).fsync = s.fsync := rfl
@[simp] theorem State.setFld_trig (s : State) (a : Nat) (f : Fld) (v : Nat) : (s.setFld a f v).trig = s.trig := rfl
@[simp] theorem State.setFld_sa (s : State) (a : Nat) (f : Fld) (v : Nat) : (s.setFld a f v).sa = s.sa := rfl
@[simp] theorem State.setFld_prompt (s : State) (a : Nat) (f : Fld) (v : Nat) : (s.setFld a f v).prompt = s.prompt := rfl
@[simp] theorem State.setFld_timeHi (s : State) (a : Nat) (f : Fld) (v : Nat) : (s.setFld a f v).timeHi = s.timeHi := rfl

/-! ### countBy -/

@[simp] theorem State.countBy_pending (s : State) (a : Nat) (f : Fld) (n : Nat) : (s.countBy a f n).pending = s.pending := rfl
@[simp] theorem State.countBy_mem (s : State) (a : Nat) (f : Fld) (n : Nat) : (s.countBy a f n).mem = s.mem := rfl
@[simp] theorem State.countBy_freeTick (s : State) (a : Nat) (f : Fld) (n : Nat) : (s.countBy a f n).freeTick = s.freeTick := rfl
@[simp] theorem State.countBy_coreMap (s : State) (a : Nat) (f : Fld) (n : Nat) : (s.countBy a f n).coreMap = s.coreMap := rfl
@[simp] theorem State.countBy_switching (s : State) (a : Nat) (f : Fld) (n : Nat) : (s.countBy a f n).switching = s.switching := rfl
@[simp] theorem State.countBy_waiting (s : State) (a : Nat) (f : Fld) (n : Nat) : (s.countBy a f n).waiting = s.waiting := rfl
@[simp] theorem State.countBy_tags (s : State) (a : Nat) (f : Fld) (n : Nat) : (s.countBy a f n).tags = s.tags := rfl
@[simp] theorem State.countBy_time (s : State) (a : Nat) (f : Fld) (n : Nat) : (s.countBy a f n).time = s.time := rfl
@[simp] theorem State.countBy_cueq (s : State) (a : Nat) (f : Fld) (n : Nat) : (s.countBy a f n).cueq = s.cueq := rfl
@[simp] theorem State.countBy_noc (s : State) (a : Nat) (f : Fld) (n : Nat) : (s.countBy a f n).noc = s.noc := rfl
@[simp] theorem State.countBy_wings (s : State) (a : Nat) (f : Fld) (n : Nat) : (s.countBy a f n).wings = s.wings := rfl
@[simp] theorem State.countBy_lichen (s : State) (a : Nat) (f : Fld) (n : Nat) : (s.countBy a f n).lichen = s.lichen := rfl
@[simp] theorem State.countBy_events (s : State) (a : Nat) (f : Fld) (n : Nat) : (s.countBy a f n).events = s.events := rfl
@[simp] theorem State.countBy_power (s : State) (a : Nat) (f : Fld) (n : Nat) : (s.countBy a f n).power = s.power := rfl
@[simp] theorem State.countBy_sec (s : State) (a : Nat) (f : Fld) (n : Nat) : (s.countBy a f n).sec = s.sec := rfl
@[simp] theorem State.countBy_host (s : State) (a : Nat) (f : Fld) (n : Nat) : (s.countBy a f n).host = s.host := rfl
@[simp] theorem State.countBy_usb (s : State) (a : Nat) (f : Fld) (n : Nat) : (s.countBy a f n).usb = s.usb := rfl
@[simp] theorem State.countBy_links (s : State) (a : Nat) (f : Fld) (n : Nat) : (s.countBy a f n).links = s.links := rfl
@[simp] theorem State.countBy_reports (s : State) (a : Nat) (f : Fld) (n : Nat) : (s.countBy a f n).reports = s.reports := rfl
@[simp] theorem State.countBy_reh (s : State) (a : Nat) (f : Fld) (n : Nat) : (s.countBy a f n).reh = s.reh := rfl
@[simp] theorem State.countBy_smb (s : State) (a : Nat) (f : Fld) (n : Nat) : (s.countBy a f n).smb = s.smb := rfl
@[simp] theorem State.countBy_tap (s : State) (a : Nat) (f : Fld) (n : Nat) : (s.countBy a f n).tap = s.tap := rfl
@[simp] theorem State.countBy_sb (s : State) (a : Nat) (f : Fld) (n : Nat) : (s.countBy a f n).sb = s.sb := rfl
@[simp] theorem State.countBy_banks (s : State) (a : Nat) (f : Fld) (n : Nat) : (s.countBy a f n).banks = s.banks := rfl
@[simp] theorem State.countBy_caches (s : State) (a : Nat) (f : Fld) (n : Nat) : (s.countBy a f n).caches = s.caches := rfl
@[simp] theorem State.countBy_ecc (s : State) (a : Nat) (f : Fld) (n : Nat) : (s.countBy a f n).ecc = s.ecc := rfl
@[simp] theorem State.countBy_writeBacks (s : State) (a : Nat) (f : Fld) (n : Nat) : (s.countBy a f n).writeBacks = s.writeBacks := rfl
@[simp] theorem State.countBy_remotes (s : State) (a : Nat) (f : Fld) (n : Nat) : (s.countBy a f n).remotes = s.remotes := rfl
@[simp] theorem State.countBy_remoteCount (s : State) (a : Nat) (f : Fld) (n : Nat) : (s.countBy a f n).remoteCount = s.remoteCount := rfl
@[simp] theorem State.countBy_dma (s : State) (a : Nat) (f : Fld) (n : Nat) : (s.countBy a f n).dma = s.dma := rfl
@[simp] theorem State.countBy_hub (s : State) (a : Nat) (f : Fld) (n : Nat) : (s.countBy a f n).hub = s.hub := rfl
@[simp] theorem State.countBy_resv (s : State) (a : Nat) (f : Fld) (n : Nat) : (s.countBy a f n).resv = s.resv := rfl
@[simp] theorem State.countBy_vpp (s : State) (a : Nat) (f : Fld) (n : Nat) : (s.countBy a f n).vpp = s.vpp := rfl
@[simp] theorem State.countBy_pools (s : State) (a : Nat) (f : Fld) (n : Nat) : (s.countBy a f n).pools = s.pools := rfl
@[simp] theorem State.countBy_hqueues (s : State) (a : Nat) (f : Fld) (n : Nat) : (s.countBy a f n).hqueues = s.hqueues := rfl
@[simp] theorem State.countBy_hqp (s : State) (a : Nat) (f : Fld) (n : Nat) : (s.countBy a f n).hqp = s.hqp := rfl
@[simp] theorem State.countBy_bars (s : State) (a : Nat) (f : Fld) (n : Nat) : (s.countBy a f n).bars = s.bars := rfl
@[simp] theorem State.countBy_arrivals (s : State) (a : Nat) (f : Fld) (n : Nat) : (s.countBy a f n).arrivals = s.arrivals := rfl
@[simp] theorem State.countBy_chain (s : State) (a : Nat) (f : Fld) (n : Nat) : (s.countBy a f n).chain = s.chain := rfl
@[simp] theorem State.countBy_scripts (s : State) (a : Nat) (f : Fld) (n : Nat) : (s.countBy a f n).scripts = s.scripts := rfl
@[simp] theorem State.countBy_marks (s : State) (a : Nat) (f : Fld) (n : Nat) : (s.countBy a f n).marks = s.marks := rfl
@[simp] theorem State.countBy_fronds (s : State) (a : Nat) (f : Fld) (n : Nat) : (s.countBy a f n).fronds = s.fronds := rfl
@[simp] theorem State.countBy_ports (s : State) (a : Nat) (f : Fld) (n : Nat) : (s.countBy a f n).ports = s.ports := rfl
@[simp] theorem State.countBy_streams (s : State) (a : Nat) (f : Fld) (n : Nat) : (s.countBy a f n).streams = s.streams := rfl
@[simp] theorem State.countBy_i2c (s : State) (a : Nat) (f : Fld) (n : Nat) : (s.countBy a f n).i2c = s.i2c := rfl
@[simp] theorem State.countBy_fsync (s : State) (a : Nat) (f : Fld) (n : Nat) : (s.countBy a f n).fsync = s.fsync := rfl
@[simp] theorem State.countBy_trig (s : State) (a : Nat) (f : Fld) (n : Nat) : (s.countBy a f n).trig = s.trig := rfl
@[simp] theorem State.countBy_sa (s : State) (a : Nat) (f : Fld) (n : Nat) : (s.countBy a f n).sa = s.sa := rfl
@[simp] theorem State.countBy_prompt (s : State) (a : Nat) (f : Fld) (n : Nat) : (s.countBy a f n).prompt = s.prompt := rfl
@[simp] theorem State.countBy_timeHi (s : State) (a : Nat) (f : Fld) (n : Nat) : (s.countBy a f n).timeHi = s.timeHi := rfl

/-! ### count -/

@[simp] theorem State.count_pending (s : State) (a : Nat) : (s.count a).pending = s.pending := rfl
@[simp] theorem State.count_mem (s : State) (a : Nat) : (s.count a).mem = s.mem := rfl
@[simp] theorem State.count_freeTick (s : State) (a : Nat) : (s.count a).freeTick = s.freeTick := rfl
@[simp] theorem State.count_coreMap (s : State) (a : Nat) : (s.count a).coreMap = s.coreMap := rfl
@[simp] theorem State.count_switching (s : State) (a : Nat) : (s.count a).switching = s.switching := rfl
@[simp] theorem State.count_waiting (s : State) (a : Nat) : (s.count a).waiting = s.waiting := rfl
@[simp] theorem State.count_tags (s : State) (a : Nat) : (s.count a).tags = s.tags := rfl
@[simp] theorem State.count_time (s : State) (a : Nat) : (s.count a).time = s.time := rfl
@[simp] theorem State.count_cueq (s : State) (a : Nat) : (s.count a).cueq = s.cueq := rfl
@[simp] theorem State.count_noc (s : State) (a : Nat) : (s.count a).noc = s.noc := rfl
@[simp] theorem State.count_wings (s : State) (a : Nat) : (s.count a).wings = s.wings := rfl
@[simp] theorem State.count_lichen (s : State) (a : Nat) : (s.count a).lichen = s.lichen := rfl
@[simp] theorem State.count_events (s : State) (a : Nat) : (s.count a).events = s.events := rfl
@[simp] theorem State.count_power (s : State) (a : Nat) : (s.count a).power = s.power := rfl
@[simp] theorem State.count_sec (s : State) (a : Nat) : (s.count a).sec = s.sec := rfl
@[simp] theorem State.count_host (s : State) (a : Nat) : (s.count a).host = s.host := rfl
@[simp] theorem State.count_usb (s : State) (a : Nat) : (s.count a).usb = s.usb := rfl
@[simp] theorem State.count_links (s : State) (a : Nat) : (s.count a).links = s.links := rfl
@[simp] theorem State.count_reports (s : State) (a : Nat) : (s.count a).reports = s.reports := rfl
@[simp] theorem State.count_reh (s : State) (a : Nat) : (s.count a).reh = s.reh := rfl
@[simp] theorem State.count_smb (s : State) (a : Nat) : (s.count a).smb = s.smb := rfl
@[simp] theorem State.count_tap (s : State) (a : Nat) : (s.count a).tap = s.tap := rfl
@[simp] theorem State.count_sb (s : State) (a : Nat) : (s.count a).sb = s.sb := rfl
@[simp] theorem State.count_banks (s : State) (a : Nat) : (s.count a).banks = s.banks := rfl
@[simp] theorem State.count_caches (s : State) (a : Nat) : (s.count a).caches = s.caches := rfl
@[simp] theorem State.count_ecc (s : State) (a : Nat) : (s.count a).ecc = s.ecc := rfl
@[simp] theorem State.count_writeBacks (s : State) (a : Nat) : (s.count a).writeBacks = s.writeBacks := rfl
@[simp] theorem State.count_remotes (s : State) (a : Nat) : (s.count a).remotes = s.remotes := rfl
@[simp] theorem State.count_remoteCount (s : State) (a : Nat) : (s.count a).remoteCount = s.remoteCount := rfl
@[simp] theorem State.count_dma (s : State) (a : Nat) : (s.count a).dma = s.dma := rfl
@[simp] theorem State.count_hub (s : State) (a : Nat) : (s.count a).hub = s.hub := rfl
@[simp] theorem State.count_resv (s : State) (a : Nat) : (s.count a).resv = s.resv := rfl
@[simp] theorem State.count_vpp (s : State) (a : Nat) : (s.count a).vpp = s.vpp := rfl
@[simp] theorem State.count_pools (s : State) (a : Nat) : (s.count a).pools = s.pools := rfl
@[simp] theorem State.count_hqueues (s : State) (a : Nat) : (s.count a).hqueues = s.hqueues := rfl
@[simp] theorem State.count_hqp (s : State) (a : Nat) : (s.count a).hqp = s.hqp := rfl
@[simp] theorem State.count_bars (s : State) (a : Nat) : (s.count a).bars = s.bars := rfl
@[simp] theorem State.count_arrivals (s : State) (a : Nat) : (s.count a).arrivals = s.arrivals := rfl
@[simp] theorem State.count_chain (s : State) (a : Nat) : (s.count a).chain = s.chain := rfl
@[simp] theorem State.count_scripts (s : State) (a : Nat) : (s.count a).scripts = s.scripts := rfl
@[simp] theorem State.count_marks (s : State) (a : Nat) : (s.count a).marks = s.marks := rfl
@[simp] theorem State.count_fronds (s : State) (a : Nat) : (s.count a).fronds = s.fronds := rfl
@[simp] theorem State.count_ports (s : State) (a : Nat) : (s.count a).ports = s.ports := rfl
@[simp] theorem State.count_streams (s : State) (a : Nat) : (s.count a).streams = s.streams := rfl
@[simp] theorem State.count_i2c (s : State) (a : Nat) : (s.count a).i2c = s.i2c := rfl
@[simp] theorem State.count_fsync (s : State) (a : Nat) : (s.count a).fsync = s.fsync := rfl
@[simp] theorem State.count_trig (s : State) (a : Nat) : (s.count a).trig = s.trig := rfl
@[simp] theorem State.count_sa (s : State) (a : Nat) : (s.count a).sa = s.sa := rfl
@[simp] theorem State.count_prompt (s : State) (a : Nat) : (s.count a).prompt = s.prompt := rfl
@[simp] theorem State.count_timeHi (s : State) (a : Nat) : (s.count a).timeHi = s.timeHi := rfl

/-! ### countWrap -/

@[simp] theorem State.countWrap_pending (s : State) (a : Nat) (f : Fld) : (s.countWrap a f).pending = s.pending := rfl
@[simp] theorem State.countWrap_mem (s : State) (a : Nat) (f : Fld) : (s.countWrap a f).mem = s.mem := rfl
@[simp] theorem State.countWrap_freeTick (s : State) (a : Nat) (f : Fld) : (s.countWrap a f).freeTick = s.freeTick := rfl
@[simp] theorem State.countWrap_coreMap (s : State) (a : Nat) (f : Fld) : (s.countWrap a f).coreMap = s.coreMap := rfl
@[simp] theorem State.countWrap_switching (s : State) (a : Nat) (f : Fld) : (s.countWrap a f).switching = s.switching := rfl
@[simp] theorem State.countWrap_waiting (s : State) (a : Nat) (f : Fld) : (s.countWrap a f).waiting = s.waiting := rfl
@[simp] theorem State.countWrap_tags (s : State) (a : Nat) (f : Fld) : (s.countWrap a f).tags = s.tags := rfl
@[simp] theorem State.countWrap_time (s : State) (a : Nat) (f : Fld) : (s.countWrap a f).time = s.time := rfl
@[simp] theorem State.countWrap_cueq (s : State) (a : Nat) (f : Fld) : (s.countWrap a f).cueq = s.cueq := rfl
@[simp] theorem State.countWrap_noc (s : State) (a : Nat) (f : Fld) : (s.countWrap a f).noc = s.noc := rfl
@[simp] theorem State.countWrap_wings (s : State) (a : Nat) (f : Fld) : (s.countWrap a f).wings = s.wings := rfl
@[simp] theorem State.countWrap_lichen (s : State) (a : Nat) (f : Fld) : (s.countWrap a f).lichen = s.lichen := rfl
@[simp] theorem State.countWrap_events (s : State) (a : Nat) (f : Fld) : (s.countWrap a f).events = s.events := rfl
@[simp] theorem State.countWrap_power (s : State) (a : Nat) (f : Fld) : (s.countWrap a f).power = s.power := rfl
@[simp] theorem State.countWrap_sec (s : State) (a : Nat) (f : Fld) : (s.countWrap a f).sec = s.sec := rfl
@[simp] theorem State.countWrap_host (s : State) (a : Nat) (f : Fld) : (s.countWrap a f).host = s.host := rfl
@[simp] theorem State.countWrap_usb (s : State) (a : Nat) (f : Fld) : (s.countWrap a f).usb = s.usb := rfl
@[simp] theorem State.countWrap_links (s : State) (a : Nat) (f : Fld) : (s.countWrap a f).links = s.links := rfl
@[simp] theorem State.countWrap_reports (s : State) (a : Nat) (f : Fld) : (s.countWrap a f).reports = s.reports := rfl
@[simp] theorem State.countWrap_reh (s : State) (a : Nat) (f : Fld) : (s.countWrap a f).reh = s.reh := rfl
@[simp] theorem State.countWrap_smb (s : State) (a : Nat) (f : Fld) : (s.countWrap a f).smb = s.smb := rfl
@[simp] theorem State.countWrap_tap (s : State) (a : Nat) (f : Fld) : (s.countWrap a f).tap = s.tap := rfl
@[simp] theorem State.countWrap_sb (s : State) (a : Nat) (f : Fld) : (s.countWrap a f).sb = s.sb := rfl
@[simp] theorem State.countWrap_banks (s : State) (a : Nat) (f : Fld) : (s.countWrap a f).banks = s.banks := rfl
@[simp] theorem State.countWrap_caches (s : State) (a : Nat) (f : Fld) : (s.countWrap a f).caches = s.caches := rfl
@[simp] theorem State.countWrap_ecc (s : State) (a : Nat) (f : Fld) : (s.countWrap a f).ecc = s.ecc := rfl
@[simp] theorem State.countWrap_writeBacks (s : State) (a : Nat) (f : Fld) : (s.countWrap a f).writeBacks = s.writeBacks := rfl
@[simp] theorem State.countWrap_remotes (s : State) (a : Nat) (f : Fld) : (s.countWrap a f).remotes = s.remotes := rfl
@[simp] theorem State.countWrap_remoteCount (s : State) (a : Nat) (f : Fld) : (s.countWrap a f).remoteCount = s.remoteCount := rfl
@[simp] theorem State.countWrap_dma (s : State) (a : Nat) (f : Fld) : (s.countWrap a f).dma = s.dma := rfl
@[simp] theorem State.countWrap_hub (s : State) (a : Nat) (f : Fld) : (s.countWrap a f).hub = s.hub := rfl
@[simp] theorem State.countWrap_resv (s : State) (a : Nat) (f : Fld) : (s.countWrap a f).resv = s.resv := rfl
@[simp] theorem State.countWrap_vpp (s : State) (a : Nat) (f : Fld) : (s.countWrap a f).vpp = s.vpp := rfl
@[simp] theorem State.countWrap_pools (s : State) (a : Nat) (f : Fld) : (s.countWrap a f).pools = s.pools := rfl
@[simp] theorem State.countWrap_hqueues (s : State) (a : Nat) (f : Fld) : (s.countWrap a f).hqueues = s.hqueues := rfl
@[simp] theorem State.countWrap_hqp (s : State) (a : Nat) (f : Fld) : (s.countWrap a f).hqp = s.hqp := rfl
@[simp] theorem State.countWrap_bars (s : State) (a : Nat) (f : Fld) : (s.countWrap a f).bars = s.bars := rfl
@[simp] theorem State.countWrap_arrivals (s : State) (a : Nat) (f : Fld) : (s.countWrap a f).arrivals = s.arrivals := rfl
@[simp] theorem State.countWrap_chain (s : State) (a : Nat) (f : Fld) : (s.countWrap a f).chain = s.chain := rfl
@[simp] theorem State.countWrap_scripts (s : State) (a : Nat) (f : Fld) : (s.countWrap a f).scripts = s.scripts := rfl
@[simp] theorem State.countWrap_marks (s : State) (a : Nat) (f : Fld) : (s.countWrap a f).marks = s.marks := rfl
@[simp] theorem State.countWrap_fronds (s : State) (a : Nat) (f : Fld) : (s.countWrap a f).fronds = s.fronds := rfl
@[simp] theorem State.countWrap_ports (s : State) (a : Nat) (f : Fld) : (s.countWrap a f).ports = s.ports := rfl
@[simp] theorem State.countWrap_streams (s : State) (a : Nat) (f : Fld) : (s.countWrap a f).streams = s.streams := rfl
@[simp] theorem State.countWrap_i2c (s : State) (a : Nat) (f : Fld) : (s.countWrap a f).i2c = s.i2c := rfl
@[simp] theorem State.countWrap_fsync (s : State) (a : Nat) (f : Fld) : (s.countWrap a f).fsync = s.fsync := rfl
@[simp] theorem State.countWrap_trig (s : State) (a : Nat) (f : Fld) : (s.countWrap a f).trig = s.trig := rfl
@[simp] theorem State.countWrap_sa (s : State) (a : Nat) (f : Fld) : (s.countWrap a f).sa = s.sa := rfl
@[simp] theorem State.countWrap_prompt (s : State) (a : Nat) (f : Fld) : (s.countWrap a f).prompt = s.prompt := rfl
@[simp] theorem State.countWrap_timeHi (s : State) (a : Nat) (f : Fld) : (s.countWrap a f).timeHi = s.timeHi := rfl

/-! ### setTime -/

@[simp] theorem State.setTime_pending (s : State) (a v : Nat) : (s.setTime a v).pending = s.pending := rfl
@[simp] theorem State.setTime_mem (s : State) (a v : Nat) : (s.setTime a v).mem = s.mem := rfl
@[simp] theorem State.setTime_freeTick (s : State) (a v : Nat) : (s.setTime a v).freeTick = s.freeTick := rfl
@[simp] theorem State.setTime_coreMap (s : State) (a v : Nat) : (s.setTime a v).coreMap = s.coreMap := rfl
@[simp] theorem State.setTime_switching (s : State) (a v : Nat) : (s.setTime a v).switching = s.switching := rfl
@[simp] theorem State.setTime_waiting (s : State) (a v : Nat) : (s.setTime a v).waiting = s.waiting := rfl
@[simp] theorem State.setTime_tags (s : State) (a v : Nat) : (s.setTime a v).tags = s.tags := rfl
@[simp] theorem State.setTime_time (s : State) (a v : Nat) : (s.setTime a v).time = s.time := rfl
@[simp] theorem State.setTime_cueq (s : State) (a v : Nat) : (s.setTime a v).cueq = s.cueq := rfl
@[simp] theorem State.setTime_noc (s : State) (a v : Nat) : (s.setTime a v).noc = s.noc := rfl
@[simp] theorem State.setTime_wings (s : State) (a v : Nat) : (s.setTime a v).wings = s.wings := rfl
@[simp] theorem State.setTime_lichen (s : State) (a v : Nat) : (s.setTime a v).lichen = s.lichen := rfl
@[simp] theorem State.setTime_events (s : State) (a v : Nat) : (s.setTime a v).events = s.events := rfl
@[simp] theorem State.setTime_power (s : State) (a v : Nat) : (s.setTime a v).power = s.power := rfl
@[simp] theorem State.setTime_sec (s : State) (a v : Nat) : (s.setTime a v).sec = s.sec := rfl
@[simp] theorem State.setTime_host (s : State) (a v : Nat) : (s.setTime a v).host = s.host := rfl
@[simp] theorem State.setTime_usb (s : State) (a v : Nat) : (s.setTime a v).usb = s.usb := rfl
@[simp] theorem State.setTime_links (s : State) (a v : Nat) : (s.setTime a v).links = s.links := rfl
@[simp] theorem State.setTime_reports (s : State) (a v : Nat) : (s.setTime a v).reports = s.reports := rfl
@[simp] theorem State.setTime_reh (s : State) (a v : Nat) : (s.setTime a v).reh = s.reh := rfl
@[simp] theorem State.setTime_smb (s : State) (a v : Nat) : (s.setTime a v).smb = s.smb := rfl
@[simp] theorem State.setTime_tap (s : State) (a v : Nat) : (s.setTime a v).tap = s.tap := rfl
@[simp] theorem State.setTime_sb (s : State) (a v : Nat) : (s.setTime a v).sb = s.sb := rfl
@[simp] theorem State.setTime_banks (s : State) (a v : Nat) : (s.setTime a v).banks = s.banks := rfl
@[simp] theorem State.setTime_caches (s : State) (a v : Nat) : (s.setTime a v).caches = s.caches := rfl
@[simp] theorem State.setTime_ecc (s : State) (a v : Nat) : (s.setTime a v).ecc = s.ecc := rfl
@[simp] theorem State.setTime_writeBacks (s : State) (a v : Nat) : (s.setTime a v).writeBacks = s.writeBacks := rfl
@[simp] theorem State.setTime_remotes (s : State) (a v : Nat) : (s.setTime a v).remotes = s.remotes := rfl
@[simp] theorem State.setTime_remoteCount (s : State) (a v : Nat) : (s.setTime a v).remoteCount = s.remoteCount := rfl
@[simp] theorem State.setTime_dma (s : State) (a v : Nat) : (s.setTime a v).dma = s.dma := rfl
@[simp] theorem State.setTime_hub (s : State) (a v : Nat) : (s.setTime a v).hub = s.hub := rfl
@[simp] theorem State.setTime_resv (s : State) (a v : Nat) : (s.setTime a v).resv = s.resv := rfl
@[simp] theorem State.setTime_vpp (s : State) (a v : Nat) : (s.setTime a v).vpp = s.vpp := rfl
@[simp] theorem State.setTime_pools (s : State) (a v : Nat) : (s.setTime a v).pools = s.pools := rfl
@[simp] theorem State.setTime_hqueues (s : State) (a v : Nat) : (s.setTime a v).hqueues = s.hqueues := rfl
@[simp] theorem State.setTime_hqp (s : State) (a v : Nat) : (s.setTime a v).hqp = s.hqp := rfl
@[simp] theorem State.setTime_bars (s : State) (a v : Nat) : (s.setTime a v).bars = s.bars := rfl
@[simp] theorem State.setTime_arrivals (s : State) (a v : Nat) : (s.setTime a v).arrivals = s.arrivals := rfl
@[simp] theorem State.setTime_chain (s : State) (a v : Nat) : (s.setTime a v).chain = s.chain := rfl
@[simp] theorem State.setTime_scripts (s : State) (a v : Nat) : (s.setTime a v).scripts = s.scripts := rfl
@[simp] theorem State.setTime_marks (s : State) (a v : Nat) : (s.setTime a v).marks = s.marks := rfl
@[simp] theorem State.setTime_fronds (s : State) (a v : Nat) : (s.setTime a v).fronds = s.fronds := rfl
@[simp] theorem State.setTime_ports (s : State) (a v : Nat) : (s.setTime a v).ports = s.ports := rfl
@[simp] theorem State.setTime_streams (s : State) (a v : Nat) : (s.setTime a v).streams = s.streams := rfl
@[simp] theorem State.setTime_i2c (s : State) (a v : Nat) : (s.setTime a v).i2c = s.i2c := rfl
@[simp] theorem State.setTime_fsync (s : State) (a v : Nat) : (s.setTime a v).fsync = s.fsync := rfl
@[simp] theorem State.setTime_trig (s : State) (a v : Nat) : (s.setTime a v).trig = s.trig := rfl
@[simp] theorem State.setTime_sa (s : State) (a v : Nat) : (s.setTime a v).sa = s.sa := rfl
@[simp] theorem State.setTime_prompt (s : State) (a v : Nat) : (s.setTime a v).prompt = s.prompt := rfl

/-! ### setByte -/

@[simp] theorem State.setByte_pending (s : State) (k : Nat) (v : Byte) : (s.setByte k v).pending = s.pending := rfl
@[simp] theorem State.setByte_regs (s : State) (k : Nat) (v : Byte) : (s.setByte k v).regs = s.regs := rfl
@[simp] theorem State.setByte_freeTick (s : State) (k : Nat) (v : Byte) : (s.setByte k v).freeTick = s.freeTick := rfl
@[simp] theorem State.setByte_coreMap (s : State) (k : Nat) (v : Byte) : (s.setByte k v).coreMap = s.coreMap := rfl
@[simp] theorem State.setByte_switching (s : State) (k : Nat) (v : Byte) : (s.setByte k v).switching = s.switching := rfl
@[simp] theorem State.setByte_waiting (s : State) (k : Nat) (v : Byte) : (s.setByte k v).waiting = s.waiting := rfl
@[simp] theorem State.setByte_tags (s : State) (k : Nat) (v : Byte) : (s.setByte k v).tags = s.tags := rfl
@[simp] theorem State.setByte_time (s : State) (k : Nat) (v : Byte) : (s.setByte k v).time = s.time := rfl
@[simp] theorem State.setByte_cueq (s : State) (k : Nat) (v : Byte) : (s.setByte k v).cueq = s.cueq := rfl
@[simp] theorem State.setByte_noc (s : State) (k : Nat) (v : Byte) : (s.setByte k v).noc = s.noc := rfl
@[simp] theorem State.setByte_wings (s : State) (k : Nat) (v : Byte) : (s.setByte k v).wings = s.wings := rfl
@[simp] theorem State.setByte_lichen (s : State) (k : Nat) (v : Byte) : (s.setByte k v).lichen = s.lichen := rfl
@[simp] theorem State.setByte_events (s : State) (k : Nat) (v : Byte) : (s.setByte k v).events = s.events := rfl
@[simp] theorem State.setByte_power (s : State) (k : Nat) (v : Byte) : (s.setByte k v).power = s.power := rfl
@[simp] theorem State.setByte_sec (s : State) (k : Nat) (v : Byte) : (s.setByte k v).sec = s.sec := rfl
@[simp] theorem State.setByte_host (s : State) (k : Nat) (v : Byte) : (s.setByte k v).host = s.host := rfl
@[simp] theorem State.setByte_usb (s : State) (k : Nat) (v : Byte) : (s.setByte k v).usb = s.usb := rfl
@[simp] theorem State.setByte_links (s : State) (k : Nat) (v : Byte) : (s.setByte k v).links = s.links := rfl
@[simp] theorem State.setByte_reports (s : State) (k : Nat) (v : Byte) : (s.setByte k v).reports = s.reports := rfl
@[simp] theorem State.setByte_reh (s : State) (k : Nat) (v : Byte) : (s.setByte k v).reh = s.reh := rfl
@[simp] theorem State.setByte_smb (s : State) (k : Nat) (v : Byte) : (s.setByte k v).smb = s.smb := rfl
@[simp] theorem State.setByte_tap (s : State) (k : Nat) (v : Byte) : (s.setByte k v).tap = s.tap := rfl
@[simp] theorem State.setByte_sb (s : State) (k : Nat) (v : Byte) : (s.setByte k v).sb = s.sb := rfl
@[simp] theorem State.setByte_banks (s : State) (k : Nat) (v : Byte) : (s.setByte k v).banks = s.banks := rfl
@[simp] theorem State.setByte_caches (s : State) (k : Nat) (v : Byte) : (s.setByte k v).caches = s.caches := rfl
@[simp] theorem State.setByte_ecc (s : State) (k : Nat) (v : Byte) : (s.setByte k v).ecc = s.ecc := rfl
@[simp] theorem State.setByte_writeBacks (s : State) (k : Nat) (v : Byte) : (s.setByte k v).writeBacks = s.writeBacks := rfl
@[simp] theorem State.setByte_remotes (s : State) (k : Nat) (v : Byte) : (s.setByte k v).remotes = s.remotes := rfl
@[simp] theorem State.setByte_remoteCount (s : State) (k : Nat) (v : Byte) : (s.setByte k v).remoteCount = s.remoteCount := rfl
@[simp] theorem State.setByte_dma (s : State) (k : Nat) (v : Byte) : (s.setByte k v).dma = s.dma := rfl
@[simp] theorem State.setByte_hub (s : State) (k : Nat) (v : Byte) : (s.setByte k v).hub = s.hub := rfl
@[simp] theorem State.setByte_resv (s : State) (k : Nat) (v : Byte) : (s.setByte k v).resv = s.resv := rfl
@[simp] theorem State.setByte_vpp (s : State) (k : Nat) (v : Byte) : (s.setByte k v).vpp = s.vpp := rfl
@[simp] theorem State.setByte_pools (s : State) (k : Nat) (v : Byte) : (s.setByte k v).pools = s.pools := rfl
@[simp] theorem State.setByte_hqueues (s : State) (k : Nat) (v : Byte) : (s.setByte k v).hqueues = s.hqueues := rfl
@[simp] theorem State.setByte_hqp (s : State) (k : Nat) (v : Byte) : (s.setByte k v).hqp = s.hqp := rfl
@[simp] theorem State.setByte_bars (s : State) (k : Nat) (v : Byte) : (s.setByte k v).bars = s.bars := rfl
@[simp] theorem State.setByte_arrivals (s : State) (k : Nat) (v : Byte) : (s.setByte k v).arrivals = s.arrivals := rfl
@[simp] theorem State.setByte_chain (s : State) (k : Nat) (v : Byte) : (s.setByte k v).chain = s.chain := rfl
@[simp] theorem State.setByte_scripts (s : State) (k : Nat) (v : Byte) : (s.setByte k v).scripts = s.scripts := rfl
@[simp] theorem State.setByte_marks (s : State) (k : Nat) (v : Byte) : (s.setByte k v).marks = s.marks := rfl
@[simp] theorem State.setByte_fronds (s : State) (k : Nat) (v : Byte) : (s.setByte k v).fronds = s.fronds := rfl
@[simp] theorem State.setByte_ports (s : State) (k : Nat) (v : Byte) : (s.setByte k v).ports = s.ports := rfl
@[simp] theorem State.setByte_streams (s : State) (k : Nat) (v : Byte) : (s.setByte k v).streams = s.streams := rfl
@[simp] theorem State.setByte_i2c (s : State) (k : Nat) (v : Byte) : (s.setByte k v).i2c = s.i2c := rfl
@[simp] theorem State.setByte_fsync (s : State) (k : Nat) (v : Byte) : (s.setByte k v).fsync = s.fsync := rfl
@[simp] theorem State.setByte_trig (s : State) (k : Nat) (v : Byte) : (s.setByte k v).trig = s.trig := rfl
@[simp] theorem State.setByte_sa (s : State) (k : Nat) (v : Byte) : (s.setByte k v).sa = s.sa := rfl
@[simp] theorem State.setByte_prompt (s : State) (k : Nat) (v : Byte) : (s.setByte k v).prompt = s.prompt := rfl
@[simp] theorem State.setByte_timeHi (s : State) (k : Nat) (v : Byte) : (s.setByte k v).timeHi = s.timeHi := rfl

/-! ### setCq -/

@[simp] theorem State.setCq_pending (s : State) (q : Nat) (x : CueQueue) : (s.setCq q x).pending = s.pending := rfl
@[simp] theorem State.setCq_regs (s : State) (q : Nat) (x : CueQueue) : (s.setCq q x).regs = s.regs := rfl
@[simp] theorem State.setCq_mem (s : State) (q : Nat) (x : CueQueue) : (s.setCq q x).mem = s.mem := rfl
@[simp] theorem State.setCq_freeTick (s : State) (q : Nat) (x : CueQueue) : (s.setCq q x).freeTick = s.freeTick := rfl
@[simp] theorem State.setCq_coreMap (s : State) (q : Nat) (x : CueQueue) : (s.setCq q x).coreMap = s.coreMap := rfl
@[simp] theorem State.setCq_switching (s : State) (q : Nat) (x : CueQueue) : (s.setCq q x).switching = s.switching := rfl
@[simp] theorem State.setCq_waiting (s : State) (q : Nat) (x : CueQueue) : (s.setCq q x).waiting = s.waiting := rfl
@[simp] theorem State.setCq_tags (s : State) (q : Nat) (x : CueQueue) : (s.setCq q x).tags = s.tags := rfl
@[simp] theorem State.setCq_time (s : State) (q : Nat) (x : CueQueue) : (s.setCq q x).time = s.time := rfl
@[simp] theorem State.setCq_noc (s : State) (q : Nat) (x : CueQueue) : (s.setCq q x).noc = s.noc := rfl
@[simp] theorem State.setCq_wings (s : State) (q : Nat) (x : CueQueue) : (s.setCq q x).wings = s.wings := rfl
@[simp] theorem State.setCq_lichen (s : State) (q : Nat) (x : CueQueue) : (s.setCq q x).lichen = s.lichen := rfl
@[simp] theorem State.setCq_events (s : State) (q : Nat) (x : CueQueue) : (s.setCq q x).events = s.events := rfl
@[simp] theorem State.setCq_power (s : State) (q : Nat) (x : CueQueue) : (s.setCq q x).power = s.power := rfl
@[simp] theorem State.setCq_sec (s : State) (q : Nat) (x : CueQueue) : (s.setCq q x).sec = s.sec := rfl
@[simp] theorem State.setCq_host (s : State) (q : Nat) (x : CueQueue) : (s.setCq q x).host = s.host := rfl
@[simp] theorem State.setCq_usb (s : State) (q : Nat) (x : CueQueue) : (s.setCq q x).usb = s.usb := rfl
@[simp] theorem State.setCq_links (s : State) (q : Nat) (x : CueQueue) : (s.setCq q x).links = s.links := rfl
@[simp] theorem State.setCq_reports (s : State) (q : Nat) (x : CueQueue) : (s.setCq q x).reports = s.reports := rfl
@[simp] theorem State.setCq_reh (s : State) (q : Nat) (x : CueQueue) : (s.setCq q x).reh = s.reh := rfl
@[simp] theorem State.setCq_smb (s : State) (q : Nat) (x : CueQueue) : (s.setCq q x).smb = s.smb := rfl
@[simp] theorem State.setCq_tap (s : State) (q : Nat) (x : CueQueue) : (s.setCq q x).tap = s.tap := rfl
@[simp] theorem State.setCq_sb (s : State) (q : Nat) (x : CueQueue) : (s.setCq q x).sb = s.sb := rfl
@[simp] theorem State.setCq_banks (s : State) (q : Nat) (x : CueQueue) : (s.setCq q x).banks = s.banks := rfl
@[simp] theorem State.setCq_caches (s : State) (q : Nat) (x : CueQueue) : (s.setCq q x).caches = s.caches := rfl
@[simp] theorem State.setCq_ecc (s : State) (q : Nat) (x : CueQueue) : (s.setCq q x).ecc = s.ecc := rfl
@[simp] theorem State.setCq_writeBacks (s : State) (q : Nat) (x : CueQueue) : (s.setCq q x).writeBacks = s.writeBacks := rfl
@[simp] theorem State.setCq_remotes (s : State) (q : Nat) (x : CueQueue) : (s.setCq q x).remotes = s.remotes := rfl
@[simp] theorem State.setCq_remoteCount (s : State) (q : Nat) (x : CueQueue) : (s.setCq q x).remoteCount = s.remoteCount := rfl
@[simp] theorem State.setCq_dma (s : State) (q : Nat) (x : CueQueue) : (s.setCq q x).dma = s.dma := rfl
@[simp] theorem State.setCq_hub (s : State) (q : Nat) (x : CueQueue) : (s.setCq q x).hub = s.hub := rfl
@[simp] theorem State.setCq_resv (s : State) (q : Nat) (x : CueQueue) : (s.setCq q x).resv = s.resv := rfl
@[simp] theorem State.setCq_vpp (s : State) (q : Nat) (x : CueQueue) : (s.setCq q x).vpp = s.vpp := rfl
@[simp] theorem State.setCq_pools (s : State) (q : Nat) (x : CueQueue) : (s.setCq q x).pools = s.pools := rfl
@[simp] theorem State.setCq_hqueues (s : State) (q : Nat) (x : CueQueue) : (s.setCq q x).hqueues = s.hqueues := rfl
@[simp] theorem State.setCq_hqp (s : State) (q : Nat) (x : CueQueue) : (s.setCq q x).hqp = s.hqp := rfl
@[simp] theorem State.setCq_bars (s : State) (q : Nat) (x : CueQueue) : (s.setCq q x).bars = s.bars := rfl
@[simp] theorem State.setCq_arrivals (s : State) (q : Nat) (x : CueQueue) : (s.setCq q x).arrivals = s.arrivals := rfl
@[simp] theorem State.setCq_chain (s : State) (q : Nat) (x : CueQueue) : (s.setCq q x).chain = s.chain := rfl
@[simp] theorem State.setCq_scripts (s : State) (q : Nat) (x : CueQueue) : (s.setCq q x).scripts = s.scripts := rfl
@[simp] theorem State.setCq_marks (s : State) (q : Nat) (x : CueQueue) : (s.setCq q x).marks = s.marks := rfl
@[simp] theorem State.setCq_fronds (s : State) (q : Nat) (x : CueQueue) : (s.setCq q x).fronds = s.fronds := rfl
@[simp] theorem State.setCq_ports (s : State) (q : Nat) (x : CueQueue) : (s.setCq q x).ports = s.ports := rfl
@[simp] theorem State.setCq_streams (s : State) (q : Nat) (x : CueQueue) : (s.setCq q x).streams = s.streams := rfl
@[simp] theorem State.setCq_i2c (s : State) (q : Nat) (x : CueQueue) : (s.setCq q x).i2c = s.i2c := rfl
@[simp] theorem State.setCq_fsync (s : State) (q : Nat) (x : CueQueue) : (s.setCq q x).fsync = s.fsync := rfl
@[simp] theorem State.setCq_trig (s : State) (q : Nat) (x : CueQueue) : (s.setCq q x).trig = s.trig := rfl
@[simp] theorem State.setCq_sa (s : State) (q : Nat) (x : CueQueue) : (s.setCq q x).sa = s.sa := rfl
@[simp] theorem State.setCq_prompt (s : State) (q : Nat) (x : CueQueue) : (s.setCq q x).prompt = s.prompt := rfl
@[simp] theorem State.setCq_timeHi (s : State) (q : Nat) (x : CueQueue) : (s.setCq q x).timeHi = s.timeHi := rfl

/-! ### setWset -/

@[simp] theorem State.setWset_pending (s : State) (n : Nat) (x : WingsSet) : (s.setWset n x).pending = s.pending := rfl
@[simp] theorem State.setWset_regs (s : State) (n : Nat) (x : WingsSet) : (s.setWset n x).regs = s.regs := rfl
@[simp] theorem State.setWset_mem (s : State) (n : Nat) (x : WingsSet) : (s.setWset n x).mem = s.mem := rfl
@[simp] theorem State.setWset_freeTick (s : State) (n : Nat) (x : WingsSet) : (s.setWset n x).freeTick = s.freeTick := rfl
@[simp] theorem State.setWset_coreMap (s : State) (n : Nat) (x : WingsSet) : (s.setWset n x).coreMap = s.coreMap := rfl
@[simp] theorem State.setWset_switching (s : State) (n : Nat) (x : WingsSet) : (s.setWset n x).switching = s.switching := rfl
@[simp] theorem State.setWset_waiting (s : State) (n : Nat) (x : WingsSet) : (s.setWset n x).waiting = s.waiting := rfl
@[simp] theorem State.setWset_tags (s : State) (n : Nat) (x : WingsSet) : (s.setWset n x).tags = s.tags := rfl
@[simp] theorem State.setWset_time (s : State) (n : Nat) (x : WingsSet) : (s.setWset n x).time = s.time := rfl
@[simp] theorem State.setWset_cueq (s : State) (n : Nat) (x : WingsSet) : (s.setWset n x).cueq = s.cueq := rfl
@[simp] theorem State.setWset_noc (s : State) (n : Nat) (x : WingsSet) : (s.setWset n x).noc = s.noc := rfl
@[simp] theorem State.setWset_lichen (s : State) (n : Nat) (x : WingsSet) : (s.setWset n x).lichen = s.lichen := rfl
@[simp] theorem State.setWset_events (s : State) (n : Nat) (x : WingsSet) : (s.setWset n x).events = s.events := rfl
@[simp] theorem State.setWset_power (s : State) (n : Nat) (x : WingsSet) : (s.setWset n x).power = s.power := rfl
@[simp] theorem State.setWset_sec (s : State) (n : Nat) (x : WingsSet) : (s.setWset n x).sec = s.sec := rfl
@[simp] theorem State.setWset_host (s : State) (n : Nat) (x : WingsSet) : (s.setWset n x).host = s.host := rfl
@[simp] theorem State.setWset_usb (s : State) (n : Nat) (x : WingsSet) : (s.setWset n x).usb = s.usb := rfl
@[simp] theorem State.setWset_links (s : State) (n : Nat) (x : WingsSet) : (s.setWset n x).links = s.links := rfl
@[simp] theorem State.setWset_reports (s : State) (n : Nat) (x : WingsSet) : (s.setWset n x).reports = s.reports := rfl
@[simp] theorem State.setWset_reh (s : State) (n : Nat) (x : WingsSet) : (s.setWset n x).reh = s.reh := rfl
@[simp] theorem State.setWset_smb (s : State) (n : Nat) (x : WingsSet) : (s.setWset n x).smb = s.smb := rfl
@[simp] theorem State.setWset_tap (s : State) (n : Nat) (x : WingsSet) : (s.setWset n x).tap = s.tap := rfl
@[simp] theorem State.setWset_sb (s : State) (n : Nat) (x : WingsSet) : (s.setWset n x).sb = s.sb := rfl
@[simp] theorem State.setWset_banks (s : State) (n : Nat) (x : WingsSet) : (s.setWset n x).banks = s.banks := rfl
@[simp] theorem State.setWset_caches (s : State) (n : Nat) (x : WingsSet) : (s.setWset n x).caches = s.caches := rfl
@[simp] theorem State.setWset_ecc (s : State) (n : Nat) (x : WingsSet) : (s.setWset n x).ecc = s.ecc := rfl
@[simp] theorem State.setWset_writeBacks (s : State) (n : Nat) (x : WingsSet) : (s.setWset n x).writeBacks = s.writeBacks := rfl
@[simp] theorem State.setWset_remotes (s : State) (n : Nat) (x : WingsSet) : (s.setWset n x).remotes = s.remotes := rfl
@[simp] theorem State.setWset_remoteCount (s : State) (n : Nat) (x : WingsSet) : (s.setWset n x).remoteCount = s.remoteCount := rfl
@[simp] theorem State.setWset_dma (s : State) (n : Nat) (x : WingsSet) : (s.setWset n x).dma = s.dma := rfl
@[simp] theorem State.setWset_hub (s : State) (n : Nat) (x : WingsSet) : (s.setWset n x).hub = s.hub := rfl
@[simp] theorem State.setWset_resv (s : State) (n : Nat) (x : WingsSet) : (s.setWset n x).resv = s.resv := rfl
@[simp] theorem State.setWset_vpp (s : State) (n : Nat) (x : WingsSet) : (s.setWset n x).vpp = s.vpp := rfl
@[simp] theorem State.setWset_pools (s : State) (n : Nat) (x : WingsSet) : (s.setWset n x).pools = s.pools := rfl
@[simp] theorem State.setWset_hqueues (s : State) (n : Nat) (x : WingsSet) : (s.setWset n x).hqueues = s.hqueues := rfl
@[simp] theorem State.setWset_hqp (s : State) (n : Nat) (x : WingsSet) : (s.setWset n x).hqp = s.hqp := rfl
@[simp] theorem State.setWset_bars (s : State) (n : Nat) (x : WingsSet) : (s.setWset n x).bars = s.bars := rfl
@[simp] theorem State.setWset_arrivals (s : State) (n : Nat) (x : WingsSet) : (s.setWset n x).arrivals = s.arrivals := rfl
@[simp] theorem State.setWset_chain (s : State) (n : Nat) (x : WingsSet) : (s.setWset n x).chain = s.chain := rfl
@[simp] theorem State.setWset_scripts (s : State) (n : Nat) (x : WingsSet) : (s.setWset n x).scripts = s.scripts := rfl
@[simp] theorem State.setWset_marks (s : State) (n : Nat) (x : WingsSet) : (s.setWset n x).marks = s.marks := rfl
@[simp] theorem State.setWset_fronds (s : State) (n : Nat) (x : WingsSet) : (s.setWset n x).fronds = s.fronds := rfl
@[simp] theorem State.setWset_ports (s : State) (n : Nat) (x : WingsSet) : (s.setWset n x).ports = s.ports := rfl
@[simp] theorem State.setWset_streams (s : State) (n : Nat) (x : WingsSet) : (s.setWset n x).streams = s.streams := rfl
@[simp] theorem State.setWset_i2c (s : State) (n : Nat) (x : WingsSet) : (s.setWset n x).i2c = s.i2c := rfl
@[simp] theorem State.setWset_fsync (s : State) (n : Nat) (x : WingsSet) : (s.setWset n x).fsync = s.fsync := rfl
@[simp] theorem State.setWset_trig (s : State) (n : Nat) (x : WingsSet) : (s.setWset n x).trig = s.trig := rfl
@[simp] theorem State.setWset_sa (s : State) (n : Nat) (x : WingsSet) : (s.setWset n x).sa = s.sa := rfl
@[simp] theorem State.setWset_prompt (s : State) (n : Nat) (x : WingsSet) : (s.setWset n x).prompt = s.prompt := rfl
@[simp] theorem State.setWset_timeHi (s : State) (n : Nat) (x : WingsSet) : (s.setWset n x).timeHi = s.timeHi := rfl

/-! ### setLink -/

@[simp] theorem State.setLink_pending (s : State) (l : Nat) (x : LinkState) : (s.setLink l x).pending = s.pending := rfl
@[simp] theorem State.setLink_regs (s : State) (l : Nat) (x : LinkState) : (s.setLink l x).regs = s.regs := rfl
@[simp] theorem State.setLink_mem (s : State) (l : Nat) (x : LinkState) : (s.setLink l x).mem = s.mem := rfl
@[simp] theorem State.setLink_freeTick (s : State) (l : Nat) (x : LinkState) : (s.setLink l x).freeTick = s.freeTick := rfl
@[simp] theorem State.setLink_coreMap (s : State) (l : Nat) (x : LinkState) : (s.setLink l x).coreMap = s.coreMap := rfl
@[simp] theorem State.setLink_switching (s : State) (l : Nat) (x : LinkState) : (s.setLink l x).switching = s.switching := rfl
@[simp] theorem State.setLink_waiting (s : State) (l : Nat) (x : LinkState) : (s.setLink l x).waiting = s.waiting := rfl
@[simp] theorem State.setLink_tags (s : State) (l : Nat) (x : LinkState) : (s.setLink l x).tags = s.tags := rfl
@[simp] theorem State.setLink_time (s : State) (l : Nat) (x : LinkState) : (s.setLink l x).time = s.time := rfl
@[simp] theorem State.setLink_cueq (s : State) (l : Nat) (x : LinkState) : (s.setLink l x).cueq = s.cueq := rfl
@[simp] theorem State.setLink_noc (s : State) (l : Nat) (x : LinkState) : (s.setLink l x).noc = s.noc := rfl
@[simp] theorem State.setLink_wings (s : State) (l : Nat) (x : LinkState) : (s.setLink l x).wings = s.wings := rfl
@[simp] theorem State.setLink_lichen (s : State) (l : Nat) (x : LinkState) : (s.setLink l x).lichen = s.lichen := rfl
@[simp] theorem State.setLink_events (s : State) (l : Nat) (x : LinkState) : (s.setLink l x).events = s.events := rfl
@[simp] theorem State.setLink_power (s : State) (l : Nat) (x : LinkState) : (s.setLink l x).power = s.power := rfl
@[simp] theorem State.setLink_sec (s : State) (l : Nat) (x : LinkState) : (s.setLink l x).sec = s.sec := rfl
@[simp] theorem State.setLink_host (s : State) (l : Nat) (x : LinkState) : (s.setLink l x).host = s.host := rfl
@[simp] theorem State.setLink_usb (s : State) (l : Nat) (x : LinkState) : (s.setLink l x).usb = s.usb := rfl
@[simp] theorem State.setLink_reports (s : State) (l : Nat) (x : LinkState) : (s.setLink l x).reports = s.reports := rfl
@[simp] theorem State.setLink_reh (s : State) (l : Nat) (x : LinkState) : (s.setLink l x).reh = s.reh := rfl
@[simp] theorem State.setLink_smb (s : State) (l : Nat) (x : LinkState) : (s.setLink l x).smb = s.smb := rfl
@[simp] theorem State.setLink_tap (s : State) (l : Nat) (x : LinkState) : (s.setLink l x).tap = s.tap := rfl
@[simp] theorem State.setLink_sb (s : State) (l : Nat) (x : LinkState) : (s.setLink l x).sb = s.sb := rfl
@[simp] theorem State.setLink_banks (s : State) (l : Nat) (x : LinkState) : (s.setLink l x).banks = s.banks := rfl
@[simp] theorem State.setLink_caches (s : State) (l : Nat) (x : LinkState) : (s.setLink l x).caches = s.caches := rfl
@[simp] theorem State.setLink_ecc (s : State) (l : Nat) (x : LinkState) : (s.setLink l x).ecc = s.ecc := rfl
@[simp] theorem State.setLink_writeBacks (s : State) (l : Nat) (x : LinkState) : (s.setLink l x).writeBacks = s.writeBacks := rfl
@[simp] theorem State.setLink_remotes (s : State) (l : Nat) (x : LinkState) : (s.setLink l x).remotes = s.remotes := rfl
@[simp] theorem State.setLink_remoteCount (s : State) (l : Nat) (x : LinkState) : (s.setLink l x).remoteCount = s.remoteCount := rfl
@[simp] theorem State.setLink_dma (s : State) (l : Nat) (x : LinkState) : (s.setLink l x).dma = s.dma := rfl
@[simp] theorem State.setLink_hub (s : State) (l : Nat) (x : LinkState) : (s.setLink l x).hub = s.hub := rfl
@[simp] theorem State.setLink_resv (s : State) (l : Nat) (x : LinkState) : (s.setLink l x).resv = s.resv := rfl
@[simp] theorem State.setLink_vpp (s : State) (l : Nat) (x : LinkState) : (s.setLink l x).vpp = s.vpp := rfl
@[simp] theorem State.setLink_pools (s : State) (l : Nat) (x : LinkState) : (s.setLink l x).pools = s.pools := rfl
@[simp] theorem State.setLink_hqueues (s : State) (l : Nat) (x : LinkState) : (s.setLink l x).hqueues = s.hqueues := rfl
@[simp] theorem State.setLink_hqp (s : State) (l : Nat) (x : LinkState) : (s.setLink l x).hqp = s.hqp := rfl
@[simp] theorem State.setLink_bars (s : State) (l : Nat) (x : LinkState) : (s.setLink l x).bars = s.bars := rfl
@[simp] theorem State.setLink_arrivals (s : State) (l : Nat) (x : LinkState) : (s.setLink l x).arrivals = s.arrivals := rfl
@[simp] theorem State.setLink_chain (s : State) (l : Nat) (x : LinkState) : (s.setLink l x).chain = s.chain := rfl
@[simp] theorem State.setLink_scripts (s : State) (l : Nat) (x : LinkState) : (s.setLink l x).scripts = s.scripts := rfl
@[simp] theorem State.setLink_marks (s : State) (l : Nat) (x : LinkState) : (s.setLink l x).marks = s.marks := rfl
@[simp] theorem State.setLink_fronds (s : State) (l : Nat) (x : LinkState) : (s.setLink l x).fronds = s.fronds := rfl
@[simp] theorem State.setLink_ports (s : State) (l : Nat) (x : LinkState) : (s.setLink l x).ports = s.ports := rfl
@[simp] theorem State.setLink_streams (s : State) (l : Nat) (x : LinkState) : (s.setLink l x).streams = s.streams := rfl
@[simp] theorem State.setLink_i2c (s : State) (l : Nat) (x : LinkState) : (s.setLink l x).i2c = s.i2c := rfl
@[simp] theorem State.setLink_fsync (s : State) (l : Nat) (x : LinkState) : (s.setLink l x).fsync = s.fsync := rfl
@[simp] theorem State.setLink_trig (s : State) (l : Nat) (x : LinkState) : (s.setLink l x).trig = s.trig := rfl
@[simp] theorem State.setLink_sa (s : State) (l : Nat) (x : LinkState) : (s.setLink l x).sa = s.sa := rfl
@[simp] theorem State.setLink_prompt (s : State) (l : Nat) (x : LinkState) : (s.setLink l x).prompt = s.prompt := rfl
@[simp] theorem State.setLink_timeHi (s : State) (l : Nat) (x : LinkState) : (s.setLink l x).timeHi = s.timeHi := rfl

/-! ### setCluster -/

@[simp] theorem State.setCluster_pending (s : State) (c : Nat) (x : ClusterPower) : (s.setCluster c x).pending = s.pending := rfl
@[simp] theorem State.setCluster_regs (s : State) (c : Nat) (x : ClusterPower) : (s.setCluster c x).regs = s.regs := rfl
@[simp] theorem State.setCluster_mem (s : State) (c : Nat) (x : ClusterPower) : (s.setCluster c x).mem = s.mem := rfl
@[simp] theorem State.setCluster_freeTick (s : State) (c : Nat) (x : ClusterPower) : (s.setCluster c x).freeTick = s.freeTick := rfl
@[simp] theorem State.setCluster_coreMap (s : State) (c : Nat) (x : ClusterPower) : (s.setCluster c x).coreMap = s.coreMap := rfl
@[simp] theorem State.setCluster_switching (s : State) (c : Nat) (x : ClusterPower) : (s.setCluster c x).switching = s.switching := rfl
@[simp] theorem State.setCluster_waiting (s : State) (c : Nat) (x : ClusterPower) : (s.setCluster c x).waiting = s.waiting := rfl
@[simp] theorem State.setCluster_tags (s : State) (c : Nat) (x : ClusterPower) : (s.setCluster c x).tags = s.tags := rfl
@[simp] theorem State.setCluster_time (s : State) (c : Nat) (x : ClusterPower) : (s.setCluster c x).time = s.time := rfl
@[simp] theorem State.setCluster_cueq (s : State) (c : Nat) (x : ClusterPower) : (s.setCluster c x).cueq = s.cueq := rfl
@[simp] theorem State.setCluster_noc (s : State) (c : Nat) (x : ClusterPower) : (s.setCluster c x).noc = s.noc := rfl
@[simp] theorem State.setCluster_wings (s : State) (c : Nat) (x : ClusterPower) : (s.setCluster c x).wings = s.wings := rfl
@[simp] theorem State.setCluster_lichen (s : State) (c : Nat) (x : ClusterPower) : (s.setCluster c x).lichen = s.lichen := rfl
@[simp] theorem State.setCluster_events (s : State) (c : Nat) (x : ClusterPower) : (s.setCluster c x).events = s.events := rfl
@[simp] theorem State.setCluster_sec (s : State) (c : Nat) (x : ClusterPower) : (s.setCluster c x).sec = s.sec := rfl
@[simp] theorem State.setCluster_host (s : State) (c : Nat) (x : ClusterPower) : (s.setCluster c x).host = s.host := rfl
@[simp] theorem State.setCluster_usb (s : State) (c : Nat) (x : ClusterPower) : (s.setCluster c x).usb = s.usb := rfl
@[simp] theorem State.setCluster_links (s : State) (c : Nat) (x : ClusterPower) : (s.setCluster c x).links = s.links := rfl
@[simp] theorem State.setCluster_reports (s : State) (c : Nat) (x : ClusterPower) : (s.setCluster c x).reports = s.reports := rfl
@[simp] theorem State.setCluster_reh (s : State) (c : Nat) (x : ClusterPower) : (s.setCluster c x).reh = s.reh := rfl
@[simp] theorem State.setCluster_smb (s : State) (c : Nat) (x : ClusterPower) : (s.setCluster c x).smb = s.smb := rfl
@[simp] theorem State.setCluster_tap (s : State) (c : Nat) (x : ClusterPower) : (s.setCluster c x).tap = s.tap := rfl
@[simp] theorem State.setCluster_sb (s : State) (c : Nat) (x : ClusterPower) : (s.setCluster c x).sb = s.sb := rfl
@[simp] theorem State.setCluster_banks (s : State) (c : Nat) (x : ClusterPower) : (s.setCluster c x).banks = s.banks := rfl
@[simp] theorem State.setCluster_caches (s : State) (c : Nat) (x : ClusterPower) : (s.setCluster c x).caches = s.caches := rfl
@[simp] theorem State.setCluster_ecc (s : State) (c : Nat) (x : ClusterPower) : (s.setCluster c x).ecc = s.ecc := rfl
@[simp] theorem State.setCluster_writeBacks (s : State) (c : Nat) (x : ClusterPower) : (s.setCluster c x).writeBacks = s.writeBacks := rfl
@[simp] theorem State.setCluster_remotes (s : State) (c : Nat) (x : ClusterPower) : (s.setCluster c x).remotes = s.remotes := rfl
@[simp] theorem State.setCluster_remoteCount (s : State) (c : Nat) (x : ClusterPower) : (s.setCluster c x).remoteCount = s.remoteCount := rfl
@[simp] theorem State.setCluster_dma (s : State) (c : Nat) (x : ClusterPower) : (s.setCluster c x).dma = s.dma := rfl
@[simp] theorem State.setCluster_hub (s : State) (c : Nat) (x : ClusterPower) : (s.setCluster c x).hub = s.hub := rfl
@[simp] theorem State.setCluster_resv (s : State) (c : Nat) (x : ClusterPower) : (s.setCluster c x).resv = s.resv := rfl
@[simp] theorem State.setCluster_vpp (s : State) (c : Nat) (x : ClusterPower) : (s.setCluster c x).vpp = s.vpp := rfl
@[simp] theorem State.setCluster_pools (s : State) (c : Nat) (x : ClusterPower) : (s.setCluster c x).pools = s.pools := rfl
@[simp] theorem State.setCluster_hqueues (s : State) (c : Nat) (x : ClusterPower) : (s.setCluster c x).hqueues = s.hqueues := rfl
@[simp] theorem State.setCluster_hqp (s : State) (c : Nat) (x : ClusterPower) : (s.setCluster c x).hqp = s.hqp := rfl
@[simp] theorem State.setCluster_bars (s : State) (c : Nat) (x : ClusterPower) : (s.setCluster c x).bars = s.bars := rfl
@[simp] theorem State.setCluster_arrivals (s : State) (c : Nat) (x : ClusterPower) : (s.setCluster c x).arrivals = s.arrivals := rfl
@[simp] theorem State.setCluster_chain (s : State) (c : Nat) (x : ClusterPower) : (s.setCluster c x).chain = s.chain := rfl
@[simp] theorem State.setCluster_scripts (s : State) (c : Nat) (x : ClusterPower) : (s.setCluster c x).scripts = s.scripts := rfl
@[simp] theorem State.setCluster_marks (s : State) (c : Nat) (x : ClusterPower) : (s.setCluster c x).marks = s.marks := rfl
@[simp] theorem State.setCluster_fronds (s : State) (c : Nat) (x : ClusterPower) : (s.setCluster c x).fronds = s.fronds := rfl
@[simp] theorem State.setCluster_ports (s : State) (c : Nat) (x : ClusterPower) : (s.setCluster c x).ports = s.ports := rfl
@[simp] theorem State.setCluster_streams (s : State) (c : Nat) (x : ClusterPower) : (s.setCluster c x).streams = s.streams := rfl
@[simp] theorem State.setCluster_i2c (s : State) (c : Nat) (x : ClusterPower) : (s.setCluster c x).i2c = s.i2c := rfl
@[simp] theorem State.setCluster_fsync (s : State) (c : Nat) (x : ClusterPower) : (s.setCluster c x).fsync = s.fsync := rfl
@[simp] theorem State.setCluster_trig (s : State) (c : Nat) (x : ClusterPower) : (s.setCluster c x).trig = s.trig := rfl
@[simp] theorem State.setCluster_sa (s : State) (c : Nat) (x : ClusterPower) : (s.setCluster c x).sa = s.sa := rfl
@[simp] theorem State.setCluster_prompt (s : State) (c : Nat) (x : ClusterPower) : (s.setCluster c x).prompt = s.prompt := rfl
@[simp] theorem State.setCluster_timeHi (s : State) (c : Nat) (x : ClusterPower) : (s.setCluster c x).timeHi = s.timeHi := rfl

/-! ### setWindow -/

@[simp] theorem State.setWindow_pending (s : State) (w : Nat) (x : NocWindow) : (s.setWindow w x).pending = s.pending := rfl
@[simp] theorem State.setWindow_regs (s : State) (w : Nat) (x : NocWindow) : (s.setWindow w x).regs = s.regs := rfl
@[simp] theorem State.setWindow_mem (s : State) (w : Nat) (x : NocWindow) : (s.setWindow w x).mem = s.mem := rfl
@[simp] theorem State.setWindow_freeTick (s : State) (w : Nat) (x : NocWindow) : (s.setWindow w x).freeTick = s.freeTick := rfl
@[simp] theorem State.setWindow_coreMap (s : State) (w : Nat) (x : NocWindow) : (s.setWindow w x).coreMap = s.coreMap := rfl
@[simp] theorem State.setWindow_switching (s : State) (w : Nat) (x : NocWindow) : (s.setWindow w x).switching = s.switching := rfl
@[simp] theorem State.setWindow_waiting (s : State) (w : Nat) (x : NocWindow) : (s.setWindow w x).waiting = s.waiting := rfl
@[simp] theorem State.setWindow_tags (s : State) (w : Nat) (x : NocWindow) : (s.setWindow w x).tags = s.tags := rfl
@[simp] theorem State.setWindow_time (s : State) (w : Nat) (x : NocWindow) : (s.setWindow w x).time = s.time := rfl
@[simp] theorem State.setWindow_cueq (s : State) (w : Nat) (x : NocWindow) : (s.setWindow w x).cueq = s.cueq := rfl
@[simp] theorem State.setWindow_wings (s : State) (w : Nat) (x : NocWindow) : (s.setWindow w x).wings = s.wings := rfl
@[simp] theorem State.setWindow_lichen (s : State) (w : Nat) (x : NocWindow) : (s.setWindow w x).lichen = s.lichen := rfl
@[simp] theorem State.setWindow_events (s : State) (w : Nat) (x : NocWindow) : (s.setWindow w x).events = s.events := rfl
@[simp] theorem State.setWindow_power (s : State) (w : Nat) (x : NocWindow) : (s.setWindow w x).power = s.power := rfl
@[simp] theorem State.setWindow_sec (s : State) (w : Nat) (x : NocWindow) : (s.setWindow w x).sec = s.sec := rfl
@[simp] theorem State.setWindow_host (s : State) (w : Nat) (x : NocWindow) : (s.setWindow w x).host = s.host := rfl
@[simp] theorem State.setWindow_usb (s : State) (w : Nat) (x : NocWindow) : (s.setWindow w x).usb = s.usb := rfl
@[simp] theorem State.setWindow_links (s : State) (w : Nat) (x : NocWindow) : (s.setWindow w x).links = s.links := rfl
@[simp] theorem State.setWindow_reports (s : State) (w : Nat) (x : NocWindow) : (s.setWindow w x).reports = s.reports := rfl
@[simp] theorem State.setWindow_reh (s : State) (w : Nat) (x : NocWindow) : (s.setWindow w x).reh = s.reh := rfl
@[simp] theorem State.setWindow_smb (s : State) (w : Nat) (x : NocWindow) : (s.setWindow w x).smb = s.smb := rfl
@[simp] theorem State.setWindow_tap (s : State) (w : Nat) (x : NocWindow) : (s.setWindow w x).tap = s.tap := rfl
@[simp] theorem State.setWindow_sb (s : State) (w : Nat) (x : NocWindow) : (s.setWindow w x).sb = s.sb := rfl
@[simp] theorem State.setWindow_banks (s : State) (w : Nat) (x : NocWindow) : (s.setWindow w x).banks = s.banks := rfl
@[simp] theorem State.setWindow_caches (s : State) (w : Nat) (x : NocWindow) : (s.setWindow w x).caches = s.caches := rfl
@[simp] theorem State.setWindow_ecc (s : State) (w : Nat) (x : NocWindow) : (s.setWindow w x).ecc = s.ecc := rfl
@[simp] theorem State.setWindow_writeBacks (s : State) (w : Nat) (x : NocWindow) : (s.setWindow w x).writeBacks = s.writeBacks := rfl
@[simp] theorem State.setWindow_remotes (s : State) (w : Nat) (x : NocWindow) : (s.setWindow w x).remotes = s.remotes := rfl
@[simp] theorem State.setWindow_remoteCount (s : State) (w : Nat) (x : NocWindow) : (s.setWindow w x).remoteCount = s.remoteCount := rfl
@[simp] theorem State.setWindow_dma (s : State) (w : Nat) (x : NocWindow) : (s.setWindow w x).dma = s.dma := rfl
@[simp] theorem State.setWindow_hub (s : State) (w : Nat) (x : NocWindow) : (s.setWindow w x).hub = s.hub := rfl
@[simp] theorem State.setWindow_resv (s : State) (w : Nat) (x : NocWindow) : (s.setWindow w x).resv = s.resv := rfl
@[simp] theorem State.setWindow_vpp (s : State) (w : Nat) (x : NocWindow) : (s.setWindow w x).vpp = s.vpp := rfl
@[simp] theorem State.setWindow_pools (s : State) (w : Nat) (x : NocWindow) : (s.setWindow w x).pools = s.pools := rfl
@[simp] theorem State.setWindow_hqueues (s : State) (w : Nat) (x : NocWindow) : (s.setWindow w x).hqueues = s.hqueues := rfl
@[simp] theorem State.setWindow_hqp (s : State) (w : Nat) (x : NocWindow) : (s.setWindow w x).hqp = s.hqp := rfl
@[simp] theorem State.setWindow_bars (s : State) (w : Nat) (x : NocWindow) : (s.setWindow w x).bars = s.bars := rfl
@[simp] theorem State.setWindow_arrivals (s : State) (w : Nat) (x : NocWindow) : (s.setWindow w x).arrivals = s.arrivals := rfl
@[simp] theorem State.setWindow_chain (s : State) (w : Nat) (x : NocWindow) : (s.setWindow w x).chain = s.chain := rfl
@[simp] theorem State.setWindow_scripts (s : State) (w : Nat) (x : NocWindow) : (s.setWindow w x).scripts = s.scripts := rfl
@[simp] theorem State.setWindow_marks (s : State) (w : Nat) (x : NocWindow) : (s.setWindow w x).marks = s.marks := rfl
@[simp] theorem State.setWindow_fronds (s : State) (w : Nat) (x : NocWindow) : (s.setWindow w x).fronds = s.fronds := rfl
@[simp] theorem State.setWindow_ports (s : State) (w : Nat) (x : NocWindow) : (s.setWindow w x).ports = s.ports := rfl
@[simp] theorem State.setWindow_streams (s : State) (w : Nat) (x : NocWindow) : (s.setWindow w x).streams = s.streams := rfl
@[simp] theorem State.setWindow_i2c (s : State) (w : Nat) (x : NocWindow) : (s.setWindow w x).i2c = s.i2c := rfl
@[simp] theorem State.setWindow_fsync (s : State) (w : Nat) (x : NocWindow) : (s.setWindow w x).fsync = s.fsync := rfl
@[simp] theorem State.setWindow_trig (s : State) (w : Nat) (x : NocWindow) : (s.setWindow w x).trig = s.trig := rfl
@[simp] theorem State.setWindow_sa (s : State) (w : Nat) (x : NocWindow) : (s.setWindow w x).sa = s.sa := rfl
@[simp] theorem State.setWindow_prompt (s : State) (w : Nat) (x : NocWindow) : (s.setWindow w x).prompt = s.prompt := rfl
@[simp] theorem State.setWindow_timeHi (s : State) (w : Nat) (x : NocWindow) : (s.setWindow w x).timeHi = s.timeHi := rfl

/-! ### setTag -/

@[simp] theorem State.setTag_pending (s : State) (r : Nat) (x : Tags) : (s.setTag r x).pending = s.pending := rfl
@[simp] theorem State.setTag_regs (s : State) (r : Nat) (x : Tags) : (s.setTag r x).regs = s.regs := rfl
@[simp] theorem State.setTag_mem (s : State) (r : Nat) (x : Tags) : (s.setTag r x).mem = s.mem := rfl
@[simp] theorem State.setTag_freeTick (s : State) (r : Nat) (x : Tags) : (s.setTag r x).freeTick = s.freeTick := rfl
@[simp] theorem State.setTag_coreMap (s : State) (r : Nat) (x : Tags) : (s.setTag r x).coreMap = s.coreMap := rfl
@[simp] theorem State.setTag_switching (s : State) (r : Nat) (x : Tags) : (s.setTag r x).switching = s.switching := rfl
@[simp] theorem State.setTag_waiting (s : State) (r : Nat) (x : Tags) : (s.setTag r x).waiting = s.waiting := rfl
@[simp] theorem State.setTag_time (s : State) (r : Nat) (x : Tags) : (s.setTag r x).time = s.time := rfl
@[simp] theorem State.setTag_cueq (s : State) (r : Nat) (x : Tags) : (s.setTag r x).cueq = s.cueq := rfl
@[simp] theorem State.setTag_noc (s : State) (r : Nat) (x : Tags) : (s.setTag r x).noc = s.noc := rfl
@[simp] theorem State.setTag_wings (s : State) (r : Nat) (x : Tags) : (s.setTag r x).wings = s.wings := rfl
@[simp] theorem State.setTag_lichen (s : State) (r : Nat) (x : Tags) : (s.setTag r x).lichen = s.lichen := rfl
@[simp] theorem State.setTag_events (s : State) (r : Nat) (x : Tags) : (s.setTag r x).events = s.events := rfl
@[simp] theorem State.setTag_power (s : State) (r : Nat) (x : Tags) : (s.setTag r x).power = s.power := rfl
@[simp] theorem State.setTag_sec (s : State) (r : Nat) (x : Tags) : (s.setTag r x).sec = s.sec := rfl
@[simp] theorem State.setTag_host (s : State) (r : Nat) (x : Tags) : (s.setTag r x).host = s.host := rfl
@[simp] theorem State.setTag_usb (s : State) (r : Nat) (x : Tags) : (s.setTag r x).usb = s.usb := rfl
@[simp] theorem State.setTag_links (s : State) (r : Nat) (x : Tags) : (s.setTag r x).links = s.links := rfl
@[simp] theorem State.setTag_reports (s : State) (r : Nat) (x : Tags) : (s.setTag r x).reports = s.reports := rfl
@[simp] theorem State.setTag_reh (s : State) (r : Nat) (x : Tags) : (s.setTag r x).reh = s.reh := rfl
@[simp] theorem State.setTag_smb (s : State) (r : Nat) (x : Tags) : (s.setTag r x).smb = s.smb := rfl
@[simp] theorem State.setTag_tap (s : State) (r : Nat) (x : Tags) : (s.setTag r x).tap = s.tap := rfl
@[simp] theorem State.setTag_sb (s : State) (r : Nat) (x : Tags) : (s.setTag r x).sb = s.sb := rfl
@[simp] theorem State.setTag_banks (s : State) (r : Nat) (x : Tags) : (s.setTag r x).banks = s.banks := rfl
@[simp] theorem State.setTag_caches (s : State) (r : Nat) (x : Tags) : (s.setTag r x).caches = s.caches := rfl
@[simp] theorem State.setTag_ecc (s : State) (r : Nat) (x : Tags) : (s.setTag r x).ecc = s.ecc := rfl
@[simp] theorem State.setTag_writeBacks (s : State) (r : Nat) (x : Tags) : (s.setTag r x).writeBacks = s.writeBacks := rfl
@[simp] theorem State.setTag_remotes (s : State) (r : Nat) (x : Tags) : (s.setTag r x).remotes = s.remotes := rfl
@[simp] theorem State.setTag_remoteCount (s : State) (r : Nat) (x : Tags) : (s.setTag r x).remoteCount = s.remoteCount := rfl
@[simp] theorem State.setTag_dma (s : State) (r : Nat) (x : Tags) : (s.setTag r x).dma = s.dma := rfl
@[simp] theorem State.setTag_hub (s : State) (r : Nat) (x : Tags) : (s.setTag r x).hub = s.hub := rfl
@[simp] theorem State.setTag_resv (s : State) (r : Nat) (x : Tags) : (s.setTag r x).resv = s.resv := rfl
@[simp] theorem State.setTag_vpp (s : State) (r : Nat) (x : Tags) : (s.setTag r x).vpp = s.vpp := rfl
@[simp] theorem State.setTag_pools (s : State) (r : Nat) (x : Tags) : (s.setTag r x).pools = s.pools := rfl
@[simp] theorem State.setTag_hqueues (s : State) (r : Nat) (x : Tags) : (s.setTag r x).hqueues = s.hqueues := rfl
@[simp] theorem State.setTag_hqp (s : State) (r : Nat) (x : Tags) : (s.setTag r x).hqp = s.hqp := rfl
@[simp] theorem State.setTag_bars (s : State) (r : Nat) (x : Tags) : (s.setTag r x).bars = s.bars := rfl
@[simp] theorem State.setTag_arrivals (s : State) (r : Nat) (x : Tags) : (s.setTag r x).arrivals = s.arrivals := rfl
@[simp] theorem State.setTag_chain (s : State) (r : Nat) (x : Tags) : (s.setTag r x).chain = s.chain := rfl
@[simp] theorem State.setTag_scripts (s : State) (r : Nat) (x : Tags) : (s.setTag r x).scripts = s.scripts := rfl
@[simp] theorem State.setTag_marks (s : State) (r : Nat) (x : Tags) : (s.setTag r x).marks = s.marks := rfl
@[simp] theorem State.setTag_fronds (s : State) (r : Nat) (x : Tags) : (s.setTag r x).fronds = s.fronds := rfl
@[simp] theorem State.setTag_ports (s : State) (r : Nat) (x : Tags) : (s.setTag r x).ports = s.ports := rfl
@[simp] theorem State.setTag_streams (s : State) (r : Nat) (x : Tags) : (s.setTag r x).streams = s.streams := rfl
@[simp] theorem State.setTag_i2c (s : State) (r : Nat) (x : Tags) : (s.setTag r x).i2c = s.i2c := rfl
@[simp] theorem State.setTag_fsync (s : State) (r : Nat) (x : Tags) : (s.setTag r x).fsync = s.fsync := rfl
@[simp] theorem State.setTag_trig (s : State) (r : Nat) (x : Tags) : (s.setTag r x).trig = s.trig := rfl
@[simp] theorem State.setTag_sa (s : State) (r : Nat) (x : Tags) : (s.setTag r x).sa = s.sa := rfl
@[simp] theorem State.setTag_prompt (s : State) (r : Nat) (x : Tags) : (s.setTag r x).prompt = s.prompt := rfl
@[simp] theorem State.setTag_timeHi (s : State) (r : Nat) (x : Tags) : (s.setTag r x).timeHi = s.timeHi := rfl

/-! ### suppress -/

@[simp] theorem State.suppress_pending (s : State) (code n : Nat) : (s.suppress code n).pending = s.pending := rfl
@[simp] theorem State.suppress_regs (s : State) (code n : Nat) : (s.suppress code n).regs = s.regs := rfl
@[simp] theorem State.suppress_mem (s : State) (code n : Nat) : (s.suppress code n).mem = s.mem := rfl
@[simp] theorem State.suppress_freeTick (s : State) (code n : Nat) : (s.suppress code n).freeTick = s.freeTick := rfl
@[simp] theorem State.suppress_coreMap (s : State) (code n : Nat) : (s.suppress code n).coreMap = s.coreMap := rfl
@[simp] theorem State.suppress_switching (s : State) (code n : Nat) : (s.suppress code n).switching = s.switching := rfl
@[simp] theorem State.suppress_waiting (s : State) (code n : Nat) : (s.suppress code n).waiting = s.waiting := rfl
@[simp] theorem State.suppress_tags (s : State) (code n : Nat) : (s.suppress code n).tags = s.tags := rfl
@[simp] theorem State.suppress_time (s : State) (code n : Nat) : (s.suppress code n).time = s.time := rfl
@[simp] theorem State.suppress_cueq (s : State) (code n : Nat) : (s.suppress code n).cueq = s.cueq := rfl
@[simp] theorem State.suppress_noc (s : State) (code n : Nat) : (s.suppress code n).noc = s.noc := rfl
@[simp] theorem State.suppress_wings (s : State) (code n : Nat) : (s.suppress code n).wings = s.wings := rfl
@[simp] theorem State.suppress_events (s : State) (code n : Nat) : (s.suppress code n).events = s.events := rfl
@[simp] theorem State.suppress_power (s : State) (code n : Nat) : (s.suppress code n).power = s.power := rfl
@[simp] theorem State.suppress_sec (s : State) (code n : Nat) : (s.suppress code n).sec = s.sec := rfl
@[simp] theorem State.suppress_host (s : State) (code n : Nat) : (s.suppress code n).host = s.host := rfl
@[simp] theorem State.suppress_usb (s : State) (code n : Nat) : (s.suppress code n).usb = s.usb := rfl
@[simp] theorem State.suppress_links (s : State) (code n : Nat) : (s.suppress code n).links = s.links := rfl
@[simp] theorem State.suppress_reports (s : State) (code n : Nat) : (s.suppress code n).reports = s.reports := rfl
@[simp] theorem State.suppress_reh (s : State) (code n : Nat) : (s.suppress code n).reh = s.reh := rfl
@[simp] theorem State.suppress_smb (s : State) (code n : Nat) : (s.suppress code n).smb = s.smb := rfl
@[simp] theorem State.suppress_tap (s : State) (code n : Nat) : (s.suppress code n).tap = s.tap := rfl
@[simp] theorem State.suppress_sb (s : State) (code n : Nat) : (s.suppress code n).sb = s.sb := rfl
@[simp] theorem State.suppress_banks (s : State) (code n : Nat) : (s.suppress code n).banks = s.banks := rfl
@[simp] theorem State.suppress_caches (s : State) (code n : Nat) : (s.suppress code n).caches = s.caches := rfl
@[simp] theorem State.suppress_ecc (s : State) (code n : Nat) : (s.suppress code n).ecc = s.ecc := rfl
@[simp] theorem State.suppress_writeBacks (s : State) (code n : Nat) : (s.suppress code n).writeBacks = s.writeBacks := rfl
@[simp] theorem State.suppress_remotes (s : State) (code n : Nat) : (s.suppress code n).remotes = s.remotes := rfl
@[simp] theorem State.suppress_remoteCount (s : State) (code n : Nat) : (s.suppress code n).remoteCount = s.remoteCount := rfl
@[simp] theorem State.suppress_dma (s : State) (code n : Nat) : (s.suppress code n).dma = s.dma := rfl
@[simp] theorem State.suppress_hub (s : State) (code n : Nat) : (s.suppress code n).hub = s.hub := rfl
@[simp] theorem State.suppress_resv (s : State) (code n : Nat) : (s.suppress code n).resv = s.resv := rfl
@[simp] theorem State.suppress_vpp (s : State) (code n : Nat) : (s.suppress code n).vpp = s.vpp := rfl
@[simp] theorem State.suppress_pools (s : State) (code n : Nat) : (s.suppress code n).pools = s.pools := rfl
@[simp] theorem State.suppress_hqueues (s : State) (code n : Nat) : (s.suppress code n).hqueues = s.hqueues := rfl
@[simp] theorem State.suppress_hqp (s : State) (code n : Nat) : (s.suppress code n).hqp = s.hqp := rfl
@[simp] theorem State.suppress_bars (s : State) (code n : Nat) : (s.suppress code n).bars = s.bars := rfl
@[simp] theorem State.suppress_arrivals (s : State) (code n : Nat) : (s.suppress code n).arrivals = s.arrivals := rfl
@[simp] theorem State.suppress_chain (s : State) (code n : Nat) : (s.suppress code n).chain = s.chain := rfl
@[simp] theorem State.suppress_scripts (s : State) (code n : Nat) : (s.suppress code n).scripts = s.scripts := rfl
@[simp] theorem State.suppress_marks (s : State) (code n : Nat) : (s.suppress code n).marks = s.marks := rfl
@[simp] theorem State.suppress_fronds (s : State) (code n : Nat) : (s.suppress code n).fronds = s.fronds := rfl
@[simp] theorem State.suppress_ports (s : State) (code n : Nat) : (s.suppress code n).ports = s.ports := rfl
@[simp] theorem State.suppress_streams (s : State) (code n : Nat) : (s.suppress code n).streams = s.streams := rfl
@[simp] theorem State.suppress_i2c (s : State) (code n : Nat) : (s.suppress code n).i2c = s.i2c := rfl
@[simp] theorem State.suppress_fsync (s : State) (code n : Nat) : (s.suppress code n).fsync = s.fsync := rfl
@[simp] theorem State.suppress_trig (s : State) (code n : Nat) : (s.suppress code n).trig = s.trig := rfl
@[simp] theorem State.suppress_sa (s : State) (code n : Nat) : (s.suppress code n).sa = s.sa := rfl
@[simp] theorem State.suppress_prompt (s : State) (code n : Nat) : (s.suppress code n).prompt = s.prompt := rfl
@[simp] theorem State.suppress_timeHi (s : State) (code n : Nat) : (s.suppress code n).timeHi = s.timeHi := rfl

/-! ### reply -/

@[simp] theorem State.reply_pending (s : State) (r : Reply) : (s.reply r).pending = s.pending := rfl
@[simp] theorem State.reply_regs (s : State) (r : Reply) : (s.reply r).regs = s.regs := rfl
@[simp] theorem State.reply_mem (s : State) (r : Reply) : (s.reply r).mem = s.mem := rfl
@[simp] theorem State.reply_freeTick (s : State) (r : Reply) : (s.reply r).freeTick = s.freeTick := rfl
@[simp] theorem State.reply_coreMap (s : State) (r : Reply) : (s.reply r).coreMap = s.coreMap := rfl
@[simp] theorem State.reply_switching (s : State) (r : Reply) : (s.reply r).switching = s.switching := rfl
@[simp] theorem State.reply_waiting (s : State) (r : Reply) : (s.reply r).waiting = s.waiting := rfl
@[simp] theorem State.reply_tags (s : State) (r : Reply) : (s.reply r).tags = s.tags := rfl
@[simp] theorem State.reply_time (s : State) (r : Reply) : (s.reply r).time = s.time := rfl
@[simp] theorem State.reply_cueq (s : State) (r : Reply) : (s.reply r).cueq = s.cueq := rfl
@[simp] theorem State.reply_noc (s : State) (r : Reply) : (s.reply r).noc = s.noc := rfl
@[simp] theorem State.reply_wings (s : State) (r : Reply) : (s.reply r).wings = s.wings := rfl
@[simp] theorem State.reply_lichen (s : State) (r : Reply) : (s.reply r).lichen = s.lichen := rfl
@[simp] theorem State.reply_events (s : State) (r : Reply) : (s.reply r).events = s.events := rfl
@[simp] theorem State.reply_power (s : State) (r : Reply) : (s.reply r).power = s.power := rfl
@[simp] theorem State.reply_sec (s : State) (r : Reply) : (s.reply r).sec = s.sec := rfl
@[simp] theorem State.reply_usb (s : State) (r : Reply) : (s.reply r).usb = s.usb := rfl
@[simp] theorem State.reply_links (s : State) (r : Reply) : (s.reply r).links = s.links := rfl
@[simp] theorem State.reply_reports (s : State) (r : Reply) : (s.reply r).reports = s.reports := rfl
@[simp] theorem State.reply_reh (s : State) (r : Reply) : (s.reply r).reh = s.reh := rfl
@[simp] theorem State.reply_smb (s : State) (r : Reply) : (s.reply r).smb = s.smb := rfl
@[simp] theorem State.reply_tap (s : State) (r : Reply) : (s.reply r).tap = s.tap := rfl
@[simp] theorem State.reply_sb (s : State) (r : Reply) : (s.reply r).sb = s.sb := rfl
@[simp] theorem State.reply_banks (s : State) (r : Reply) : (s.reply r).banks = s.banks := rfl
@[simp] theorem State.reply_caches (s : State) (r : Reply) : (s.reply r).caches = s.caches := rfl
@[simp] theorem State.reply_ecc (s : State) (r : Reply) : (s.reply r).ecc = s.ecc := rfl
@[simp] theorem State.reply_writeBacks (s : State) (r : Reply) : (s.reply r).writeBacks = s.writeBacks := rfl
@[simp] theorem State.reply_remotes (s : State) (r : Reply) : (s.reply r).remotes = s.remotes := rfl
@[simp] theorem State.reply_remoteCount (s : State) (r : Reply) : (s.reply r).remoteCount = s.remoteCount := rfl
@[simp] theorem State.reply_dma (s : State) (r : Reply) : (s.reply r).dma = s.dma := rfl
@[simp] theorem State.reply_hub (s : State) (r : Reply) : (s.reply r).hub = s.hub := rfl
@[simp] theorem State.reply_resv (s : State) (r : Reply) : (s.reply r).resv = s.resv := rfl
@[simp] theorem State.reply_vpp (s : State) (r : Reply) : (s.reply r).vpp = s.vpp := rfl
@[simp] theorem State.reply_pools (s : State) (r : Reply) : (s.reply r).pools = s.pools := rfl
@[simp] theorem State.reply_hqueues (s : State) (r : Reply) : (s.reply r).hqueues = s.hqueues := rfl
@[simp] theorem State.reply_hqp (s : State) (r : Reply) : (s.reply r).hqp = s.hqp := rfl
@[simp] theorem State.reply_bars (s : State) (r : Reply) : (s.reply r).bars = s.bars := rfl
@[simp] theorem State.reply_arrivals (s : State) (r : Reply) : (s.reply r).arrivals = s.arrivals := rfl
@[simp] theorem State.reply_chain (s : State) (r : Reply) : (s.reply r).chain = s.chain := rfl
@[simp] theorem State.reply_scripts (s : State) (r : Reply) : (s.reply r).scripts = s.scripts := rfl
@[simp] theorem State.reply_marks (s : State) (r : Reply) : (s.reply r).marks = s.marks := rfl
@[simp] theorem State.reply_fronds (s : State) (r : Reply) : (s.reply r).fronds = s.fronds := rfl
@[simp] theorem State.reply_ports (s : State) (r : Reply) : (s.reply r).ports = s.ports := rfl
@[simp] theorem State.reply_streams (s : State) (r : Reply) : (s.reply r).streams = s.streams := rfl
@[simp] theorem State.reply_i2c (s : State) (r : Reply) : (s.reply r).i2c = s.i2c := rfl
@[simp] theorem State.reply_fsync (s : State) (r : Reply) : (s.reply r).fsync = s.fsync := rfl
@[simp] theorem State.reply_trig (s : State) (r : Reply) : (s.reply r).trig = s.trig := rfl
@[simp] theorem State.reply_sa (s : State) (r : Reply) : (s.reply r).sa = s.sa := rfl
@[simp] theorem State.reply_prompt (s : State) (r : Reply) : (s.reply r).prompt = s.prompt := rfl
@[simp] theorem State.reply_timeHi (s : State) (r : Reply) : (s.reply r).timeHi = s.timeHi := rfl

/-! ### Registers -/

theorem State.reg_setReg_other (s : State) {a b : Nat} (w : Word) (h : b ≠ a) : (s.setReg a w).reg b = s.reg b :=
  Cells.get_set_other regReset s.regs w h

theorem State.reg_setReg_same (s : State) (a : Nat) (w : Word) (h : Cells.wf regReset s.regs = true) : (s.setReg a w).reg a = w :=
  Cells.get_set_same regReset s.regs a w h

theorem State.reg_setFld_other (s : State) {a b : Nat} (f : Fld) (v : Nat) (h : b ≠ a) : (s.setFld a f v).reg b = s.reg b :=
  State.reg_setReg_other s _ h

theorem State.reg_countBy_other (s : State) {a b : Nat} (f : Fld) (n : Nat) (h : b ≠ a) : (s.countBy a f n).reg b = s.reg b :=
  State.reg_setReg_other s _ h

theorem State.reg_count_other (s : State) {a b : Nat} (h : b ≠ a) : (s.count a).reg b = s.reg b :=
  State.reg_setReg_other s _ h

/-- A field reads what was written to it. -/
theorem State.fld_setFld_same (s : State) (a : Nat) (f : Fld) (v : Nat) (hc : Cells.wf regReset s.regs = true)
    (hw : f.lo ≤ f.hi) (h32 : f.hi < 32) : (s.setFld a f v).fld a f = v % 2 ^ f.width := by
  unfold State.fld State.setFld
  rw [State.reg_setReg_same s a _ hc, getF_setF_same _ f v hw h32]

/-- A write to one field leaves the other fields of its register alone. -/
theorem State.fld_setFld_other (s : State) (a : Nat) (f g : Fld) (v : Nat) (hc : Cells.wf regReset s.regs = true)
    (hw : f.lo ≤ f.hi) (h32 : f.hi < 32) (hd : f.hi < g.lo ∨ g.hi < f.lo) : (s.setFld a f v).fld a g = s.fld a g := by
  unfold State.fld State.setFld
  rw [State.reg_setReg_same s a _ hc, getF_setF_other _ f g v hw h32 hd]

/-- A write to one register leaves the fields of every other alone. -/
theorem State.fld_setFld_elsewhere (s : State) {a b : Nat} (f g : Fld) (v : Nat) (h : b ≠ a) :
    (s.setFld a f v).fld b g = s.fld b g := by
  unfold State.fld; rw [State.reg_setFld_other s f v h]

theorem State.fld_setReg_other (s : State) {a b : Nat} (g : Fld) (w : Word) (h : b ≠ a) :
    (s.setReg a w).fld b g = s.fld b g := by
  unfold State.fld; rw [State.reg_setReg_other s w h]

theorem State.wf_setReg (s : State) (a : Nat) (w : Word) (h : Cells.wf regReset s.regs = true) :
    Cells.wf regReset (s.setReg a w).regs = true := Cells.wf_set regReset s.regs a w h

theorem State.wf_setFld (s : State) (a : Nat) (f : Fld) (v : Nat) (h : Cells.wf regReset s.regs = true) :
    Cells.wf regReset (s.setFld a f v).regs = true := Cells.wf_set regReset s.regs a _ h

/-- R500: a count rises, and saturates at the all-ones value of its field. -/
theorem State.fld_countBy (s : State) (a : Nat) (f : Fld) (n : Nat) (hc : Cells.wf regReset s.regs = true)
    (hw : f.lo ≤ f.hi) (h32 : f.hi < 32) : (s.countBy a f n).fld a f = min (s.fld a f + n) f.max := by
  unfold State.countBy
  rw [State.fld_setFld_same s a f _ hc hw h32]
  apply Nat.mod_eq_of_lt
  have : 0 < 2 ^ f.width := Nat.two_pow_pos _
  simp only [Fld.max]; omega

/-! ### Memory -/

theorem State.byte_setByte_same (s : State) (k : Nat) (v : Byte) (h : Memory.wf s.mem = true) : (s.setByte k v).byte k = v :=
  Cells.get_set_same blankByte s.mem k v h

theorem State.byte_setByte_other (s : State) {k j : Nat} (v : Byte) (h : j ≠ k) : (s.setByte k v).byte j = s.byte j :=
  Cells.get_set_other blankByte s.mem v h

/-- Every memory operation is built of byte writes and of dropping ranges, and keeps the canonical form. -/
theorem State.wf_setByte (s : State) (k : Nat) (v : Byte) (h : Memory.wf s.mem = true) : Memory.wf (s.setByte k v).mem = true :=
  Cells.wf_set blankByte s.mem k v h

theorem State.wf_setBytes (s : State) (k : Nat) (b : List Byte) (h : Memory.wf s.mem = true) :
    Memory.wf (s.setBytes k b).mem = true := by
  induction b generalizing s k with
  | nil => exact h
  | cons x b ih => exact ih _ _ (State.wf_setByte s k x h)

theorem State.byte_setBytes_other (s : State) (k : Nat) (b : List Byte) (j : Nat) (h : j < k ∨ k + b.length ≤ j) :
    (s.setBytes k b).byte j = s.byte j := by
  induction b generalizing s k with
  | nil => rfl
  | cons x b ih =>
    rw [State.setBytes, ih _ _ (by simp only [List.length_cons] at h; omega),
      State.byte_setByte_other s x (by simp only [List.length_cons] at h; omega)]

/-- Writing bytes changes memory and nothing else. -/
theorem State.setBytes_eq (s : State) (k : Nat) (b : List Byte) : s.setBytes k b = { s with mem := (s.setBytes k b).mem } := by
  induction b generalizing s k with
  | nil => rfl
  | cons x b ih =>
    show ((s.setByte k x).setBytes (k + 1) b) = _
    rw [ih (s.setByte k x) (k + 1)]; rfl

end Sys2Proof.Machine
end

