-- ==== Sys2Proof/Laws/Ops.lean ====
section
/-!
SUPPORT. What the operations that units share can do: a Lichen record, a host event, the firing of a cue.
-/
namespace Sys2Proof.Machine

/-! ### Frames -/

theorem SameRegs.refl (l : List Nat) (s : State) : SameRegs l s s := fun _ _ => rfl

theorem SameRegs.trans {l m : List Nat} {s t u : State} (h : SameRegs l s t) (k : SameRegs m t u) : SameRegs (l ++ m) s u :=
  fun a ha => by
    rw [List.mem_append, not_or] at ha
    rw [k a ha.2, h a ha.1]

theorem SameRegs.mono {l m : List Nat} {s t : State} (h : SameRegs l s t) (hs : ∀ a ∈ l, a ∈ m) : SameRegs m s t :=
  fun a ha => h a (fun hl => ha (hs a hl))

theorem sameRegs_setReg (s : State) (a : Nat) (w : Word) : SameRegs [a] s (s.setReg a w) :=
  fun b hb => State.reg_setReg_other s w (by simpa using hb)

theorem sameRegs_setFld (s : State) (a : Nat) (f : Fld) (v : Nat) : SameRegs [a] s (s.setFld a f v) :=
  sameRegs_setReg s a _

theorem SameBytesBut.refl (k n : Nat) (s : State) : SameBytesBut k n s s := fun _ _ => rfl

theorem SameBytesBut.trans {k n : Nat} {s t u : State} (h : SameBytesBut k n s t) (g : SameBytesBut k n t u) : SameBytesBut k n s u :=
  fun j hj => by rw [g j hj, h j hj]

theorem sameBytesBut_setBytes (s : State) (k : Nat) (b : List Byte) : SameBytesBut k b.length s (s.setBytes k b) :=
  fun j hj => State.byte_setBytes_other s k b j hj

/-! ### Lichen records -/

theorem Recorded.refl (s : State) : Recorded s s := ⟨rfl, SameRegs.refl _ s, SameBytesBut.refl _ _ s⟩

theorem Recorded.trans {s t u : State} (h : Recorded s t) (k : Recorded t u) : Recorded s u := by
  refine ⟨?_, fun a ha => by rw [k.regs a ha, h.regs a ha], h.bytes.trans k.bytes⟩
  have h1 := h.rest
  have h2 := k.rest
  rw [h1] at h2
  exact h2

/-- A change of the recorder alone. -/
theorem recorded_lichen (s : State) (x : LichenState) : Recorded s { s with lichen := x } :=
  ⟨rfl, fun _ _ => rfl, fun _ _ => rfl⟩

theorem recorded_suppress (s : State) (code n : Nat) : Recorded s (s.suppress code n) := recorded_lichen s _

theorem recorded_suppressQueue (s : State) (l : List LichenReq) : Recorded s (s.suppressQueue l) := by
  induction l generalizing s with
  | nil => exact Recorded.refl s
  | cons r l ih => exact (recorded_suppress s r.code 1).trans (ih _)

theorem recorded_alert (s : State) (b : Nat) : Recorded s (s.alert b) :=
  ⟨rfl, fun a ha => State.reg_setReg_other s _ (by simpa using ha), fun _ _ => rfl⟩

@[simp] theorem lichenBytes_length (code flags commit seq seconds cycles supp p0 p1 p2 p3 : Nat) :
    (lichenBytes code flags commit seq seconds cycles supp p0 p1 p2 p3).length = 32 := rfl

/-- 32 bytes written to a slot of the recorder. -/
theorem recorded_slot (s : State) (n : Nat) (b : List Byte) (hn : n < 131072) (hb : b.length = 32) :
    Recorded s (s.setBytes (lichenPlace n) b) := by
  refine ⟨?_, fun a _ => ?_, fun j hj => ?_⟩
  · rw [State.setBytes_eq]
  · rw [State.setBytes_eq]; rfl
  · apply State.byte_setBytes_other
    simp only [norPlace, lichenPlace] at *
    omega

theorem recorded_writeSummaries (s : State) (limit : Nat) (lose : Bool) (l : Cells Nat) (hl : limit ≤ 131072) :
    Recorded s (s.writeSummaries limit lose l) := by
  induction l generalizing s with
  | nil => exact Recorded.refl s
  | cons p l ih =>
    obtain ⟨code, n⟩ := p
    unfold State.writeSummaries
    simp only
    split
    · exact ((recorded_slot s _ _ (by omega) (by simp)).trans (recorded_lichen _ _)).trans (ih _)
    · split
      · exact (recorded_lichen s _).trans (ih _)
      · exact ih s

theorem recorded_endArea (s : State) : Recorded s s.endArea := by
  unfold State.endArea
  dsimp only
  refine Recorded.trans ?_ (recorded_alert _ 5)
  refine Recorded.trans ?_ (recorded_lichen _ _)
  refine Recorded.trans ?_ (recorded_slot _ 131071 _ (by omega) (lichenBytes_length ..))
  refine Recorded.trans ?_ (recorded_writeSummaries _ 131071 true _ (by omega))
  exact (recorded_suppressQueue s _).trans (recorded_lichen _ _)

theorem recorded_lichenReq (s : State) (hw ongoing : Bool) (code p0 p1 p2 p3 : Nat) :
    Recorded s (s.lichenReq hw ongoing code p0 p1 p2 p3).1 := by
  unfold State.lichenReq
  simp only
  split
  · exact recorded_lichen s _
  · split
    · exact ((recorded_suppress s code 1).trans (recorded_lichen _ _)).trans (recorded_endArea _)
    · split
      · exact recorded_suppress s code 1
      · split
        · exact recorded_suppress s code 1
        · exact recorded_lichen s _

/-- A record that firmware requests. -/
theorem recorded_lichenFw (s : State) (code p0 p1 p2 p3 : Nat) : Recorded s (s.lichenFw code p0 p1 p2 p3) :=
  recorded_lichenReq s false false code p0 p1 p2 p3

/-- A record that hardware requests. -/
theorem recorded_lichenHw (s : State) (code p0 p1 p2 p3 : Nat) : Recorded s (s.lichenHw code p0 p1 p2 p3) :=
  recorded_lichenReq s true false code p0 p1 p2 p3

/-! ### Host events -/

theorem posted_postEvent (s : State) (code source index param : Nat) :
    Posted code source index param s (s.postEvent code source index param) := by
  unfold State.postEvent
  simp only
  split
  · split
    · refine ⟨rfl, fun a ha => ?_, fun h => absurd ‹_› h⟩
      exact State.reg_setReg_other s _ (by simp at ha; exact ha.1)
    · refine ⟨rfl, fun a ha => ?_, fun h => absurd ‹_› h⟩
      exact State.reg_setReg_other s _ (by simp at ha; exact ha.2)
  · exact ⟨rfl, fun _ _ => rfl, fun _ => ⟨rfl, rfl⟩⟩

/-! ### Cues -/

/-- A cue fires: the head entry is taken and its action has its effect. -/
theorem State.fire_some {s : State} {q : QueueId} {op : Nat} {e : CueEntry} {eff : CueEntry → State → Option State} {t : State}
    (h : s.firing q op = some e) (he : eff e (s.taken q e) = some t) : s.fire q op eff = t := by
  unfold State.fire
  rw [h]
  show (eff e (s.taken q e)).getD s = t
  rw [he]; rfl

/-- A cue whose target is busy stays. -/
theorem State.fire_busy {s : State} {q : QueueId} {op : Nat} {e : CueEntry} {eff : CueEntry → State → Option State}
    (h : s.firing q op = some e) (he : eff e (s.taken q e) = none) : s.fire q op eff = s := by
  unfold State.fire
  rw [h]
  show (eff e (s.taken q e)).getD s = s
  rw [he]; rfl

end Sys2Proof.Machine
end

