-- ==== Sys2Proof/Laws/Keeps.lean ====
section
/-!
SUPPORT. What every command keeps: the queue, the canonical form, cue time and the fuses. One lemma per operation and per command,
in the files that follow: where the state `s` has come from `s0`, the state after the operation has.
-/
namespace Sys2Proof.Machine

/-- The queue is as it was, the canonical form is kept, cue time has not gone back, and no fuse is restored. -/
structure Keeps (s t : State) : Prop where
  pending : t.pending = s.pending
  canon : s.canon → t.canon
  now : s.time.now ≤ t.time.now
  fuses : FusesRise s t

/-! ### The relation -/

theorem FusesRise.refl (s : State) : FusesRise s s := ⟨fun _ h => h, Nat.le_refl _, fun _ h => h⟩

theorem FusesRise.trans {s t u : State} (h : FusesRise s t) (k : FusesRise t u) : FusesRise s u :=
  ⟨fun n x => k.blown n (h.blown n x), Nat.le_trans h.rollback k.rollback, fun n x => k.revoked n (h.revoked n x)⟩

theorem FusesRise.same {s t : State} (h : t.sec.blown = s.sec.blown) (h2 : t.sec.rollback = s.sec.rollback)
    (h3 : t.sec.revoked = s.sec.revoked) : FusesRise s t := by
  refine ⟨fun n x => ?_, ?_, fun n x => ?_⟩
  · rw [h]; exact x
  · rw [h2]
  · rw [h3]; exact x

theorem Keeps.refl (s : State) : Keeps s s := ⟨rfl, id, Nat.le_refl _, FusesRise.refl s⟩

theorem Keeps.trans {s t u : State} (h : Keeps s t) (k : Keeps t u) : Keeps s u :=
  ⟨k.pending.trans h.pending, fun x => k.canon (h.canon x), Nat.le_trans h.now k.now, h.fuses.trans k.fuses⟩

/-! ### The results of operations -/

/-- A next state has come from `s0`. -/
def KeepsOut (s0 : State) (o : Out) : Prop := ∀ t, o = .next t → Keeps s0 t

/-- A state that is there has come from `s0`. -/
def KeepsOpt (s0 : State) (o : Option State) : Prop := ∀ t, o = some t → Keeps s0 t

/-- A state that is there with a result has come from `s0`. -/
def KeepsOptP {α : Type} (s0 : State) (o : Option (α × State)) : Prop := ∀ x t, o = some (x, t) → Keeps s0 t

/-- A state that is no error has come from `s0`. -/
def KeepsExc {ε : Type} (s0 : State) (o : Except ε State) : Prop := ∀ t, o = .ok t → Keeps s0 t

/-- The state that a host command leaves has come from `s0`. -/
def KeepsRes (s0 : State) (r : CmdRes) : Prop := Keeps s0 r.s

/-- The state that a Prompter operation leaves has come from `s0`. -/
def KeepsPr (s0 : State) : PromptRes → Prop
  | .ok t => Keeps s0 t
  | .go t _ => Keeps s0 t
  | _ => True

/-- The state that staging leaves has come from `s0`. -/
def KeepsStg (s0 : State) (r : Staging) : Prop := ∀ t v, r = .ok t v → Keeps s0 t

theorem KeepsOut.next {s0 t : State} (h : Keeps s0 t) : KeepsOut s0 (.next t) := by intro u e; cases e; exact h

theorem KeepsOut.fault (s0 : State) (f : Fault) : KeepsOut s0 (.fault f) := by intro u e; cases e

theorem KeepsOut.refused (s0 : State) (f : Refusal) : KeepsOut s0 (.refused f) := by intro u e; cases e

theorem KeepsOut.ite {c : Prop} [Decidable c] {s : State} {a b : Out} (ha : KeepsOut s a)
    (hb : KeepsOut s b) : KeepsOut s (if c then a else b) := by
  split <;> assumption

theorem KeepsOpt.none (s0 : State) : KeepsOpt s0 none := by intro u e; cases e

theorem KeepsOpt.some {s0 t : State} (h : Keeps s0 t) : KeepsOpt s0 (some t) := by intro u e; cases e; exact h

theorem KeepsOpt.ite {c : Prop} [Decidable c] {s : State} {a b : Option State} (ha : KeepsOpt s a)
    (hb : KeepsOpt s b) : KeepsOpt s (if c then a else b) := by
  split <;> assumption

theorem KeepsOpt.map {s0 : State} {o : Option State} {f : State → State} (h : KeepsOpt s0 o)
    (hf : ∀ u, Keeps s0 u → Keeps s0 (f u)) : KeepsOpt s0 (o.map f) := by
  cases o with
  | none => exact KeepsOpt.none _
  | some t => exact KeepsOpt.some (hf t (h t rfl))

theorem KeepsOpt.bind {s0 : State} {o : Option State} {f : State → Option State} (h : KeepsOpt s0 o)
    (hf : ∀ u, Keeps s0 u → KeepsOpt s0 (f u)) : KeepsOpt s0 (o.bind f) := by
  cases o with
  | none => exact KeepsOpt.none _
  | some t => exact hf t (h t rfl)

theorem KeepsOpt.bindAny {α : Type} {s0 : State} {o : Option α} {f : α → Option State} 
    (hf : ∀ u, KeepsOpt s0 (f u)) : KeepsOpt s0 (o.bind f) := by
  cases o with
  | none => exact KeepsOpt.none _
  | some t => exact hf t

theorem KeepsOpt.getD {s0 s : State} {o : Option State} (h : KeepsOpt s0 o) (hs : Keeps s0 s) : Keeps s0 (o.getD s) := by
  cases o with
  | none => exact hs
  | some t => exact h t rfl

theorem KeepsOpt.get {s t : State} (h : KeepsOpt s (Option.some t)) : Keeps s t := h t rfl

theorem KeepsOpt.foldl {α : Type} {f : Option State → α → Option State} {s : State} {p : Option State} (l : List α)
    (h : KeepsOpt s p)
    (hf : ∀ r x, KeepsOpt s r → KeepsOpt s (f r x)) : KeepsOpt s (l.foldl f p) := by
  induction l generalizing p with
  | nil => exact h
  | cons x l ih => exact ih (hf p x h)

theorem KeepsOptP.some {α : Type} {s0 t : State} {x : α}
    (h : Keeps s0 t) : KeepsOptP s0 (some (x, t)) := by intro y u e; cases e; exact h

theorem KeepsOptP.none {α : Type} (s0 : State) : KeepsOptP (α := α) s0 none := by intro y u e; cases e

theorem KeepsOptP.findSome {α β : Type} {f : α → Option (β × State)} {s : State} (l : List α)
    (hf : ∀ x, KeepsOptP s (f x)) : KeepsOptP s (l.findSome? f) := by
  induction l with
  | nil => exact KeepsOptP.none s
  | cons x l ih =>
    intro y t e
    rw [List.findSome?_cons] at e
    split at e
    · rename_i q hq; cases e; exact hf x y t hq
    · exact ih y t e

theorem KeepsOptP.map {α β : Type} {g : α → β × State} {s : State} {o : Option α}
    (hf : ∀ x, Keeps s (g x).2) : KeepsOptP s (o.map g) := by
  cases o with
  | none => exact KeepsOptP.none s
  | some x =>
    intro y t e
    have e2 : g x = (y, t) := Option.some.inj e
    have k := hf x; rw [e2] at k; exact k

theorem KeepsExc.ok {ε : Type} {s0 t : State}
    (h : Keeps s0 t) : KeepsExc (ε := ε) s0 (.ok t) := by intro u e; cases e; exact h

theorem KeepsExc.error {ε : Type} (s0 : State) (x : ε) : KeepsExc s0 (.error x) := by intro u e; cases e

theorem KeepsExc.get {ε : Type} {s t : State} (h : KeepsExc (ε := ε) s (.ok t)) : Keeps s t := h t rfl

theorem KeepsExc.foldl {α ε : Type} {f : Except ε State → α → Except ε State} {s : State} {p : Except ε State} (l : List α)
    (h : KeepsExc s p)
    (hf : ∀ r x, KeepsExc s r → KeepsExc s (f r x)) : KeepsExc s (l.foldl f p) := by
  induction l generalizing p with
  | nil => exact h
  | cons x l ih => exact ih (hf p x h)

theorem KeepsRes.mk {s0 t : State} {a b c d} (h : Keeps s0 t) : KeepsRes s0 (CmdRes.mk t a b c d) := h

theorem KeepsRes.ite {c : Prop} [Decidable c] {s : State} {a b : CmdRes} (ha : KeepsRes s a)
    (hb : KeepsRes s b) : KeepsRes s (if c then a else b) := by
  split <;> assumption

theorem KeepsPr.ite {c : Prop} [Decidable c] {s : State} {a b : PromptRes} (ha : KeepsPr s a)
    (hb : KeepsPr s b) : KeepsPr s (if c then a else b) := by
  split <;> assumption

theorem KeepsPr.ok {s t : State} (h : Keeps s t) : KeepsPr s (.ok t) := h

theorem KeepsPr.go {s t : State} {n : Nat} (h : Keeps s t) : KeepsPr s (.go t n) := h

theorem KeepsPr.fault {s : State} : KeepsPr s .fault := trivial

theorem KeepsPr.waits {s : State} : KeepsPr s .waits := trivial

theorem KeepsStg.ok {s t : State} {v} (h : Keeps s t) : KeepsStg s (.ok t v) := by intro u w e; cases e; exact h

theorem KeepsStg.wrongState {s : State} : KeepsStg s .wrongState := by intro u w e; cases e

theorem KeepsStg.notPermitted {s : State} : KeepsStg s .notPermitted := by intro u w e; cases e

theorem KeepsStg.tooMany {s : State} : KeepsStg s .tooMany := by intro u w e; cases e

theorem KeepsStg.ite {c : Prop} [Decidable c] {s : State} {a b : Staging} (ha : KeepsStg s a)
    (hb : KeepsStg s b) : KeepsStg s (if c then a else b) := by
  split <;> assumption

/-! ### From a result to its state -/

theorem Keeps.ofOpt {s0 t : State} {o : Option State} (h : KeepsOpt s0 o) (e : o = some t) : Keeps s0 t := h t e

theorem Keeps.ofOptP {α : Type} {s0 t : State} {x : α} {o : Option (α × State)}
    (h : KeepsOptP s0 o) (e : o = some (x, t)) : Keeps s0 t := h x t e

theorem Keeps.ofExc {ε : Type} {s0 t : State} {o : Except ε State} (h : KeepsExc s0 o) (e : o = .ok t) : Keeps s0 t := h t e

theorem Keeps.ofStg {s0 t : State} {v} {o : Staging} (h : KeepsStg s0 o) (e : o = .ok t v) : Keeps s0 t := h t v e

theorem Keeps.ofPrOk {s0 t : State} {o : PromptRes} (h : KeepsPr s0 o) (e : o = .ok t) : Keeps s0 t := by rw [e] at h; exact h

theorem Keeps.ofPrGo {s0 t : State} {n : Nat} {o : PromptRes}
    (h : KeepsPr s0 o) (e : o = .go t n) : Keeps s0 t := by rw [e] at h; exact h

theorem Keeps.ofFst {s0 t : State} {α : Type} {p : State × α} {x : α}
    (h : Keeps s0 p.1) (e : p = (t, x)) : Keeps s0 t := by rw [e] at h; exact h

theorem Keeps.ofSnd {s0 t : State} {α : Type} {p : α × State} {x : α}
    (h : Keeps s0 p.2) (e : p = (x, t)) : Keeps s0 t := by rw [e] at h; exact h

theorem Keeps.ofMid {s0 t : State} {α β : Type} {p : α × State × β} {x : α} {y : β}
    (h : Keeps s0 p.2.1) (e : p = (x, t, y)) : Keeps s0 t := by rw [e] at h; exact h

theorem Keeps.ofThird {s0 t : State} {α β : Type} {p : α × β × State} {x : α} {y : β}
    (h : Keeps s0 p.2.2) (e : p = (x, y, t)) : Keeps s0 t := by rw [e] at h; exact h

theorem Keeps.res {s0 : State} {r : CmdRes} (h : KeepsRes s0 r) : Keeps s0 r.s := h

/-! ### Conditions and folds -/

theorem Keeps.ite {c : Prop} [Decidable c] {s a b : State} (ha : Keeps s a)
    (hb : Keeps s b) : Keeps s (if c then a else b) := by
  split <;> assumption

theorem Keeps.foldl {α : Type} {f : State → α → State} {s t : State} (l : List α) (h : Keeps s t)
    (hf : ∀ u x, Keeps s u → Keeps s (f u x)) : Keeps s (l.foldl f t) := by
  induction l generalizing t with
  | nil => exact h
  | cons x l ih => exact ih (hf t x h)

theorem Keeps.foldlFst {α β : Type} {f : State × β → α → State × β} {s : State} {p : State × β} (l : List α) (h : Keeps s p.1)
    (hf : ∀ r x, Keeps s r.1 → Keeps s (f r x).1) : Keeps s (l.foldl f p).1 := by
  induction l generalizing p with
  | nil => exact h
  | cons x l ih => exact ih (hf p x h)

theorem Keeps.foldlSnd {α β : Type} {f : β × State → α → β × State} {s : State} {p : β × State} (l : List α) (h : Keeps s p.2)
    (hf : ∀ r x, Keeps s r.2 → Keeps s (f r x).2) : Keeps s (l.foldl f p).2 := by
  induction l generalizing p with
  | nil => exact h
  | cons x l ih => exact ih (hf p x h)

theorem Keeps.foldlThird {α β γ : Type} {f : β × γ × State → α → β × γ × State} {s : State} {p : β × γ × State} (l :
    List α) (h : Keeps s p.2.2)
    (hf : ∀ r x, Keeps s r.2.2 → Keeps s (f r x).2.2) : Keeps s (l.foldl f p).2.2 := by
  induction l generalizing p with
  | nil => exact h
  | cons x l ih => exact ih (hf p x h)

/-! ### Changes of fields -/

/-- A state whose registers, memory and queue are those of `t`, whose cue time is not before, and whose fuses have not fallen. -/
theorem Keeps.upd {s0 t : State}
    {p0} {p1} {p2} {p3} {p4} {p5} {p6} {p7} {p8} {p9} {p10} {p11} {p12} {p13} {p14} {p15} {p16} {p17} {p18} {p19}
    {p20} {p21} {p22} {p23} {p24} {p25} {p26} {p27} {p28} {p29} {p30} {p31} {p32} {p33} {p34} {p35} {p36} {p37} {p38}
    {p39} {p40} {p41} {p42} {p43} {p44} {p45} {p46} {p47} {p48} {p49} {p50}
    (h : Keeps s0 t) (hp : p0 = t.pending) (hr : p1 = t.regs) (hm : p2 = t.mem) (ht : t.time.now ≤ p8.now)
    (hs : FusesRise t (State.mk
      p0 p1 p2 p3 p4 p5 p6 p7 p8 p9 p10 p11 p12 p13 p14 p15 p16 p17 p18 p19 p20 p21 p22 p23 p24 p25 p26 p27 p28 p29
      p30 p31 p32 p33 p34 p35 p36 p37 p38 p39 p40 p41 p42 p43 p44 p45 p46 p47 p48 p49 p50)) :
    Keeps s0 (State.mk
      p0 p1 p2 p3 p4 p5 p6 p7 p8 p9 p10 p11 p12 p13 p14 p15 p16 p17 p18 p19 p20 p21 p22 p23 p24 p25 p26 p27 p28 p29
      p30 p31 p32 p33 p34 p35 p36 p37 p38 p39 p40 p41 p42 p43 p44 p45 p46 p47 p48 p49 p50) :=
  h.trans ⟨hp, fun c => by unfold State.canon; dsimp only; rw [hr, hm]; exact c, ht, hs⟩

/-- A state whose registers, memory, queue, time and fuses are those of `t`. -/
theorem Keeps.updSame {s0 t : State}
    {p0} {p1} {p2} {p3} {p4} {p5} {p6} {p7} {p8} {p9} {p10} {p11} {p12} {p13} {p14} {p15} {p16} {p17} {p18} {p19}
    {p20} {p21} {p22} {p23} {p24} {p25} {p26} {p27} {p28} {p29} {p30} {p31} {p32} {p33} {p34} {p35} {p36} {p37} {p38}
    {p39} {p40} {p41} {p42} {p43} {p44} {p45} {p46} {p47} {p48} {p49} {p50}
    (h : Keeps s0 t) (hp : p0 = t.pending) (hr : p1 = t.regs) (hm : p2 = t.mem) (ht : p8 = t.time)
    (hs : p15 = t.sec) :
    Keeps s0 (State.mk
      p0 p1 p2 p3 p4 p5 p6 p7 p8 p9 p10 p11 p12 p13 p14 p15 p16 p17 p18 p19 p20 p21 p22 p23 p24 p25 p26 p27 p28 p29
      p30 p31 p32 p33 p34 p35 p36 p37 p38 p39 p40 p41 p42 p43 p44 p45 p46 p47 p48 p49 p50) :=
  h.trans ⟨hp, fun c => by unfold State.canon; dsimp only; rw [hr, hm]; exact c, by rw [ht], FusesRise.same (by rw [hs]) (by rw [hs]) (by rw [hs])⟩

/-- A state that has only some of the registers and of the memory of `t`. -/
theorem Keeps.updFilter {s0 t : State} {f g}
    {p0} {p1} {p2} {p3} {p4} {p5} {p6} {p7} {p8} {p9} {p10} {p11} {p12} {p13} {p14} {p15} {p16} {p17} {p18} {p19}
    {p20} {p21} {p22} {p23} {p24} {p25} {p26} {p27} {p28} {p29} {p30} {p31} {p32} {p33} {p34} {p35} {p36} {p37} {p38}
    {p39} {p40} {p41} {p42} {p43} {p44} {p45} {p46} {p47} {p48} {p49} {p50}
    (h : Keeps s0 t) (hp : p0 = t.pending) (hr : p1 = t.regs.filter f) (hm : p2 = t.mem.filter g) (ht : p8 = t.time)
    (hs : p15 = t.sec) :
    Keeps s0 (State.mk
      p0 p1 p2 p3 p4 p5 p6 p7 p8 p9 p10 p11 p12 p13 p14 p15 p16 p17 p18 p19 p20 p21 p22 p23 p24 p25 p26 p27 p28 p29
      p30 p31 p32 p33 p34 p35 p36 p37 p38 p39 p40 p41 p42 p43 p44 p45 p46 p47 p48 p49 p50) :=
  h.trans ⟨hp, fun c => by unfold State.canon; dsimp only; rw [hr, hm]; exact ⟨Cells.wf_filter _ _ _ c.1, Cells.wf_filter _ _ _ c.2⟩, by rw [ht], FusesRise.same (by rw [hs]) (by rw [hs]) (by rw [hs])⟩

theorem keeps_setReg {s0 s : State} (h : Keeps s0 s) {a : Nat} {w : Word} : Keeps s0 (s.setReg a w) :=
  h.trans ⟨rfl, fun c => ⟨Cells.wf_set _ _ _ _ c.1, c.2⟩, Nat.le_refl _, ⟨fun _ h => h, Nat.le_refl _, fun _ h => h⟩⟩

theorem keeps_setByte {s0 s : State} (h : Keeps s0 s) {k : Nat} {v : Byte} : Keeps s0 (s.setByte k v) :=
  h.trans ⟨rfl, fun c => ⟨c.1, Cells.wf_set _ _ _ _ c.2⟩, Nat.le_refl _, ⟨fun _ h => h, Nat.le_refl _, fun _ h => h⟩⟩

theorem bitOf_testBit (n i : Nat) : bitOf n i = n.testBit i := by
  rw [Nat.testBit_eq_decide_div_mod_eq]; unfold bitOf
  by_cases h : n / 2 ^ i % 2 = 1 <;> simp [h]

theorem bitOf_or (a b i : Nat) : bitOf (a ||| b) i = (bitOf a i || bitOf b i) := by
  rw [bitOf_testBit, bitOf_testBit, bitOf_testBit, Nat.testBit_or]

theorem TimeState.fastTick_now (t : TimeState) : t.now ≤ t.fastTick.now := by
  unfold TimeState.fastTick; split
  · exact Nat.le_succ _
  · exact Nat.le_refl _

end Sys2Proof.Machine
end

