-- ==== Sys2Proof/Laws/KeepsOps.lean ====
section
/-!
SUPPORT. What every operation and every command keeps (Keeps.lean): the shared operations, cue time, the stores, scoreboards, link messages and handle queues.
-/
namespace Sys2Proof.Machine

/-! ### Ops -/

theorem keeps_setFld {s0 s : State} (h : Keeps s0 s) {a1 : Nat} {a2 : Fld} {a3 : Nat} : Keeps s0 (s.setFld a1 a2 a3) := by
  unfold State.setFld
  try dsimp only
  repeat' (with_reducible first | assumption | refine keeps_setReg ?_)

theorem keeps_countBy {s0 s : State} (h : Keeps s0 s) {a1 : Nat} {a2 : Fld} {a3 : Nat} : Keeps s0 (s.countBy a1 a2 a3) := by
  unfold State.countBy
  try dsimp only
  repeat' (with_reducible first | assumption | refine keeps_setFld ?_)

theorem keeps_count {s0 s : State} (h : Keeps s0 s) {a1 : Nat} : Keeps s0 (s.count a1) := by
  unfold State.count
  try dsimp only
  repeat' (with_reducible first | assumption | refine keeps_countBy ?_)

theorem keeps_raiseInt {s0 s : State} (h : Keeps s0 s) {a1 a2 : Nat} : Keeps s0 (s.raiseInt a1 a2) := by
  unfold State.raiseInt
  try dsimp only
  repeat' (with_reducible first | assumption | refine keeps_setReg ?_)

theorem keeps_setLink {s0 s : State} (h : Keeps s0 s) {a1 : Nat} {a2 : LinkState} : Keeps s0 (s.setLink a1 a2) := by
  unfold State.setLink
  try dsimp only
  repeat' (with_reducible first | assumption | refine Keeps.updSame ?_ rfl rfl rfl rfl rfl)

theorem keeps_acceptWake {s0 s : State} (h : Keeps s0 s) {a1 : Nat} : Keeps s0 (s.acceptWake a1) := by
  unfold State.acceptWake
  try dsimp only
  repeat' (with_reducible first | assumption | refine keeps_setReg ?_ | refine Keeps.updSame ?_ rfl rfl rfl rfl rfl)

theorem keeps_setBytes {s0 s : State} (h : Keeps s0 s) {a1 : Nat} {a2 : List Byte} : Keeps s0 (s.setBytes a1 a2) := by
  induction a2 generalizing s a1 with
  | nil => exact h
  | cons x l ih => exact ih (keeps_setByte h)

theorem keeps_suppress {s0 s : State} (h : Keeps s0 s) {a1 a2 : Nat} : Keeps s0 (s.suppress a1 a2) := by
  unfold State.suppress
  try dsimp only
  repeat' (with_reducible first | assumption | refine Keeps.updSame ?_ rfl rfl rfl rfl rfl)

theorem keeps_suppressQueue {s0 s : State} (h : Keeps s0 s) {a1 : List LichenReq} : Keeps s0 (s.suppressQueue a1) := by
  induction a1 generalizing s with
  | nil => exact h
  | cons x l ih => exact ih (keeps_suppress h)

theorem keeps_writeSummaries {s0 s : State} (h : Keeps s0 s) {a1 : Nat} {a2 : Bool} {a3 : Cells Nat} :
    Keeps s0 (s.writeSummaries a1 a2 a3) := by
  induction a3 generalizing s  with
  | nil => exact h
  | cons x l ih =>
    obtain ⟨c, n⟩ := x
    rw [State.writeSummaries]
    try dsimp only
    repeat' (with_reducible first
        | assumption | refine keeps_setBytes ?_ | refine ih ?_ | refine Keeps.ite ?_ ?_
        | refine Keeps.updSame ?_ rfl rfl rfl rfl rfl)

theorem keeps_alert {s0 s : State} (h : Keeps s0 s) {a1 : Nat} : Keeps s0 (s.alert a1) := by
  unfold State.alert
  try dsimp only
  repeat' (with_reducible first | assumption | refine keeps_setReg ?_ | refine Keeps.updSame ?_ rfl rfl rfl rfl rfl)

theorem keeps_endArea {s0 s : State} (h : Keeps s0 s) : Keeps s0 (s.endArea) := by
  unfold State.endArea
  try dsimp only
  repeat' (with_reducible first
      | assumption | refine keeps_suppressQueue ?_ | refine keeps_writeSummaries ?_ | refine keeps_setBytes ?_
      | refine keeps_alert ?_ | refine Keeps.updSame ?_ rfl rfl rfl rfl rfl)

theorem keeps_lichenReq {s0 s : State} (h : Keeps s0 s) {a1 a2 : Bool} {a3 a4 : Nat} {a5 a6 a7 : Nat} :
    Keeps s0 (s.lichenReq a1 a2 a3 a4 a5 a6 a7).1 := by
  unfold State.lichenReq
  try dsimp only
  repeat' (first
      | (with_reducible first | assumption | refine keeps_suppress ?_ | refine keeps_endArea ?_)
      | dsimp only | split | with_reducible refine Keeps.updSame ?_ rfl rfl rfl rfl rfl)

theorem keeps_lichenFw {s0 s : State} (h : Keeps s0 s) {a1 a2 : Nat} {a3 a4 a5 : Nat} :
    Keeps s0 (s.lichenFw a1 a2 a3 a4 a5) := by
  unfold State.lichenFw
  try dsimp only
  repeat' (with_reducible first | assumption | refine keeps_lichenReq ?_)

theorem keeps_setTag {s0 s : State} (h : Keeps s0 s) {a1 : Nat} {a2 : Tags} : Keeps s0 (s.setTag a1 a2) := by
  unfold State.setTag
  try dsimp only
  repeat' (with_reducible first | assumption | refine Keeps.updSame ?_ rfl rfl rfl rfl rfl)

theorem keeps_setNum {s0 s : State} (h : Keeps s0 s) {a1 a2 a3 : Nat} : Keeps s0 (s.setNum a1 a2 a3) := by
  unfold State.setNum
  try dsimp only
  repeat' (with_reducible first | assumption | refine keeps_setBytes ?_)

theorem keeps_setCq {s0 s : State} (h : Keeps s0 s) {a1 : Nat} {a2 : CueQueue} : Keeps s0 (s.setCq a1 a2) := by
  unfold State.setCq
  try dsimp only
  repeat' (with_reducible first | assumption | refine Keeps.updSame ?_ rfl rfl rfl rfl rfl)

theorem keeps_lichenHw {s0 s : State} (h : Keeps s0 s) {a1 a2 : Nat} {a3 a4 a5 : Nat} :
    Keeps s0 (s.lichenHw a1 a2 a3 a4 a5) := by
  unfold State.lichenHw
  try dsimp only
  repeat' (with_reducible first | assumption | refine keeps_lichenReq ?_)

theorem keeps_countWrap {s0 s : State} (h : Keeps s0 s) {a1 : Nat} {a2 : Fld} : Keeps s0 (s.countWrap a1 a2) := by
  unfold State.countWrap
  try dsimp only
  repeat' (with_reducible first | assumption | refine keeps_setFld ?_)

theorem keeps_free {s0 s : State} (h : Keeps s0 s) {a0 : Type} {a2 : Nat → a0} : Keeps s0 (s.free a2).2 := by
  unfold State.free
  try dsimp only
  repeat' (with_reducible first | assumption | refine Keeps.updSame ?_ rfl rfl rfl rfl rfl)

theorem keeps_postEvent {s0 s : State} (h : Keeps s0 s) {a1 a2 : Nat} {a3 a4 : Nat} : Keeps s0 (s.postEvent a1 a2 a3 a4) := by
  unfold State.postEvent
  try dsimp only
  repeat' (with_reducible first
      | assumption | refine keeps_acceptWake ?_ | refine keeps_setFld ?_ | refine Keeps.ite ?_ ?_
      | refine Keeps.updSame ?_ rfl rfl rfl rfl rfl)

theorem keeps_fence {s0 s : State} (h : Keeps s0 s) {a1 : Nat} : Keeps s0 (s.fence a1) := by
  unfold State.fence
  try dsimp only
  repeat' (with_reducible first | assumption | refine Keeps.ite ?_ ?_ | refine Keeps.updSame ?_ rfl rfl rfl rfl rfl)

theorem keeps_setCluster {s0 s : State} (h : Keeps s0 s) {a1 : Nat} {a2 : ClusterPower} : Keeps s0 (s.setCluster a1 a2) := by
  unfold State.setCluster
  try dsimp only
  repeat' (with_reducible first | assumption | refine Keeps.updSame ?_ rfl rfl rfl rfl rfl)

theorem keeps_setWset {s0 s : State} (h : Keeps s0 s) {a1 : Nat} {a2 : WingsSet} : Keeps s0 (s.setWset a1 a2) := by
  unfold State.setWset
  try dsimp only
  repeat' (with_reducible first | assumption | refine Keeps.updSame ?_ rfl rfl rfl rfl rfl)

theorem keeps_setTime {s0 s : State} (h : Keeps s0 s) {a1 a2 : Nat} : Keeps s0 (s.setTime a1 a2) := by
  unfold State.setTime
  try dsimp only
  repeat' (with_reducible first | assumption | refine keeps_setReg ?_ | refine Keeps.updSame ?_ rfl rfl rfl rfl rfl)

theorem keeps_setWindow {s0 s : State} (h : Keeps s0 s) {a1 : Nat} {a2 : NocWindow} : Keeps s0 (s.setWindow a1 a2) := by
  unfold State.setWindow
  try dsimp only
  repeat' (with_reducible first | assumption | refine Keeps.updSame ?_ rfl rfl rfl rfl rfl)

theorem keeps_unfence {s0 s : State} (h : Keeps s0 s) {a1 : Nat} : Keeps s0 (s.unfence a1) := by
  unfold State.unfence
  try dsimp only
  repeat' (with_reducible first | assumption | refine Keeps.updSame ?_ rfl rfl rfl rfl rfl)

/-! ### CueTime -/

theorem keeps_loseAlign {s0 s : State} (h : Keeps s0 s) : Keeps s0 (s.loseAlign) := by
  unfold State.loseAlign
  try dsimp only
  repeat' (with_reducible first | assumption | refine keeps_setFld ?_ | refine Keeps.ite ?_ ?_)

theorem keeps_jumpTo {s0 s : State} (h : Keeps s0 s) {a1 : Nat} (hd : s.time.now ≤ a1) : Keeps s0 (s.jumpTo a1) := by
  unfold State.jumpTo
  try dsimp only
  repeat' (first
      | (with_reducible first
        | assumption | refine keeps_loseAlign ?_ | refine keeps_setFld ?_ | refine keeps_lichenFw ?_ | refine Keeps.ite ?_ ?_
        | refine Keeps.upd ?_ rfl rfl rfl ?_ ?_)
      | exact FusesRise.same rfl rfl rfl)

theorem keeps_hold {s0 s : State} (h : Keeps s0 s) {a1 : Nat} : Keeps s0 (s.hold a1) := by
  unfold State.hold
  try dsimp only
  repeat' (first
      | (with_reducible first
        | assumption | refine keeps_setFld ?_ | refine keeps_loseAlign ?_ | refine keeps_lichenFw ?_ | refine Keeps.ite ?_ ?_
        | refine Keeps.upd ?_ rfl rfl rfl ?_ ?_)
      | exact Nat.le_refl _ | exact FusesRise.same rfl rfl rfl)

theorem keeps_toAon {s0 s : State} (h : Keeps s0 s) : Keeps s0 (s.toAon) := by
  unfold State.toAon
  try dsimp only
  repeat' (first
      | (with_reducible first | assumption | refine keeps_setFld ?_ | refine Keeps.upd ?_ rfl rfl rfl ?_ ?_)
      | exact Nat.le_refl _ | exact FusesRise.same rfl rfl rfl)

theorem keeps_idleTick {s0 s : State} (h : Keeps s0 s) : Keeps s0 (s.idleTick) := by
  unfold State.idleTick
  try dsimp only
  repeat' (first
      | with_reducible assumption | exact TimeState.fastTick_now _ | with_reducible refine Keeps.upd ?_ rfl rfl rfl ?_ ?_
      | exact Nat.le_refl _ | exact FusesRise.same rfl rfl rfl | split)

theorem keeps_execAonTick {s0 s : State} (h : Keeps s0 s) : KeepsOut s0 (execAonTick s) := by
  unfold execAonTick
  try dsimp only
  repeat' (first
      | (with_reducible first | assumption | refine KeepsOut.next ?_)
      | exact Nat.le_trans (Nat.le_add_right _ _) (Nat.le_add_right _ _)
      | (with_reducible first | refine Keeps.ite ?_ ?_ | refine Keeps.upd ?_ rfl rfl rfl ?_ ?_)
      | exact FusesRise.same rfl rfl rfl)

theorem keeps_execCueTrimStep {s0 s : State} (h : Keeps s0 s) : KeepsOut s0 (execCueTrimStep s) := by
  unfold execCueTrimStep
  try dsimp only
  repeat' (first
      | (with_reducible first
        | assumption | refine KeepsOut.next ?_ | refine KeepsOut.ite ?_ ?_ | refine Keeps.upd ?_ rfl rfl rfl ?_ ?_)
      | exact Nat.le_refl _ | exact Nat.le_succ _ | exact FusesRise.same rfl rfl rfl | split)

theorem keeps_execCueSlewStep {s0 s : State} (h : Keeps s0 s) : KeepsOut s0 (execCueSlewStep s) := by
  unfold execCueSlewStep
  try dsimp only
  repeat' (first
      | (with_reducible first
        | assumption | refine KeepsOut.next ?_ | refine keeps_setFld ?_ | refine KeepsOut.ite ?_ ?_
        | refine Keeps.upd ?_ rfl rfl rfl ?_ ?_)
      | exact Nat.le_refl _ | exact Nat.le_succ _ | exact FusesRise.same rfl rfl rfl)

theorem keeps_execCueHandoverWake {s0 s : State} (h : Keeps s0 s) : KeepsOut s0 (execCueHandoverWake s) := by
  unfold execCueHandoverWake
  try dsimp only
  repeat' (first
      | (with_reducible first
        | assumption | refine KeepsOut.next ?_ | refine keeps_setFld ?_ | refine Keeps.ite ?_ ?_ | refine KeepsOut.ite ?_ ?_
        | refine Keeps.upd ?_ rfl rfl rfl ?_ ?_)
      | exact Nat.le_refl _ | exact FusesRise.same rfl rfl rfl)

theorem keeps_execCueHandoverSleep {s0 s : State} (h : Keeps s0 s) : KeepsOut s0 (execCueHandoverSleep s) := by
  unfold execCueHandoverSleep
  try dsimp only
  repeat' (with_reducible first | assumption | refine KeepsOut.next ?_ | refine keeps_toAon ?_ | refine KeepsOut.ite ?_ ?_)

theorem keeps_execPpsEdge {s0 s : State} (h : Keeps s0 s) {a0 : Nat} : KeepsOut s0 (execPpsEdge a0 s) := by
  unfold execPpsEdge
  try dsimp only
  repeat' (first
      | (with_reducible first
        | assumption | refine KeepsOut.next ?_ | refine keeps_setReg ?_ | refine keeps_setFld ?_ | refine keeps_free ?_
        | refine Keeps.ite ?_ ?_ | refine KeepsOut.ite ?_ ?_ | refine Keeps.upd ?_ rfl rfl rfl ?_ ?_)
      | exact Nat.le_refl _ | exact FusesRise.same rfl rfl rfl)

theorem keeps_execPpsTimeout {s0 s : State} (h : Keeps s0 s) : KeepsOut s0 (execPpsTimeout s) := by
  unfold execPpsTimeout
  try dsimp only
  repeat' (first
      | (with_reducible first
        | assumption | refine KeepsOut.next ?_ | refine keeps_setFld ?_ | refine keeps_lichenFw ?_ | refine KeepsOut.ite ?_ ?_
        | refine Keeps.upd ?_ rfl rfl rfl ?_ ?_)
      | exact Nat.le_refl _ | exact FusesRise.same rfl rfl rfl | split)

theorem keeps_execTimeHoldEnd {s0 s : State} (h : Keeps s0 s) : KeepsOut s0 (execTimeHoldEnd s) := by
  unfold execTimeHoldEnd
  try dsimp only
  repeat' (first
      | (with_reducible first
        | assumption | refine KeepsOut.next ?_ | refine keeps_setFld ?_ | refine KeepsOut.ite ?_ ?_
        | refine Keeps.upd ?_ rfl rfl rfl ?_ ?_)
      | exact Nat.le_refl _ | exact FusesRise.same rfl rfl rfl | split)

theorem keeps_execAonCrystalStable {s0 s : State} (h : Keeps s0 s) : KeepsOut s0 (execAonCrystalStable s) := by
  unfold execAonCrystalStable
  try dsimp only
  repeat' (first
      | (with_reducible first | assumption | refine KeepsOut.next ?_ | refine Keeps.upd ?_ rfl rfl rfl ?_ ?_)
      | exact Nat.le_refl _ | exact FusesRise.same rfl rfl rfl)

/-! ### Stores -/

theorem keeps_breakResv {s0 s : State} (h : Keeps s0 s) {a1 a2 : Nat} : Keeps s0 (s.breakResv a1 a2) := by
  unfold State.breakResv
  try dsimp only
  repeat' (with_reducible first | assumption | refine Keeps.updSame ?_ rfl rfl rfl rfl rfl)

theorem keeps_writeMem {s0 s : State} (h : Keeps s0 s) {a1 : Nat} {a2 : List Byte} : KeepsOpt s0 (s.writeMem a1 a2) := by
  unfold State.writeMem
  try dsimp only
  repeat' (with_reducible first
      | assumption | exact KeepsOpt.none _ | refine KeepsOpt.some ?_ | refine keeps_setBytes ?_ | refine keeps_breakResv ?_
      | refine KeepsOpt.ite ?_ ?_ | refine Keeps.updSame ?_ rfl rfl rfl rfl rfl)

theorem keeps_noteEcc {s0 s : State} (h : Keeps s0 s) {a1 : Nat} {a2 : Bool} : Keeps s0 (s.noteEcc a1 a2) := by
  unfold State.noteEcc
  try dsimp only
  repeat' (first
      | (with_reducible first
        | assumption | refine keeps_count ?_ | refine keeps_setFld ?_ | refine keeps_lichenFw ?_ | refine Keeps.ite ?_ ?_)
      | split)

theorem keeps_writeMemOwn {s0 s : State} (h : Keeps s0 s) {a1 a2 : Nat} {a3 : List Byte} :
    KeepsOpt s0 (s.writeMemOwn a1 a2 a3) := by
  unfold State.writeMemOwn
  try dsimp only
  repeat' (with_reducible first
      | assumption | refine keeps_writeMem ?_ | refine KeepsOpt.map ?_ (fun u hu => ?_)
      | refine Keeps.updSame ?_ rfl rfl rfl rfl rfl)

theorem keeps_writeMasked {s0 s : State} (h : Keeps s0 s) {a1 a2 : Nat} {a3 : List Byte} {a4 : List Bool} :
    KeepsOpt s0 (s.writeMasked a1 a2 a3 a4) := by
  induction a3 generalizing s a2 a4 with
  | nil => unfold State.writeMasked; exact KeepsOpt.some h
  | cons x l ih =>
    unfold State.writeMasked
    cases a4 with
    | nil => exact KeepsOpt.some h
    | cons m ms =>
      cases m
      · exact ih h
      · exact KeepsOpt.bind (keeps_writeMemOwn h) (fun u hu => ih hu)

theorem keeps_setCache {s0 s : State} (h : Keeps s0 s) {a1 : Nat} {a2 : Cache} : Keeps s0 (s.setCache a1 a2) := by
  unfold State.setCache
  try dsimp only
  repeat' (with_reducible first | assumption | refine Keeps.updSame ?_ rfl rfl rfl rfl rfl)

theorem keeps_startInv {s0 s : State} (h : Keeps s0 s) {a1 : Nat} {a2 : Invalidation} : Keeps s0 (s.startInv a1 a2) := by
  unfold State.startInv
  try dsimp only
  repeat' (with_reducible first | assumption | refine keeps_setCache ?_)

theorem keeps_invGo {s0 s : State} (h : Keeps s0 s) {a1 a2 : Nat} : Keeps s0 (s.invGo a1 a2) := by
  unfold State.invGo
  try dsimp only
  repeat' (with_reducible first
      | assumption | refine keeps_setFld ?_ | refine keeps_startInv ?_ | refine keeps_setCache ?_ | refine Keeps.ite ?_ ?_)

theorem keeps_setBankOn {s0 s : State} (h : Keeps s0 s) {a1 a2 : Nat} : Keeps s0 (s.setBankOn a1 a2) := by
  unfold State.setBankOn
  try dsimp only
  repeat' (with_reducible first
      | assumption | refine keeps_setFld ?_ | refine Keeps.ite ?_ ?_ | refine Keeps.foldl _ ?_ (fun u x hu => ?_)
      | refine Keeps.updSame ?_ rfl rfl rfl rfl rfl)

theorem keeps_readMem {s0 s : State} (h : Keeps s0 s) {a1 a2 : Nat} : Keeps s0 (s.readMem a1 a2).2 := by
  unfold State.readMem
  try dsimp only
  repeat' (first
      | (with_reducible first | assumption | refine keeps_noteEcc ?_ | refine Keeps.foldl _ ?_ (fun u x hu => ?_))
      | dsimp only | split | with_reducible refine Keeps.updSame ?_ rfl rfl rfl rfl rfl)

theorem keeps_dropWay {s0 s : State} (h : Keeps s0 s) {a1 a2 : Nat} : Keeps s0 (s.dropWay a1 a2) := by
  unfold State.dropWay
  try dsimp only
  repeat' (with_reducible first | assumption | refine keeps_setCache ?_)

theorem keeps_setWayTrans {s0 s : State} (h : Keeps s0 s) {a1 a2 : Nat} {a3 : Option BankTrans} :
    Keeps s0 (s.setWayTrans a1 a2 a3) := by
  unfold State.setWayTrans
  try dsimp only
  repeat' (with_reducible first | assumption | refine keeps_setFld ?_ | refine Keeps.updSame ?_ rfl rfl rfl rfl rfl)

theorem keeps_setWayCfg {s0 s : State} (h : Keeps s0 s) {a1 a2 : Nat} : Keeps s0 (s.setWayCfg a1 a2) := by
  unfold State.setWayCfg
  try dsimp only
  repeat' (with_reducible first
      | assumption | refine keeps_dropWay ?_ | refine keeps_setFld ?_ | refine keeps_setWayTrans ?_ | refine Keeps.ite ?_ ?_
      | refine Keeps.foldl _ ?_ (fun u x hu => ?_))

theorem keeps_cacheTouch {s0 s : State} (h : Keeps s0 s) {a1 a2 : Nat} {a3 : CacheLine} :
    Keeps s0 (s.cacheTouch a1 a2 a3) := by
  unfold State.cacheTouch
  try dsimp only
  repeat' (with_reducible first | assumption | refine keeps_setCache ?_)

theorem keeps_cacheAlloc {s0 s : State} (h : Keeps s0 s) {a1 a2 a3 : Nat} {a4 : List Byte} :
    Keeps s0 (s.cacheAlloc a1 a2 a3 a4) := by
  unfold State.cacheAlloc
  try dsimp only
  repeat' (with_reducible first | assumption | refine keeps_setCache ?_)

theorem keeps_cachedRead {s0 s : State} (h : Keeps s0 s) {a1 a2 a3 : Nat} : Keeps s0 (s.cachedRead a1 a2 a3).2 := by
  unfold State.cachedRead
  try dsimp only
  repeat' (first
      | (with_reducible first
        | assumption | refine keeps_readMem ?_ | refine keeps_count ?_ | refine keeps_cacheTouch ?_
        | refine keeps_cacheAlloc ?_ | refine Keeps.ofSnd ?_ (by assumption))
      | split)

theorem keeps_cachedWrite {s0 s : State} (h : Keeps s0 s) {a1 a2 : Nat} {a3 : List Byte} :
    KeepsOpt s0 (s.cachedWrite a1 a2 a3) := by
  unfold State.cachedWrite
  try dsimp only
  repeat' (first
      | (with_reducible first
        | assumption | exact KeepsOpt.none _ | refine KeepsOpt.some ?_ | refine keeps_writeMem ?_ | refine keeps_cacheTouch ?_
        | refine Keeps.ofOpt ?_ (by assumption))
      | split)

theorem keeps_dpaRead {s0 s : State} (h : Keeps s0 s) {a1 : Bool} {a2 a3 : Nat} : Keeps s0 (s.dpaRead a1 a2 a3).2 := by
  unfold State.dpaRead
  try dsimp only
  repeat' (first | (with_reducible first | assumption | refine keeps_readMem ?_) | split)

theorem keeps_dpaWrite {s0 s : State} (h : Keeps s0 s) {a1 : Bool} {a2 : Nat} {a3 : List Byte} :
    KeepsOpt s0 (s.dpaWrite a1 a2 a3) := by
  unfold State.dpaWrite
  try dsimp only
  repeat' (first | (with_reducible first | assumption | exact KeepsOpt.none _ | refine keeps_writeMem ?_) | split)

theorem keeps_zeroRange {s0 s : State} (h : Keeps s0 s) {a1 a2 : Nat} : Keeps s0 (s.zeroRange a1 a2) :=
  h.trans ⟨rfl, fun c => ⟨c.1, Cells.wf_filter _ _ _ c.2⟩, Nat.le_refl _, FusesRise.same rfl rfl rfl⟩

theorem keeps_execSsInvalidateGo {s0 s : State} (h : Keeps s0 s) {a0 : Fin 10} {a1 : Fin 2} :
    KeepsOut s0 (execSsInvalidateGo a0 a1 s) := by
  unfold execSsInvalidateGo
  try dsimp only
  repeat' (with_reducible first | assumption | refine KeepsOut.next ?_ | refine keeps_invGo ?_)

theorem keeps_execSsInvalidateDone {s0 s : State} (h : Keeps s0 s) {a0 : Fin 2} :
    KeepsOut s0 (execSsInvalidateDone a0 s) := by
  unfold execSsInvalidateDone
  try dsimp only
  repeat' (first
      | (with_reducible first
        | assumption | refine KeepsOut.next ?_ | refine keeps_setFld ?_ | refine keeps_setCache ?_ | refine keeps_startInv ?_
        | refine Keeps.ite ?_ ?_ | refine KeepsOut.ite ?_ ?_)
      | split)

theorem keeps_execCacheFill {s0 s : State} (h : Keeps s0 s) {a0 : Fin 2} : KeepsOut s0 (execCacheFill a0 s) := by
  unfold execCacheFill
  try dsimp only
  repeat' (first
      | (with_reducible first
        | assumption | refine KeepsOut.next ?_ | refine keeps_setCache ?_ | refine keeps_readMem ?_ | refine keeps_count ?_
        | refine keeps_cacheAlloc ?_ | refine KeepsOut.ite ?_ ?_ | refine Keeps.ofSnd ?_ (by assumption)
        | refine Keeps.updSame ?_ rfl rfl rfl rfl rfl)
      | split)

theorem keeps_execBankSwitchOff {s0 s : State} (h : Keeps s0 s) {a0 : Bool} {a1 : Fin 9} {a2 : Fin 16} :
    KeepsOut s0 (execBankSwitchOff a0 a1 a2 s) := by
  unfold execBankSwitchOff
  try dsimp only
  repeat' (first
      | (with_reducible first
        | assumption | refine KeepsOut.next ?_ | refine keeps_setFld ?_ | refine keeps_setWayTrans ?_
        | refine KeepsOut.ite ?_ ?_ | refine Keeps.updSame ?_ rfl rfl rfl rfl rfl)
      | split)

theorem keeps_execPowerDownWithdrawn {s0 s : State} (h : Keeps s0 s) {a0 : Bool} {a1 : Fin 9} {a2 : Fin 16} :
    KeepsOut s0 (execPowerDownWithdrawn a0 a1 a2 s) := by
  unfold execPowerDownWithdrawn
  try dsimp only
  repeat' (first
      | (with_reducible first
        | assumption | refine KeepsOut.next ?_ | refine keeps_lichenFw ?_ | refine keeps_setFld ?_
        | refine keeps_setWayTrans ?_ | refine KeepsOut.ite ?_ ?_ | refine Keeps.updSame ?_ rfl rfl rfl rfl rfl)
      | split)

theorem keeps_execBankPowerUpDone {s0 s : State} (h : Keeps s0 s) {a0 : Bool} {a1 : Fin 9} {a2 : Fin 16} :
    KeepsOut s0 (execBankPowerUpDone a0 a1 a2 s) := by
  unfold execBankPowerUpDone
  try dsimp only
  repeat' (first
      | (with_reducible first
        | assumption | refine KeepsOut.next ?_ | refine keeps_zeroRange ?_ | refine keeps_setWayTrans ?_
        | refine keeps_setFld ?_ | refine keeps_setBankOn ?_ | refine Keeps.ite ?_ ?_ | refine KeepsOut.ite ?_ ?_
        | refine Keeps.updSame ?_ rfl rfl rfl rfl rfl)
      | split)

theorem keeps_execEccCorrectedWriteback {s0 s : State} (h : Keeps s0 s) : KeepsOut s0 (execEccCorrectedWriteback s) := by
  unfold execEccCorrectedWriteback
  try dsimp only
  repeat' (first
      | (with_reducible first | assumption | refine KeepsOut.next ?_ | refine Keeps.updSame ?_ rfl rfl rfl rfl rfl)
      | split)

/-! ### Scoreboard -/

theorem keeps_setSboard {s0 s : State} (h : Keeps s0 s) {a1 : Nat} {a2 : Scoreboard} : Keeps s0 (s.setSboard a1 a2) := by
  unfold State.setSboard
  try dsimp only
  repeat' (with_reducible first | assumption | refine keeps_setFld ?_ | refine Keeps.updSame ?_ rfl rfl rfl rfl rfl)

theorem keeps_sbRelease {s0 s : State} (h : Keeps s0 s) {a1 a2 : Nat} {a3 : Ticket} : Keeps s0 (s.sbRelease a1 a2 a3) := by
  unfold State.sbRelease
  try dsimp only
  repeat' (with_reducible first | assumption | refine keeps_setSboard ?_ | refine Keeps.ite ?_ ?_)

theorem keeps_sbReleaseAll {s0 s : State} (h : Keeps s0 s) {a1 a2 : Nat} : Keeps s0 (s.sbReleaseAll a1 a2) := by
  unfold State.sbReleaseAll
  try dsimp only
  repeat' (with_reducible first | assumption | refine keeps_sbRelease ?_ | refine Keeps.foldl _ ?_ (fun u x hu => ?_))

theorem keeps_setCore {s0 s : State} (h : Keeps s0 s) {a1 : Nat} {a2 : VppCore} : Keeps s0 (s.setCore a1 a2) := by
  unfold State.setCore
  try dsimp only
  repeat' (with_reducible first | assumption | refine Keeps.updSame ?_ rfl rfl rfl rfl rfl)

theorem keeps_setCtx {s0 s : State} (h : Keeps s0 s) {a1 a2 : Nat} {a3 : VppCtx} : Keeps s0 (s.setCtx a1 a2 a3) := by
  unfold State.setCtx
  try dsimp only
  repeat' (with_reducible first | assumption | refine keeps_setCore ?_)

theorem keeps_dropResv {s0 s : State} (h : Keeps s0 s) {a1 : Nat} : Keeps s0 (s.dropResv a1) := by
  unfold State.dropResv
  try dsimp only
  repeat' (with_reducible first | assumption | refine Keeps.updSame ?_ rfl rfl rfl rfl rfl)

theorem keeps_takeTag {s0 s : State} (h : Keeps s0 s) {a1 : Nat} : Keeps s0 (s.takeTag a1).1 := by
  unfold State.takeTag
  try dsimp only
  repeat' (first | (with_reducible first | assumption | refine keeps_setTag ?_) | split)

theorem keeps_issueRemote {s0 s : State} (h : Keeps s0 s) {a1 a2 : Nat} {a3 : RemoteOp} {a4 a5 : Nat} {a6 : List Byte}
    {a7 : List Bool} {a8 : Bool} :
    Keeps s0 (s.issueRemote a1 a2 a3 a4 a5 a6 a7 a8) := by
  unfold State.issueRemote
  try dsimp only
  repeat' (with_reducible first
      | assumption | refine keeps_takeTag ?_ | refine keeps_setFld ?_ | refine Keeps.ite ?_ ?_
      | refine Keeps.updSame ?_ rfl rfl rfl rfl rfl)

theorem keeps_setCtxSt {s0 s : State} (h : Keeps s0 s) {a1 a2 a3 : Nat} : Keeps s0 (s.setCtxSt a1 a2 a3) := by
  unfold State.setCtxSt
  try dsimp only
  repeat' (with_reducible first | assumption | refine keeps_setFld ?_)

theorem keeps_reserve {s0 s : State} (h : Keeps s0 s) {a1 a2 : Nat} : Keeps s0 (s.reserve a1 a2) := by
  unfold State.reserve
  try dsimp only
  repeat' (with_reducible first | assumption | refine Keeps.updSame ?_ rfl rfl rfl rfl rfl)

theorem keeps_answerRemote {s0 s : State} (h : Keeps s0 s) {a1 : Nat} {a2 : Bool} {a3 : List Byte} :
    Keeps s0 (s.answerRemote a1 a2 a3) := by
  unfold State.answerRemote
  try dsimp only
  repeat' (with_reducible first | assumption | refine Keeps.updSame ?_ rfl rfl rfl rfl rfl)

theorem keeps_holdRemote {s0 s : State} (h : Keeps s0 s) {a1 : Nat} : Keeps s0 (s.holdRemote a1) := by
  unfold State.holdRemote
  try dsimp only
  repeat' (with_reducible first | assumption | refine Keeps.updSame ?_ rfl rfl rfl rfl rfl)

theorem keeps_performRemote {s0 s : State} (h : Keeps s0 s) {a1 : RemoteAccess} {a2 : Nat} :
    Keeps s0 (s.performRemote a1 a2) := by
  unfold State.performRemote
  try dsimp only
  repeat' (first
      | (with_reducible first
        | assumption | refine keeps_count ?_ | refine keeps_setCache ?_ | refine keeps_holdRemote ?_
        | refine keeps_cachedRead ?_ | refine keeps_answerRemote ?_ | refine keeps_readMem ?_ | refine keeps_cachedWrite ?_
        | refine keeps_writeMemOwn ?_ | refine keeps_writeMasked ?_ | refine keeps_writeMem ?_ | refine keeps_reserve ?_
        | refine keeps_dropResv ?_ | refine Keeps.ite ?_ ?_ | refine KeepsOpt.ite ?_ ?_
        | refine Keeps.ofOpt ?_ (by assumption) | refine Keeps.ofSnd ?_ (by assumption))
      | split)

theorem keeps_arriveRemote {s0 s : State} (h : Keeps s0 s) {a1 : RemoteAccess} : Keeps s0 (s.arriveRemote a1) := by
  unfold State.arriveRemote
  try dsimp only
  repeat' (first
      | (with_reducible first
        | assumption | refine keeps_answerRemote ?_ | refine keeps_holdRemote ?_ | refine keeps_performRemote ?_
        | refine keeps_setSboard ?_ | refine Keeps.ite ?_ ?_)
      | split)

theorem keeps_sbNarrow {s0 s : State} (h : Keeps s0 s) {a1 a2 : Nat} {a3 a4 : Nat} : Keeps s0 (s.sbNarrow a1 a2 a3 a4) := by
  unfold State.sbNarrow
  try dsimp only
  repeat' (with_reducible first | assumption | refine keeps_setSboard ?_ | refine Keeps.ite ?_ ?_)

theorem keeps_deadlineMiss {s0 s : State} (h : Keeps s0 s) {a1 a2 : Nat} : Keeps s0 (s.deadlineMiss a1 a2) := by
  unfold State.deadlineMiss
  try dsimp only
  repeat' (with_reducible first
      | assumption | refine keeps_setFld ?_ | refine keeps_countBy ?_ | refine Keeps.updSame ?_ rfl rfl rfl rfl rfl)

theorem keeps_sbGrant {s0 s : State} (h : Keeps s0 s) {a1 a2 : Nat} {a3 a4 : List (Nat × Nat)} :
    Keeps s0 (s.sbGrant a1 a2 a3 a4) := by
  unfold State.sbGrant
  try dsimp only
  repeat' (with_reducible first | assumption | refine keeps_setSboard ?_ | refine keeps_countBy ?_)

theorem keeps_sbRegister {s0 s : State} (h : Keeps s0 s) {a1 a2 : Nat} {a3 a4 : List (Nat × Nat)} :
    Keeps s0 (s.sbRegister a1 a2 a3 a4).1 := by
  unfold State.sbRegister
  try dsimp only
  repeat' (first | (with_reducible first | assumption | refine keeps_sbGrant ?_ | refine keeps_setSboard ?_) | split)

theorem keeps_freeTag {s0 s : State} (h : Keeps s0 s) {a1 : Nat} : Keeps s0 (s.freeTag a1) := by
  unfold State.freeTag
  try dsimp only
  repeat' (with_reducible first | assumption | refine keeps_setTag ?_)

theorem keeps_execTagWaitIssue {s0 s : State} (h : Keeps s0 s) {a0 : Fin 15} : KeepsOut s0 (execTagWaitIssue a0 s) := by
  unfold execTagWaitIssue
  try dsimp only
  repeat' (first
      | (with_reducible first
        | assumption | refine KeepsOut.next ?_ | refine keeps_setTag ?_ | refine KeepsOut.ite ?_ ?_
        | refine Keeps.updSame ?_ rfl rfl rfl rfl rfl)
      | split)

theorem keeps_execVppDeadlineMiss {s0 s : State} (h : Keeps s0 s) {a0 : Fin 9} {a1 : Fin 4} :
    KeepsOut s0 (execVppDeadlineMiss a0 a1 s) := by
  unfold execVppDeadlineMiss
  try dsimp only
  repeat' (first
      | (with_reducible first
        | assumption | refine KeepsOut.next ?_ | refine keeps_deadlineMiss ?_ | refine keeps_setSboard ?_
        | refine keeps_setCtx ?_ | refine KeepsOut.ite ?_ ?_)
      | split)

theorem keeps_execRemoteStoreAck {s0 s : State} (h : Keeps s0 s) {a0 : Nat} : KeepsOut s0 (execRemoteStoreAck a0 s) := by
  unfold execRemoteStoreAck
  try dsimp only
  repeat' (first
      | (with_reducible first
        | assumption | refine KeepsOut.next ?_ | refine keeps_freeTag ?_ | refine keeps_setFld ?_ | refine keeps_setReg ?_
        | refine keeps_setCtx ?_ | refine KeepsOut.ite ?_ ?_ | refine Keeps.updSame ?_ rfl rfl rfl rfl rfl)
      | split)

theorem keeps_execRemoteAccessArrive {s0 s : State} (h : Keeps s0 s) {a0 : Nat} :
    KeepsOut s0 (execRemoteAccessArrive a0 s) := by
  unfold execRemoteAccessArrive
  try dsimp only
  repeat' (first
      | (with_reducible first
        | assumption | refine KeepsOut.next ?_ | refine keeps_arriveRemote ?_ | refine KeepsOut.ite ?_ ?_)
      | split)

theorem keeps_execSbRegister {s0 s : State} (h : Keeps s0 s) {a0 : Fin 9} {a1 : Nat} {a2 a3 : List (Nat × Nat)} :
    KeepsOut s0 (execSbRegister a0 a1 a2 a3 s) := by
  unfold execSbRegister
  try dsimp only
  repeat' (with_reducible first | assumption | refine KeepsOut.next ?_ | refine keeps_sbRegister ?_)

theorem keeps_execSbRelease {s0 s : State} (h : Keeps s0 s) {a0 : Fin 9} {a1 : Nat} {a2 : Fin 64} {a3 : Bool}
    {a4 : Option (Nat × Nat)} :
    KeepsOut s0 (execSbRelease a0 a1 a2 a3 a4 s) := by
  unfold execSbRelease
  try dsimp only
  repeat' (first
      | (with_reducible first
        | assumption | refine KeepsOut.next ?_ | refine keeps_sbRelease ?_ | refine keeps_sbNarrow ?_
        | refine KeepsOut.ite ?_ ?_)
      | split)

theorem keeps_execSbWaitClear {s0 s : State} (h : Keeps s0 s) {a0 : Fin 9} : KeepsOut s0 (execSbWaitClear a0 s) := by
  unfold execSbWaitClear
  try dsimp only
  repeat' (first
      | (with_reducible first
        | assumption | refine KeepsOut.next ?_ | refine keeps_setSboard ?_ | refine keeps_countBy ?_ | refine keeps_sbGrant ?_
        | refine keeps_arriveRemote ?_)
      | split)

theorem keeps_execSbTimeout {s0 s : State} (h : Keeps s0 s) {a0 : Fin 9} {a1 : Nat} :
    KeepsOut s0 (execSbTimeout a0 a1 s) := by
  unfold execSbTimeout
  try dsimp only
  repeat' (first
      | (with_reducible first
        | assumption | refine KeepsOut.next ?_ | refine keeps_count ?_ | refine keeps_setFld ?_ | refine keeps_setSboard ?_
        | refine keeps_deadlineMiss ?_ | refine keeps_setCtx ?_ | refine keeps_answerRemote ?_ | refine Keeps.ite ?_ ?_
        | refine KeepsOut.ite ?_ ?_)
      | split)

/-! ### Links -/

theorem keeps_transmit {s0 s : State} (h : Keeps s0 s) {a1 : Nat} {a2 : LinkMsg} : Keeps s0 (s.transmit a1 a2) := by
  unfold State.transmit
  try dsimp only
  repeat' (first
      | (with_reducible first | assumption | refine keeps_setLink ?_ | refine keeps_setFld ?_ | refine Keeps.ite ?_ ?_)
      | split)

theorem keeps_handLink {s0 s : State} (h : Keeps s0 s) {a1 : Nat} {a2 : LinkMsg} : Keeps s0 (s.handLink a1 a2) := by
  unfold State.handLink
  try dsimp only
  repeat' (with_reducible first | assumption | refine keeps_transmit ?_ | refine keeps_setLink ?_ | refine Keeps.ite ?_ ?_)

theorem keeps_sendMsg {s0 s : State} (h : Keeps s0 s) {a1 : LinkMsg} : KeepsOpt s0 (s.sendMsg a1) := by
  unfold State.sendMsg
  try dsimp only
  repeat' (first
      | (with_reducible first
        | assumption | exact KeepsOpt.none _ | refine KeepsOpt.some ?_ | refine keeps_setLink ?_ | refine keeps_handLink ?_
        | refine KeepsOpt.ite ?_ ?_)
      | split)

theorem keeps_drainWait {s0 s : State} (h : Keeps s0 s) {a1 : Nat} {a2 : List LinkMsg} {a3 : List Nat} :
    Keeps s0 (s.drainWait a1 a2 a3) := by
  induction a2 generalizing s a3 with
  | nil => exact h
  | cons x l ih =>
    rw [State.drainWait]
    try dsimp only
    repeat' (with_reducible first
        | assumption | refine keeps_setLink ?_ | refine keeps_transmit ?_ | refine ih ?_ | refine Keeps.ite ?_ ?_)

theorem keeps_sendReq {s0 s : State} (h : Keeps s0 s) {a1 : LinkMsg} {a2 a3 : Nat} {a4 a5 : Nat} :
    KeepsOpt s0 (s.sendReq a1 a2 a3 a4 a5) := by
  unfold State.sendReq
  try dsimp only
  repeat' (first
      | (with_reducible first
        | assumption | exact KeepsOpt.none _ | refine KeepsOpt.some ?_ | refine keeps_sendMsg ?_ | refine keeps_setLink ?_
        | refine Keeps.ofOpt ?_ (by assumption))
      | split)

theorem keeps_freeRx {s0 s : State} (h : Keeps s0 s) {a1 : Nat} {a2 : LinkMsg} : Keeps s0 (s.freeRx a1 a2) := by
  unfold State.freeRx
  try dsimp only
  repeat' (first
      | (with_reducible first | assumption | refine keeps_setLink ?_ | refine keeps_setFld ?_ | refine Keeps.ite ?_ ?_)
      | split)

/-! ### Dataflow -/

theorem keeps_hqRefuse {s0 s : State} (h : Keeps s0 s) {a1 : Nat} : Keeps s0 (s.hqRefuse a1).2 := by
  unfold State.hqRefuse
  try dsimp only
  repeat' (with_reducible first | assumption | refine keeps_count ?_ | refine Keeps.ite ?_ ?_)

theorem keeps_poolMove {s0 s : State} (h : Keeps s0 s) {a1 : Nat} {a2 a3 a4 : Int} : Keeps s0 (s.poolMove a1 a2 a3 a4) := by
  unfold State.poolMove
  try dsimp only
  repeat' (with_reducible first | assumption | refine keeps_setFld ?_)

theorem keeps_setBuf {s0 s : State} (h : Keeps s0 s) {a1 a2 a3 : Nat} : Keeps s0 (s.setBuf a1 a2 a3) := by
  unfold State.setBuf
  try dsimp only
  repeat' (with_reducible first | assumption | refine keeps_setFld ?_)

theorem keeps_setHq {s0 s : State} (h : Keeps s0 s) {a1 : Nat} {a2 : List Nat} : Keeps s0 (s.setHq a1 a2) := by
  unfold State.setHq
  try dsimp only
  repeat' (with_reducible first | assumption | refine keeps_setFld ?_ | refine Keeps.updSame ?_ rfl rfl rfl rfl rfl)

theorem keeps_hqPush {s0 s : State} (h : Keeps s0 s) {a1 : Bool} {a2 a3 : Nat} : Keeps s0 (s.hqPush a1 a2 a3).2 := by
  unfold State.hqPush
  try dsimp only
  repeat' (first
      | (with_reducible first
        | assumption | refine keeps_hqRefuse ?_ | refine keeps_poolMove ?_ | refine keeps_setBuf ?_ | refine keeps_setHq ?_)
      | split)

theorem keeps_noteHq {s0 : State} {a : Agent} {x : HqResult × State} (h : Keeps s0 x.2) : Keeps s0 (State.noteHq a x) := by
  unfold State.noteHq
  exact h.trans ⟨rfl, id, Nat.le_refl _, FusesRise.same rfl rfl rfl⟩

theorem keeps_hqAlloc {s0 s : State} (h : Keeps s0 s) {a1 : Bool} {a2 a3 : Nat} : Keeps s0 (s.hqAlloc a1 a2 a3).2 := by
  unfold State.hqAlloc
  try dsimp only
  repeat' (first
      | (with_reducible first | assumption | refine keeps_hqRefuse ?_ | refine keeps_poolMove ?_ | refine keeps_setBuf ?_)
      | split | with_reducible refine Keeps.updSame ?_ rfl rfl rfl rfl rfl)

theorem keeps_hqPop {s0 s : State} (h : Keeps s0 s) {a1 : Bool} {a2 a3 : Nat} : Keeps s0 (s.hqPop a1 a2 a3).2 := by
  unfold State.hqPop
  try dsimp only
  repeat' (first
      | (with_reducible first
        | assumption | refine keeps_hqRefuse ?_ | refine keeps_poolMove ?_ | refine keeps_setBuf ?_ | refine keeps_setHq ?_)
      | split)

theorem keeps_hqFree {s0 s : State} (h : Keeps s0 s) {a1 : Bool} {a2 : Nat} : Keeps s0 (s.hqFree a1 a2).2 := by
  unfold State.hqFree
  try dsimp only
  repeat' (first
      | (with_reducible first | assumption | refine keeps_hqRefuse ?_ | refine keeps_poolMove ?_ | refine keeps_setBuf ?_)
      | split | with_reducible refine Keeps.updSame ?_ rfl rfl rfl rfl rfl)

theorem keeps_hqFill {s0 s : State} (h : Keeps s0 s) {a1 : Bool} {a2 : Nat} : Keeps s0 (s.hqFill a1 a2).2 := by
  unfold State.hqFill
  try dsimp only
  repeat' (first | (with_reducible first | assumption | refine keeps_hqRefuse ?_) | split)

theorem keeps_setBar {s0 s : State} (h : Keeps s0 s) {a1 : Nat} {a2 : Barrier} : Keeps s0 (s.setBar a1 a2) := by
  unfold State.setBar
  try dsimp only
  repeat' (with_reducible first | assumption | refine Keeps.updSame ?_ rfl rfl rfl rfl rfl)

theorem keeps_homeArrive {s0 s : State} (h : Keeps s0 s) {a1 a2 a3 : Nat} : Keeps s0 (s.homeArrive a1 a2 a3) := by
  unfold State.homeArrive
  try dsimp only
  repeat' (with_reducible first
      | assumption | refine keeps_setBar ?_ | refine keeps_sendMsg ?_ | refine Keeps.ite ?_ ?_
      | refine Keeps.foldl _ ?_ (fun u x hu => ?_) | refine KeepsOpt.getD ?_ ?_)

theorem keeps_barNext {s0 s : State} (h : Keeps s0 s) {a1 : Nat} : Keeps s0 (s.barNext a1) := by
  unfold State.barNext
  try dsimp only
  repeat' (with_reducible first | assumption | refine keeps_setFld ?_ | refine keeps_setBar ?_)

theorem keeps_barRelease {s0 s : State} (h : Keeps s0 s) {a1 : Nat} {a2 : Bool} : Keeps s0 (s.barRelease a1 a2) := by
  unfold State.barRelease
  try dsimp only
  repeat' (with_reducible first | assumption | refine keeps_count ?_ | refine keeps_barNext ?_ | refine Keeps.ite ?_ ?_)

theorem keeps_barComplete {s0 s : State} (h : Keeps s0 s) {a1 : Nat} : Keeps s0 (s.barComplete a1) := by
  unfold State.barComplete
  try dsimp only
  repeat' (first
      | (with_reducible first
        | assumption | refine keeps_setFld ?_ | refine keeps_homeArrive ?_ | refine keeps_sendMsg ?_
        | refine keeps_barRelease ?_ | refine Keeps.ite ?_ ?_ | refine KeepsOpt.getD ?_ ?_)
      | split)

theorem keeps_barArrive {s0 s : State} (h : Keeps s0 s) {a1 : Agent} {a2 a3 : Nat} : Keeps s0 (s.barArrive a1 a2 a3) := by
  unfold State.barArrive
  try dsimp only
  repeat' (with_reducible first
      | assumption | refine keeps_count ?_ | refine keeps_setFld ?_ | refine keeps_setBar ?_ | refine keeps_barComplete ?_
      | refine Keeps.ite ?_ ?_ | refine Keeps.updSame ?_ rfl rfl rfl rfl rfl)

theorem keeps_poolReset {s0 s : State} (h : Keeps s0 s) {a1 : Nat} : Keeps s0 (s.poolReset a1) := by
  unfold State.poolReset
  try dsimp only
  repeat' (with_reducible first
      | assumption | refine keeps_setBuf ?_ | refine keeps_setHq ?_ | refine keeps_setFld ?_
      | refine Keeps.foldl _ ?_ (fun u x hu => ?_) | refine Keeps.updSame ?_ rfl rfl rfl rfl rfl)

theorem keeps_barReset {s0 s : State} (h : Keeps s0 s) {a1 : Nat} : Keeps s0 (s.barReset a1) := by
  unfold State.barReset
  try dsimp only
  repeat' (with_reducible first | assumption | refine keeps_barNext ?_)

theorem keeps_barBreak {s0 s : State} (h : Keeps s0 s) {a1 a2 : Nat} : Keeps s0 (s.barBreak a1 a2) := by
  unfold State.barBreak
  try dsimp only
  repeat' (with_reducible first | assumption | refine keeps_setFld ?_ | refine keeps_setBar ?_ | refine keeps_lichenFw ?_)

theorem keeps_barBreakHome {s0 s : State} (h : Keeps s0 s) {a1 : Nat} : Keeps s0 (s.barBreakHome a1) := by
  unfold State.barBreakHome
  try dsimp only
  repeat' (with_reducible first
      | assumption | refine keeps_sendMsg ?_ | refine keeps_barBreak ?_ | refine Keeps.foldl _ ?_ (fun u x hu => ?_)
      | refine KeepsOpt.getD ?_ ?_)

theorem keeps_barCue {s0 s : State} (h : Keeps s0 s) {a1 a2 : Nat} : Keeps s0 (s.barCue a1 a2) := by
  unfold State.barCue
  try dsimp only
  repeat' (with_reducible first | assumption | refine keeps_barRelease ?_ | refine keeps_setBar ?_ | refine Keeps.ite ?_ ?_)

theorem keeps_setScript {s0 s : State} (h : Keeps s0 s) {a1 : Nat} {a2 : Script} : Keeps s0 (s.setScript a1 a2) := by
  unfold State.setScript
  try dsimp only
  repeat' (with_reducible first | assumption | refine Keeps.updSame ?_ rfl rfl rfl rfl rfl)

theorem keeps_execHqAlloc {s0 s : State} (h : Keeps s0 s) {a0 : Agent} {a1 : Fin 16} : KeepsOut s0 (execHqAlloc a0 a1 s) := by
  unfold execHqAlloc
  try dsimp only
  repeat' (with_reducible first | assumption | refine KeepsOut.next ?_ | refine keeps_noteHq ?_ | refine keeps_hqAlloc ?_)

theorem keeps_execHqPush {s0 s : State} (h : Keeps s0 s) {a0 : Agent} {a1 : Fin 256} {a2 : Half} :
    KeepsOut s0 (execHqPush a0 a1 a2 s) := by
  unfold execHqPush
  try dsimp only
  repeat' (with_reducible first | assumption | refine KeepsOut.next ?_ | refine keeps_noteHq ?_ | refine keeps_hqPush ?_)

theorem keeps_execHqPop {s0 s : State} (h : Keeps s0 s) {a0 : Agent} {a1 : Fin 256} : KeepsOut s0 (execHqPop a0 a1 s) := by
  unfold execHqPop
  try dsimp only
  repeat' (with_reducible first | assumption | refine KeepsOut.next ?_ | refine keeps_noteHq ?_ | refine keeps_hqPop ?_)

theorem keeps_execHqFree {s0 s : State} (h : Keeps s0 s) {a0 : Agent} {a1 : Half} : KeepsOut s0 (execHqFree a0 a1 s) := by
  unfold execHqFree
  try dsimp only
  repeat' (with_reducible first | assumption | refine KeepsOut.next ?_ | refine keeps_noteHq ?_ | refine keeps_hqFree ?_)

theorem keeps_execHqFill {s0 s : State} (h : Keeps s0 s) {a0 : Agent} {a1 : Fin 256} : KeepsOut s0 (execHqFill a0 a1 s) := by
  unfold execHqFill
  try dsimp only
  repeat' (with_reducible first | assumption | refine KeepsOut.next ?_ | refine keeps_noteHq ?_ | refine keeps_hqFill ?_)

theorem keeps_execBarArrive {s0 s : State} (h : Keeps s0 s) {a0 : Agent} {a1 : Fin 32} {a2 : Byte} :
    KeepsOut s0 (execBarArrive a0 a1 a2 s) := by
  unfold execBarArrive
  try dsimp only
  repeat' (with_reducible first | assumption | refine KeepsOut.next ?_ | refine keeps_barArrive ?_)

theorem keeps_execBarWait {s0 s : State} (h : Keeps s0 s) {a0 : Fin 8} {a1 : Fin 4} : KeepsOut s0 (execBarWait a0 a1 s) := by
  unfold execBarWait
  try dsimp only
  repeat' (first
      | (with_reducible first | assumption | refine KeepsOut.next ?_ | refine Keeps.updSame ?_ rfl rfl rfl rfl rfl)
      | split)

theorem keeps_execBarCountRelease {s0 s : State} (h : Keeps s0 s) {a0 : Fin 32} : KeepsOut s0 (execBarCountRelease a0 s) := by
  unfold execBarCountRelease
  try dsimp only
  repeat' (first
      | (with_reducible first
        | assumption | refine KeepsOut.next ?_ | refine keeps_barRelease ?_ | refine Keeps.ite ?_ ?_
        | refine KeepsOut.ite ?_ ?_)
      | split)

theorem keeps_execBarReset {s0 s : State} (h : Keeps s0 s) {a0 : Fin 32} {a1 : Word} :
    KeepsOut s0 (execBarReset a0 a1 s) := by
  unfold execBarReset
  try dsimp only
  repeat' (with_reducible first
      | assumption | refine KeepsOut.next ?_ | refine keeps_setReg ?_ | refine keeps_barReset ?_ | refine Keeps.ite ?_ ?_)

theorem keeps_execBarTimeout {s0 s : State} (h : Keeps s0 s) {a0 : Fin 32} : KeepsOut s0 (execBarTimeout a0 s) := by
  unfold execBarTimeout
  try dsimp only
  repeat' (first
      | (with_reducible first
        | assumption | refine KeepsOut.next ?_ | refine keeps_barBreakHome ?_ | refine keeps_barBreak ?_
        | refine KeepsOut.ite ?_ ?_)
      | split)

end Sys2Proof.Machine
end

