-- ==== Sys2Proof/Laws/KeepsDma.lean ====
section
/-!
SUPPORT. What every operation and every command keeps (Keeps.lean): DMA and the peer links.
-/
namespace Sys2Proof.Machine

/-! ### Dma -/

theorem keeps_setChan {s0 s : State} (h : Keeps s0 s) {a1 a2 : Nat} {a3 : DmaChan} : Keeps s0 (s.setChan a1 a2 a3) := by
  unfold State.setChan
  try dsimp only
  repeat' (with_reducible first | assumption | refine Keeps.updSame ?_ rfl rfl rfl rfl rfl)

theorem keeps_modChan {s0 s : State} (h : Keeps s0 s) {a1 a2 : Nat} {a3 : DmaChan → DmaChan} :
    Keeps s0 (s.modChan a1 a2 a3) := by
  unfold State.modChan
  try dsimp only
  repeat' (with_reducible first | assumption | refine keeps_setChan ?_)

theorem keeps_chRelease {s0 s : State} (h : Keeps s0 s) {a1 a2 : Nat} : Keeps s0 (s.chRelease a1 a2) := by
  unfold State.chRelease
  try dsimp only
  repeat' (with_reducible first
      | assumption | refine keeps_sbReleaseAll ?_ | refine keeps_setSboard ?_ | refine Keeps.ite ?_ ?_)

theorem keeps_dmaHandover {s0 s : State} (h : Keeps s0 s) {a1 a2 : Nat} : Keeps s0 (s.dmaHandover a1 a2) := by
  unfold State.dmaHandover
  try dsimp only
  repeat' (with_reducible first
      | assumption | refine keeps_setReg ?_ | refine keeps_setFld ?_ | refine keeps_modChan ?_ | refine Keeps.ite ?_ ?_)

theorem keeps_dmaBoundary {s0 s : State} (h : Keeps s0 s) {a1 a2 : Nat} : Keeps s0 (s.dmaBoundary a1 a2) := by
  unfold State.dmaBoundary
  try dsimp only
  repeat' (with_reducible first | assumption | refine keeps_dmaHandover ?_ | refine Keeps.ite ?_ ?_)

theorem keeps_dmaFinish {s0 s : State} (h : Keeps s0 s) {a1 a2 : Nat} : Keeps s0 (s.dmaFinish a1 a2) := by
  unfold State.dmaFinish
  try dsimp only
  repeat' (with_reducible first
      | assumption | refine keeps_chRelease ?_ | refine keeps_raiseInt ?_ | refine keeps_modChan ?_
      | refine keeps_dmaBoundary ?_ | refine Keeps.ite ?_ ?_ | refine Keeps.updSame ?_ rfl rfl rfl rfl rfl)

theorem keeps_dmaPush {s0 s : State} (h : Keeps s0 s) {a1 a2 : Nat} : Keeps s0 (s.dmaPush a1 a2) := by
  unfold State.dmaPush
  try dsimp only
  repeat' (with_reducible first
      | assumption | refine keeps_hqPush ?_ | refine keeps_modChan ?_ | refine keeps_dmaFinish ?_ | refine Keeps.ite ?_ ?_)

theorem keeps_dmaAbort {s0 s : State} (h : Keeps s0 s) {a1 a2 : Nat} : Keeps s0 (s.dmaAbort a1 a2) := by
  unfold State.dmaAbort
  try dsimp only
  repeat' (first
      | (with_reducible first
        | assumption | refine keeps_modChan ?_ | refine keeps_setFld ?_ | refine keeps_dmaPush ?_ | refine keeps_sendMsg ?_
        | refine Keeps.ite ?_ ?_ | refine KeepsOpt.getD ?_ ?_)
      | split)

theorem keeps_post {s0 s : State} (h : Keeps s0 s) {a1 : Nat} {a2 : Word} : Keeps s0 (s.post a1 a2) := by
  unfold State.post
  try dsimp only
  repeat' (with_reducible first
      | assumption | refine keeps_setReg ?_ | refine keeps_setFld ?_ | refine Keeps.ite ?_ ?_
      | refine Keeps.updSame ?_ rfl rfl rfl rfl rfl)

theorem keeps_mbxPop {s0 s : State} (h : Keeps s0 s) {a1 : Nat} : Keeps s0 (s.mbxPop a1) := by
  unfold State.mbxPop
  try dsimp only
  repeat' (with_reducible first | assumption | refine Keeps.updSame ?_ rfl rfl rfl rfl rfl)

theorem keeps_dmaLaunch {s0 s : State} (h : Keeps s0 s) {a1 a2 : Nat} : Keeps s0 (s.dmaLaunch a1 a2) := by
  unfold State.dmaLaunch
  try dsimp only
  repeat' (with_reducible first | assumption | refine keeps_modChan ?_ | refine Keeps.ite ?_ ?_)

theorem keeps_dmaResume {s0 s : State} (h : Keeps s0 s) {a1 a2 : Nat} : Keeps s0 (s.dmaResume a1 a2) := by
  unfold State.dmaResume
  try dsimp only
  repeat' (first
      | (with_reducible first
        | assumption | refine keeps_modChan ?_ | refine keeps_sendMsg ?_ | refine Keeps.ite ?_ ?_
        | refine KeepsOpt.getD ?_ ?_)
      | split)

theorem keeps_dmaSeal {s0 s : State} (h : Keeps s0 s) {a1 a2 : Nat} : Keeps s0 (s.dmaSeal a1 a2) := by
  unfold State.dmaSeal
  try dsimp only
  repeat' (with_reducible first | assumption | refine keeps_setFld ?_)

theorem keeps_tvaInv {s0 s : State} (h : Keeps s0 s) {a1 a2 : Nat} {a3 : Bool} : Keeps s0 (s.tvaInv a1 a2 a3) := by
  unfold State.tvaInv
  try dsimp only
  repeat' (with_reducible first | assumption | refine keeps_setFld ?_ | refine Keeps.updSame ?_ rfl rfl rfl rfl rfl)

theorem keeps_fqPop {s0 s : State} (h : Keeps s0 s) : Keeps s0 (s.fqPop) := by
  unfold State.fqPop
  try dsimp only
  repeat' (with_reducible first | assumption | refine Keeps.updSame ?_ rfl rfl rfl rfl rfl)

theorem keeps_targetRead {s0 s : State} (h : Keeps s0 s) {a1 : Target} {a2 : Nat} : Keeps s0 (s.targetRead a1 a2).2 := by
  unfold State.targetRead
  try dsimp only
  repeat' (first
      | (with_reducible first | assumption | refine keeps_readMem ?_ | refine Keeps.ofSnd ?_ (by assumption))
      | split)

theorem keeps_readElem {s0 s : State} (h : Keeps s0 s) {a1 a2 : Nat} {a3 : Side} {a4 : Nat} :
    Keeps s0 (s.readElem a1 a2 a3 a4).2 := by
  unfold State.readElem
  try dsimp only
  repeat' (first
      | (with_reducible first
        | assumption | refine keeps_targetRead ?_ | refine keeps_cachedRead ?_ | refine Keeps.ofSnd ?_ (by assumption))
      | split)

theorem keeps_readElems {s0 s : State} (h : Keeps s0 s) {a1 a2 : Nat} {a3 : Side} {a4 a5 : Nat} :
    Keeps s0 (s.readElems a1 a2 a3 a4 a5).2 := by
  fun_induction State.readElems s a1 a2 a3 a4 a5 <;> repeat' (with_reducible first
      | assumption | refine keeps_readElem ?_ | apply_assumption | refine Keeps.ofSnd ?_ (by assumption))

theorem keeps_atomRead {s0 s : State} (h : Keeps s0 s) {a1 a2 a3 : Nat} : Keeps s0 (s.atomRead a1 a2 a3).2 := by
  unfold State.atomRead
  try dsimp only
  repeat' (first
      | (with_reducible first | assumption | refine keeps_readElems ?_)
      | dsimp only | split | with_reducible refine Keeps.updSame ?_ rfl rfl rfl rfl rfl)

theorem keeps_sendWr {s0 s : State} (h : Keeps s0 s) {a1 a2 : Nat} {a3 : Nat × List Byte} :
    KeepsOpt s0 (s.sendWr a1 a2 a3) := by
  unfold State.sendWr
  try dsimp only
  repeat' (with_reducible first
      | assumption | refine keeps_modChan ?_ | refine keeps_sendReq ?_ | refine KeepsOpt.map ?_ (fun u hu => ?_)
      | refine Keeps.updSame ?_ rfl rfl rfl rfl rfl)

theorem keeps_targetWrite {s0 s : State} (h : Keeps s0 s) {a1 : Target} {a2 : List Byte} :
    KeepsExc s0 (s.targetWrite a1 a2) := by
  unfold State.targetWrite
  try dsimp only
  repeat' (first
      | (with_reducible first
        | exact KeepsExc.error _ _ | refine KeepsExc.ok ?_ | assumption | refine keeps_writeMem ?_
        | refine Keeps.ofOpt ?_ (by assumption))
      | split)

theorem keeps_writeElem {s0 s : State} (h : Keeps s0 s) {a1 a2 : Nat} {a3 : Side} {a4 : Nat} {a5 : List Byte} :
    KeepsExc s0 (s.writeElem a1 a2 a3 a4 a5) := by
  unfold State.writeElem
  try dsimp only
  repeat' (first
      | (with_reducible first
        | exact KeepsExc.error _ _ | refine KeepsExc.ok ?_ | assumption | refine keeps_targetWrite ?_
        | refine keeps_cachedWrite ?_ | refine Keeps.ofOpt ?_ (by assumption))
      | split)

theorem keeps_writeElems {s0 s : State} (h : Keeps s0 s) {a1 a2 : Nat} {a3 : Side} {a4 a5 : Nat} {a6 : List Byte} :
    KeepsExc s0 (s.writeElems a1 a2 a3 a4 a5 a6) := by
  induction a5 generalizing s a4 a6 with
  | zero => exact KeepsExc.ok h
  | succ n ih =>
    unfold State.writeElems
    split
    · exact KeepsExc.ok h
    · dsimp only
      split
      · exact KeepsExc.error _ _
      · exact ih (Keeps.ofExc (keeps_writeElem h) (by assumption))

theorem keeps_atomWrite {s0 s : State} (h : Keeps s0 s) {a1 a2 a3 : Nat} {a4 : List Byte} :
    KeepsExc s0 (s.atomWrite a1 a2 a3 a4) := by
  unfold State.atomWrite
  try dsimp only
  repeat' (first
      | (with_reducible first
        | exact KeepsExc.error _ _ | refine KeepsExc.ok ?_ | assumption | refine keeps_modChan ?_ | refine keeps_sendMsg ?_
        | refine keeps_sendWr ?_ | refine keeps_writeElems ?_ | refine KeepsExc.foldl _ ?_ (fun r x hu => ?_)
        | exact KeepsExc.get (by assumption) | refine Keeps.ofOpt ?_ (by assumption) | refine Keeps.ofExc ?_ (by assumption))
      | split | with_reducible refine Keeps.updSame ?_ rfl rfl rfl rfl rfl)

theorem keeps_chNarrow {s0 s : State} (h : Keeps s0 s) {a1 a2 : Nat} : Keeps s0 (s.chNarrow a1 a2) := by
  unfold State.chNarrow
  try dsimp only
  repeat' (first
      | (with_reducible first
        | assumption | refine keeps_sbRelease ?_ | refine keeps_sbNarrow ?_ | refine Keeps.foldl _ ?_ (fun u x hu => ?_))
      | split)

theorem keeps_copyFrame {s0 s : State} (h : Keeps s0 s) {a1 a2 : Nat} : Keeps s0 (s.copyFrame a1 a2) := by
  unfold State.copyFrame
  exact Keeps.foldl _ (h.trans ⟨rfl, fun c => ⟨c.1, Cells.wf_filter _ _ _ c.2⟩, Nat.le_refl _, FusesRise.same rfl rfl rfl⟩) (fun u x hu => keeps_setByte hu)

theorem keeps_ctrlRead {s0 s : State} (h : Keeps s0 s) {a1 a2 a3 : Nat} : Keeps s0 (s.ctrlRead a1 a2 a3).2 := by
  unfold State.ctrlRead
  try dsimp only
  repeat' (first | (with_reducible first | assumption | refine keeps_readMem ?_ | refine keeps_dpaRead ?_) | split)

theorem keeps_ctrlWrite {s0 s : State} (h : Keeps s0 s) {a1 a2 : Nat} {a3 : List Byte} :
    KeepsOpt s0 (s.ctrlWrite a1 a2 a3) := by
  unfold State.ctrlWrite
  try dsimp only
  repeat' (first
      | (with_reducible first
        | assumption | exact KeepsOpt.none _ | refine keeps_writeMem ?_ | refine keeps_dpaWrite ?_
        | refine KeepsOpt.ite ?_ ?_)
      | split)

theorem keeps_notePos {s0 s : State} (h : Keeps s0 s) {a1 a2 : Nat} : Keeps s0 (s.notePos a1 a2) := by
  unfold State.notePos
  try dsimp only
  repeat' (with_reducible first | assumption | refine keeps_setReg ?_)

theorem keeps_dmaAbortDone {s0 s : State} (h : Keeps s0 s) {a1 a2 : Nat} : Keeps s0 (s.dmaAbortDone a1 a2) := by
  unfold State.dmaAbortDone
  try dsimp only
  repeat' (with_reducible first | assumption | refine keeps_modChan ?_ | refine keeps_notePos ?_ | refine Keeps.ite ?_ ?_)

theorem keeps_dmaPoint {s0 s : State} (h : Keeps s0 s) {a1 a2 : Nat} : Keeps s0 (s.dmaPoint a1 a2) := by
  unfold State.dmaPoint
  try dsimp only
  repeat' (with_reducible first | assumption | refine keeps_modChan ?_ | refine Keeps.ite ?_ ?_)

theorem keeps_dmaAck {s0 s : State} (h : Keeps s0 s) {a1 a2 : Nat} : Keeps s0 (s.dmaAck a1 a2) := by
  unfold State.dmaAck
  try dsimp only
  repeat' (with_reducible first | assumption | refine keeps_modChan ?_ | refine keeps_dmaPoint ?_ | refine Keeps.ite ?_ ?_)

theorem keeps_noteErrAddr {s0 s : State} (h : Keeps s0 s) {a1 a2 a3 : Nat} {a4 : Bool} {a5 : Nat} :
    Keeps s0 (s.noteErrAddr a1 a2 a3 a4 a5) := by
  unfold State.noteErrAddr
  try dsimp only
  repeat' (with_reducible first | assumption | refine keeps_setReg ?_)

theorem keeps_postFault {s0 s : State} (h : Keeps s0 s) {a1 a2 : Nat} {a3 a4 : Nat} {a5 : Bool} {a6 : Nat} :
    Keeps s0 (s.postFault a1 a2 a3 a4 a5 a6) := by
  unfold State.postFault
  try dsimp only
  repeat' (with_reducible first | assumption | refine Keeps.updSame ?_ rfl rfl rfl rfl rfl)

theorem keeps_dmaHalt {s0 s : State} (h : Keeps s0 s) {a1 a2 : Nat} {a3 a4 : Nat} {a5 : Bool} {a6 : Nat} :
    Keeps s0 (s.dmaHalt a1 a2 a3 a4 a5 a6) := by
  unfold State.dmaHalt
  try dsimp only
  repeat' (with_reducible first | assumption | refine keeps_modChan ?_ | refine keeps_postFault ?_)

theorem keeps_dmaCtrlFail {s0 s : State} (h : Keeps s0 s) {a1 a2 : Nat} {a3 : CtrlAccess} {a4 : Nat} :
    Keeps s0 (s.dmaCtrlFail a1 a2 a3 a4) := by
  unfold State.dmaCtrlFail
  try dsimp only
  repeat' (with_reducible first
      | assumption | refine keeps_modChan ?_ | refine keeps_noteErrAddr ?_ | refine keeps_dmaHalt ?_)

theorem keeps_dmaFetch {s0 s : State} (h : Keeps s0 s) {a1 a2 : Nat} : Keeps s0 (s.dmaFetch a1 a2) := by
  unfold State.dmaFetch
  try dsimp only
  repeat' (first
      | (with_reducible first
        | assumption | refine keeps_ctrlRead ?_ | refine keeps_dmaCtrlFail ?_ | refine keeps_modChan ?_
        | refine Keeps.ite ?_ ?_ | refine Keeps.ofSnd ?_ (by assumption))
      | split)

theorem keeps_noteStop {s0 s : State} (h : Keeps s0 s) {a1 a2 : Nat} {a3 : Bool} {a4 : Stop × Nat} :
    Keeps s0 (s.noteStop a1 a2 a3 a4) := by
  unfold State.noteStop
  try dsimp only
  repeat' (first | (with_reducible first | assumption | refine keeps_modChan ?_) | split)

theorem keeps_dmaPeerData {s0 s : State} (h : Keeps s0 s) {a1 a2 a3 : Nat} {a4 : List Byte} :
    Keeps s0 (s.dmaPeerData a1 a2 a3 a4) := by
  unfold State.dmaPeerData
  try dsimp only
  repeat' (first
      | (with_reducible first
        | assumption | refine keeps_modChan ?_ | refine keeps_atomWrite ?_ | refine keeps_noteStop ?_
        | refine keeps_dmaPoint ?_ | refine keeps_notePos ?_ | refine Keeps.ite ?_ ?_
        | refine Keeps.foldl _ ?_ (fun u x hu => ?_) | refine Keeps.ofExc ?_ (by assumption))
      | split)

theorem keeps_sendReads {s0 s : State} (h : Keeps s0 s) {a1 a2 a3 : Nat} : Keeps s0 (s.sendReads a1 a2 a3) := by
  unfold State.sendReads
  try dsimp only
  repeat' (first
      | (with_reducible first
        | assumption | refine keeps_sendReq ?_ | refine keeps_modChan ?_ | refine Keeps.ite ?_ ?_
        | refine Keeps.foldlFst _ ?_ (fun r x hu => ?_) | refine Keeps.ofOpt ?_ (by assumption))
      | split | with_reducible refine Keeps.updSame ?_ rfl rfl rfl rfl rfl)

theorem keeps_moveAtom {s0 s : State} (h : Keeps s0 s) {a1 a2 : Nat} : Keeps s0 (s.moveAtom a1 a2).1 := by
  unfold State.moveAtom
  try dsimp only
  repeat' (first
      | (with_reducible first
        | assumption | refine keeps_atomRead ?_ | refine keeps_noteStop ?_ | refine keeps_atomWrite ?_
        | refine keeps_modChan ?_ | refine keeps_countBy ?_ | refine Keeps.ofSnd ?_ (by assumption)
        | refine Keeps.ofExc ?_ (by assumption))
      | split)

theorem keeps_moveAtoms {s0 s : State} (h : Keeps s0 s) {a1 a2 a3 : Nat} : Keeps s0 (s.moveAtoms a1 a2 a3) := by
  induction a3 generalizing s with
  | zero => exact h
  | succ k ih =>
    unfold State.moveAtoms
    split
    · exact h
    · split
      · exact ih (Keeps.ofFst (keeps_moveAtom h) (by assumption))
      · exact Keeps.ofFst (keeps_moveAtom h) (by assumption)

theorem keeps_dmaRead {s0 s : State} (h : Keeps s0 s) {a1 a2 a3 : Nat} : Keeps s0 (s.dmaRead a1 a2 a3) := by
  unfold State.dmaRead
  try dsimp only
  repeat' (with_reducible first
      | assumption | refine keeps_modChan ?_ | refine keeps_sendReads ?_ | refine keeps_dmaPoint ?_ | refine keeps_notePos ?_
      | refine keeps_moveAtoms ?_ | refine Keeps.ite ?_ ?_)

theorem keeps_dmaRecord {s0 s : State} (h : Keeps s0 s) {a1 : Nat} : Keeps s0 (s.dmaRecord a1) := by
  unfold State.dmaRecord
  try dsimp only
  repeat' (first
      | (with_reducible first
        | assumption | refine keeps_count ?_ | refine keeps_modChan ?_ | refine keeps_dpaWrite ?_
        | refine keeps_dmaCtrlFail ?_ | refine keeps_dmaPush ?_ | refine keeps_setFld ?_ | refine Keeps.ite ?_ ?_
        | refine Keeps.ofOpt ?_ (by assumption))
      | split)

theorem keeps_nb4Announce {s0 s : State} (h : Keeps s0 s) {a1 a2 : Nat} : KeepsOpt s0 (s.nb4Announce a1 a2) := by
  unfold State.nb4Announce
  try dsimp only
  repeat' (with_reducible first
      | assumption | refine keeps_modChan ?_ | refine keeps_sendMsg ?_ | refine KeepsOpt.map ?_ (fun u hu => ?_))

theorem keeps_dmaStart {s0 s : State} (h : Keeps s0 s) {a1 a2 : Nat} : Keeps s0 (s.dmaStart a1 a2) := by
  unfold State.dmaStart
  try dsimp only
  repeat' (first
      | (with_reducible first
        | assumption | refine keeps_modChan ?_ | refine keeps_count ?_ | refine keeps_dmaHalt ?_ | refine keeps_sbRegister ?_
        | refine keeps_setFld ?_ | refine keeps_nb4Announce ?_ | refine Keeps.ite ?_ ?_
        | refine Keeps.ofOpt ?_ (by assumption))
      | split)

theorem keeps_dmaWriteBack {s0 s : State} (h : Keeps s0 s) {a1 a2 : Nat} : Keeps s0 (s.dmaWriteBack a1 a2) := by
  unfold State.dmaWriteBack
  try dsimp only
  repeat' (first
      | (with_reducible first
        | assumption | refine keeps_dmaPush ?_ | refine keeps_modChan ?_ | refine keeps_count ?_ | refine keeps_ctrlWrite ?_
        | refine keeps_dmaCtrlFail ?_ | refine Keeps.ite ?_ ?_ | refine KeepsOpt.bind ?_ (fun u hu => ?_)
        | refine Keeps.ofOpt ?_ (by assumption))
      | split)

theorem keeps_remap {s0 s : State} (h : Keeps s0 s) {a1 : List (Nat × Nat × Nat)} {a2 : Nat → Nat} :
    Keeps s0 (s.remap a1 a2) := by
  unfold State.remap
  try dsimp only
  repeat' (with_reducible first
      | assumption | refine keeps_tvaInv ?_ | refine keeps_setNum ?_ | refine Keeps.foldl _ ?_ (fun u x hu => ?_))

theorem keeps_pageMove {s0 s : State} (h : Keeps s0 s) {a1 : List (Nat × Nat × Nat)} {a2 a3 : Nat} :
    Keeps s0 (s.pageMove a1 a2 a3) := by
  unfold State.pageMove
  try dsimp only
  repeat' (with_reducible first
      | assumption | refine keeps_remap ?_ | refine keeps_copyFrame ?_ | refine keeps_setFld ?_ | refine keeps_lichenFw ?_
      | refine keeps_dmaResume ?_ | refine Keeps.foldl _ ?_ (fun u x hu => ?_) | refine Keeps.updSame ?_ rfl rfl rfl rfl rfl)

theorem keeps_pageRetire {s0 s : State} (h : Keeps s0 s) {a1 a2 : Nat} : Keeps s0 (s.pageRetire a1 a2) := by
  unfold State.pageRetire
  try dsimp only
  repeat' (with_reducible first | assumption | refine keeps_remap ?_ | refine keeps_pageMove ?_ | refine Keeps.ite ?_ ?_)

theorem keeps_postEnd {s0 s : State} (h : Keeps s0 s) {a1 a2 : Nat} : Keeps s0 (s.postEnd a1 a2) := by
  unfold State.postEnd
  try dsimp only
  repeat' (with_reducible first | assumption | refine keeps_setFld ?_ | refine Keeps.updSame ?_ rfl rfl rfl rfl rfl)

theorem keeps_ptRead {s0 s : State} (h : Keeps s0 s) {a1 a2 : Nat} {a3 : Walk} : Keeps s0 (s.ptRead a1 a2 a3).2 := by
  unfold State.ptRead
  try dsimp only
  repeat' (with_reducible first | assumption | refine keeps_dpaRead ?_ | refine keeps_modChan ?_ | refine keeps_count ?_)

theorem keeps_ptWalked {s0 s : State} (h : Keeps s0 s) {a1 a2 : Nat} {a3 : Walk} {a4 : Option (List Byte)} :
    Keeps s0 (s.ptWalked a1 a2 a3 a4) := by
  unfold State.ptWalked
  try dsimp only
  repeat' (first
      | (with_reducible first | assumption | refine keeps_modChan ?_ | refine keeps_lichenFw ?_ | refine Keeps.ite ?_ ?_)
      | split | with_reducible refine Keeps.updSame ?_ rfl rfl rfl rfl rfl)

theorem keeps_execDmaKick {s0 s : State} (h : Keeps s0 s) {a0 : Fin 10} {a1 : Fin 64} :
    KeepsOut s0 (execDmaKick a0 a1 s) := by
  unfold execDmaKick
  try dsimp only
  repeat' (with_reducible first | assumption | refine KeepsOut.next ?_ | refine keeps_dmaLaunch ?_ | refine Keeps.ite ?_ ?_)

theorem keeps_execDmaDescFetch {s0 s : State} (h : Keeps s0 s) {a0 : Fin 10} {a1 : Fin 64} :
    KeepsOut s0 (execDmaDescFetch a0 a1 s) := by
  unfold execDmaDescFetch
  try dsimp only
  repeat' (with_reducible first | assumption | refine KeepsOut.next ?_ | refine keeps_dmaFetch ?_ | refine Keeps.ite ?_ ?_)

theorem keeps_execDmaDescStart {s0 s : State} (h : Keeps s0 s) {a0 : Fin 10} {a1 : Fin 64} :
    KeepsOut s0 (execDmaDescStart a0 a1 s) := by
  unfold execDmaDescStart
  try dsimp only
  repeat' (with_reducible first | assumption | refine KeepsOut.next ?_ | refine keeps_dmaStart ?_ | refine Keeps.ite ?_ ?_)

theorem keeps_execDmaShadowHandover {s0 s : State} (h : Keeps s0 s) {a0 : Fin 10} {a1 : Fin 64} :
    KeepsOut s0 (execDmaShadowHandover a0 a1 s) := by
  unfold execDmaShadowHandover
  try dsimp only
  repeat' (with_reducible first | assumption | refine KeepsOut.next ?_ | refine keeps_dmaBoundary ?_ | refine Keeps.ite ?_ ?_)

theorem keeps_execDmaReadReturn {s0 s : State} (h : Keeps s0 s) {a0 : Fin 10} {a1 : Fin 64} {a2 : Nat} :
    KeepsOut s0 (execDmaReadReturn a0 a1 a2 s) := by
  unfold execDmaReadReturn
  try dsimp only
  repeat' (with_reducible first | assumption | refine KeepsOut.next ?_ | refine keeps_dmaRead ?_ | refine Keeps.ite ?_ ?_)

theorem keeps_execDmaWriteAck {s0 s : State} (h : Keeps s0 s) {a0 : Fin 10} {a1 : Fin 64} :
    KeepsOut s0 (execDmaWriteAck a0 a1 s) := by
  unfold execDmaWriteAck
  try dsimp only
  repeat' (with_reducible first | assumption | refine KeepsOut.next ?_ | refine keeps_dmaAck ?_ | refine Keeps.ite ?_ ?_)

theorem keeps_execDmaRingWriteback {s0 s : State} (h : Keeps s0 s) {a0 : Fin 10} {a1 : Fin 64} :
    KeepsOut s0 (execDmaRingWriteback a0 a1 s) := by
  unfold execDmaRingWriteback
  try dsimp only
  repeat' (with_reducible first
      | assumption | refine KeepsOut.next ?_ | refine keeps_dmaWriteBack ?_ | refine Keeps.ite ?_ ?_)

theorem keeps_execDmaCqRecordPost {s0 s : State} (h : Keeps s0 s) {a0 : Fin 64} : KeepsOut s0 (execDmaCqRecordPost a0 s) := by
  unfold execDmaCqRecordPost
  try dsimp only
  repeat' (with_reducible first | assumption | refine KeepsOut.next ?_ | refine keeps_dmaRecord ?_ | refine Keeps.ite ?_ ?_)

theorem keeps_execDmaPostingResume {s0 s : State} (h : Keeps s0 s) {a0 : Fin 10} {a1 : Fin 64} :
    KeepsOut s0 (execDmaPostingResume a0 a1 s) := by
  unfold execDmaPostingResume
  try dsimp only
  repeat' (with_reducible first
      | assumption | refine KeepsOut.next ?_ | refine keeps_dmaRecord ?_ | refine keeps_dmaPush ?_ | refine Keeps.ite ?_ ?_
      | refine KeepsOut.ite ?_ ?_)

theorem keeps_execDmaPaceResume {s0 s : State} (h : Keeps s0 s) {a0 : Fin 10} {a1 : Fin 64} :
    KeepsOut s0 (execDmaPaceResume a0 a1 s) := by
  unfold execDmaPaceResume
  try dsimp only
  repeat' (with_reducible first | assumption | refine KeepsOut.next ?_ | refine keeps_modChan ?_ | refine KeepsOut.ite ?_ ?_)

theorem keeps_execDmaBusError {s0 s : State} (h : Keeps s0 s) {a0 : Fin 10} {a1 : Fin 64} :
    KeepsOut s0 (execDmaBusError a0 a1 s) := by
  unfold execDmaBusError
  try dsimp only
  repeat' (first
      | (with_reducible first
        | assumption | refine KeepsOut.next ?_ | refine keeps_dmaHalt ?_ | refine keeps_notePos ?_
        | refine keeps_noteErrAddr ?_ | refine KeepsOut.ite ?_ ?_)
      | split)

theorem keeps_execDmaPtWalk {s0 s : State} (h : Keeps s0 s) {a0 : Fin 10} {a1 : Fin 64} :
    KeepsOut s0 (execDmaPtWalk a0 a1 s) := by
  unfold execDmaPtWalk
  try dsimp only
  repeat' (first
      | (with_reducible first | assumption | refine KeepsOut.next ?_ | refine keeps_ptWalked ?_ | refine keeps_ptRead ?_)
      | split)

theorem keeps_execDmaTranslationFault {s0 s : State} (h : Keeps s0 s) {a0 : Fin 10} {a1 : Fin 64} :
    KeepsOut s0 (execDmaTranslationFault a0 a1 s) := by
  unfold execDmaTranslationFault
  try dsimp only
  repeat' (first
      | (with_reducible first
        | assumption | refine KeepsOut.next ?_ | refine keeps_noteErrAddr ?_ | refine keeps_chNarrow ?_
        | refine keeps_notePos ?_ | refine keeps_modChan ?_ | refine keeps_postFault ?_ | refine KeepsOut.ite ?_ ?_)
      | split)

theorem keeps_execDmaResume {s0 s : State} (h : Keeps s0 s) {a0 : Fin 10} {a1 : Fin 64} :
    KeepsOut s0 (execDmaResume a0 a1 s) := by
  unfold execDmaResume
  try dsimp only
  repeat' (with_reducible first | assumption | refine KeepsOut.next ?_ | refine keeps_dmaResume ?_ | refine Keeps.ite ?_ ?_)

theorem keeps_execDmaAbort {s0 s : State} (h : Keeps s0 s) {a0 : Fin 10} {a1 : Fin 64} :
    KeepsOut s0 (execDmaAbort a0 a1 s) := by
  unfold execDmaAbort
  try dsimp only
  repeat' (with_reducible first | assumption | refine KeepsOut.next ?_ | refine keeps_dmaAbort ?_ | refine Keeps.ite ?_ ?_)

theorem keeps_execDmaAbortDone {s0 s : State} (h : Keeps s0 s) {a0 : Fin 10} {a1 : Fin 64} :
    KeepsOut s0 (execDmaAbortDone a0 a1 s) := by
  unfold execDmaAbortDone
  try dsimp only
  repeat' (with_reducible first
      | assumption | refine KeepsOut.next ?_ | refine keeps_dmaAbortDone ?_ | refine Keeps.ite ?_ ?_)

theorem keeps_execDmaShadowSeal {s0 s : State} (h : Keeps s0 s) {a0 : Fin 10} {a1 : Fin 64} :
    KeepsOut s0 (execDmaShadowSeal a0 a1 s) := by
  unfold execDmaShadowSeal
  try dsimp only
  repeat' (with_reducible first | assumption | refine KeepsOut.next ?_ | refine keeps_dmaSeal ?_ | refine Keeps.ite ?_ ?_)

theorem keeps_execTvaInvalidate {s0 s : State} (h : Keeps s0 s) {a0 : Word} : KeepsOut s0 (execTvaInvalidate a0 s) := by
  unfold execTvaInvalidate
  try dsimp only
  repeat' (with_reducible first | assumption | refine KeepsOut.next ?_ | refine keeps_setReg ?_ | refine keeps_tvaInv ?_)

theorem keeps_execTvaInvalidateDone {s0 s : State} (h : Keeps s0 s) : KeepsOut s0 (execTvaInvalidateDone s) := by
  unfold execTvaInvalidateDone
  try dsimp only
  repeat' (first
      | (with_reducible first
        | assumption | refine KeepsOut.next ?_ | refine keeps_setFld ?_ | refine KeepsOut.ite ?_ ?_
        | refine Keeps.updSame ?_ rfl rfl rfl rfl rfl)
      | split)

theorem keeps_execPageRetire {s0 s : State} (h : Keeps s0 s) {a0 a1 : Fin 32768} : KeepsOut s0 (execPageRetire a0 a1 s) := by
  unfold execPageRetire
  try dsimp only
  repeat' (with_reducible first | assumption | refine KeepsOut.next ?_ | refine keeps_pageRetire ?_)

theorem keeps_execDmaPost {s0 s : State} (h : Keeps s0 s) {a0 : Fin 10} {a1 : Word} : KeepsOut s0 (execDmaPost a0 a1 s) := by
  unfold execDmaPost
  try dsimp only
  repeat' (with_reducible first | assumption | refine KeepsOut.next ?_ | refine keeps_post ?_)

theorem keeps_execPostTimeout {s0 s : State} (h : Keeps s0 s) {a0 : Fin 10} : KeepsOut s0 (execPostTimeout a0 s) := by
  unfold execPostTimeout
  try dsimp only
  repeat' (first
      | (with_reducible first | assumption | refine KeepsOut.next ?_ | refine keeps_postEnd ?_ | refine Keeps.ite ?_ ?_)
      | split)

theorem keeps_execMailboxArrive {s0 s : State} (h : Keeps s0 s) {a0 : Fin 10} : KeepsOut s0 (execMailboxArrive a0 s) := by
  unfold execMailboxArrive
  try dsimp only
  repeat' (first
      | (with_reducible first
        | assumption | refine KeepsOut.next ?_ | refine keeps_postEnd ?_ | refine KeepsOut.ite ?_ ?_
        | refine Keeps.updSame ?_ rfl rfl rfl rfl rfl)
      | split)

theorem keeps_execMbxPop {s0 s : State} (h : Keeps s0 s) {a0 : Fin 10} : KeepsOut s0 (execMbxPop a0 s) := by
  unfold execMbxPop
  try dsimp only
  repeat' (with_reducible first | assumption | refine KeepsOut.next ?_ | refine keeps_mbxPop ?_)

theorem keeps_execFaultQueuePop {s0 s : State} (h : Keeps s0 s) : KeepsOut s0 (execFaultQueuePop s) := by
  unfold execFaultQueuePop
  try dsimp only
  repeat' (with_reducible first | assumption | refine KeepsOut.next ?_ | refine keeps_fqPop ?_)

/-! ### PeerLinks -/

theorem keeps_denyMsg {s0 s : State} (h : Keeps s0 s) {a1 : LinkMsg} {a2 : Nat} : Keeps s0 (s.denyMsg a1 a2) := by
  unfold State.denyMsg
  try dsimp only
  repeat' (with_reducible first | assumption | refine keeps_sendMsg ?_ | refine Keeps.ite ?_ ?_ | refine KeepsOpt.getD ?_ ?_)

theorem keeps_useRx {s0 s : State} (h : Keeps s0 s) {a1 a2 a3 : Nat} : Keeps s0 (s.useRx a1 a2 a3) := by
  unfold State.useRx
  try dsimp only
  repeat' (with_reducible first | assumption | refine keeps_setFld ?_)

theorem keeps_acceptMsg {s0 s : State} (h : Keeps s0 s) {a1 : Nat} {a2 : Bool} {a3 : List (BitVec 256)} :
    Keeps s0 (s.acceptMsg a1 a2 a3) := by
  unfold State.acceptMsg
  try dsimp only
  repeat' (first
      | (with_reducible first
        | assumption | refine keeps_setLink ?_ | refine keeps_count ?_ | refine keeps_denyMsg ?_ | refine keeps_sendMsg ?_
        | refine keeps_useRx ?_ | refine Keeps.ite ?_ ?_ | refine Keeps.ofOpt ?_ (by assumption))
      | dsimp only | split | with_reducible refine Keeps.upd ?_ rfl rfl rfl ?_ ?_ | exact Nat.le_refl _
      | exact FusesRise.same rfl rfl rfl)

theorem keeps_acceptFlits {s0 s : State} (h : Keeps s0 s) {a1 : Nat} {a2 : Bool} {a3 : List (Nat × BitVec 256)} :
    Keeps s0 (s.acceptFlits a1 a2 a3) := by
  fun_induction State.acceptFlits s a1 a2 a3 <;> repeat' (with_reducible first
      | assumption | refine keeps_setLink ?_ | refine keeps_acceptMsg ?_ | apply_assumption | refine Keeps.ite ?_ ?_)

theorem keeps_acceptTrailer {s0 s : State} (h : Keeps s0 s) {a1 : Nat} {a2 : FlitGroup} :
    Keeps s0 (s.acceptTrailer a1 a2) := by
  unfold State.acceptTrailer
  try dsimp only
  repeat' (with_reducible first
      | assumption | refine keeps_setLink ?_ | refine keeps_setFld ?_ | refine keeps_drainWait ?_
      | refine Keeps.foldl _ ?_ (fun u x hu => ?_))

theorem keeps_setLinkSt {s0 s : State} (h : Keeps s0 s) {a1 a2 : Nat} : Keeps s0 (s.setLinkSt a1 a2) := by
  unfold State.setLinkSt
  try dsimp only
  repeat' (with_reducible first
      | assumption | refine keeps_setFld ?_ | refine keeps_count ?_ | refine keeps_postEvent ?_ | refine Keeps.ite ?_ ?_)

theorem keeps_peerFails {s0 s : State} (h : Keeps s0 s) {a1 : Nat} : Keeps s0 (s.peerFails a1) := by
  unfold State.peerFails
  try dsimp only
  repeat' (with_reducible first
      | assumption | refine keeps_barBreakHome ?_ | refine keeps_barBreak ?_ | refine Keeps.ite ?_ ?_
      | refine Keeps.foldl _ ?_ (fun u x hu => ?_))

theorem keeps_failReq {s0 s : State} (h : Keeps s0 s) {a1 : LinkReq} : Keeps s0 (s.failReq a1) := by
  unfold State.failReq
  try dsimp only
  repeat' (with_reducible first | assumption | refine keeps_modChan ?_ | refine Keeps.ite ?_ ?_)

theorem keeps_linkReset {s0 s : State} (h : Keeps s0 s) {a1 a2 : Nat} : Keeps s0 (s.linkReset a1 a2) := by
  unfold State.linkReset
  try dsimp only
  repeat' (with_reducible first
      | assumption | refine keeps_setLinkSt ?_ | refine keeps_peerFails ?_ | refine keeps_setFld ?_ | refine keeps_countBy ?_
      | refine keeps_failReq ?_ | refine keeps_setLink ?_ | refine Keeps.ite ?_ ?_
      | refine Keeps.foldl _ ?_ (fun u x hu => ?_))

theorem keeps_linkDown {s0 s : State} (h : Keeps s0 s) {a1 : Nat} : Keeps s0 (s.linkDown a1) := by
  unfold State.linkDown
  try dsimp only
  repeat' (with_reducible first | assumption | refine keeps_setLinkSt ?_ | refine keeps_peerFails ?_ | refine Keeps.ite ?_ ?_)

theorem keeps_correct {s0 s : State} (h : Keeps s0 s) {a1 : Nat} : Keeps s0 (s.correct a1) := by
  unfold State.correct
  try dsimp only
  repeat' (first
      | with_reducible assumption | exact Nat.le_add_right _ _
      | (with_reducible first
        | refine keeps_setFld ?_ | refine keeps_loseAlign ?_ | refine keeps_jumpTo ?_ ?_ | refine keeps_hold ?_
        | refine Keeps.ite ?_ ?_)
      | dsimp only | split | with_reducible refine Keeps.upd ?_ rfl rfl rfl ?_ ?_ | exact Nat.le_refl _
      | exact FusesRise.same rfl rfl rfl)

theorem keeps_resend {s0 s : State} (h : Keeps s0 s) {a1 : Nat} : Keeps s0 (s.resend a1) := by
  unfold State.resend
  try dsimp only
  repeat' (with_reducible first
      | assumption | refine keeps_setLink ?_ | refine keeps_count ?_ | refine keeps_linkReset ?_ | refine Keeps.ite ?_ ?_)

theorem keeps_groupRx {s0 s : State} (h : Keeps s0 s) {a1 : Nat} {a2 : FlitGroup} : Keeps s0 (s.groupRx a1 a2) := by
  unfold State.groupRx
  try dsimp only
  repeat' (with_reducible first
      | assumption | refine keeps_setLink ?_ | refine keeps_count ?_ | refine keeps_acceptTrailer ?_ | refine keeps_resend ?_
      | refine keeps_acceptFlits ?_ | refine Keeps.ite ?_ ?_)

theorem keeps_skew {s0 s : State} (h : Keeps s0 s) {a1 : Nat} : Keeps s0 (s.skew a1) := by
  unfold State.skew
  try dsimp only
  repeat' (with_reducible first
      | assumption | refine keeps_setFld ?_ | refine keeps_notePos ?_ | refine keeps_count ?_ | refine keeps_dmaHalt ?_
      | refine keeps_noteErrAddr ?_ | refine keeps_sendMsg ?_ | refine KeepsOpt.getD ?_ ?_)

theorem keeps_nb4Block {s0 s : State} (h : Keeps s0 s) {a1 a2 : Nat} {a3 : List Byte} : Keeps s0 (s.nb4Block a1 a2 a3).1 := by
  unfold State.nb4Block
  try dsimp only
  repeat' (first
      | (with_reducible first
        | assumption | refine keeps_skew ?_ | refine keeps_atomWrite ?_ | refine keeps_noteStop ?_ | refine keeps_countBy ?_
        | refine keeps_notePos ?_ | refine keeps_modChan ?_ | refine keeps_sendMsg ?_ | refine keeps_dmaPoint ?_
        | refine KeepsOpt.getD ?_ ?_ | refine Keeps.ofExc ?_ (by assumption))
      | split)

theorem keeps_nb4Blocks {s0 s : State} (h : Keeps s0 s) {a1 a2 a3 : Nat} {a4 : List Byte} :
    Keeps s0 (s.nb4Blocks a1 a2 a3 a4).1 := by
  fun_induction State.nb4Blocks s a1 a2 a3 a4 <;> repeat' (with_reducible first
      | assumption | refine keeps_nb4Block ?_ | apply_assumption | refine Keeps.ofFst ?_ (by assumption))

theorem keeps_rdReply {s0 s : State} (h : Keeps s0 s) {a1 : Nat} {a2 : LinkMsg} {a3 : Nat} {a4 : List Byte} :
    Keeps s0 (s.rdReply a1 a2 a3 a4) := by
  unfold State.rdReply
  try dsimp only
  repeat' (with_reducible first | assumption | refine keeps_freeRx ?_ | refine keeps_sendMsg ?_ | refine KeepsOpt.getD ?_ ?_)

theorem keeps_rdDone {s0 s : State} (h : Keeps s0 s) {l : Nat} {m : LinkMsg} {o : Option (List Byte)} :
    Keeps s0 (s.rdDone l m o) := by
  cases o <;> exact keeps_rdReply h

theorem keeps_retrain {s0 s : State} (h : Keeps s0 s) {a1 : Nat} : Keeps s0 (s.retrain a1) := by
  unfold State.retrain
  try dsimp only
  repeat' (with_reducible first | assumption | refine keeps_setLink ?_ | refine keeps_setLinkSt ?_)

theorem keeps_takeReq {s0 s : State} (h : Keeps s0 s) {a1 : LinkMsg} : KeepsOptP s0 (s.takeReq a1) := by
  unfold State.takeReq
  try dsimp only
  repeat' (with_reducible first
      | assumption | refine keeps_setLink ?_ | refine KeepsOptP.findSome _ (fun x => ?_) | refine KeepsOptP.map (fun x => ?_))

theorem keeps_winDenied {s0 s : State} (h : Keeps s0 s) {a1 : Nat} {a2 : LinkMsg} : Keeps s0 (s.winDenied a1 a2) := by
  unfold State.winDenied
  try dsimp only
  repeat' (with_reducible first
      | assumption | refine keeps_count ?_ | refine keeps_lichenFw ?_ | refine Keeps.ite ?_ ?_
      | refine Keeps.updSame ?_ rfl rfl rfl rfl rfl)

theorem keeps_wrReply {s0 s : State} (h : Keeps s0 s) {a1 : Nat} {a2 : LinkMsg} {a3 : Nat} :
    Keeps s0 (s.wrReply a1 a2 a3) := by
  unfold State.wrReply
  try dsimp only
  repeat' (with_reducible first | assumption | refine keeps_freeRx ?_ | refine keeps_sendMsg ?_ | refine KeepsOpt.getD ?_ ?_)

theorem keeps_wrDone {s0 s : State} (h : Keeps s0 s) {l : Nat} {m : LinkMsg} {o : Option State} (ho : KeepsOpt s0 o) :
    Keeps s0 (s.wrDone l m o) := by
  cases o with
  | none => exact keeps_wrReply h
  | some t => exact keeps_wrReply (ho t rfl)

theorem keeps_execTimeSyncTimer {s0 s : State} (h : Keeps s0 s) : KeepsOut s0 (execTimeSyncTimer s) := by
  unfold execTimeSyncTimer
  try dsimp only
  repeat' (first
      | (with_reducible first
        | assumption | refine KeepsOut.next ?_ | refine keeps_count ?_ | refine keeps_loseAlign ?_ | refine keeps_handLink ?_
        | refine Keeps.ite ?_ ?_ | refine KeepsOut.ite ?_ ?_ | refine Keeps.foldl _ ?_ (fun u x hu => ?_))
      | dsimp only | split | with_reducible refine Keeps.upd ?_ rfl rfl rfl ?_ ?_ | exact Nat.le_refl _
      | exact FusesRise.same rfl rfl rfl)

theorem keeps_execEplGroupRx {s0 s : State} (h : Keeps s0 s) {a0 : Fin 6} {a1 : FlitGroup} :
    KeepsOut s0 (execEplGroupRx a0 a1 s) := by
  unfold execEplGroupRx
  try dsimp only
  repeat' (with_reducible first | assumption | refine KeepsOut.next ?_ | refine keeps_groupRx ?_)

theorem keeps_execEplReplayTimeout {s0 s : State} (h : Keeps s0 s) {a0 : Fin 6} :
    KeepsOut s0 (execEplReplayTimeout a0 s) := by
  unfold execEplReplayTimeout
  try dsimp only
  repeat' (with_reducible first | assumption | refine KeepsOut.next ?_ | refine keeps_resend ?_ | refine Keeps.ite ?_ ?_)

theorem keeps_execEplTrailerTimeout {s0 s : State} (h : Keeps s0 s) {a0 : Fin 6} :
    KeepsOut s0 (execEplTrailerTimeout a0 s) := by
  unfold execEplTrailerTimeout
  try dsimp only
  repeat' (with_reducible first | assumption | refine KeepsOut.next ?_ | refine keeps_linkReset ?_ | refine Keeps.ite ?_ ?_)

theorem keeps_execEplLinkReset {s0 s : State} (h : Keeps s0 s) {a0 : Fin 6} : KeepsOut s0 (execEplLinkReset a0 s) := by
  unfold execEplLinkReset
  try dsimp only
  repeat' (with_reducible first | assumption | refine KeepsOut.next ?_ | refine keeps_retrain ?_ | refine Keeps.ite ?_ ?_)

theorem keeps_execEplTrainDone {s0 s : State} (h : Keeps s0 s) {a0 : Fin 6} : KeepsOut s0 (execEplTrainDone a0 s) := by
  unfold execEplTrainDone
  try dsimp only
  repeat' (with_reducible first
      | assumption | refine KeepsOut.next ?_ | refine keeps_setLinkSt ?_ | refine keeps_transmit ?_ | refine keeps_setLink ?_
      | refine KeepsOut.ite ?_ ?_)

theorem keeps_execEplResetWrite {s0 s : State} (h : Keeps s0 s) {a0 : Fin 6} : KeepsOut s0 (execEplResetWrite a0 s) := by
  unfold execEplResetWrite
  try dsimp only
  repeat' (with_reducible first | assumption | refine KeepsOut.next ?_ | refine keeps_linkReset ?_ | refine Keeps.ite ?_ ?_)

theorem keeps_execEplWinLock {s0 s : State} (h : Keeps s0 s) {a0 : Fin 16} : KeepsOut s0 (execEplWinLock a0 s) := by
  unfold execEplWinLock
  try dsimp only
  repeat' (with_reducible first | assumption | refine KeepsOut.next ?_ | refine keeps_setFld ?_)

theorem keeps_execWr {s0 s : State} (h : Keeps s0 s) {a0 : Fin 7} : KeepsOut s0 (execWr a0 s) := by
  unfold execWr
  try dsimp only
  repeat' (first
      | (with_reducible first
        | assumption | refine KeepsOut.next ?_ | refine keeps_wrReply ?_ | refine keeps_winDenied ?_
        | refine keeps_wrDone ?_ ?_ | refine keeps_dpaWrite ?_ | refine KeepsOut.ite ?_ ?_)
      | split)

theorem keeps_execRd {s0 s : State} (h : Keeps s0 s) {a0 : Fin 7} : KeepsOut s0 (execRd a0 s) := by
  unfold execRd
  try dsimp only
  repeat' (first
      | (with_reducible first
        | assumption | refine KeepsOut.next ?_ | refine keeps_rdReply ?_ | refine keeps_winDenied ?_ | refine keeps_rdDone ?_
        | refine keeps_dpaRead ?_ | refine KeepsOut.ite ?_ ?_)
      | split)

theorem keeps_execWrAck {s0 s : State} (h : Keeps s0 s) {a0 : Fin 7} : KeepsOut s0 (execWrAck a0 s) := by
  unfold execWrAck
  try dsimp only
  repeat' (first
      | (with_reducible first
        | assumption | refine KeepsOut.next ?_ | refine keeps_freeRx ?_ | refine keeps_takeReq ?_ | refine keeps_dmaAck ?_
        | refine keeps_failReq ?_ | refine KeepsOut.ite ?_ ?_ | refine Keeps.ofOptP ?_ (by assumption))
      | split)

theorem keeps_execRdData {s0 s : State} (h : Keeps s0 s) {a0 : Fin 7} : KeepsOut s0 (execRdData a0 s) := by
  unfold execRdData
  try dsimp only
  repeat' (first
      | (with_reducible first
        | assumption | refine KeepsOut.next ?_ | refine keeps_freeRx ?_ | refine keeps_takeReq ?_
        | refine keeps_dmaPeerData ?_ | refine keeps_failReq ?_ | refine KeepsOut.ite ?_ ?_
        | refine Keeps.ofOptP ?_ (by assumption))
      | split)

theorem keeps_execNb4Ann {s0 s : State} (h : Keeps s0 s) {a0 : Fin 7} : KeepsOut s0 (execNb4Ann a0 s) := by
  unfold execNb4Ann
  try dsimp only
  repeat' (first
      | (with_reducible first
        | assumption | refine KeepsOut.next ?_ | refine keeps_freeRx ?_ | refine keeps_denyMsg ?_ | refine keeps_modChan ?_
        | refine keeps_skew ?_ | refine Keeps.ite ?_ ?_ | refine KeepsOut.ite ?_ ?_)
      | split)

theorem keeps_execNb4Data {s0 s : State} (h : Keeps s0 s) {a0 : Fin 7} : KeepsOut s0 (execNb4Data a0 s) := by
  unfold execNb4Data
  try dsimp only
  repeat' (first
      | (with_reducible first
        | assumption | refine KeepsOut.next ?_ | refine keeps_denyMsg ?_ | refine keeps_freeRx ?_ | refine keeps_nb4Blocks ?_
        | refine KeepsOut.ite ?_ ?_ | refine Keeps.ofFst ?_ (by assumption))
      | split)

theorem keeps_execNb4Ctl {s0 s : State} (h : Keeps s0 s) {a0 : Fin 7} : KeepsOut s0 (execNb4Ctl a0 s) := by
  unfold execNb4Ctl
  try dsimp only
  repeat' (first
      | (with_reducible first
        | assumption | refine KeepsOut.next ?_ | refine keeps_freeRx ?_ | refine keeps_modChan ?_ | refine keeps_dmaPoint ?_
        | refine Keeps.ite ?_ ?_ | refine KeepsOut.ite ?_ ?_)
      | split)

theorem keeps_execTsSync {s0 s : State} (h : Keeps s0 s) {a0 : Fin 7} : KeepsOut s0 (execTsSync a0 s) := by
  unfold execTsSync
  try dsimp only
  repeat' (first
      | (with_reducible first
        | assumption | refine KeepsOut.next ?_ | refine keeps_freeRx ?_ | refine keeps_handLink ?_ | refine KeepsOut.ite ?_ ?_
        | refine Keeps.upd ?_ rfl rfl rfl ?_ ?_)
      | exact Nat.le_refl _ | exact FusesRise.same rfl rfl rfl | split)

theorem keeps_execTsDreq {s0 s : State} (h : Keeps s0 s) {a0 : Fin 7} : KeepsOut s0 (execTsDreq a0 s) := by
  unfold execTsDreq
  try dsimp only
  repeat' (first
      | (with_reducible first | assumption | refine KeepsOut.next ?_ | refine keeps_freeRx ?_ | refine keeps_handLink ?_)
      | split)

theorem keeps_execTsDrsp {s0 s : State} (h : Keeps s0 s) {a0 : Fin 7} : KeepsOut s0 (execTsDrsp a0 s) := by
  unfold execTsDrsp
  try dsimp only
  repeat' (first
      | (with_reducible first
        | assumption | refine KeepsOut.next ?_ | refine keeps_freeRx ?_ | refine keeps_correct ?_ | refine Keeps.ite ?_ ?_)
      | split)

theorem keeps_execBarArr {s0 s : State} (h : Keeps s0 s) {a0 : Fin 7} : KeepsOut s0 (execBarArr a0 s) := by
  unfold execBarArr
  try dsimp only
  repeat' (first
      | (with_reducible first
        | assumption | refine KeepsOut.next ?_ | refine keeps_freeRx ?_ | refine keeps_homeArrive ?_ | refine Keeps.ite ?_ ?_)
      | split)

theorem keeps_execBarRel {s0 s : State} (h : Keeps s0 s) {a0 : Fin 7} : KeepsOut s0 (execBarRel a0 s) := by
  unfold execBarRel
  try dsimp only
  repeat' (first
      | (with_reducible first
        | assumption | refine KeepsOut.next ?_ | refine keeps_freeRx ?_ | refine keeps_barRelease ?_ | refine keeps_setBar ?_
        | refine keeps_setFld ?_ | refine KeepsOut.ite ?_ ?_)
      | split)

theorem keeps_execBarBroken {s0 s : State} (h : Keeps s0 s) {a0 : Fin 7} : KeepsOut s0 (execBarBroken a0 s) := by
  unfold execBarBroken
  try dsimp only
  repeat' (first
      | (with_reducible first
        | assumption | refine KeepsOut.next ?_ | refine keeps_freeRx ?_ | refine keeps_barBreak ?_ | refine Keeps.ite ?_ ?_)
      | split)

theorem keeps_execHeartbeatTimer {s0 s : State} (h : Keeps s0 s) {a0 : Fin 6} : KeepsOut s0 (execHeartbeatTimer a0 s) := by
  unfold execHeartbeatTimer
  try dsimp only
  repeat' (with_reducible first
      | assumption | refine KeepsOut.next ?_ | refine keeps_setLink ?_ | refine keeps_handLink ?_ | refine KeepsOut.ite ?_ ?_)

theorem keeps_execHeartbeat {s0 s : State} (h : Keeps s0 s) {a0 : Fin 7} : KeepsOut s0 (execHeartbeat a0 s) := by
  unfold execHeartbeat
  try dsimp only
  repeat' (first
      | (with_reducible first
        | assumption | refine KeepsOut.next ?_ | refine keeps_freeRx ?_ | refine keeps_setFld ?_ | refine keeps_setLink ?_
        | refine Keeps.ite ?_ ?_ | refine KeepsOut.ite ?_ ?_)
      | split)

theorem keeps_execPeerAliveTimeout {s0 s : State} (h : Keeps s0 s) {a0 : Fin 6} :
    KeepsOut s0 (execPeerAliveTimeout a0 s) := by
  unfold execPeerAliveTimeout
  try dsimp only
  repeat' (with_reducible first
      | assumption | refine KeepsOut.next ?_ | refine keeps_setFld ?_ | refine keeps_lichenFw ?_ | refine keeps_peerFails ?_
      | refine Keeps.ite ?_ ?_ | refine KeepsOut.ite ?_ ?_)

theorem keeps_execGoodbye {s0 s : State} (h : Keeps s0 s) {a0 : Fin 7} : KeepsOut s0 (execGoodbye a0 s) := by
  unfold execGoodbye
  try dsimp only
  repeat' (first
      | (with_reducible first
        | assumption | refine KeepsOut.next ?_ | refine keeps_freeRx ?_ | refine keeps_peerFails ?_ | refine keeps_setFld ?_
        | refine KeepsOut.ite ?_ ?_)
      | split)

theorem keeps_execLinit {s0 s : State} (h : Keeps s0 s) {a0 : Fin 6} : KeepsOut s0 (execLinit a0 s) := by
  unfold execLinit
  try dsimp only
  repeat' (first
      | (with_reducible first
        | assumption | refine KeepsOut.next ?_ | refine keeps_setLink ?_ | refine keeps_linkReset ?_ | refine keeps_setFld ?_
        | refine keeps_setLinkSt ?_ | refine keeps_transmit ?_ | refine Keeps.ite ?_ ?_ | refine KeepsOut.ite ?_ ?_
        | refine Keeps.foldl _ ?_ (fun u x hu => ?_))
      | split)

theorem keeps_execLinitAck {s0 s : State} (h : Keeps s0 s) {a0 : Fin 6} : KeepsOut s0 (execLinitAck a0 s) := by
  unfold execLinitAck
  try dsimp only
  repeat' (first
      | (with_reducible first
        | assumption | refine KeepsOut.next ?_ | refine keeps_setLink ?_ | refine keeps_setFld ?_ | refine keeps_setLinkSt ?_
        | refine keeps_lichenFw ?_ | refine Keeps.ite ?_ ?_ | refine KeepsOut.ite ?_ ?_)
      | split)

theorem keeps_execEplSignalDetect {s0 s : State} (h : Keeps s0 s) {a0 : Fin 6} : KeepsOut s0 (execEplSignalDetect a0 s) := by
  unfold execEplSignalDetect
  try dsimp only
  repeat' (with_reducible first
      | assumption | refine KeepsOut.next ?_ | refine keeps_setLink ?_ | refine keeps_retrain ?_ | refine KeepsOut.ite ?_ ?_)

end Sys2Proof.Machine
end

