-- ==== Sys2Proof/Laws/KeepsCores.lean ====
section
/-!
SUPPORT. What every operation and every command keeps (Keeps.lean): cue queues, fronds, the recorder, scripts and audits.
-/
namespace Sys2Proof.Machine

/-! ### CueQueues -/

theorem keeps_countLate {s0 s : State} (h : Keeps s0 s) {a1 : QueueId} {a2 : CueEntry} : Keeps s0 (s.countLate a1 a2) := by
  unfold State.countLate
  try dsimp only
  repeat' (with_reducible first | assumption | refine keeps_count ?_ | refine keeps_setCq ?_)

theorem keeps_countMiss {s0 s : State} (h : Keeps s0 s) {a1 : QueueId} : Keeps s0 (s.countMiss a1) := by
  unfold State.countMiss
  try dsimp only
  repeat' (with_reducible first | assumption | refine keeps_countBy ?_ | refine keeps_count ?_)

theorem keeps_haltQueue {s0 s : State} (h : Keeps s0 s) {a1 : QueueId} {a2 : CueEntry} : Keeps s0 (s.haltQueue a1 a2) := by
  unfold State.haltQueue
  try dsimp only
  repeat' (with_reducible first | assumption | refine keeps_setCq ?_ | refine keeps_countMiss ?_ | refine keeps_lichenHw ?_)

theorem keeps_pushCue {s0 s : State} (h : Keeps s0 s) {a1 : QueueId} {a2 : CueEntry} {a3 : Bool} :
    Keeps s0 (s.pushCue a1 a2 a3) := by
  unfold State.pushCue
  try dsimp only
  repeat' (with_reducible first
      | assumption | refine keeps_setFld ?_ | refine keeps_countLate ?_ | refine keeps_setCq ?_ | refine keeps_countMiss ?_
      | refine keeps_haltQueue ?_ | refine Keeps.ite ?_ ?_)

theorem keeps_dropCues {s0 s : State} (h : Keeps s0 s) {a1 : Nat} : Keeps s0 (s.dropCues a1) := by
  unfold State.dropCues
  try dsimp only
  repeat' (with_reducible first | assumption | refine Keeps.updSame ?_ rfl rfl rfl rfl rfl)

theorem keeps_fire {s0 s : State} (h : Keeps s0 s) {a1 : QueueId} {a2 : Nat}
    {a3 : CueEntry → State → Option State} (he : ∀ e u, Keeps s0 u → KeepsOpt s0 (a3 e u)) :
    Keeps s0 (s.fire a1 a2 a3) := by
  unfold State.fire
  try dsimp only
  repeat' (first
      | with_reducible assumption | refine he _ _ ?_
      | (with_reducible first
        | refine keeps_countLate ?_ | refine keeps_setCq ?_ | refine Keeps.ite ?_ ?_ | refine KeepsOpt.getD ?_ ?_)
      | split)

theorem keeps_execCueqPush {s0 s : State} (h : Keeps s0 s) {a0 : QueueId} {a1 : Word} :
    KeepsOut s0 (execCueqPush a0 a1 s) := by
  unfold execCueqPush
  try dsimp only
  repeat' (with_reducible first | assumption | refine KeepsOut.next ?_ | refine keeps_pushCue ?_)

theorem keeps_execCueqFlush {s0 s : State} (h : Keeps s0 s) {a0 : QueueId} : KeepsOut s0 (execCueqFlush a0 s) := by
  unfold execCueqFlush
  try dsimp only
  repeat' (with_reducible first | assumption | refine KeepsOut.next ?_ | refine keeps_setCq ?_)

theorem keeps_execCueqResume {s0 s : State} (h : Keeps s0 s) {a0 : QueueId} : KeepsOut s0 (execCueqResume a0 s) := by
  unfold execCueqResume
  try dsimp only
  repeat' (with_reducible first | assumption | refine KeepsOut.next ?_ | refine keeps_setCq ?_ | refine Keeps.ite ?_ ?_)

theorem keeps_execCuePrewake {s0 s : State} (h : Keeps s0 s) {a0 : QueueId} : KeepsOut s0 (execCuePrewake a0 s) := by
  unfold execCuePrewake
  try dsimp only
  repeat' (first
      | (with_reducible first
        | assumption | refine KeepsOut.next ?_ | refine KeepsOut.ite ?_ ?_ | refine Keeps.updSame ?_ rfl rfl rfl rfl rfl)
      | split)

theorem keeps_execCueLate {s0 s : State} (h : Keeps s0 s) {a0 : QueueId} : KeepsOut s0 (execCueLate a0 s) := by
  unfold execCueLate
  try dsimp only
  repeat' (first
      | (with_reducible first
        | assumption | refine KeepsOut.next ?_ | refine keeps_countLate ?_ | refine keeps_setCq ?_ | refine keeps_countMiss ?_
        | refine keeps_haltQueue ?_ | refine Keeps.ite ?_ ?_ | refine KeepsOut.ite ?_ ?_)
      | split)

theorem keeps_execNop {s0 s : State} (h : Keeps s0 s) {a0 : QueueId} : KeepsOut s0 (execNop a0 s) := by
  unfold execNop
  try dsimp only
  repeat' (with_reducible first
      | assumption | refine KeepsOut.next ?_ | refine KeepsOpt.some ?_ | refine keeps_fire ?_ (fun e u hu => ?_))

theorem keeps_execNocWindowOpen {s0 s : State} (h : Keeps s0 s) : KeepsOut s0 (execNocWindowOpen s) := by
  unfold execNocWindowOpen
  try dsimp only
  repeat' (with_reducible first
      | assumption | refine KeepsOut.next ?_ | refine KeepsOpt.some ?_ | refine keeps_fire ?_ (fun e u hu => ?_)
      | refine keeps_setWindow ?_ | refine Keeps.ite ?_ ?_)

theorem keeps_execNocWindowClose {s0 s : State} (h : Keeps s0 s) : KeepsOut s0 (execNocWindowClose s) := by
  unfold execNocWindowClose
  try dsimp only
  repeat' (with_reducible first
      | assumption | refine KeepsOut.next ?_ | refine KeepsOpt.some ?_ | refine keeps_fire ?_ (fun e u hu => ?_)
      | refine keeps_setWindow ?_)

theorem keeps_execHostEvent {s0 s : State} (h : Keeps s0 s) : KeepsOut s0 (execHostEvent s) := by
  unfold execHostEvent
  try dsimp only
  repeat' (with_reducible first
      | assumption | refine KeepsOut.next ?_ | refine KeepsOpt.some ?_ | refine keeps_fire ?_ (fun e u hu => ?_)
      | refine keeps_free ?_ | refine keeps_postEvent ?_)

/-! ### Frond -/

theorem keeps_frondRefuse {s0 s : State} (h : Keeps s0 s) {a1 a2 : Nat} {a3 a4 : Nat} :
    Keeps s0 (s.frondRefuse a1 a2 a3 a4) := by
  unfold State.frondRefuse
  try dsimp only
  repeat' (with_reducible first
      | assumption | refine keeps_raiseInt ?_ | refine keeps_setFld ?_ | refine keeps_setReg ?_ | refine Keeps.ite ?_ ?_)

theorem keeps_setFrond {s0 s : State} (h : Keeps s0 s) {a1 : Nat} {a2 : FrondSt} : Keeps s0 (s.setFrond a1 a2) := by
  unfold State.setFrond
  try dsimp only
  repeat' (first
      | (with_reducible first | assumption | refine keeps_setFld ?_ | refine keeps_setReg ?_)
      | split | with_reducible refine Keeps.updSame ?_ rfl rfl rfl rfl rfl)

theorem keeps_frondPush {s0 s : State} (h : Keeps s0 s) {a1 a2 : Nat} : Keeps s0 (s.frondPush a1 a2) := by
  unfold State.frondPush
  try dsimp only
  repeat' (first
      | (with_reducible first
        | assumption | refine keeps_frondRefuse ?_ | refine keeps_readMem ?_ | refine keeps_setFrond ?_
        | refine Keeps.ite ?_ ?_ | refine Keeps.ofSnd ?_ (by assumption))
      | split)

theorem keeps_setChainBuf {s0 s : State} (h : Keeps s0 s) {a1 : Nat} {a2 : List ChainTile} :
    Keeps s0 (s.setChainBuf a1 a2) := by
  unfold State.setChainBuf
  try dsimp only
  repeat' (with_reducible first | assumption | refine keeps_setFld ?_ | refine Keeps.updSame ?_ rfl rfl rfl rfl rfl)

theorem keeps_chainSweep {s0 s : State} (h : Keeps s0 s) {a1 : Nat} : Keeps s0 (s.chainSweep a1) := by
  unfold State.chainSweep
  try dsimp only
  repeat' (with_reducible first | assumption | refine keeps_setChainBuf ?_)

theorem keeps_frondErrClear {s0 s : State} (h : Keeps s0 s) {a1 : Nat} : Keeps s0 (s.frondErrClear a1) := by
  unfold State.frondErrClear
  try dsimp only
  repeat' (with_reducible first | assumption | refine keeps_setReg ?_ | refine keeps_setFld ?_ | refine Keeps.ite ?_ ?_)

theorem keeps_frondResume {s0 s : State} (h : Keeps s0 s) {a1 : Nat} : Keeps s0 (s.frondResume a1) := by
  unfold State.frondResume
  try dsimp only
  repeat' (first
      | (with_reducible first
        | assumption | refine keeps_sbReleaseAll ?_ | refine keeps_chainSweep ?_ | refine keeps_frondErrClear ?_
        | refine keeps_setFrond ?_)
      | split)

theorem keeps_sbWithdraw {s0 s : State} (h : Keeps s0 s) {a1 a2 : Nat} : Keeps s0 (s.sbWithdraw a1 a2) := by
  unfold State.sbWithdraw
  try dsimp only
  repeat' (with_reducible first | assumption | refine keeps_sbReleaseAll ?_ | refine keeps_setSboard ?_)

theorem keeps_frondFlush {s0 s : State} (h : Keeps s0 s) {a1 : Nat} : Keeps s0 (s.frondFlush a1) := by
  unfold State.frondFlush
  try dsimp only
  repeat' (with_reducible first
      | assumption | refine keeps_sbWithdraw ?_ | refine keeps_chainSweep ?_ | refine keeps_frondErrClear ?_
      | refine keeps_setFrond ?_ | refine Keeps.foldl _ ?_ (fun u x hu => ?_))

theorem keeps_coreRead {s0 s : State} (h : Keeps s0 s) {a1 a2 a3 : Nat} : Keeps s0 (s.coreRead a1 a2 a3).2 := by
  unfold State.coreRead
  try dsimp only
  repeat' (first | (with_reducible first | assumption | refine keeps_readMem ?_) | split)

theorem keeps_actRows {s0 s : State} (h : Keeps s0 s) {a1 : Nat} {a2 : FrondJob} {a3 a4 : Nat} :
    Keeps s0 (s.actRows a1 a2 a3 a4).2 := by
  fun_induction State.actRows s a1 a2 a3 a4 <;> repeat' (with_reducible first
      | assumption | refine keeps_coreRead ?_ | apply_assumption | refine Keeps.ofSnd ?_ (by assumption))

theorem keeps_biases {s0 s : State} (h : Keeps s0 s) {a1 : Nat} {a2 : FrondJob} : Keeps s0 (s.biases a1 a2).2 := by
  unfold State.biases
  try dsimp only
  repeat' (first
      | (with_reducible first | assumption | refine keeps_coreRead ?_ | refine Keeps.ofSnd ?_ (by assumption))
      | split)

theorem keeps_cachedBytes {s0 s : State} (h : Keeps s0 s) {a1 a2 a3 a4 : Nat} : Keeps s0 (s.cachedBytes a1 a2 a3 a4).2 := by
  induction a3 generalizing s a2 a4 with
  | zero => exact h
  | succ k ih =>
    unfold State.cachedBytes
    dsimp only
    split
    · exact h
    · split
      · exact Keeps.ofSnd (keeps_cachedRead h) (by assumption)
      · have h1 := Keeps.ofSnd (keeps_cachedRead h) (by assumption)
        split
        · exact Keeps.ofSnd (ih h1) (by assumption)
        · exact Keeps.ofSnd (ih h1) (by assumption)

theorem keeps_clipTest {s0 s : State} (h : Keeps s0 s) {a1 : Nat} {a2 : FrondJob} : Keeps s0 (s.clipTest a1 a2) := by
  unfold State.clipTest
  try dsimp only
  repeat' (with_reducible first
      | assumption | refine keeps_raiseInt ?_ | refine keeps_setFld ?_ | refine keeps_postEvent ?_ | refine Keeps.ite ?_ ?_)

theorem keeps_coreWrite {s0 s : State} (h : Keeps s0 s) {a1 a2 : Nat} {a3 : List Byte} :
    KeepsOpt s0 (s.coreWrite a1 a2 a3) := by
  unfold State.coreWrite
  try dsimp only
  repeat' (first | (with_reducible first | assumption | exact KeepsOpt.none _ | refine keeps_writeMem ?_) | split)

theorem keeps_scramble {s0 s : State} (h : Keeps s0 s) {a1 a2 a3 : Nat} : Keeps s0 (s.scramble a1 a2 a3) := by
  fun_induction State.scramble s a1 a2 a3 <;> repeat' (with_reducible first
      | assumption | refine keeps_free ?_ | refine keeps_setBytes ?_ | apply_assumption
      | refine Keeps.ofSnd ?_ (by assumption))

theorem keeps_frondHalt {s0 s : State} (h : Keeps s0 s) {a1 : Nat} {a2 : FrondJob} : Keeps s0 (s.frondHalt a1 a2) := by
  unfold State.frondHalt
  try dsimp only
  repeat' (with_reducible first | assumption | refine keeps_setFrond ?_ | refine keeps_raiseInt ?_ | refine keeps_scramble ?_)

theorem keeps_frondLeave {s0 s : State} (h : Keeps s0 s) {a1 : Nat} {a2 : FrondJob} : Keeps s0 (s.frondLeave a1 a2).1 := by
  unfold State.frondLeave
  try dsimp only
  repeat' (first
      | (with_reducible first
        | assumption | refine keeps_setFrond ?_ | refine keeps_coreRead ?_ | refine keeps_sbRegister ?_
        | refine Keeps.ofSnd ?_ (by assumption))
      | split)

theorem keeps_frondStats {s0 s : State} (h : Keeps s0 s) {a1 : Nat} {a2 : FrondJob} {a3 : List OutStat} :
    Keeps s0 (s.frondStats a1 a2 a3) := by
  unfold State.frondStats
  try dsimp only
  repeat' (with_reducible first | assumption | refine keeps_countBy ?_)

theorem keeps_writeRows {s0 s : State} (h : Keeps s0 s) {a1 : Nat} {a2 : FrondJob} {a3 : Nat} {a4 : List (List Int)} :
    Keeps s0 (s.writeRows a1 a2 a3 a4).1 := by
  fun_induction State.writeRows s a1 a2 a3 a4 <;> repeat' (with_reducible first
      | assumption | refine keeps_coreWrite ?_ | apply_assumption | refine Keeps.ofOpt ?_ (by assumption))

theorem keeps_frondReleaseReads {s0 s : State} (h : Keeps s0 s) {a1 a2 : Nat} : Keeps s0 (s.frondReleaseReads a1 a2) := by
  unfold State.frondReleaseReads
  try dsimp only
  repeat' (with_reducible first | assumption | refine keeps_sbRelease ?_ | refine Keeps.foldl _ ?_ (fun u x hu => ?_))

theorem keeps_frondOutput {s0 s : State} (h : Keeps s0 s) {a1 : Nat} {a2 : FrondJob} {a3 : List (List (Int × Bool))} :
    Keeps s0 (s.frondOutput a1 a2 a3) := by
  unfold State.frondOutput
  try dsimp only
  repeat' (first
      | (with_reducible first
        | assumption | refine keeps_setFrond ?_ | refine keeps_biases ?_ | refine keeps_frondStats ?_
        | refine keeps_writeRows ?_ | refine keeps_frondReleaseReads ?_ | refine Keeps.ofSnd ?_ (by assumption))
      | split)

theorem keeps_weightRead {s0 s : State} (h : Keeps s0 s) {a1 a2 a3 : Nat} : Keeps s0 (s.weightRead a1 a2 a3).2 := by
  unfold State.weightRead
  extract_lets
  split
  · exact keeps_dpaRead h
  · split
    · exact keeps_cachedBytes h
    · exact h

theorem keeps_nextBlock {s0 s : State} (h : Keeps s0 s) {b : Nat} {j : FrondJob} : Keeps s0 (s.nextBlock b j).2 := by
  have hv : ∀ (x : Nat), Keeps s0 (if s.target true x = .wait then ((none : Option (Option (List Byte))), s)
      else match s.weightRead b x j.blockBytes with | (d, s1) => (some d, s1)).2 := by
    intro x
    split
    · exact h
    · split
      exact Keeps.ofSnd (keeps_weightRead h) (by assumption)
  unfold State.nextBlock
  extract_lets
  split
  · split
    · exact h
    · split
      exact Keeps.ofSnd (keeps_coreRead h) (by assumption)
  · split
    · exact hv _
    · split
      · split
        · exact h
        · exact hv _
      · split
        · exact h
        · exact h

theorem keeps_tileLoaded {s0 s : State} (h : Keeps s0 s) {a1 : Nat} {a2 : FrondJob} : Keeps s0 (s.tileLoaded a1 a2) := by
  unfold State.tileLoaded
  try dsimp only
  repeat' (with_reducible first | assumption | refine keeps_setChainBuf ?_ | refine keeps_count ?_ | refine Keeps.ite ?_ ?_)

theorem keeps_execFrondJobQWrite {s0 s : State} (h : Keeps s0 s) {a0 : Fin 9} {a1 : Word} :
    KeepsOut s0 (execFrondJobQWrite a0 a1 s) := by
  unfold execFrondJobQWrite
  try dsimp only
  repeat' (with_reducible first | assumption | refine KeepsOut.next ?_ | refine keeps_frondPush ?_)

theorem keeps_execFrondJobStart {s0 s : State} (h : Keeps s0 s) {a0 : Fin 9} : KeepsOut s0 (execFrondJobStart a0 s) := by
  unfold execFrondJobStart
  try dsimp only
  repeat' (first
      | (with_reducible first
        | assumption | refine KeepsOut.next ?_ | refine keeps_frondLeave ?_ | refine keeps_setFrond ?_
        | refine KeepsOut.ite ?_ ?_ | refine Keeps.ofFst ?_ (by assumption))
      | split)

theorem keeps_execFrondRtPreempt {s0 s : State} (h : Keeps s0 s) {a0 : Fin 9} : KeepsOut s0 (execFrondRtPreempt a0 s) := by
  unfold execFrondRtPreempt
  try dsimp only
  repeat' (first
      | (with_reducible first
        | assumption | refine KeepsOut.next ?_ | refine keeps_frondLeave ?_ | refine keeps_setFrond ?_
        | refine KeepsOut.ite ?_ ?_ | refine Keeps.ofFst ?_ (by assumption))
      | split)

theorem keeps_execFrondWeightBlockLoad {s0 s : State} (h : Keeps s0 s) {a0 : Fin 9} :
    KeepsOut s0 (execFrondWeightBlockLoad a0 s) := by
  unfold execFrondWeightBlockLoad
  try dsimp only
  repeat' (first
      | (with_reducible first
        | assumption | refine KeepsOut.next ?_ | refine keeps_nextBlock ?_ | refine keeps_setFrond ?_
        | refine keeps_tileLoaded ?_ | refine keeps_frondHalt ?_ | refine Keeps.ite ?_ ?_ | refine KeepsOut.ite ?_ ?_
        | refine Keeps.ofSnd ?_ (by assumption))
      | split)

theorem keeps_execFrondPassStart {s0 s : State} (h : Keeps s0 s) {a0 : Fin 9} : KeepsOut s0 (execFrondPassStart a0 s) := by
  unfold execFrondPassStart
  try dsimp only
  repeat' (first
      | (with_reducible first
        | assumption | refine KeepsOut.next ?_ | refine keeps_actRows ?_ | refine keeps_setFrond ?_
        | refine keeps_frondOutput ?_ | refine KeepsOut.ite ?_ ?_ | refine Keeps.ofSnd ?_ (by assumption))
      | split)

theorem keeps_execFrondJobComplete {s0 s : State} (h : Keeps s0 s) {a0 : Fin 9} :
    KeepsOut s0 (execFrondJobComplete a0 s) := by
  unfold execFrondJobComplete
  try dsimp only
  repeat' (first
      | (with_reducible first
        | assumption | refine KeepsOut.next ?_ | refine keeps_sbReleaseAll ?_ | refine keeps_setFrond ?_
        | refine keeps_setFld ?_ | refine keeps_countWrap ?_ | refine keeps_raiseInt ?_ | refine keeps_clipTest ?_
        | refine Keeps.ite ?_ ?_ | refine KeepsOut.ite ?_ ?_)
      | split)

theorem keeps_execFrondBusError {s0 s : State} (h : Keeps s0 s) {a0 : Fin 9} : KeepsOut s0 (execFrondBusError a0 s) := by
  unfold execFrondBusError
  try dsimp only
  repeat' (first | (with_reducible first | assumption | refine KeepsOut.next ?_ | refine keeps_frondHalt ?_) | split)

theorem keeps_execFrondFlush {s0 s : State} (h : Keeps s0 s) {a0 : Fin 9} : KeepsOut s0 (execFrondFlush a0 s) := by
  unfold execFrondFlush
  try dsimp only
  repeat' (with_reducible first | assumption | refine KeepsOut.next ?_ | refine keeps_frondFlush ?_)

theorem keeps_execFrondResume {s0 s : State} (h : Keeps s0 s) {a0 : Fin 9} : KeepsOut s0 (execFrondResume a0 s) := by
  unfold execFrondResume
  try dsimp only
  repeat' (with_reducible first | assumption | refine KeepsOut.next ?_ | refine keeps_frondResume ?_)

theorem keeps_execChainTileArrive {s0 s : State} (h : Keeps s0 s) {a0 : Fin 9} : KeepsOut s0 (execChainTileArrive a0 s) := by
  unfold execChainTileArrive
  try dsimp only
  repeat' (with_reducible first
      | assumption | refine KeepsOut.next ?_ | refine keeps_chainSweep ?_ | refine keeps_setChainBuf ?_)

theorem keeps_execChainTileForward {s0 s : State} (h : Keeps s0 s) {a0 : Fin 9} :
    KeepsOut s0 (execChainTileForward a0 s) := by
  unfold execChainTileForward
  try dsimp only
  repeat' (first
      | (with_reducible first
        | assumption | refine KeepsOut.next ?_ | refine keeps_setChainBuf ?_ | refine KeepsOut.ite ?_ ?_)
      | split)

theorem keeps_execChainWaitExpire {s0 s : State} (h : Keeps s0 s) {a0 : Fin 9} : KeepsOut s0 (execChainWaitExpire a0 s) := by
  unfold execChainWaitExpire
  try dsimp only
  repeat' (first
      | (with_reducible first
        | assumption | refine KeepsOut.next ?_ | refine keeps_chainSweep ?_ | refine keeps_setFrond ?_
        | refine KeepsOut.ite ?_ ?_)
      | split)

/-! ### Lichen -/

theorem keeps_lichenAsk {s0 s : State} (h : Keeps s0 s) {a1 : Nat} {a2 : Bool} : Keeps s0 (s.lichenAsk a1 a2) := by
  unfold State.lichenAsk
  try dsimp only
  repeat' (with_reducible first | assumption | refine keeps_setFld ?_ | refine keeps_lichenReq ?_ | refine Keeps.ite ?_ ?_)

theorem keeps_lichenDark {s0 s : State} (h : Keeps s0 s) : Keeps s0 (s.lichenDark) := by
  unfold State.lichenDark
  try dsimp only
  repeat' (with_reducible first
      | assumption | refine keeps_writeSummaries ?_ | refine Keeps.ite ?_ ?_ | refine Keeps.updSame ?_ rfl rfl rfl rfl rfl)

theorem keeps_lichenUv {s0 s : State} (h : Keeps s0 s) {a1 : Nat} : Keeps s0 (s.lichenUv a1) := by
  unfold State.lichenUv
  try dsimp only
  repeat' (with_reducible first
      | assumption | refine keeps_suppressQueue ?_ | refine keeps_lichenHw ?_ | refine Keeps.updSame ?_ rfl rfl rfl rfl rfl)

theorem keeps_execLichenRequest {s0 s : State} (h : Keeps s0 s) {a0 : Nat} {a1 : Bool} :
    KeepsOut s0 (execLichenRequest a0 a1 s) := by
  unfold execLichenRequest
  try dsimp only
  repeat' (with_reducible first | assumption | refine KeepsOut.next ?_ | refine keeps_lichenAsk ?_)

theorem keeps_execLichenRecordWrite {s0 s : State} (h : Keeps s0 s) {a0 : Bool} :
    KeepsOut s0 (execLichenRecordWrite a0 s) := by
  unfold execLichenRecordWrite
  try dsimp only
  repeat' (first
      | (with_reducible first
        | assumption | refine KeepsOut.next ?_ | refine keeps_endArea ?_ | refine keeps_setBytes ?_
        | refine keeps_postEvent ?_ | refine Keeps.ite ?_ ?_ | refine KeepsOut.ite ?_ ?_
        | refine Keeps.updSame ?_ rfl rfl rfl rfl rfl)
      | split)

theorem keeps_execLichenPositionFind {s0 s : State} (h : Keeps s0 s) : KeepsOut s0 (execLichenPositionFind s) := by
  unfold execLichenPositionFind
  try dsimp only
  repeat' (with_reducible first
      | assumption | refine KeepsOut.next ?_ | refine KeepsOut.ite ?_ ?_ | refine Keeps.updSame ?_ rfl rfl rfl rfl rfl)

theorem keeps_execLichenTokenRefill {s0 s : State} (h : Keeps s0 s) : KeepsOut s0 (execLichenTokenRefill s) := by
  unfold execLichenTokenRefill
  try dsimp only
  repeat' (with_reducible first
      | assumption | refine KeepsOut.next ?_ | refine KeepsOut.ite ?_ ?_ | refine Keeps.updSame ?_ rfl rfl rfl rfl rfl)

theorem keeps_execOpsecTick {s0 s : State} (h : Keeps s0 s) : KeepsOut s0 (execOpsecTick s) := by
  unfold execOpsecTick
  try dsimp only
  repeat' (with_reducible first | assumption | refine KeepsOut.next ?_ | refine Keeps.updSame ?_ rfl rfl rfl rfl rfl)

/-! ### VppRegs -/

theorem keeps_vppHalt {s0 s : State} (h : Keeps s0 s) {a1 : Nat} : Keeps s0 (s.vppHalt a1) := by
  unfold State.vppHalt
  try dsimp only
  repeat' (with_reducible first | assumption | refine keeps_setFld ?_)

theorem keeps_vppStart {s0 s : State} (h : Keeps s0 s) {a1 : Nat} : Keeps s0 (s.vppStart a1) := by
  unfold State.vppStart
  try dsimp only
  repeat' (with_reducible first
      | assumption | refine keeps_setCtx ?_ | refine keeps_setCtxSt ?_ | refine keeps_setFld ?_ | refine keeps_setCore ?_
      | refine Keeps.ite ?_ ?_)

theorem keeps_setVppPc {s0 s : State} (h : Keeps s0 s) {a1 a2 : Nat} : Keeps s0 (s.setVppPc a1 a2) := by
  unfold State.setVppPc
  try dsimp only
  repeat' (with_reducible first | assumption | refine keeps_setCore ?_ | refine keeps_setCtx ?_)

theorem keeps_setR {s0 s : State} (h : Keeps s0 s) {a1 a2 : Nat} {a3 a4 a5 : Nat} : Keeps s0 (s.setR a1 a2 a3 a4 a5) := by
  unfold State.setR
  try dsimp only
  repeat' (with_reducible first | assumption | refine keeps_setCtx ?_)

theorem keeps_ctxStop {s0 s : State} (h : Keeps s0 s) {a1 a2 : Nat} : Keeps s0 (s.ctxStop a1 a2) := by
  unfold State.ctxStop
  try dsimp only
  repeat' (with_reducible first | assumption | refine keeps_setSboard ?_ | refine keeps_setCtx ?_ | refine keeps_setCtxSt ?_)

theorem keeps_execVppStart {s0 s : State} (h : Keeps s0 s) {a0 : Fin 9} : KeepsOut s0 (execVppStart a0 s) := by
  unfold execVppStart
  try dsimp only
  repeat' (with_reducible first | assumption | refine KeepsOut.next ?_ | refine keeps_vppStart ?_)

theorem keeps_execVppHalt {s0 s : State} (h : Keeps s0 s) {a0 : Fin 9} : KeepsOut s0 (execVppHalt a0 s) := by
  unfold execVppHalt
  try dsimp only
  repeat' (with_reducible first | assumption | refine KeepsOut.next ?_ | refine keeps_vppHalt ?_)

theorem keeps_execVppIntSet {s0 s : State} (h : Keeps s0 s) {a0 : Fin 9} {a1 : Word} :
    KeepsOut s0 (execVppIntSet a0 a1 s) := by
  unfold execVppIntSet
  try dsimp only
  repeat' (with_reducible first | assumption | refine KeepsOut.next ?_ | refine keeps_setReg ?_)

/-! ### Scripts -/

theorem keeps_abortChannels {s0 s : State} (h : Keeps s0 s) {a1 : Script} : Keeps s0 (s.abortChannels a1) := by
  unfold State.abortChannels
  try dsimp only
  repeat' (with_reducible first | assumption | refine keeps_dmaAbort ?_ | refine Keeps.foldl _ ?_ (fun u x hu => ?_))

theorem keeps_refillEntry {s0 s : State} (h : Keeps s0 s) {a1 a2 : Nat} {a3 : SheetEntry} :
    Keeps s0 (s.refillEntry a1 a2 a3) := by
  unfold State.refillEntry
  try dsimp only
  repeat' (first
      | (with_reducible first | assumption | refine keeps_setScript ?_ | refine keeps_pushCue ?_ | refine Keeps.ite ?_ ?_)
      | split)

theorem keeps_refillFrom {s0 s : State} (h : Keeps s0 s) {a1 a2 : Nat} {a3 : List SheetEntry} :
    Keeps s0 (s.refillFrom a1 a2 a3) := by
  fun_induction State.refillFrom s a1 a2 a3 <;> repeat' (with_reducible first
      | assumption | refine keeps_refillEntry ?_ | apply_assumption)

theorem keeps_bindSheet {s0 s : State} (h : Keeps s0 s) {a1 a2 : Nat} : Keeps s0 (s.bindSheet a1 a2) := by
  unfold State.bindSheet
  try dsimp only
  repeat' (first | (with_reducible first | assumption | refine keeps_refillFrom ?_ | refine keeps_setScript ?_) | split)

theorem keeps_dropHalted {s0 s : State} (h : Keeps s0 s) {a1 : Script} {a2 a3 : Nat} : Keeps s0 (s.dropHalted a1 a2 a3) := by
  fun_induction State.dropHalted s a1 a2 a3 <;> repeat' (with_reducible first
      | assumption | refine keeps_frondResume ?_ | apply_assumption)

theorem keeps_freePools {s0 s : State} (h : Keeps s0 s) {a1 : Script} : Keeps s0 (s.freePools a1) := by
  unfold State.freePools
  try dsimp only
  repeat' (with_reducible first | assumption | refine keeps_poolReset ?_ | refine Keeps.foldl _ ?_ (fun u x hu => ?_))

theorem keeps_stopContexts {s0 s : State} (h : Keeps s0 s) {a1 : Script} : Keeps s0 (s.stopContexts a1) := by
  unfold State.stopContexts
  try dsimp only
  repeat' (with_reducible first
      | assumption | refine keeps_ctxStop ?_ | refine keeps_setCore ?_ | refine keeps_setFld ?_ | refine Keeps.ite ?_ ?_
      | refine Keeps.foldl _ ?_ (fun u x hu => ?_))

theorem keeps_stopScript {s0 s : State} (h : Keeps s0 s) {a1 : Nat} : Keeps s0 (s.stopScript a1) := by
  unfold State.stopScript
  try dsimp only
  repeat' (first
      | (with_reducible first
        | assumption | refine keeps_setScript ?_ | refine keeps_freePools ?_ | refine keeps_abortChannels ?_
        | refine keeps_stopContexts ?_ | refine keeps_dropCues ?_ | refine Keeps.ite ?_ ?_)
      | split)

theorem keeps_suspendScript {s0 s : State} (h : Keeps s0 s) {a1 : Nat} : Keeps s0 (s.suspendScript a1) := by
  unfold State.suspendScript
  try dsimp only
  repeat' (first
      | (with_reducible first
        | assumption | refine keeps_setScript ?_ | refine keeps_freePools ?_ | refine keeps_abortChannels ?_
        | refine keeps_stopContexts ?_ | refine keeps_dropCues ?_ | refine Keeps.ite ?_ ?_)
      | split)

theorem keeps_refill {s0 s : State} (h : Keeps s0 s) : Keeps s0 (s.refill) := by
  unfold State.refill
  try dsimp only
  repeat' (with_reducible first | assumption | refine keeps_refillFrom ?_ | refine Keeps.foldl _ ?_ (fun u x hu => ?_))

theorem keeps_startStreams {s0 s : State} (h : Keeps s0 s) {a1 : Script} : Keeps s0 (s.startStreams a1) := by
  unfold State.startStreams
  try dsimp only
  repeat' (with_reducible first | assumption | refine keeps_setFld ?_ | refine Keeps.foldl _ ?_ (fun u x hu => ?_))

theorem keeps_scriptFault {s0 s : State} (h : Keeps s0 s) {a1 a2 a3 : Nat} : Keeps s0 (s.scriptFault a1 a2 a3) := by
  unfold State.scriptFault
  try dsimp only
  repeat' (first
      | (with_reducible first
        | assumption | refine keeps_stopContexts ?_ | refine keeps_dropCues ?_ | refine keeps_dropHalted ?_
        | refine keeps_abortChannels ?_ | refine keeps_barBreak ?_ | refine keeps_freePools ?_ | refine keeps_postEvent ?_
        | refine keeps_setScript ?_ | refine Keeps.ite ?_ ?_ | refine Keeps.foldl _ ?_ (fun u x hu => ?_))
      | split)

theorem keeps_execScriptFault {s0 s : State} (h : Keeps s0 s) {a0 : Fin 128} : KeepsOut s0 (execScriptFault a0 s) := by
  unfold execScriptFault
  try dsimp only
  repeat' (first
      | (with_reducible first | assumption | refine KeepsOut.next ?_ | refine keeps_scriptFault ?_ | refine Keeps.ite ?_ ?_)
      | split)

theorem keeps_execCueSheetRefill {s0 s : State} (h : Keeps s0 s) : KeepsOut s0 (execCueSheetRefill s) := by
  unfold execCueSheetRefill
  try dsimp only
  repeat' (with_reducible first | assumption | refine KeepsOut.next ?_ | refine keeps_refill ?_)

/-! ### Audit -/

theorem keeps_abortHub {s0 s : State} (h : Keeps s0 s) : Keeps s0 (s.abortHub) := by
  unfold State.abortHub
  try dsimp only
  repeat' (with_reducible first | assumption | refine keeps_dmaAbort ?_ | refine Keeps.foldl _ ?_ (fun u x hu => ?_))

theorem keeps_auditFence {s0 s : State} (h : Keeps s0 s) {a1 : PoolSum} : Keeps s0 (s.auditFence a1) := by
  unfold State.auditFence
  try dsimp only
  repeat' (first
      | (with_reducible first
        | assumption | refine keeps_fence ?_ | refine keeps_abortHub ?_ | refine keeps_linkReset ?_ | refine Keeps.ite ?_ ?_)
      | split)

theorem keeps_violation {s0 s : State} (h : Keeps s0 s) {a1 : PoolSum} : Keeps s0 (s.violation a1) := by
  unfold State.violation
  try dsimp only
  repeat' (with_reducible first
      | assumption | refine keeps_setFld ?_ | refine keeps_setReg ?_ | refine keeps_auditFence ?_ | refine keeps_lichenHw ?_
      | refine keeps_count ?_)

theorem keeps_audit {s0 s : State} (h : Keeps s0 s) : Keeps s0 (s.audit) := by
  unfold State.audit
  try dsimp only
  repeat' (with_reducible first
      | assumption | refine keeps_countWrap ?_ | refine keeps_violation ?_ | refine Keeps.foldl _ ?_ (fun u x hu => ?_))

theorem keeps_execAuditRun {s0 s : State} (h : Keeps s0 s) : KeepsOut s0 (execAuditRun s) := by
  unfold execAuditRun
  try dsimp only
  repeat' (with_reducible first
      | assumption | refine KeepsOut.next ?_ | refine keeps_audit ?_ | refine KeepsOut.ite ?_ ?_
      | refine Keeps.updSame ?_ rfl rfl rfl rfl rfl)

theorem keeps_execAuditRunNow {s0 s : State} (h : Keeps s0 s) : KeepsOut s0 (execAuditRunNow s) := by
  unfold execAuditRunNow
  try dsimp only
  repeat' (with_reducible first | assumption | refine KeepsOut.next ?_ | refine keeps_audit ?_)

end Sys2Proof.Machine
end

