-- ==== Sys2Proof/Laws/KeepsCamera.lean ====
section
/-!
SUPPORT. What every operation and every command keeps (Keeps.lean): power limits, wake, camera intake, the sideband, security and the Stripe Assembler.
-/
namespace Sys2Proof.Machine

/-! ### PowerLimits -/

theorem keeps_recordHold {s0 s : State} (h : Keeps s0 s) {a1 a2 : Nat} {a3 : Hold} {a4 : Bool} :
    Keeps s0 (s.recordHold a1 a2 a3 a4) := by
  unfold State.recordHold
  try dsimp only
  repeat' (with_reducible first
      | assumption | refine keeps_lichenReq ?_ | refine keeps_count ?_ | refine keeps_postEvent ?_ | refine Keeps.ite ?_ ?_
      | refine Keeps.updSame ?_ rfl rfl rfl rfl rfl)

theorem keeps_updateHold {s0 s : State} (h : Keeps s0 s) {a1 a2 : Nat} {a3 : Bool} : Keeps s0 (s.updateHold a1 a2 a3) := by
  unfold State.updateHold
  try dsimp only
  repeat' (first
      | (with_reducible first | assumption | refine keeps_setCluster ?_ | refine keeps_recordHold ?_ | refine Keeps.ite ?_ ?_)
      | split)

theorem keeps_settle {s0 s : State} (h : Keeps s0 s) : Keeps s0 (s.settle) := by
  unfold State.settle
  try dsimp only
  repeat' (with_reducible first | assumption | refine keeps_updateHold ?_ | refine keeps_alert ?_ | refine Keeps.ite ?_ ?_)

theorem keeps_beginEntry {s0 s : State} (h : Keeps s0 s) {a1 : Bool} {a2 : Option Nat} {a3 : Nat} :
    Keeps s0 (s.beginEntry a1 a2 a3) := by
  unfold State.beginEntry
  try dsimp only
  repeat' (with_reducible first | assumption | refine keeps_setFld ?_ | refine Keeps.updSame ?_ rfl rfl rfl rfl rfl)

theorem keeps_recordOngoing {s0 s : State} (h : Keeps s0 s) : Keeps s0 (s.recordOngoing) := by
  unfold State.recordOngoing
  try dsimp only
  repeat' (first
      | (with_reducible first
        | assumption | refine keeps_recordHold ?_ | refine keeps_setCluster ?_ | refine Keeps.foldl _ ?_ (fun u x hu => ?_))
      | split)

theorem keeps_setReqOp {s0 s : State} (h : Keeps s0 s) {a1 a2 : Nat} : Keeps s0 (s.setReqOp a1 a2) := by
  unfold State.setReqOp
  try dsimp only
  repeat' (with_reducible first | assumption | refine keeps_setFld ?_ | refine Keeps.ite ?_ ?_)

theorem keeps_lowerCap {s0 s : State} (h : Keeps s0 s) {a1 : Nat} : Keeps s0 (s.lowerCap a1) := by
  unfold State.lowerCap
  try dsimp only
  repeat' (with_reducible first | assumption | refine keeps_setCluster ?_)

theorem keeps_raiseCap {s0 s : State} (h : Keeps s0 s) {a1 : Nat} : Keeps s0 (s.raiseCap a1) := by
  unfold State.raiseCap
  try dsimp only
  repeat' (with_reducible first | assumption | refine keeps_setCluster ?_)

theorem keeps_throttle {s0 s : State} (h : Keeps s0 s) {a1 : Nat} : Keeps s0 (s.throttle a1) := by
  unfold State.throttle
  try dsimp only
  repeat' (with_reducible first | assumption | refine keeps_setCluster ?_ | refine Keeps.ite ?_ ?_)

theorem keeps_trip {s0 s : State} (h : Keeps s0 s) {a1 a2 : Nat} : Keeps s0 (s.trip a1 a2) := by
  unfold State.trip
  try dsimp only
  repeat' (with_reducible first
      | assumption | refine keeps_alert ?_ | refine keeps_lichenHw ?_ | refine keeps_setCluster ?_ | refine Keeps.ite ?_ ?_)

theorem keeps_execPllLock {s0 s : State} (h : Keeps s0 s) {a0 : Fin 5} : KeepsOut s0 (execPllLock a0 s) := by
  unfold execPllLock
  try dsimp only
  repeat' (with_reducible first
      | assumption | refine KeepsOut.next ?_ | refine keeps_setCluster ?_ | refine Keeps.ite ?_ ?_
      | refine Keeps.updSame ?_ rfl rfl rfl rfl rfl)

theorem keeps_execOpTransition {s0 s : State} (h : Keeps s0 s) {a0 : Fin 2} : KeepsOut s0 (execOpTransition a0 s) := by
  unfold execOpTransition
  try dsimp only
  repeat' (with_reducible first
      | assumption | refine KeepsOut.next ?_ | refine keeps_setFld ?_ | refine keeps_setCluster ?_
      | refine KeepsOut.ite ?_ ?_)

theorem keeps_execAvsTick {s0 s : State} (h : Keeps s0 s) {a0 : Fin 2} {a1 a2 : Bool} :
    KeepsOut s0 (execAvsTick a0 a1 a2 s) := by
  unfold execAvsTick
  try dsimp only
  repeat' (first
      | (with_reducible first
        | assumption | refine KeepsOut.next ?_ | refine keeps_setFld ?_ | refine keeps_setCluster ?_
        | refine KeepsOut.ite ?_ ?_)
      | split)

theorem keeps_execDroopEvent {s0 s : State} (h : Keeps s0 s) {a0 : Fin 2} : KeepsOut s0 (execDroopEvent a0 s) := by
  unfold execDroopEvent
  try dsimp only
  repeat' (first
      | (with_reducible first
        | assumption | refine KeepsOut.next ?_ | refine keeps_recordHold ?_ | refine keeps_count ?_
        | refine keeps_setCluster ?_ | refine Keeps.ite ?_ ?_)
      | split)

theorem keeps_execPowerLimiterSample {s0 s : State} (h : Keeps s0 s) {a0 a1 : Nat} {a2 a3 : Nat} :
    KeepsOut s0 (execPowerLimiterSample a0 a1 a2 a3 s) := by
  unfold execPowerLimiterSample
  try dsimp only
  repeat' (first
      | (with_reducible first
        | assumption | refine KeepsOut.next ?_ | refine keeps_setReg ?_ | refine keeps_setFld ?_ | refine keeps_settle ?_
        | refine keeps_setCluster ?_ | refine keeps_free ?_ | refine keeps_lowerCap ?_ | refine keeps_raiseCap ?_
        | refine KeepsOut.ite ?_ ?_)
      | dsimp only | split | with_reducible refine Keeps.updSame ?_ rfl rfl rfl rfl rfl)

theorem keeps_execThermalCheck {s0 s : State} (h : Keeps s0 s) {a0 : Fin 14} {a1 : Int} :
    KeepsOut s0 (execThermalCheck a0 a1 s) := by
  unfold execThermalCheck
  try dsimp only
  repeat' (with_reducible first
      | assumption | refine KeepsOut.next ?_ | refine keeps_setFld ?_ | refine keeps_settle ?_ | refine keeps_throttle ?_
      | refine keeps_trip ?_ | refine keeps_setReg ?_ | refine keeps_lichenHw ?_ | refine keeps_beginEntry ?_
      | refine KeepsOut.ite ?_ ?_ | refine Keeps.updSame ?_ rfl rfl rfl rfl rfl)

theorem keeps_execLimitHoldEnd {s0 s : State} (h : Keeps s0 s) {a0 : Fin 3} {a1 : Fin 2} :
    KeepsOut s0 (execLimitHoldEnd a0 a1 s) := by
  unfold execLimitHoldEnd
  try dsimp only
  repeat' (first
      | (with_reducible first
        | assumption | refine KeepsOut.next ?_ | refine keeps_recordHold ?_ | refine keeps_setCluster ?_
        | refine KeepsOut.ite ?_ ?_)
      | split)

theorem keeps_execPllLockLoss {s0 s : State} (h : Keeps s0 s) {a0 : Fin 5} : KeepsOut s0 (execPllLockLoss a0 s) := by
  unfold execPllLockLoss
  try dsimp only
  repeat' (with_reducible first
      | assumption | refine KeepsOut.next ?_ | refine keeps_free ?_ | refine keeps_lichenFw ?_ | refine keeps_setCluster ?_
      | refine Keeps.ite ?_ ?_ | refine Keeps.updSame ?_ rfl rfl rfl rfl rfl)

/-! ### Wake -/

theorem keeps_bootReset {s0 s : State} (h : Keeps s0 s) {a1 : Nat} : Keeps s0 (s.bootReset a1) := by
  unfold State.bootReset
  dsimp only
  refine keeps_setFld (keeps_setReg ?_)
  exact h.trans ⟨rfl, fun c => ⟨Cells.wf_filter _ _ _ c.1, Cells.wf_filter _ _ _ c.2⟩, Nat.le_refl _, FusesRise.same rfl rfl rfl⟩

theorem keeps_postWake {s0 s : State} (h : Keeps s0 s) {a1 : Nat} : Keeps s0 (s.postWake a1) := by
  unfold State.postWake
  try dsimp only
  repeat' (with_reducible first | assumption | refine keeps_postEvent ?_)

theorem keeps_wakeFire {s0 s : State} (h : Keeps s0 s) {a1 : Nat} : Keeps s0 (s.wakeFire a1) := by
  unfold State.wakeFire
  try dsimp only
  repeat' (first
      | (with_reducible first
        | assumption | refine keeps_setReg ?_ | refine keeps_postWake ?_ | refine keeps_lichenFw ?_
        | refine keeps_acceptWake ?_ | refine keeps_bootReset ?_ | refine Keeps.ite ?_ ?_)
      | split | with_reducible refine Keeps.updSame ?_ rfl rfl rfl rfl rfl)

/-! ### Intake -/

theorem keeps_setSaStream {s0 s : State} (h : Keeps s0 s) {a1 : Nat} {a2 : SaStream} : Keeps s0 (s.setSaStream a1 a2) := by
  unfold State.setSaStream
  try dsimp only
  repeat' (with_reducible first | assumption | refine Keeps.updSame ?_ rfl rfl rfl rfl rfl)

theorem keeps_modSaFrame {s0 s : State} (h : Keeps s0 s) {a1 a2 : Nat} {a3 : SaFrame → SaFrame} :
    Keeps s0 (s.modSaFrame a1 a2 a3) := by
  unfold State.modSaFrame
  try dsimp only
  repeat' (with_reducible first | assumption | refine keeps_setSaStream ?_)

theorem keeps_setStream {s0 s : State} (h : Keeps s0 s) {a1 : Nat} {a2 : StreamState} : Keeps s0 (s.setStream a1 a2) := by
  unfold State.setStream
  try dsimp only
  repeat' (with_reducible first | assumption | refine Keeps.updSame ?_ rfl rfl rfl rfl rfl)

theorem keeps_writeWatchCfg {s0 s : State} (h : Keeps s0 s) {a1 : Nat} {a2 : Word} : Keeps s0 (s.writeWatchCfg a1 a2) := by
  unfold State.writeWatchCfg
  try dsimp only
  repeat' (with_reducible first | assumption | refine keeps_setReg ?_ | refine keeps_setFld ?_ | refine Keeps.ite ?_ ?_)

theorem keeps_setBus {s0 s : State} (h : Keeps s0 s) {a1 : Nat} {a2 : I2cBus} : Keeps s0 (s.setBus a1 a2) := by
  unfold State.setBus
  try dsimp only
  repeat' (with_reducible first | assumption | refine keeps_setFld ?_ | refine Keeps.updSame ?_ rfl rfl rfl rfl rfl)

theorem keeps_i2cStartXfer {s0 s : State} (h : Keeps s0 s) {a1 : Nat} {a2 : Word} : Keeps s0 (s.i2cStartXfer a1 a2) := by
  unfold State.i2cStartXfer
  try dsimp only
  repeat' (with_reducible first
      | assumption | refine keeps_count ?_ | refine keeps_setFld ?_ | refine keeps_setBus ?_ | refine keeps_free ?_
      | refine keeps_lichenHw ?_ | refine Keeps.ite ?_ ?_)

theorem keeps_i2cGo {s0 s : State} (h : Keeps s0 s) {a1 : Nat} {a2 : Word} : Keeps s0 (s.i2cGo a1 a2) := by
  unfold State.i2cGo
  try dsimp only
  repeat' (with_reducible first | assumption | refine keeps_setBus ?_ | refine keeps_i2cStartXfer ?_ | refine Keeps.ite ?_ ?_)

theorem keeps_setFrame {s0 s : State} (h : Keeps s0 s) {a1 : Nat} {a2 : OpenFrame} : Keeps s0 (s.setFrame a1 a2) := by
  unfold State.setFrame
  try dsimp only
  repeat' (with_reducible first | assumption | refine keeps_setStream ?_)

theorem keeps_setPort {s0 s : State} (h : Keeps s0 s) {a1 : Nat} {a2 : PortState} : Keeps s0 (s.setPort a1 a2) := by
  unfold State.setPort
  try dsimp only
  repeat' (with_reducible first | assumption | refine keeps_setFld ?_ | refine Keeps.updSame ?_ rfl rfl rfl rfl rfl)

theorem keeps_bufferRow {s0 s : State} (h : Keeps s0 s) {a1 : Nat} {a2 : OpenFrame} {a3 a4 : Nat} {a5 : List Nat} :
    Keeps s0 (s.bufferRow a1 a2 a3 a4 a5) := by
  unfold State.bufferRow
  try dsimp only
  repeat' (with_reducible first | assumption | refine keeps_setPort ?_ | refine Keeps.ite ?_ ?_)

theorem keeps_synthRows {s0 s : State} (h : Keeps s0 s) {a1 a2 : Nat} {a3 : List Nat} : Keeps s0 (s.synthRows a1 a2 a3) := by
  unfold State.synthRows
  try dsimp only
  repeat' (first
      | (with_reducible first
        | assumption | refine keeps_bufferRow ?_ | refine keeps_countBy ?_ | refine keeps_setFrame ?_
        | refine Keeps.foldl _ ?_ (fun u x hu => ?_))
      | split)

theorem keeps_watchTrigger {s0 s : State} (h : Keeps s0 s) {a1 a2 a3 : Nat} : Keeps s0 (s.watchTrigger a1 a2 a3) := by
  unfold State.watchTrigger
  try dsimp only
  repeat' (first
      | (with_reducible first
        | assumption | refine keeps_setTime ?_ | refine keeps_setReg ?_ | refine keeps_setFld ?_ | refine keeps_wakeFire ?_
        | refine keeps_setPort ?_ | refine keeps_postEvent ?_)
      | split)

theorem keeps_watchMeasure {s0 s : State} (h : Keeps s0 s) {a1 : Nat} {a2 : OpenFrame} : Keeps s0 (s.watchMeasure a1 a2) := by
  unfold State.watchMeasure
  try dsimp only
  repeat' (with_reducible first
      | assumption | refine keeps_setPort ?_ | refine keeps_setFld ?_ | refine keeps_watchTrigger ?_ | refine Keeps.ite ?_ ?_)

theorem keeps_closeFrame {s0 s : State} (h : Keeps s0 s) {a1 : Nat} {a2 : Bool} : Keeps s0 (s.closeFrame a1 a2) := by
  unfold State.closeFrame
  try dsimp only
  repeat' (first
      | (with_reducible first
        | assumption | refine keeps_synthRows ?_ | refine keeps_setStream ?_ | refine keeps_setReg ?_ | refine keeps_count ?_
        | refine keeps_modSaFrame ?_ | refine keeps_watchMeasure ?_ | refine Keeps.ite ?_ ?_)
      | split)

theorem keeps_discardFrames {s0 s : State} (h : Keeps s0 s) : Keeps s0 (s.discardFrames) := by
  unfold State.discardFrames
  try dsimp only
  repeat' (with_reducible first | assumption | refine Keeps.updSame ?_ rfl rfl rfl rfl rfl)

theorem keeps_discardLine {s0 s : State} (h : Keeps s0 s) {a1 a2 : Nat} {a3 : OpenFrame} :
    Keeps s0 (s.discardLine a1 a2 a3) := by
  unfold State.discardLine
  try dsimp only
  repeat' (with_reducible first | assumption | refine keeps_count ?_ | refine keeps_setFrame ?_)

theorem keeps_embeddedLine {s0 s : State} (h : Keeps s0 s) {a1 : Nat} {a2 : OpenFrame} {a3 : List Byte} :
    Keeps s0 (s.embeddedLine a1 a2 a3) := by
  unfold State.embeddedLine
  try dsimp only
  repeat' (with_reducible first
      | assumption | refine keeps_discardLine ?_ | refine keeps_setBytes ?_ | refine keeps_setNum ?_
      | refine keeps_setFrame ?_ | refine Keeps.ite ?_ ?_)

theorem keeps_markSet {s0 s : State} (h : Keeps s0 s) {a1 a2 : Nat} : Keeps s0 (s.markSet a1 a2) := by
  unfold State.markSet
  try dsimp only
  repeat' (first
      | (with_reducible first | assumption | refine keeps_setFrame ?_ | refine keeps_setStream ?_ | refine Keeps.ite ?_ ?_)
      | split)

theorem keeps_setFsOut {s0 s : State} (h : Keeps s0 s) {a1 : Nat} {a2 : FsyncOut} : Keeps s0 (s.setFsOut a1 a2) := by
  unfold State.setFsOut
  try dsimp only
  repeat' (with_reducible first | assumption | refine Keeps.updSame ?_ rfl rfl rfl rfl rfl)

theorem keeps_fsyncPulse {s0 s : State} (h : Keeps s0 s) {a1 a2 : Nat} : Keeps s0 (s.fsyncPulse a1 a2) := by
  unfold State.fsyncPulse
  try dsimp only
  repeat' (first
      | (with_reducible first
        | assumption | refine keeps_setFsOut ?_ | refine keeps_lichenHw ?_ | refine keeps_count ?_ | refine Keeps.ite ?_ ?_)
      | split)

theorem keeps_i2cNext {s0 s : State} (h : Keeps s0 s) {a1 : Nat} : Keeps s0 (s.i2cNext a1) := by
  unfold State.i2cNext
  try dsimp only
  repeat' (first | (with_reducible first | assumption | refine keeps_i2cStartXfer ?_ | refine keeps_setBus ?_) | split)

theorem keeps_i2cResult {s0 s : State} (h : Keeps s0 s) {a1 a2 : Nat} {a3 a4 : Nat} : Keeps s0 (s.i2cResult a1 a2 a3 a4) := by
  unfold State.i2cResult
  try dsimp only
  repeat' (with_reducible first | assumption | refine keeps_setFld ?_)

theorem keeps_listFailed {s0 s : State} (h : Keeps s0 s) {a1 a2 : Nat} : Keeps s0 (s.listFailed a1 a2) := by
  unfold State.listFailed
  try dsimp only
  repeat' (with_reducible first | assumption | refine keeps_markSet ?_)

theorem keeps_i2cStuck {s0 s : State} (h : Keeps s0 s) {a1 a2 a3 : Nat} : Keeps s0 (s.i2cStuck a1 a2 a3) := by
  unfold State.i2cStuck
  try dsimp only
  repeat' (with_reducible first | assumption | refine keeps_count ?_ | refine keeps_i2cResult ?_)

theorem keeps_i2cStartList {s0 s : State} (h : Keeps s0 s) {a1 a2 : Nat} : Keeps s0 (s.i2cStartList a1 a2) := by
  unfold State.i2cStartList
  try dsimp only
  repeat' (first
      | (with_reducible first
        | assumption | refine keeps_listFailed ?_ | refine keeps_lichenHw ?_ | refine keeps_count ?_
        | refine keeps_i2cResult ?_ | refine keeps_i2cStuck ?_ | refine keeps_markSet ?_ | refine keeps_setBus ?_
        | refine Keeps.ite ?_ ?_)
      | split)

theorem keeps_imageLine {s0 s : State} (h : Keeps s0 s) {a1 : Nat} {a2 : OpenFrame} {a3 : List Byte} :
    Keeps s0 (s.imageLine a1 a2 a3) := by
  unfold State.imageLine
  try dsimp only
  repeat' (first
      | (with_reducible first
        | assumption | refine keeps_discardLine ?_ | refine keeps_count ?_ | refine keeps_setFrame ?_
        | refine keeps_synthRows ?_ | refine keeps_bufferRow ?_ | refine Keeps.ite ?_ ?_)
      | split)

theorem keeps_markPort {s0 s : State} (h : Keeps s0 s) {a1 : Nat} : Keeps s0 (s.markPort a1) := by
  unfold State.markPort
  try dsimp only
  repeat' (first
      | (with_reducible first | assumption | refine keeps_setFrame ?_ | refine Keeps.foldl _ ?_ (fun u x hu => ?_))
      | split)

theorem keeps_noteHeader {s0 s : State} (h : Keeps s0 s) {a1 : Nat} {a2 : Bool} : Keeps s0 (s.noteHeader a1 a2) := by
  unfold State.noteHeader
  try dsimp only
  repeat' (with_reducible first | assumption | refine keeps_count ?_ | refine Keeps.ite ?_ ?_)

theorem keeps_unmatched {s0 s : State} (h : Keeps s0 s) {a1 : Nat} : Keeps s0 (s.unmatched a1) := by
  unfold State.unmatched
  try dsimp only
  repeat' (with_reducible first | assumption | refine keeps_count ?_)

theorem keeps_execFsyncPulseEnd {s0 s : State} (h : Keeps s0 s) {a0 : Fin 12} : KeepsOut s0 (execFsyncPulseEnd a0 s) := by
  unfold execFsyncPulseEnd
  try dsimp only
  repeat' (first
      | (with_reducible first | assumption | refine KeepsOut.next ?_ | refine keeps_setFsOut ?_ | refine KeepsOut.ite ?_ ?_)
      | split)

theorem keeps_execPortCfgApply {s0 s : State} (h : Keeps s0 s) {a0 : Fin 12} : KeepsOut s0 (execPortCfgApply a0 s) := by
  unfold execPortCfgApply
  try dsimp only
  repeat' (with_reducible first
      | assumption | refine KeepsOut.next ?_ | refine keeps_setPort ?_ | refine keeps_setFld ?_ | refine Keeps.ite ?_ ?_)

theorem keeps_execDeskewSequence {s0 s : State} (h : Keeps s0 s) {a0 : Fin 12} : KeepsOut s0 (execDeskewSequence a0 s) := by
  unfold execDeskewSequence
  try dsimp only
  repeat' (with_reducible first | assumption | refine KeepsOut.next ?_ | refine keeps_setFld ?_ | refine KeepsOut.ite ?_ ?_)

theorem keeps_execHsBurstDiscard {s0 s : State} (h : Keeps s0 s) {a0 : Fin 12} {a1 : Bool} :
    KeepsOut s0 (execHsBurstDiscard a0 a1 s) := by
  unfold execHsBurstDiscard
  try dsimp only
  repeat' (with_reducible first
      | assumption | refine KeepsOut.next ?_ | refine keeps_markPort ?_ | refine keeps_count ?_ | refine KeepsOut.ite ?_ ?_)

theorem keeps_execFrameEnd {s0 s : State} (h : Keeps s0 s) {a0 : Fin 12} {a1 : Fin 16} {a2 : Half} {a3 : Bool} :
    KeepsOut s0 (execFrameEnd a0 a1 a2 a3 s) := by
  unfold execFrameEnd
  try dsimp only
  repeat' (first
      | (with_reducible first
        | assumption | refine KeepsOut.next ?_ | refine keeps_noteHeader ?_ | refine keeps_unmatched ?_
        | refine keeps_count ?_ | refine keeps_closeFrame ?_ | refine keeps_setFrame ?_ | refine Keeps.ite ?_ ?_
        | refine Keeps.foldl _ ?_ (fun u x hu => ?_))
      | split)

theorem keeps_execFrameEndTimeout {s0 s : State} (h : Keeps s0 s) {a0 : Fin 48} : KeepsOut s0 (execFrameEndTimeout a0 s) := by
  unfold execFrameEndTimeout
  try dsimp only
  repeat' (first
      | (with_reducible first | assumption | refine KeepsOut.next ?_ | refine keeps_closeFrame ?_ | refine KeepsOut.ite ?_ ?_)
      | split)

theorem keeps_execLineStart {s0 s : State} (h : Keeps s0 s) {a0 : Fin 12} {a1 : Fin 16} {a2 : Half} {a3 : Bool} :
    KeepsOut s0 (execLineStart a0 a1 a2 a3 s) := by
  unfold execLineStart
  try dsimp only
  repeat' (first
      | (with_reducible first
        | assumption | refine KeepsOut.next ?_ | refine keeps_noteHeader ?_ | refine keeps_unmatched ?_
        | refine keeps_setFrame ?_ | refine Keeps.ite ?_ ?_ | refine Keeps.foldl _ ?_ (fun u x hu => ?_))
      | split)

theorem keeps_execImageLine {s0 s : State} (h : Keeps s0 s) {a0 : Fin 12} {a1 : Fin 16} {a2 : Fin 64} {a3 : List Byte}
    {a4 a5 : Bool} :
    KeepsOut s0 (execImageLine a0 a1 a2 a3 a4 a5 s) := by
  unfold execImageLine
  try dsimp only
  repeat' (first
      | (with_reducible first
        | assumption | refine KeepsOut.next ?_ | refine keeps_noteHeader ?_ | refine keeps_unmatched ?_
        | refine keeps_count ?_ | refine keeps_imageLine ?_ | refine keeps_setFrame ?_ | refine Keeps.ite ?_ ?_
        | refine Keeps.foldl _ ?_ (fun u x hu => ?_))
      | split)

theorem keeps_execEmbeddedLine {s0 s : State} (h : Keeps s0 s) {a0 : Fin 12} {a1 : Fin 16} {a2 : List Byte} {a3 a4 : Bool} :
    KeepsOut s0 (execEmbeddedLine a0 a1 a2 a3 a4 s) := by
  unfold execEmbeddedLine
  try dsimp only
  repeat' (first
      | (with_reducible first
        | assumption | refine KeepsOut.next ?_ | refine keeps_noteHeader ?_ | refine keeps_unmatched ?_
        | refine keeps_count ?_ | refine keeps_embeddedLine ?_ | refine keeps_setFrame ?_ | refine Keeps.ite ?_ ?_
        | refine Keeps.foldl _ ?_ (fun u x hu => ?_))
      | split)

theorem keeps_execWatchEnable {s0 s : State} (h : Keeps s0 s) {a0 : Fin 12} {a1 : Word} :
    KeepsOut s0 (execWatchEnable a0 a1 s) := by
  unfold execWatchEnable
  try dsimp only
  repeat' (with_reducible first | assumption | refine KeepsOut.next ?_ | refine keeps_writeWatchCfg ?_)

theorem keeps_execI2cXfer {s0 s : State} (h : Keeps s0 s) {a0 : Fin 12} {a1 : Word} : KeepsOut s0 (execI2cXfer a0 a1 s) := by
  unfold execI2cXfer
  try dsimp only
  repeat' (with_reducible first
      | assumption | refine KeepsOut.next ?_ | refine keeps_setReg ?_ | refine keeps_i2cGo ?_ | refine Keeps.ite ?_ ?_)

theorem keeps_execI2cListComplete {s0 s : State} (h : Keeps s0 s) {a0 : Fin 12} {a1 : Option (Fin 256 × Bool)} {a2 : Word} :
    KeepsOut s0 (execI2cListComplete a0 a1 a2 s) := by
  unfold execI2cListComplete
  try dsimp only
  repeat' (first
      | (with_reducible first
        | assumption | refine KeepsOut.next ?_ | refine keeps_count ?_ | refine keeps_i2cResult ?_ | refine keeps_setBus ?_
        | refine keeps_i2cNext ?_ | refine keeps_listFailed ?_ | refine keeps_setFld ?_ | refine keeps_setReg ?_
        | refine Keeps.ite ?_ ?_)
      | split)

theorem keeps_execI2cStuckTimeout {s0 s : State} (h : Keeps s0 s) {a0 : Fin 12} {a1 : Fin 256} :
    KeepsOut s0 (execI2cStuckTimeout a0 a1 s) := by
  unfold execI2cStuckTimeout
  try dsimp only
  repeat' (first
      | (with_reducible first
        | assumption | refine KeepsOut.next ?_ | refine keeps_i2cNext ?_ | refine keeps_listFailed ?_
        | refine keeps_i2cStuck ?_ | refine keeps_setBus ?_ | refine keeps_setFld ?_ | refine keeps_count ?_)
      | split)

theorem keeps_execTrigEdge {s0 s : State} (h : Keeps s0 s) {a0 : Fin 4} {a1 : Bool} {a2 : Nat} :
    KeepsOut s0 (execTrigEdge a0 a1 a2 s) := by
  unfold execTrigEdge
  try dsimp only
  repeat' (with_reducible first
      | assumption | refine KeepsOut.next ?_ | refine keeps_countBy ?_ | refine keeps_setTime ?_ | refine keeps_postEvent ?_
      | refine keeps_wakeFire ?_ | refine Keeps.ite ?_ ?_ | refine KeepsOut.ite ?_ ?_
      | refine Keeps.updSame ?_ rfl rfl rfl rfl rfl)

theorem keeps_execTrigFsyncDelay {s0 s : State} (h : Keeps s0 s) {a0 : Fin 4} : KeepsOut s0 (execTrigFsyncDelay a0 s) := by
  unfold execTrigFsyncDelay
  try dsimp only
  repeat' (first
      | (with_reducible first
        | assumption | refine KeepsOut.next ?_ | refine keeps_fsyncPulse ?_ | refine KeepsOut.ite ?_ ?_
        | refine Keeps.updSame ?_ rfl rfl rfl rfl rfl)
      | split)

theorem keeps_execUnmatchedPacket {s0 s : State} (h : Keeps s0 s) {a0 : Fin 12} : KeepsOut s0 (execUnmatchedPacket a0 s) := by
  unfold execUnmatchedPacket
  try dsimp only
  repeat' (with_reducible first
      | assumption | refine KeepsOut.next ?_ | refine keeps_unmatched ?_ | refine KeepsOut.ite ?_ ?_)

theorem keeps_execVioCamLoss {s0 s : State} (h : Keeps s0 s) : KeepsOut s0 (execVioCamLoss s) := by
  unfold execVioCamLoss
  try dsimp only
  repeat' (with_reducible first | assumption | refine KeepsOut.next ?_ | refine Keeps.updSame ?_ rfl rfl rfl rfl rfl)

theorem keeps_execVioCamReturn {s0 s : State} (h : Keeps s0 s) : KeepsOut s0 (execVioCamReturn s) := by
  unfold execVioCamReturn
  try dsimp only
  repeat' (with_reducible first | assumption | refine KeepsOut.next ?_ | refine Keeps.updSame ?_ rfl rfl rfl rfl rfl)

/-! ### Sideband -/

theorem keeps_clearAlerts {s0 s : State} (h : Keeps s0 s) {a1 : Word} : Keeps s0 (s.clearAlerts a1) := by
  unfold State.clearAlerts
  try dsimp only
  repeat' (with_reducible first
      | assumption | refine keeps_setReg ?_ | refine keeps_alert ?_ | refine Keeps.foldl _ ?_ (fun u x hu => ?_))

theorem keeps_answer {s0 s : State} (h : Keeps s0 s) {a1 : List Byte} : Keeps s0 (s.answer a1) := by
  unfold State.answer
  try dsimp only
  repeat' (with_reducible first | assumption | refine Keeps.updSame ?_ rfl rfl rfl rfl rfl)

theorem keeps_extest {s0 s : State} (h : Keeps s0 s) {a1 : TapIr} {a2 a3 : Nat} : Keeps s0 (s.extest a1 a2 a3) := by
  unfold State.extest
  try dsimp only
  repeat' (with_reducible first | assumption | refine Keeps.ite ?_ ?_ | refine Keeps.updSame ?_ rfl rfl rfl rfl rfl)

theorem keeps_smbWrite {s0 s : State} (h : Keeps s0 s) {a1 : Bool}
    {a2 : State → State} (he : ∀ u, Keeps s0 u → Keeps s0 (a2 u)) :
    Keeps s0 (s.smbWrite a1 a2) := by
  unfold State.smbWrite
  try dsimp only
  repeat' (first
      | with_reducible assumption | refine he _ ?_
      | (with_reducible first
        | refine keeps_countBy ?_ | refine Keeps.ite ?_ ?_ | refine Keeps.updSame ?_ rfl rfl rfl rfl rfl))

theorem keeps_execModuleInsert {s0 s : State} (h : Keeps s0 s) : KeepsOut s0 (execModuleInsert s) := by
  unfold execModuleInsert
  try dsimp only
  repeat' (with_reducible first | assumption | refine KeepsOut.next ?_ | refine Keeps.updSame ?_ rfl rfl rfl rfl rfl)

theorem keeps_execSmbIdentity {s0 s : State} (h : Keeps s0 s) : KeepsOut s0 (execSmbIdentity s) := by
  unfold execSmbIdentity
  try dsimp only
  repeat' (with_reducible first | assumption | refine KeepsOut.next ?_ | refine keeps_answer ?_)

theorem keeps_execSmbState {s0 s : State} (h : Keeps s0 s) : KeepsOut s0 (execSmbState s) := by
  unfold execSmbState
  try dsimp only
  repeat' (with_reducible first | assumption | refine KeepsOut.next ?_ | refine keeps_answer ?_)

theorem keeps_execSmbVin {s0 s : State} (h : Keeps s0 s) : KeepsOut s0 (execSmbVin s) := by
  unfold execSmbVin
  try dsimp only
  repeat' (with_reducible first | assumption | refine KeepsOut.next ?_ | refine keeps_answer ?_)

theorem keeps_execSmbCurrent {s0 s : State} (h : Keeps s0 s) : KeepsOut s0 (execSmbCurrent s) := by
  unfold execSmbCurrent
  try dsimp only
  repeat' (with_reducible first | assumption | refine KeepsOut.next ?_ | refine keeps_answer ?_)

theorem keeps_execSmbPower {s0 s : State} (h : Keeps s0 s) : KeepsOut s0 (execSmbPower s) := by
  unfold execSmbPower
  try dsimp only
  repeat' (with_reducible first | assumption | refine KeepsOut.next ?_ | refine keeps_answer ?_)

theorem keeps_execSmbTemp {s0 s : State} (h : Keeps s0 s) : KeepsOut s0 (execSmbTemp s) := by
  unfold execSmbTemp
  try dsimp only
  repeat' (with_reducible first | assumption | refine KeepsOut.next ?_ | refine keeps_answer ?_)

theorem keeps_execSmbTempSensor {s0 s : State} (h : Keeps s0 s) : KeepsOut s0 (execSmbTempSensor s) := by
  unfold execSmbTempSensor
  try dsimp only
  repeat' (with_reducible first | assumption | refine KeepsOut.next ?_ | refine keeps_answer ?_)

theorem keeps_execSmbAlertStatRead {s0 s : State} (h : Keeps s0 s) : KeepsOut s0 (execSmbAlertStatRead s) := by
  unfold execSmbAlertStatRead
  try dsimp only
  repeat' (with_reducible first | assumption | refine KeepsOut.next ?_ | refine keeps_answer ?_)

theorem keeps_execSmbAlertStatClear {s0 s : State} (h : Keeps s0 s) {a0 : Byte} {a1 : Bool} :
    KeepsOut s0 (execSmbAlertStatClear a0 a1 s) := by
  unfold execSmbAlertStatClear
  try dsimp only
  repeat' (with_reducible first
      | assumption | refine KeepsOut.next ?_ | refine keeps_smbWrite ?_ (fun u hu => ?_) | refine keeps_clearAlerts ?_)

theorem keeps_execSmbAlertMaskRead {s0 s : State} (h : Keeps s0 s) : KeepsOut s0 (execSmbAlertMaskRead s) := by
  unfold execSmbAlertMaskRead
  try dsimp only
  repeat' (with_reducible first | assumption | refine KeepsOut.next ?_ | refine keeps_answer ?_)

theorem keeps_execSmbAlertMaskWrite {s0 s : State} (h : Keeps s0 s) {a0 : Byte} {a1 : Bool} :
    KeepsOut s0 (execSmbAlertMaskWrite a0 a1 s) := by
  unfold execSmbAlertMaskWrite
  try dsimp only
  repeat' (with_reducible first
      | assumption | refine KeepsOut.next ?_ | refine keeps_smbWrite ?_ (fun u hu => ?_) | refine keeps_setFld ?_)

theorem keeps_execSmbAlertResponse {s0 s : State} (h : Keeps s0 s) : KeepsOut s0 (execSmbAlertResponse s) := by
  unfold execSmbAlertResponse
  try dsimp only
  repeat' (with_reducible first
      | assumption | refine KeepsOut.next ?_ | refine keeps_answer ?_ | refine KeepsOut.ite ?_ ?_
      | refine Keeps.updSame ?_ rfl rfl rfl rfl rfl)

theorem keeps_execSmbClockTimeout {s0 s : State} (h : Keeps s0 s) : KeepsOut s0 (execSmbClockTimeout s) := by
  unfold execSmbClockTimeout
  try dsimp only
  repeat' (with_reducible first
      | assumption | refine KeepsOut.next ?_ | refine keeps_countBy ?_ | refine Keeps.updSame ?_ rfl rfl rfl rfl rfl)

theorem keeps_execJtagBypass {s0 s : State} (h : Keeps s0 s) : KeepsOut s0 (execJtagBypass s) := by
  unfold execJtagBypass
  try dsimp only
  repeat' (with_reducible first
      | assumption | refine KeepsOut.next ?_ | refine Keeps.ite ?_ ?_ | refine Keeps.updSame ?_ rfl rfl rfl rfl rfl)

theorem keeps_execJtagIdcode {s0 s : State} (h : Keeps s0 s) : KeepsOut s0 (execJtagIdcode s) := by
  unfold execJtagIdcode
  try dsimp only
  repeat' (with_reducible first
      | assumption | refine KeepsOut.next ?_ | refine Keeps.ite ?_ ?_ | refine Keeps.updSame ?_ rfl rfl rfl rfl rfl)

theorem keeps_execJtagSamplePreload {s0 s : State} (h : Keeps s0 s) {a0 a1 : Nat} :
    KeepsOut s0 (execJtagSamplePreload a0 a1 s) := by
  unfold execJtagSamplePreload
  try dsimp only
  repeat' (with_reducible first
      | assumption | refine KeepsOut.next ?_ | refine Keeps.ite ?_ ?_ | refine Keeps.updSame ?_ rfl rfl rfl rfl rfl)

theorem keeps_execJtagExtest {s0 s : State} (h : Keeps s0 s) {a0 a1 : Nat} : KeepsOut s0 (execJtagExtest a0 a1 s) := by
  unfold execJtagExtest
  try dsimp only
  repeat' (with_reducible first | assumption | refine KeepsOut.next ?_ | refine keeps_extest ?_)

theorem keeps_execJtagExtestPulse {s0 s : State} (h : Keeps s0 s) {a0 a1 : Nat} :
    KeepsOut s0 (execJtagExtestPulse a0 a1 s) := by
  unfold execJtagExtestPulse
  try dsimp only
  repeat' (with_reducible first | assumption | refine KeepsOut.next ?_ | refine keeps_extest ?_)

theorem keeps_execJtagExtestTrain {s0 s : State} (h : Keeps s0 s) {a0 a1 : Nat} :
    KeepsOut s0 (execJtagExtestTrain a0 a1 s) := by
  unfold execJtagExtestTrain
  try dsimp only
  repeat' (with_reducible first | assumption | refine KeepsOut.next ?_ | refine keeps_extest ?_)

theorem keeps_execJtagDebugInstruction {s0 s : State} (h : Keeps s0 s) : KeepsOut s0 (execJtagDebugInstruction s) := by
  unfold execJtagDebugInstruction
  try dsimp only
  repeat' (with_reducible first
      | assumption | exact KeepsOut.refused _ _ | refine KeepsOut.next ?_ | refine KeepsOut.ite ?_ ?_
      | refine Keeps.updSame ?_ rfl rfl rfl rfl rfl)

/-! ### RehStart -/

theorem keeps_rehGo {s0 s : State} (h : Keeps s0 s) {a1 : Nat} : Keeps s0 (s.rehGo a1) := by
  unfold State.rehGo
  try dsimp only
  repeat' (with_reducible first
      | assumption | refine keeps_setFld ?_ | refine Keeps.ite ?_ ?_ | refine Keeps.updSame ?_ rfl rfl rfl rfl rfl)

theorem keeps_execRehGo {s0 s : State} (h : Keeps s0 s) {a0 : Half} : KeepsOut s0 (execRehGo a0 s) := by
  unfold execRehGo
  try dsimp only
  repeat' (with_reducible first | assumption | refine KeepsOut.next ?_ | refine keeps_rehGo ?_)

/-! ### Security -/

theorem keeps_setFwSlot {s0 s : State} (h : Keeps s0 s) {a1 : Nat} {a2 : FwSlot} : Keeps s0 (s.setFwSlot a1 a2) := by
  unfold State.setFwSlot
  try dsimp only
  repeat' (first
      | (with_reducible first | assumption | refine Keeps.upd ?_ rfl rfl rfl ?_ ?_)
      | exact Nat.le_refl _ | exact FusesRise.same rfl rfl rfl | split)

theorem keeps_confirmSlot {s0 s : State} (h : Keeps s0 s) : Keeps s0 (s.confirmSlot) := by
  unfold State.confirmSlot
  try dsimp only
  repeat' (first | (with_reducible first | assumption | refine keeps_setFwSlot ?_) | split)

theorem keeps_setSkipRows {s0 s : State} (h : Keeps s0 s) {a1 : Nat} {a2 : List (Nat × Bool)} :
    Keeps s0 (s.setSkipRows a1 a2) := by
  unfold State.setSkipRows
  try dsimp only
  repeat' (with_reducible first | assumption | refine keeps_setReg ?_)

theorem keeps_setSkipCols {s0 s : State} (h : Keeps s0 s) {a1 : Nat} {a2 : List (Nat × Bool)} :
    Keeps s0 (s.setSkipCols a1 a2) := by
  unfold State.setSkipCols
  try dsimp only
  repeat' (with_reducible first | assumption | refine keeps_setReg ?_)

theorem keeps_rbAdvance {s0 s : State} (h : Keeps s0 s) {a1 : Nat} : Keeps s0 (s.rbAdvance a1) := by
  unfold State.rbAdvance
  dsimp only
  split
  · rename_i hlt
    with_reducible refine keeps_lichenFw ?_
    refine h.trans ⟨rfl, id, Nat.le_refl _, ⟨fun _ x => x, ?_, fun _ x => x⟩⟩
    exact Nat.le_of_lt hlt
  · exact h

theorem keeps_standAlone {s0 s : State} (h : Keeps s0 s) : Keeps s0 (s.standAlone) := by
  unfold State.standAlone
  try dsimp only
  repeat' (with_reducible first | assumption | refine keeps_setFld ?_)

theorem keeps_endStart {s0 s : State} (h : Keeps s0 s) : Keeps s0 (s.endStart) := by
  unfold State.endStart
  try dsimp only
  repeat' (with_reducible first
      | assumption | refine keeps_standAlone ?_ | refine Keeps.ite ?_ ?_ | refine Keeps.updSame ?_ rfl rfl rfl rfl rfl)

theorem keeps_lockBoot {s0 s : State} (h : Keeps s0 s) : Keeps s0 (s.lockBoot) := by
  unfold State.lockBoot
  try dsimp only
  repeat' (with_reducible first | assumption | refine keeps_endStart ?_ | refine keeps_setFld ?_)

theorem keeps_emuRequest {s0 s : State} (h : Keeps s0 s) : Keeps s0 (s.emuRequest) := by
  unfold State.emuRequest
  try dsimp only
  repeat' (with_reducible first | assumption | refine keeps_setFld ?_ | refine Keeps.ite ?_ ?_)

theorem keeps_sigGo {s0 s : State} (h : Keeps s0 s) {a1 : Nat} : Keeps s0 (s.sigGo a1) := by
  unfold State.sigGo
  try dsimp only
  repeat' (first
      | (with_reducible first
        | assumption | refine keeps_setFld ?_ | refine Keeps.ite ?_ ?_ | refine Keeps.upd ?_ rfl rfl rfl ?_ ?_)
      | exact Nat.le_refl _ | exact FusesRise.same rfl rfl rfl)

theorem keeps_retireAtBoot {s0 s : State} (h : Keeps s0 s) {a1 : Nat} : Keeps s0 (s.retireAtBoot a1) := by
  unfold State.retireAtBoot
  try dsimp only
  repeat' (with_reducible first
      | assumption | refine keeps_setFld ?_ | refine keeps_lichenFw ?_ | refine keeps_fence ?_ | refine Keeps.ite ?_ ?_
      | refine Keeps.updSame ?_ rfl rfl rfl rfl rfl)

theorem keeps_applyRepair {s0 s : State} (h : Keeps s0 s) {a1 : Bool} {a2 : RepairEntry} :
    Keeps s0 (s.applyRepair a1 a2) := by
  unfold State.applyRepair
  try dsimp only
  repeat' (with_reducible first
      | assumption | refine keeps_setSkipRows ?_ | refine keeps_setSkipCols ?_ | refine keeps_retireAtBoot ?_
      | refine Keeps.ite ?_ ?_ | refine Keeps.updSame ?_ rfl rfl rfl rfl rfl)

theorem keeps_applyRepairs {s0 s : State} (h : Keeps s0 s) : Keeps s0 (s.applyRepairs) := by
  unfold State.applyRepairs
  try dsimp only
  repeat' (with_reducible first
      | assumption | refine keeps_applyRepair ?_ | refine Keeps.foldl _ ?_ (fun u x hu => ?_)
      | refine Keeps.updSame ?_ rfl rfl rfl rfl rfl)

theorem keeps_norErase {s0 s : State} (h : Keeps s0 s) {a1 a2 : Nat} : Keeps s0 (s.norErase a1 a2) :=
  h.trans ⟨rfl, fun c => ⟨c.1, Cells.wf_filter _ _ _ c.2⟩, Nat.le_refl _, FusesRise.same rfl rfl rfl⟩

theorem keeps_completeFuses {s0 s : State} (h : Keeps s0 s) {a1 : List Nat} : Keeps s0 (s.completeFuses a1) := by
  fun_induction State.completeFuses s a1 <;> repeat' (first
      | with_reducible assumption | exact ⟨fun n x => List.mem_append_left _ x, Nat.le_refl _, fun n x => x⟩
      | (with_reducible first | refine keeps_lichenFw ?_ | apply_assumption)
      | dsimp only | with_reducible refine Keeps.upd ?_ rfl rfl rfl ?_ ?_ | exact Nat.le_refl _)

theorem keeps_configClosed {s0 s : State} (h : Keeps s0 s) : Keeps s0 (s.configClosed) := by
  unfold State.configClosed
  try dsimp only
  repeat' (with_reducible first | assumption | refine keeps_setFld ?_ | refine Keeps.foldl _ ?_ (fun u x hu => ?_))

theorem keeps_configWrite {s0 s : State} (h : Keeps s0 s) {a1 : Nat × BitVec 32} : Keeps s0 (s.configWrite a1) := by
  unfold State.configWrite
  try dsimp only
  repeat' (with_reducible first | assumption | refine keeps_setFld ?_ | refine keeps_setReg ?_ | refine Keeps.ite ?_ ?_)

theorem keeps_setHash {s0 s : State} (h : Keeps s0 s) {a1 : Nat} {a2 : List Byte} : Keeps s0 (s.setHash a1 a2) := by
  unfold State.setHash
  try dsimp only
  repeat' (with_reducible first | assumption | refine keeps_setReg ?_ | refine Keeps.foldl _ ?_ (fun u x hu => ?_))

theorem keeps_loadConfig {s0 s : State} (h : Keeps s0 s) {a1 : Nat} : Keeps s0 (s.loadConfig a1) := by
  unfold State.loadConfig
  try dsimp only
  repeat' (with_reducible first
      | assumption | refine keeps_setFld ?_ | refine keeps_configWrite ?_ | refine keeps_lichenFw ?_
      | refine keeps_configClosed ?_ | refine Keeps.ite ?_ ?_ | refine Keeps.foldl _ ?_ (fun u x hu => ?_))

theorem keeps_startPrompter {s0 s : State} (h : Keeps s0 s) : Keeps s0 (s.startPrompter) := by
  unfold State.startPrompter
  try dsimp only
  repeat' (with_reducible first | assumption | refine Keeps.updSame ?_ rfl rfl rfl rfl rfl)

theorem keeps_swapBarrier {s0 s : State} (h : Keeps s0 s) : Keeps s0 (s.swapBarrier) := by
  unfold State.swapBarrier
  try dsimp only
  repeat' (with_reducible first | assumption | refine keeps_barReset ?_ | refine keeps_setFld ?_)

theorem keeps_noteStraps {s0 s : State} (h : Keeps s0 s) : Keeps s0 (s.noteStraps) := by
  unfold State.noteStraps
  try dsimp only
  repeat' (with_reducible first | assumption | refine keeps_lichenFw ?_ | refine Keeps.ite ?_ ?_)

theorem keeps_handOver {s0 s : State} (h : Keeps s0 s) {a1 : Nat} {a2 : Bool} : Keeps s0 (s.handOver a1 a2) := by
  unfold State.handOver
  try dsimp only
  repeat' (first
      | (with_reducible first
        | assumption | refine keeps_setFld ?_ | refine keeps_setHash ?_ | refine keeps_loadConfig ?_
        | refine keeps_startPrompter ?_ | refine keeps_swapBarrier ?_ | refine keeps_noteStraps ?_
        | refine keeps_applyRepairs ?_ | refine keeps_lichenFw ?_ | refine Keeps.ite ?_ ?_
        | refine Keeps.upd ?_ rfl rfl rfl ?_ ?_)
      | exact Nat.le_refl _ | exact FusesRise.same rfl rfl rfl)

theorem keeps_norDenied {s0 s : State} (h : Keeps s0 s) {a1 : Bool} {a2 : Nat} : Keeps s0 (s.norDenied a1 a2) := by
  unfold State.norDenied
  try dsimp only
  repeat' (with_reducible first | assumption | refine keeps_lichenHw ?_ | refine Keeps.updSame ?_ rfl rfl rfl rfl rfl)

theorem keeps_norClear {s0 s : State} (h : Keeps s0 s) {a1 a2 : Nat} : Keeps s0 (s.norClear a1 a2) := by
  unfold State.norClear
  try dsimp only
  repeat' (with_reducible first
      | assumption | refine keeps_norErase ?_ | refine keeps_norDenied ?_ | refine Keeps.ite ?_ ?_
      | refine Keeps.updSame ?_ rfl rfl rfl rfl rfl)

theorem keeps_norProgram {s0 s : State} (h : Keeps s0 s) {a1 : Nat} {a2 : List Byte} : Keeps s0 (s.norProgram a1 a2) := by
  fun_induction State.norProgram s a1 a2 <;> repeat' (with_reducible first
      | assumption | refine keeps_setByte ?_ | apply_assumption)

theorem keeps_norWrite {s0 s : State} (h : Keeps s0 s) {a1 : Nat} {a2 : List Byte} : Keeps s0 (s.norWrite a1 a2) := by
  unfold State.norWrite
  try dsimp only
  repeat' (with_reducible first
      | assumption | refine keeps_norProgram ?_ | refine keeps_norDenied ?_ | refine Keeps.ite ?_ ?_
      | refine Keeps.updSame ?_ rfl rfl rfl rfl rfl)

theorem keeps_recoveryBoot {s0 s : State} (h : Keeps s0 s) {a1 : Nat} : Keeps s0 (s.recoveryBoot a1) := by
  unfold State.recoveryBoot
  try dsimp only
  repeat' (with_reducible first
      | assumption | refine keeps_setFld ?_ | refine keeps_alert ?_ | refine keeps_lichenFw ?_ | refine keeps_endStart ?_)

theorem keeps_trySlot {s0 s : State} (h : Keeps s0 s) {a1 : Nat} : Keeps s0 (s.trySlot a1).1 := by
  unfold State.trySlot
  try dsimp only
  repeat' (first | (with_reducible first | assumption | refine keeps_lichenFw ?_ | refine keeps_setFwSlot ?_) | split)

theorem keeps_powerGood {s0 s : State} (h : Keeps s0 s) : Keeps s0 s.powerGood :=
  h.updSame rfl rfl rfl rfl rfl

theorem keeps_execBootRomStart {s0 s : State} (h : Keeps s0 s) {a0 : Bool} : KeepsOut s0 (execBootRomStart a0 s) := by
  unfold execBootRomStart
  try dsimp only
  repeat' (with_reducible first
      | assumption | refine KeepsOut.next ?_ | refine keeps_powerGood ?_ | refine keeps_completeFuses ?_ | refine keeps_setFld ?_
      | refine keeps_recoveryBoot ?_ | refine keeps_trySlot ?_ | refine keeps_handOver ?_ | refine Keeps.ite ?_ ?_
      | refine KeepsOut.ite ?_ ?_)

theorem keeps_execSlotConfirm {s0 s : State} (h : Keeps s0 s) {a0 : Fin 128} : KeepsOut s0 (execSlotConfirm a0 s) := by
  unfold execSlotConfirm
  try dsimp only
  repeat' (with_reducible first
      | assumption | refine KeepsOut.next ?_ | refine keeps_rbAdvance ?_ | refine keeps_confirmSlot ?_
      | refine Keeps.ite ?_ ?_)

theorem keeps_execSecLockBoot {s0 s : State} (h : Keeps s0 s) : KeepsOut s0 (execSecLockBoot s) := by
  unfold execSecLockBoot
  try dsimp only
  repeat' (with_reducible first | assumption | refine KeepsOut.next ?_ | refine keeps_lockBoot ?_)

theorem keeps_execSecLockCfg {s0 s : State} (h : Keeps s0 s) : KeepsOut s0 (execSecLockCfg s) := by
  unfold execSecLockCfg
  try dsimp only
  repeat' (with_reducible first | assumption | refine KeepsOut.next ?_ | refine keeps_setFld ?_)

theorem keeps_execEmuGateReq {s0 s : State} (h : Keeps s0 s) : KeepsOut s0 (execEmuGateReq s) := by
  unfold execEmuGateReq
  try dsimp only
  repeat' (with_reducible first | assumption | refine KeepsOut.next ?_ | refine keeps_emuRequest ?_)

theorem keeps_execSigEngineGo {s0 s : State} (h : Keeps s0 s) {a0 : Fin 2} : KeepsOut s0 (execSigEngineGo a0 s) := by
  unfold execSigEngineGo
  try dsimp only
  repeat' (with_reducible first | assumption | refine KeepsOut.next ?_ | refine keeps_sigGo ?_ | refine keeps_setFld ?_)

theorem keeps_execSigEngineDone {s0 s : State} (h : Keeps s0 s) : KeepsOut s0 (execSigEngineDone s) := by
  unfold execSigEngineDone
  try dsimp only
  repeat' (first
      | (with_reducible first
        | assumption | refine KeepsOut.next ?_ | refine keeps_setFld ?_ | refine keeps_dpaWrite ?_ | refine KeepsOut.ite ?_ ?_
        | refine KeepsOpt.getD ?_ ?_ | refine Keeps.upd ?_ rfl rfl rfl ?_ ?_)
      | exact Nat.le_refl _ | exact FusesRise.same rfl rfl rfl | split)

theorem keeps_execNorAccess {s0 s : State} (h : Keeps s0 s) {a0 : NorAccess} : KeepsOut s0 (execNorAccess a0 s) := by
  unfold execNorAccess
  try dsimp only
  repeat' (first
      | (with_reducible first | assumption | refine KeepsOut.next ?_ | refine keeps_norWrite ?_ | refine keeps_norClear ?_)
      | split)

/-! ### Stripe -/

theorem keeps_setReadyQ {s0 s : State} (h : Keeps s0 s) {a1 : Nat} {a2 : List Nat} : Keeps s0 (s.setReadyQ a1 a2) := by
  unfold State.setReadyQ
  try dsimp only
  repeat' (with_reducible first | assumption | refine keeps_setFld ?_ | refine Keeps.updSame ?_ rfl rfl rfl rfl rfl)

theorem keeps_setSaSlot {s0 s : State} (h : Keeps s0 s) {a1 : Nat} {a2 : SaSlot} : Keeps s0 (s.setSaSlot a1 a2) := by
  unfold State.setSaSlot
  try dsimp only
  repeat' (with_reducible first | assumption | refine Keeps.updSame ?_ rfl rfl rfl rfl rfl)

theorem keeps_saQueue {s0 s : State} (h : Keeps s0 s) {a1 : Nat} : Keeps s0 (s.saQueue a1) := by
  unfold State.saQueue
  try dsimp only
  repeat' (first
      | (with_reducible first
        | assumption | refine keeps_setReadyQ ?_ | refine keeps_setSaSlot ?_ | refine keeps_modSaFrame ?_
        | refine keeps_count ?_ | refine Keeps.ite ?_ ?_)
      | split | with_reducible refine Keeps.updSame ?_ rfl rfl rfl rfl rfl)

theorem keeps_saSettle {s0 s : State} (h : Keeps s0 s) : Keeps s0 (s.saSettle) := by
  unfold State.saSettle
  try dsimp only
  repeat' (with_reducible first
      | assumption | refine keeps_saQueue ?_ | refine Keeps.foldl _ ?_ (fun u x hu => ?_)
      | refine Keeps.updSame ?_ rfl rfl rfl rfl rfl)

theorem keeps_stripeFb {s0 s : State} (h : Keeps s0 s) {a1 a2 : Nat} {a3 : Word} : Keeps s0 (s.stripeFb a1 a2 a3) := by
  unfold State.stripeFb
  try dsimp only
  repeat' (first
      | (with_reducible first
        | assumption | refine keeps_modSaFrame ?_ | refine keeps_saSettle ?_ | refine keeps_count ?_ | refine Keeps.ite ?_ ?_)
      | split)

theorem keeps_saRelease {s0 s : State} (h : Keeps s0 s) {a1 : Nat} {a2 : Nat × Nat} : Keeps s0 (s.saRelease a1 a2) := by
  unfold State.saRelease
  try dsimp only
  repeat' (first | (with_reducible first | assumption | refine keeps_sbRelease ?_) | split)

theorem keeps_stripeXrel {s0 s : State} (h : Keeps s0 s) {a1 : Nat} {a2 : Word} : Keeps s0 (s.stripeXrel a1 a2) := by
  unfold State.stripeXrel
  try dsimp only
  repeat' (first | (with_reducible first | assumption | refine keeps_saRelease ?_ | refine Keeps.ite ?_ ?_) | split)

theorem keeps_setStripePort {s0 s : State} (h : Keeps s0 s) {a1 a2 : Nat} {a3 : StripePort} :
    Keeps s0 (s.setStripePort a1 a2 a3) := by
  unfold State.setStripePort
  try dsimp only
  repeat' (with_reducible first | assumption | refine Keeps.updSame ?_ rfl rfl rfl rfl rfl)

theorem keeps_stripeJudge {s0 s : State} (h : Keeps s0 s) {a1 : Nat} {a2 : SaSlot} {a3 : Nat} :
    Keeps s0 (s.stripeJudge a1 a2 a3) := by
  unfold State.stripeJudge
  try dsimp only
  repeat' (first
      | (with_reducible first
        | assumption | refine keeps_count ?_ | refine keeps_countWrap ?_ | refine keeps_modSaFrame ?_
        | refine Keeps.ite ?_ ?_)
      | split)

theorem keeps_saFree {s0 s : State} (h : Keeps s0 s) {a1 : Nat} : Keeps s0 (s.saFree a1) := by
  unfold State.saFree
  try dsimp only
  repeat' (with_reducible first
      | assumption | refine keeps_sbWithdraw ?_ | refine keeps_setReadyQ ?_ | refine Keeps.ite ?_ ?_
      | refine Keeps.updSame ?_ rfl rfl rfl rfl rfl)

theorem keeps_saSweep {s0 s : State} (h : Keeps s0 s) {a1 : Nat} : Keeps s0 (s.saSweep a1) := by
  unfold State.saSweep
  try dsimp only
  repeat' (first
      | (with_reducible first
        | assumption | refine keeps_saFree ?_ | refine Keeps.ite ?_ ?_ | refine Keeps.foldl _ ?_ (fun u x hu => ?_))
      | split)

theorem keeps_stripeDone {s0 s : State} (h : Keeps s0 s) {a1 a2 : Nat} {a3 : Word} : Keeps s0 (s.stripeDone a1 a2 a3) := by
  unfold State.stripeDone
  try dsimp only
  repeat' (first
      | (with_reducible first
        | assumption | refine keeps_setStripePort ?_ | refine keeps_stripeJudge ?_ | refine keeps_setReg ?_
        | refine keeps_saFree ?_ | refine keeps_saRelease ?_ | refine keeps_setSaSlot ?_ | refine keeps_saSettle ?_
        | refine keeps_saSweep ?_ | refine Keeps.ite ?_ ?_ | refine Keeps.foldl _ ?_ (fun u x hu => ?_))
      | split)

theorem keeps_saDisable {s0 s : State} (h : Keeps s0 s) {a1 : Nat} : Keeps s0 (s.saDisable a1) := by
  unfold State.saDisable
  try dsimp only
  repeat' (first
      | (with_reducible first
        | assumption | refine keeps_setFld ?_ | refine keeps_saFree ?_ | refine keeps_setFrame ?_
        | refine keeps_setSaStream ?_ | refine keeps_setPort ?_ | refine Keeps.foldl _ ?_ (fun u x hu => ?_))
      | split)

theorem keeps_saFlush {s0 s : State} (h : Keeps s0 s) {a1 : Nat} : Keeps s0 (s.saFlush a1) := by
  unfold State.saFlush
  try dsimp only
  repeat' (with_reducible first
      | assumption | refine keeps_saSettle ?_ | refine keeps_saFree ?_ | refine Keeps.foldl _ ?_ (fun u x hu => ?_))

theorem keeps_stripePop {s0 s : State} (h : Keeps s0 s) {a1 a2 : Nat} : KeepsOptP s0 (s.stripePop a1 a2) := by
  unfold State.stripePop
  try dsimp only
  repeat' (first
      | (with_reducible first
        | exact KeepsOptP.none _ | refine KeepsOptP.some ?_ | assumption | refine keeps_free ?_ | refine keeps_setSaSlot ?_
        | refine keeps_setReadyQ ?_ | refine keeps_modSaFrame ?_ | refine keeps_setReg ?_ | refine keeps_setStripePort ?_
        | refine keeps_saSettle ?_)
      | dsimp only | split | with_reducible refine Keeps.updSame ?_ rfl rfl rfl rfl rfl)

theorem keeps_saOpen {s0 s : State} (h : Keeps s0 s) {a1 a2 : Nat} {a3 a4 : Nat} {a5 : Bool} :
    Keeps s0 (s.saOpen a1 a2 a3 a4 a5) := by
  unfold State.saOpen
  try dsimp only
  repeat' (with_reducible first | assumption | refine keeps_setSaStream ?_)

theorem keeps_takeRow {s0 s : State} (h : Keeps s0 s) {a1 : BufRow} : Keeps s0 (s.takeRow a1) := by
  unfold State.takeRow
  try dsimp only
  repeat' (with_reducible first | assumption | refine keeps_setPort ?_)

theorem keeps_saWrite {s0 s : State} (h : Keeps s0 s) {a1 a2 : Nat} {a3 : List Byte} : Keeps s0 (s.saWrite a1 a2 a3) := by
  unfold State.saWrite
  try dsimp only
  repeat' (first
      | (with_reducible first
        | assumption | refine keeps_coreWrite ?_ | refine keeps_countBy ?_ | refine Keeps.ofOpt ?_ (by assumption))
      | split | with_reducible refine Keeps.updSame ?_ rfl rfl rfl rfl rfl)

theorem keeps_saBegin {s0 s : State} (h : Keeps s0 s) {a1 : SaFrame} {a2 a3 a4 : Nat} : Keeps s0 (s.saBegin a1 a2 a3 a4) := by
  unfold State.saBegin
  try dsimp only
  repeat' (with_reducible first | assumption | refine keeps_saWrite ?_ | refine Keeps.foldl _ ?_ (fun u x hu => ?_))

theorem keeps_saSlotFor {s0 s : State} (h : Keeps s0 s) {a1 : Nat} {a2 : SaFrame} {a3 : Nat} :
    Keeps s0 (s.saSlotFor a1 a2 a3).1 := by
  unfold State.saSlotFor
  try dsimp only
  repeat' (first
      | (with_reducible first | assumption | refine keeps_saBegin ?_ | refine keeps_setSaSlot ?_ | refine keeps_sbRegister ?_)
      | split)

theorem keeps_saPut {s0 s : State} (h : Keeps s0 s) {a1 : Nat} {a2 : SaFrame} {a3 : Nat} {a4 : List Nat} {a5 : Nat} :
    Keeps s0 (s.saPut a1 a2 a3 a4 a5) := by
  unfold State.saPut
  try dsimp only
  repeat' (first
      | (with_reducible first
        | assumption | refine keeps_saWrite ?_ | refine keeps_setSaSlot ?_ | refine Keeps.foldl _ ?_ (fun u x hu => ?_))
      | split)

theorem keeps_moveRow {s0 s : State} (h : Keeps s0 s) {l : List BufRow} : Keeps s0 (s.moveRow l) := by
  induction l generalizing s with
  | nil => exact h
  | cons r l ih =>
    unfold State.moveRow
    split
    · exact keeps_takeRow h
    · rename_i f hf
      split
      · exact keeps_takeRow h
      · extract_lets js
        split
        have h1 := Keeps.ofFst (Keeps.foldlFst (f := fun (t : State × Bool) j => let u := t.1.saSlotFor r.stream f j; (u.1, t.2 && u.2)) js
          (p := (s, true)) h (fun t x hu => keeps_saSlotFor hu)) (by assumption)
        extract_lets x s2 s3 s4
        split
        · have h2 : Keeps s0 s2 := keeps_countBy h1
          have h3 : Keeps s0 s3 := keeps_takeRow (keeps_setSaStream h2)
          have h4 : Keeps s0 s4 := Keeps.foldl js h3 (fun u x hu => keeps_saPut hu)
          exact h4.trans ⟨rfl, id, Nat.le_refl _, FusesRise.same rfl rfl rfl⟩
        · exact ih (keeps_setSaStream h1)

theorem keeps_execSaRowWrite {s0 s : State} (h : Keeps s0 s) : KeepsOut s0 (execSaRowWrite s) := by
  unfold execSaRowWrite
  try dsimp only
  repeat' (with_reducible first | assumption | refine KeepsOut.next ?_ | refine keeps_moveRow ?_)

theorem keeps_execSlotReady {s0 s : State} (h : Keeps s0 s) {a0 : Fin 48} {a1 : Fin 8} {a2 : Fin 4} :
    KeepsOut s0 (execSlotReady a0 a1 a2 s) := by
  unfold execSlotReady
  try dsimp only
  repeat' (first
      | (with_reducible first
        | assumption | refine KeepsOut.next ?_ | refine keeps_setSaSlot ?_ | refine keeps_saRelease ?_
        | refine keeps_saQueue ?_ | refine KeepsOut.ite ?_ ?_)
      | split)

theorem keeps_execStripePop {s0 s : State} (h : Keeps s0 s) {a0 : Fin 8} {a1 : Fin 4} :
    KeepsOut s0 (execStripePop a0 a1 s) := by
  unfold execStripePop
  try dsimp only
  repeat' (first
      | (with_reducible first
        | assumption | refine KeepsOut.next ?_ | refine keeps_stripePop ?_ | refine Keeps.ofOptP ?_ (by assumption))
      | split | with_reducible refine Keeps.updSame ?_ rfl rfl rfl rfl rfl)

theorem keeps_execStripeFb {s0 s : State} (h : Keeps s0 s) {a0 : Fin 8} {a1 : Fin 4} {a2 : Word} :
    KeepsOut s0 (execStripeFb a0 a1 a2 s) := by
  unfold execStripeFb
  try dsimp only
  repeat' (with_reducible first | assumption | refine KeepsOut.next ?_ | refine keeps_stripeFb ?_)

theorem keeps_execStripeXrel {s0 s : State} (h : Keeps s0 s) {a0 : Fin 8} {a1 : Word} :
    KeepsOut s0 (execStripeXrel a0 a1 s) := by
  unfold execStripeXrel
  try dsimp only
  repeat' (with_reducible first | assumption | refine KeepsOut.next ?_ | refine keeps_stripeXrel ?_)

theorem keeps_execStripeDone {s0 s : State} (h : Keeps s0 s) {a0 : Fin 8} {a1 : Fin 4} {a2 : Word} :
    KeepsOut s0 (execStripeDone a0 a1 a2 s) := by
  unfold execStripeDone
  try dsimp only
  repeat' (with_reducible first | assumption | refine KeepsOut.next ?_ | refine keeps_stripeDone ?_)

theorem keeps_execStripeDres {s0 s : State} (h : Keeps s0 s) {a0 : Fin 8} {a1 : Fin 4} :
    KeepsOut s0 (execStripeDres a0 a1 s) := by
  unfold execStripeDres
  try dsimp only
  repeat' (with_reducible first | assumption | refine KeepsOut.next ?_ | refine Keeps.updSame ?_ rfl rfl rfl rfl rfl)

theorem keeps_execStripeDrop {s0 s : State} (h : Keeps s0 s) {a0 : Fin 48} : KeepsOut s0 (execStripeDrop a0 s) := by
  unfold execStripeDrop
  try dsimp only
  repeat' (first
      | (with_reducible first
        | assumption | refine KeepsOut.next ?_ | refine keeps_stripeJudge ?_ | refine keeps_count ?_
        | refine keeps_saSettle ?_ | refine keeps_saSweep ?_ | refine keeps_saFree ?_ | refine Keeps.ite ?_ ?_)
      | split)

theorem keeps_execSaStreamDisable {s0 s : State} (h : Keeps s0 s) {a0 : Fin 48} : KeepsOut s0 (execSaStreamDisable a0 s) := by
  unfold execSaStreamDisable
  try dsimp only
  repeat' (with_reducible first | assumption | refine KeepsOut.next ?_ | refine keeps_saDisable ?_)

theorem keeps_execSaStreamFlush {s0 s : State} (h : Keeps s0 s) {a0 : Fin 48} : KeepsOut s0 (execSaStreamFlush a0 s) := by
  unfold execSaStreamFlush
  try dsimp only
  repeat' (with_reducible first | assumption | refine KeepsOut.next ?_ | refine keeps_saFlush ?_)

theorem keeps_execStripeCountPoll {s0 s : State} (h : Keeps s0 s) {a0 : Fin 48} : KeepsOut s0 (execStripeCountPoll a0 s) := by
  unfold execStripeCountPoll
  try dsimp only
  repeat' (with_reducible first
      | assumption | refine KeepsOut.next ?_ | refine keeps_setReg ?_ | refine keeps_postEvent ?_ | refine KeepsOut.ite ?_ ?_)

end Sys2Proof.Machine
end

