-- ==== Sys2Proof/Laws/KeepsBus.lean ====
section
/-!
SUPPORT. What every operation and every command keeps (Keeps.lean): register access, Wings, rehearsal and cue actions.
-/
namespace Sys2Proof.Machine

/-! ### Bus -/

theorem keeps_cueAction {s0 s : State} (h : Keeps s0 s) {a1 : QueueId} {a2 : Nat} {a3 a4 a5 : Word} :
    Keeps s0 (s.cueAction a1 a2 a3 a4 a5) := by
  unfold State.cueAction
  try dsimp only
  repeat' (with_reducible first | assumption | refine keeps_setCq ?_ | refine keeps_pushCue ?_ | refine Keeps.ite ?_ ?_)

theorem keeps_writeVpp {s0 s : State} (h : Keeps s0 s) {a1 : Agent} {a2 : Spot} {a3 a4 : Word} :
    Keeps s0 (s.writeVpp a1 a2 a3 a4) := by
  unfold State.writeVpp
  try dsimp only
  repeat' (with_reducible first | assumption | refine keeps_setR ?_ | refine keeps_setCore ?_ | refine Keeps.ite ?_ ?_)

theorem keeps_writeSkips {s0 s : State} (h : Keeps s0 s) {a1 a2 : Nat} {a3 : Word} : Keeps s0 (s.writeSkips a1 a2 a3) := by
  unfold State.writeSkips
  try dsimp only
  repeat' (with_reducible first
      | assumption | refine keeps_setSkipRows ?_ | refine keeps_setSkipCols ?_ | refine Keeps.ite ?_ ?_)

theorem keeps_hqpCmd {s0 s : State} (h : Keeps s0 s) {a1 : Agent} {a2 : Word} : Keeps s0 (s.hqpCmd a1 a2) := by
  unfold State.hqpCmd
  try dsimp only
  repeat' (first
      | (with_reducible first
        | assumption | refine keeps_noteHq ?_ | refine keeps_hqAlloc ?_ | refine keeps_hqPush ?_ | refine keeps_hqPop ?_
        | refine keeps_hqFree ?_ | refine keeps_hqFill ?_)
      | split)

theorem keeps_writeChCtl {s0 s : State} (h : Keeps s0 s) {a1 a2 : Nat} {a3 a4 : Word} :
    Keeps s0 (s.writeChCtl a1 a2 a3 a4) := by
  unfold State.writeChCtl
  try dsimp only
  repeat' (with_reducible first
      | assumption | refine keeps_setFld ?_ | refine keeps_dmaLaunch ?_ | refine keeps_dmaAbort ?_ | refine keeps_dmaResume ?_
      | refine Keeps.ite ?_ ?_)

theorem keeps_mapWings {s0 s : State} (h : Keeps s0 s) {a1 : WingsSet → WingsSet} : Keeps s0 (s.mapWings a1) := by
  unfold State.mapWings
  try dsimp only
  repeat' (with_reducible first | assumption | refine Keeps.updSame ?_ rfl rfl rfl rfl rfl)

theorem keeps_unsealMembers {s0 s : State} (h : Keeps s0 s) {a1 a2 : Nat} : Keeps s0 (s.unsealMembers a1 a2) := by
  unfold State.unsealMembers
  try dsimp only
  repeat' (with_reducible first | assumption | refine keeps_mapWings ?_)

theorem keeps_dmaAction {s0 s : State} (h : Keeps s0 s) {a1 a2 : Nat} {a3 a4 : Word} :
    KeepsOpt s0 (s.dmaAction a1 a2 a3 a4) := by
  unfold State.dmaAction
  try dsimp only
  repeat' (with_reducible first
      | assumption | exact KeepsOpt.none _ | refine KeepsOpt.some ?_ | refine keeps_writeChCtl ?_ | refine keeps_setFld ?_
      | refine keeps_unsealMembers ?_ | refine keeps_dmaSeal ?_ | refine keeps_dmaBoundary ?_ | refine Keeps.ite ?_ ?_
      | refine KeepsOpt.ite ?_ ?_)

theorem keeps_coreAction {s0 s : State} (h : Keeps s0 s) {a1 : Agent} {a2 : Spot} {a3 a4 a5 : Word} :
    Keeps s0 (s.coreAction a1 a2 a3 a4 a5) := by
  unfold State.coreAction
  try dsimp only
  repeat' (with_reducible first
      | assumption | refine keeps_vppHalt ?_ | refine keeps_vppStart ?_ | refine keeps_setVppPc ?_ | refine keeps_writeVpp ?_
      | refine keeps_setReg ?_ | refine keeps_invGo ?_ | refine keeps_setBankOn ?_ | refine keeps_frondPush ?_
      | refine keeps_frondResume ?_ | refine keeps_frondFlush ?_ | refine keeps_writeSkips ?_ | refine keeps_post ?_
      | refine keeps_mbxPop ?_ | refine keeps_hqpCmd ?_ | refine keeps_barArrive ?_ | refine keeps_stripeFb ?_
      | refine keeps_stripeXrel ?_ | refine keeps_stripeDone ?_ | refine keeps_dmaAction ?_ | refine Keeps.ite ?_ ?_
      | refine KeepsOpt.getD ?_ ?_)

theorem keeps_hubAction {s0 s : State} (h : Keeps s0 s) {a1 : Nat} {a2 a3 a4 : Word} {a5 : Bool} :
    Keeps s0 (s.hubAction a1 a2 a3 a4 a5) := by
  unfold State.hubAction
  try dsimp only
  repeat' (with_reducible first
      | assumption | refine keeps_setFld ?_ | refine keeps_tvaInv ?_ | refine keeps_fqPop ?_ | refine keeps_post ?_
      | refine keeps_mbxPop ?_ | refine keeps_dmaAction ?_ | refine Keeps.ite ?_ ?_ | refine KeepsOpt.getD ?_ ?_)

theorem keeps_barrierAction {s0 s : State} (h : Keeps s0 s) {a1 : Nat} {a2 a3 : Word} :
    Keeps s0 (s.barrierAction a1 a2 a3) := by
  unfold State.barrierAction
  try dsimp only
  repeat' (with_reducible first | assumption | refine keeps_poolReset ?_ | refine keeps_barReset ?_ | refine Keeps.ite ?_ ?_)

theorem keeps_intakeAction {s0 s : State} (h : Keeps s0 s) {a1 : Nat} {a2 a3 : Word} {a4 a5 : Word} :
    Keeps s0 (s.intakeAction a1 a2 a3 a4 a5) := by
  unfold State.intakeAction
  try dsimp only
  repeat' (with_reducible first
      | assumption | refine keeps_setStream ?_ | refine keeps_setReg ?_ | refine keeps_writeWatchCfg ?_
      | refine keeps_i2cGo ?_ | refine Keeps.ite ?_ ?_ | refine Keeps.updSame ?_ rfl rfl rfl rfl rfl)

theorem keeps_assemblerAction {s0 s : State} (h : Keeps s0 s) {a1 : Nat} {a2 a3 : Word} {a4 a5 : Word} :
    Keeps s0 (s.assemblerAction a1 a2 a3 a4 a5) := by
  unfold State.assemblerAction
  try dsimp only
  repeat' (with_reducible first | assumption | refine keeps_saDisable ?_ | refine keeps_saFlush ?_ | refine Keeps.ite ?_ ?_)

theorem keeps_clampWindow {s0 s : State} (h : Keeps s0 s) {a1 : Nat} : Keeps s0 (s.clampWindow a1) := by
  unfold State.clampWindow
  try dsimp only
  repeat' (with_reducible first | assumption | refine keeps_setFld ?_ | refine Keeps.ite ?_ ?_)

theorem keeps_linksAction {s0 s : State} (h : Keeps s0 s) {a1 : Nat} {a2 a3 : Word} {a4 a5 : Word} :
    Keeps s0 (s.linksAction a1 a2 a3 a4 a5) := by
  unfold State.linksAction
  try dsimp only
  repeat' (with_reducible first
      | assumption | refine keeps_linkReset ?_ | refine keeps_linkDown ?_ | refine keeps_setLinkSt ?_
      | refine keeps_clampWindow ?_ | refine Keeps.ite ?_ ?_)

theorem keeps_unitAction {s0 s : State} (h : Keeps s0 s) {a1 : Nat} {a2 a3 a4 : Word} :
    Keeps s0 (s.unitAction a1 a2 a3 a4) := by
  unfold State.unitAction
  try dsimp only
  repeat' (with_reducible first
      | assumption | refine keeps_audit ?_ | refine keeps_settle ?_ | refine keeps_rbAdvance ?_ | refine keeps_lockBoot ?_
      | refine keeps_emuRequest ?_ | refine keeps_sigGo ?_ | refine keeps_rehGo ?_ | refine keeps_lichenAsk ?_
      | refine keeps_setWayCfg ?_ | refine keeps_invGo ?_ | refine Keeps.ite ?_ ?_
      | refine Keeps.updSame ?_ rfl rfl rfl rfl rfl)

theorem keeps_regStore {s0 s : State} (h : Keeps s0 s) {a1 : Agent} {a2 : Spot} {a3 : RegRow} {a4 a5 : Word} :
    Keeps s0 (s.regStore a1 a2 a3 a4 a5) := by
  unfold State.regStore
  try dsimp only
  repeat' (first
      | (with_reducible first
        | assumption | refine keeps_setReg ?_ | refine keeps_cueAction ?_ | refine keeps_coreAction ?_
        | refine keeps_hubAction ?_ | refine keeps_barrierAction ?_ | refine keeps_intakeAction ?_
        | refine keeps_assemblerAction ?_ | refine keeps_linksAction ?_ | refine keeps_clearAlerts ?_
        | refine keeps_unitAction ?_ | refine Keeps.ite ?_ ?_)
      | split)

theorem keeps_noteOverride {s0 s : State} (h : Keeps s0 s) {a1 : Nat} : Keeps s0 (s.noteOverride a1) := by
  unfold State.noteOverride
  try dsimp only
  repeat' (with_reducible first | assumption | refine keeps_mapWings ?_)

theorem keeps_regWrite {s0 s : State} (h : Keeps s0 s) {a1 : Agent} {a2 : Nat} {a3 a4 : Word} :
    Keeps s0 (s.regWrite a1 a2 a3 a4).2 := by
  unfold State.regWrite
  try dsimp only
  repeat' (first
      | (with_reducible first
        | assumption | refine keeps_setNum ?_ | refine keeps_regStore ?_ | refine keeps_noteOverride ?_
        | refine Keeps.ite ?_ ?_)
      | split)

theorem keeps_latchHi {s0 s : State} (h : Keeps s0 s) {a1 : Nat} : Keeps s0 (s.latchHi a1) := by
  unfold State.latchHi
  try dsimp only
  repeat' (with_reducible first | assumption | refine keeps_setReg ?_ | refine Keeps.ite ?_ ?_)

theorem keeps_clearRc {s0 s : State} (h : Keeps s0 s) {a1 : Agent} {a2 : Nat} {a3 a4 : Word} {a5 : RegRow} :
    Keeps s0 (s.clearRc a1 a2 a3 a4 a5) := by
  unfold State.clearRc
  try dsimp only
  repeat' (with_reducible first
      | assumption | refine keeps_setReg ?_ | refine Keeps.ite ?_ ?_ | refine Keeps.foldl _ ?_ (fun u x hu => ?_)
      | refine Keeps.updSame ?_ rfl rfl rfl rfl rfl)

theorem keeps_regRead {s0 s : State} (h : Keeps s0 s) {a1 : Agent} {a2 : Nat} {a3 : Word} :
    Keeps s0 (s.regRead a1 a2 a3).2 := by
  unfold State.regRead
  try dsimp only
  repeat' (first
      | (with_reducible first
        | assumption | refine keeps_stripePop ?_ | refine keeps_latchHi ?_ | refine keeps_clearRc ?_
        | refine Keeps.ofOptP ?_ (by assumption))
      | split)

theorem keeps_noteBus {s0 s : State} (h : Keeps s0 s) {x : Answer × State} {d : Option HeldAccess} (hx : Keeps s0 x.2) :
    Keeps s0 (s.noteBus x d) := by
  unfold State.noteBus
  split
  · exact hx.trans ⟨rfl, id, Nat.le_refl _, FusesRise.same rfl rfl rfl⟩
  · exact hx.trans ⟨rfl, id, Nat.le_refl _, FusesRise.same rfl rfl rfl⟩
  · split
    · split
      · exact h.trans ⟨rfl, id, Nat.le_refl _, FusesRise.same rfl rfl rfl⟩
      · exact h
    · exact h

theorem keeps_execRegisterWrite {s0 s : State} (h : Keeps s0 s) {a0 : Agent} {a1 : BitVec 40} {a2 : Word} :
    KeepsOut s0 (execRegisterWrite a0 a1 a2 s) := by
  unfold execRegisterWrite
  try dsimp only
  repeat' (with_reducible first
      | assumption | refine KeepsOut.next ?_ | refine keeps_noteBus ?_ ?_ | refine keeps_regWrite ?_)

theorem keeps_execRcCounterRead {s0 s : State} (h : Keeps s0 s) {a0 : Agent} {a1 : BitVec 40} :
    KeepsOut s0 (execRcCounterRead a0 a1 s) := by
  unfold execRcCounterRead
  try dsimp only
  repeat' (with_reducible first | assumption | refine KeepsOut.next ?_ | refine keeps_noteBus ?_ ?_ | refine keeps_regRead ?_)

theorem keeps_execLoLatchRead {s0 s : State} (h : Keeps s0 s) {a0 : Agent} {a1 : BitVec 40} :
    KeepsOut s0 (execLoLatchRead a0 a1 s) := by
  unfold execLoLatchRead
  try dsimp only
  repeat' (with_reducible first | assumption | refine KeepsOut.next ?_ | refine keeps_noteBus ?_ ?_ | refine keeps_regRead ?_)

/-! ### Wings -/

theorem keeps_unsealSet {s0 s : State} (h : Keeps s0 s) {a1 : Nat} : Keeps s0 (s.unsealSet a1) := by
  unfold State.unsealSet
  try dsimp only
  repeat' (with_reducible first
      | assumption | refine keeps_setFld ?_ | refine keeps_setWset ?_ | refine Keeps.foldl _ ?_ (fun u x hu => ?_)
      | refine Keeps.updSame ?_ rfl rfl rfl rfl rfl)

theorem keeps_failSet {s0 s : State} (h : Keeps s0 s) {a1 a2 : Nat} : Keeps s0 (s.failSet a1 a2) := by
  unfold State.failSet
  try dsimp only
  repeat' (with_reducible first
      | assumption | refine keeps_unsealSet ?_ | refine keeps_postEvent ?_ | refine keeps_setWset ?_)

theorem keeps_recheckLater {s0 s : State} (h : Keeps s0 s) {a1 : Nat} : Keeps s0 (s.recheckLater a1) := by
  unfold State.recheckLater
  try dsimp only
  repeat' (with_reducible first
      | assumption | refine keeps_failSet ?_ | refine Keeps.ite ?_ ?_ | refine Keeps.foldl _ ?_ (fun u x hu => ?_))

theorem keeps_setParent {s0 s : State} (h : Keeps s0 s) {a1 : Nat} : Keeps s0 (s.setParent a1) := by
  unfold State.setParent
  try dsimp only
  repeat' (first
      | (with_reducible first
        | assumption | refine keeps_free ?_ | refine keeps_setFld ?_ | refine Keeps.ite ?_ ?_
        | refine Keeps.upd ?_ rfl rfl rfl ?_ ?_)
      | exact Nat.le_refl _ | exact FusesRise.same rfl rfl rfl)

theorem keeps_applyMember {s0 s : State} (h : Keeps s0 s) {a1 : WMember} : Keeps s0 (s.applyMember a1) := by
  unfold State.applyMember
  try dsimp only
  repeat' (first
      | (with_reducible first
        | assumption | refine keeps_setParent ?_ | refine keeps_setReg ?_ | refine keeps_regStore ?_ | refine Keeps.ite ?_ ?_)
      | split)

theorem keeps_applyMembers {s0 s : State} (h : Keeps s0 s) {a1 : WingsSet} : Keeps s0 (s.applyMembers a1) := by
  unfold State.applyMembers
  try dsimp only
  repeat' (with_reducible first
      | assumption | refine keeps_applyMember ?_ | refine keeps_dmaHandover ?_ | refine Keeps.foldl _ ?_ (fun u x hu => ?_))

theorem keeps_strobe {s0 s : State} (h : Keeps s0 s) {a1 : Nat} : Keeps s0 (s.strobe a1) := by
  unfold State.strobe
  try dsimp only
  repeat' (first
      | (with_reducible first
        | assumption | refine keeps_setWset ?_ | refine keeps_recheckLater ?_ | refine keeps_failSet ?_
        | refine keeps_applyMembers ?_)
      | split)

theorem keeps_sealSet {s0 s : State} (h : Keeps s0 s) {a1 : Nat} : Keeps s0 (s.sealSet a1) := by
  unfold State.sealSet
  try dsimp only
  repeat' (first
      | (with_reducible first
        | assumption | refine keeps_setFld ?_ | refine keeps_setReg ?_ | refine keeps_setWset ?_
        | refine Keeps.foldl _ ?_ (fun u x hu => ?_))
      | split)

theorem keeps_reportSet {s0 s : State} (h : Keeps s0 s) {a1 : Nat} {a2 : Bool} : Keeps s0 (s.reportSet a1 a2) := by
  unfold State.reportSet
  try dsimp only
  repeat' (with_reducible first | assumption | refine keeps_sendMsg ?_ | refine KeepsOpt.getD ?_ ?_)

theorem keeps_armSet {s0 s : State} (h : Keeps s0 s) {a1 a2 : Nat} {a3 : Option Nat} : Keeps s0 (s.armSet a1 a2 a3).1 := by
  unfold State.armSet
  try dsimp only
  repeat' (first
      | (with_reducible first
        | assumption | refine keeps_setWset ?_ | refine keeps_sealSet ?_ | refine keeps_reportSet ?_
        | refine keeps_recheckLater ?_ | refine Keeps.ite ?_ ?_)
      | split)

theorem keeps_wingsSleep {s0 s : State} (h : Keeps s0 s) : Keeps s0 (s.wingsSleep) := by
  unfold State.wingsSleep
  try dsimp only
  repeat' (with_reducible first
      | assumption | refine keeps_postEvent ?_ | refine keeps_unsealSet ?_ | refine Keeps.foldl _ ?_ (fun u x hu => ?_)
      | refine Keeps.updSame ?_ rfl rfl rfl rfl rfl)

theorem keeps_projMember {s0 s : State} (h : Keeps s0 s) {a1 : WMember} : Keeps s0 (s.projMember a1) := by
  unfold State.projMember
  try dsimp only
  repeat' (first | (with_reducible first | assumption | refine keeps_setReg ?_) | split)

theorem keeps_projSet {s0 s : State} (h : Keeps s0 s) {a1 : WingsSet} : Keeps s0 (s.projSet a1) := by
  unfold State.projSet
  try dsimp only
  repeat' (with_reducible first
      | assumption | refine keeps_projMember ?_ | refine keeps_dmaHandover ?_ | refine Keeps.foldl _ ?_ (fun u x hu => ?_))

theorem keeps_projected {s0 s : State} (h : Keeps s0 s) {a1 : Nat} {a2 : Option Nat} : Keeps s0 (s.projected a1 a2) := by
  unfold State.projected
  try dsimp only
  repeat' (with_reducible first | assumption | refine keeps_projSet ?_ | refine Keeps.foldl _ ?_ (fun u x hu => ?_))

theorem keeps_stageAll {s0 s : State} (h : Keeps s0 s) {a1 : Nat} {a2 : List WMember} : KeepsStg s0 (s.stageAll a1 a2) := by
  unfold State.stageAll
  try dsimp only
  repeat' (with_reducible first
      | refine KeepsStg.ok ?_ | exact KeepsStg.wrongState | exact KeepsStg.notPermitted | exact KeepsStg.tooMany | assumption
      | refine keeps_setWset ?_ | refine KeepsStg.ite ?_ ?_)

theorem keeps_releaseSet {s0 s : State} (h : Keeps s0 s) {a1 : Nat} : Keeps s0 (s.releaseSet a1) := by
  unfold State.releaseSet
  try dsimp only
  repeat' (with_reducible first
      | assumption | refine keeps_recheckLater ?_ | refine keeps_setWset ?_ | refine keeps_unsealSet ?_
      | refine Keeps.ite ?_ ?_)

theorem keeps_takeReport {s0 s : State} (h : Keeps s0 s) {a1 : LinkMsg} : Keeps s0 (s.takeReport a1) := by
  unfold State.takeReport
  try dsimp only
  repeat' (with_reducible first
      | assumption | refine keeps_sendMsg ?_ | refine keeps_postEvent ?_ | refine Keeps.ite ?_ ?_
      | refine Keeps.foldl _ ?_ (fun u x hu => ?_) | refine KeepsOpt.getD ?_ ?_ | refine Keeps.updSame ?_ rfl rfl rfl rfl rfl)

theorem keeps_execWingsApply {s0 s : State} (h : Keeps s0 s) {a0 : Fin 64} : KeepsOut s0 (execWingsApply a0 s) := by
  unfold execWingsApply
  try dsimp only
  repeat' (first
      | (with_reducible first
        | assumption | refine KeepsOut.next ?_ | refine KeepsOpt.some ?_ | refine keeps_strobe ?_
        | refine keeps_fire ?_ (fun e u hu => ?_) | refine Keeps.ite ?_ ?_)
      | split)

theorem keeps_execWingsCommitDeadline {s0 s : State} (h : Keeps s0 s) {a0 : Fin 64} :
    KeepsOut s0 (execWingsCommitDeadline a0 s) := by
  unfold execWingsCommitDeadline
  try dsimp only
  repeat' (with_reducible first
      | assumption | refine KeepsOut.next ?_ | refine keeps_recheckLater ?_ | refine keeps_failSet ?_
      | refine KeepsOut.ite ?_ ?_)

theorem keeps_execWingsRpt {s0 s : State} (h : Keeps s0 s) {a0 : Fin 7} : KeepsOut s0 (execWingsRpt a0 s) := by
  unfold execWingsRpt
  try dsimp only
  repeat' (first
      | (with_reducible first
        | assumption | refine KeepsOut.next ?_ | refine keeps_freeRx ?_ | refine keeps_takeReport ?_ | refine Keeps.ite ?_ ?_)
      | split)

theorem keeps_execWingsCommit {s0 s : State} (h : Keeps s0 s) {a0 : Fin 7} : KeepsOut s0 (execWingsCommit a0 s) := by
  unfold execWingsCommit
  try dsimp only
  repeat' (first
      | (with_reducible first | assumption | refine KeepsOut.next ?_ | refine keeps_freeRx ?_ | refine keeps_mapWings ?_)
      | split)

/-! ### FrameStart -/

theorem keeps_applyBound {s0 s : State} (h : Keeps s0 s) {a1 : Nat} : Keeps s0 (s.applyBound a1).1 := by
  unfold State.applyBound
  try dsimp only
  repeat' (first
      | (with_reducible first
        | assumption | refine keeps_strobe ?_ | refine keeps_setStream ?_ | refine Keeps.foldlFst _ ?_ (fun r x hu => ?_))
      | split)

theorem keeps_listAtStart {s0 s : State} (h : Keeps s0 s) {a1 a2 : Nat} : Keeps s0 (s.listAtStart a1 a2) := by
  unfold State.listAtStart
  try dsimp only
  repeat' (first | (with_reducible first | assumption | refine keeps_markSet ?_ | refine Keeps.ite ?_ ?_) | split)

theorem keeps_frameStart {s0 s : State} (h : Keeps s0 s) {a1 a2 : Nat} : Keeps s0 (s.frameStart a1 a2) := by
  unfold State.frameStart
  try dsimp only
  repeat' (first
      | (with_reducible first
        | assumption | refine keeps_closeFrame ?_ | refine keeps_applyBound ?_ | refine keeps_setTime ?_
        | refine keeps_setReg ?_ | refine keeps_setStream ?_ | refine keeps_listAtStart ?_ | refine keeps_saOpen ?_
        | refine Keeps.ite ?_ ?_)
      | split)

theorem keeps_execFrameStart {s0 s : State} (h : Keeps s0 s) {a0 : Fin 12} {a1 : Fin 16} {a2 : Half} {a3 : Bool} :
    KeepsOut s0 (execFrameStart a0 a1 a2 a3 s) := by
  unfold execFrameStart
  try dsimp only
  repeat' (first
      | (with_reducible first
        | assumption | refine KeepsOut.next ?_ | refine keeps_noteHeader ?_ | refine keeps_unmatched ?_
        | refine keeps_frameStart ?_ | refine Keeps.foldl _ ?_ (fun u x hu => ?_))
      | split)

/-! ### Rehearsal -/

theorem keeps_analogueFail {s0 s : State} (h : Keeps s0 s) {a1 a2 : Nat} {a3 a4 : Nat} :
    Keeps s0 (s.analogueFail a1 a2 a3 a4) := by
  unfold State.analogueFail
  try dsimp only
  repeat' (with_reducible first | assumption | refine keeps_lichenFw ?_)

theorem keeps_clearCore {s0 s : State} (h : Keeps s0 s) {a1 : Nat} : Keeps s0 (s.clearCore a1) :=
  h.trans ⟨rfl, fun c => ⟨Cells.wf_filter _ _ _ c.1, Cells.wf_filter _ _ _ c.2⟩, Nat.le_refl _, FusesRise.same rfl rfl rfl⟩

theorem keeps_crossCheck {s0 s : State} (h : Keeps s0 s) {a1 a2 : Nat} : Keeps s0 (s.crossCheck a1 a2) := by
  unfold State.crossCheck
  try dsimp only
  repeat' (first
      | (with_reducible first | assumption | refine keeps_analogueFail ?_ | refine Keeps.ite ?_ ?_)
      | split | with_reducible refine Keeps.updSame ?_ rfl rfl rfl rfl rfl)

theorem keeps_sliceUnfence {s0 s : State} (h : Keeps s0 s) {a1 : Nat} : Keeps s0 (s.sliceUnfence a1) := by
  unfold State.sliceUnfence
  try dsimp only
  repeat' (with_reducible first | assumption | refine keeps_setCache ?_ | refine Keeps.ite ?_ ?_)

theorem keeps_sliceReinit {s0 s : State} (h : Keeps s0 s) {a1 : Nat} : Keeps s0 (s.sliceReinit a1) := by
  unfold State.sliceReinit
  try dsimp only
  repeat' (with_reducible first | assumption | refine keeps_clearCore ?_ | refine Keeps.ite ?_ ?_)

theorem keeps_sliceAbort {s0 s : State} (h : Keeps s0 s) : Keeps s0 (s.sliceAbort) := by
  unfold State.sliceAbort
  try dsimp only
  repeat' (first
      | (with_reducible first
        | assumption | refine keeps_setFld ?_ | refine keeps_sliceUnfence ?_ | refine keeps_sliceReinit ?_)
      | split | with_reducible refine Keeps.updSame ?_ rfl rfl rfl rfl rfl)

theorem keeps_mapWrite {s0 s : State} (h : Keeps s0 s) {a1 : RepairEntry} {a2 : Nat} : Keeps s0 (s.mapWrite a1 a2) := by
  unfold State.mapWrite
  try dsimp only
  repeat' (with_reducible first
      | assumption | refine keeps_setBytes ?_ | refine Keeps.ite ?_ ?_ | refine Keeps.updSame ?_ rfl rfl rfl rfl rfl)

theorem keeps_loadCode {s0 s : State} (h : Keeps s0 s) {a1 : Nat} {a2 : Script} : Keeps s0 (s.loadCode a1 a2) := by
  unfold State.loadCode
  try dsimp only
  repeat' (with_reducible first
      | assumption | refine keeps_setBytes ?_ | refine keeps_setFld ?_ | refine Keeps.foldl _ ?_ (fun u x hu => ?_))

theorem keeps_migrate {s0 s : State} (h : Keeps s0 s) {a1 a2 : Nat} : Keeps s0 (s.migrate a1 a2) := by
  unfold State.migrate
  try dsimp only
  repeat' (first
      | (with_reducible first
        | assumption | refine keeps_clearCore ?_ | refine keeps_setByte ?_ | refine keeps_setReg ?_ | refine Keeps.ite ?_ ?_
        | refine Keeps.foldl _ ?_ (fun u x hu => ?_))
      | split | with_reducible refine Keeps.updSame ?_ rfl rfl rfl rfl rfl)

theorem keeps_swapStart {s0 s : State} (h : Keeps s0 s) {a1 : Nat} : Keeps s0 (s.swapStart a1) := by
  unfold State.swapStart
  try dsimp only
  repeat' (with_reducible first | assumption | refine Keeps.updSame ?_ rfl rfl rfl rfl rfl)

theorem keeps_retire {s0 s : State} (h : Keeps s0 s) {a1 : Nat} : Keeps s0 (s.retire a1) := by
  unfold State.retire
  try dsimp only
  repeat' (with_reducible first
      | assumption | refine keeps_mapWrite ?_ | refine keeps_setFld ?_ | refine keeps_lichenFw ?_ | refine Keeps.ite ?_ ?_)

theorem keeps_repairFrond {s0 s : State} (h : Keeps s0 s) {a1 : Nat} {a2 : Defect} : Keeps s0 (s.repairFrond a1 a2) := by
  unfold State.repairFrond
  try dsimp only
  repeat' (first
      | (with_reducible first
        | assumption | refine keeps_retire ?_ | refine keeps_setSkipRows ?_ | refine keeps_setSkipCols ?_
        | refine keeps_lichenFw ?_ | refine keeps_mapWrite ?_ | refine Keeps.ite ?_ ?_)
      | split)

theorem keeps_repairRow {s0 s : State} (h : Keeps s0 s) {a1 : Nat} {a2 : Defect} : Keeps s0 (s.repairRow a1 a2) := by
  unfold State.repairRow
  try dsimp only
  repeat' (first
      | (with_reducible first
        | assumption | refine keeps_retire ?_ | refine keeps_lichenFw ?_ | refine keeps_mapWrite ?_ | refine keeps_setReg ?_
        | refine Keeps.ite ?_ ?_)
      | split)

theorem keeps_repairWay {s0 s : State} (h : Keeps s0 s) {a1 a2 : Nat} {a3 : Defect} : Keeps s0 (s.repairWay a1 a2 a3) := by
  unfold State.repairWay
  try dsimp only
  repeat' (first
      | (with_reducible first
        | assumption | refine keeps_lichenFw ?_ | refine keeps_mapWrite ?_ | refine keeps_setReg ?_ | refine Keeps.ite ?_ ?_)
      | split | with_reducible refine Keeps.updSame ?_ rfl rfl rfl rfl rfl)

theorem keeps_repairBlock {s0 s : State} (h : Keeps s0 s) {a1 : Nat} {a2 : List Defect} : Keeps s0 (s.repairBlock a1 a2) := by
  unfold State.repairBlock
  try dsimp only
  repeat' (with_reducible first
      | assumption | refine keeps_retire ?_ | refine keeps_repairFrond ?_ | refine keeps_repairRow ?_
      | refine keeps_repairWay ?_ | refine Keeps.ite ?_ ?_ | refine Keeps.foldl _ ?_ (fun u x hu => ?_))

theorem keeps_rotationEnd {s0 s : State} (h : Keeps s0 s) : Keeps s0 (s.rotationEnd) := by
  unfold State.rotationEnd
  try dsimp only
  repeat' (with_reducible first
      | assumption | refine keeps_lichenFw ?_ | refine keeps_countWrap ?_ | refine Keeps.foldl _ ?_ (fun u x hu => ?_)
      | refine Keeps.updSame ?_ rfl rfl rfl rfl rfl)

theorem keeps_scrubRetire {s0 s : State} (h : Keeps s0 s) {a1 a2 : Nat} : Keeps s0 (s.scrubRetire a1 a2) := by
  unfold State.scrubRetire
  try dsimp only
  repeat' (first
      | (with_reducible first
        | assumption | refine keeps_pageRetire ?_ | refine keeps_scriptFault ?_ | refine Keeps.ite ?_ ?_
        | refine Keeps.foldl _ ?_ (fun u x hu => ?_))
      | split | with_reducible refine Keeps.updSame ?_ rfl rfl rfl rfl rfl)

theorem keeps_sliceFence {s0 s : State} (h : Keeps s0 s) {a1 : Nat} : Keeps s0 (s.sliceFence a1) := by
  unfold State.sliceFence
  try dsimp only
  repeat' (with_reducible first | assumption | refine keeps_dropWay ?_ | refine keeps_setCache ?_ | refine Keeps.ite ?_ ?_)

theorem keeps_slicePassed {s0 s : State} (h : Keeps s0 s) {a1 : Nat} : Keeps s0 (s.slicePassed a1) := by
  unfold State.slicePassed
  try dsimp only
  repeat' (with_reducible first | assumption | refine Keeps.ite ?_ ?_ | refine Keeps.updSame ?_ rfl rfl rfl rfl rfl)

theorem keeps_swapQuiesce {s0 s : State} (h : Keeps s0 s) {a1 : Swap} : Keeps s0 (s.swapQuiesce a1) := by
  unfold State.swapQuiesce
  try dsimp only
  repeat' (with_reducible first
      | assumption | refine keeps_vppHalt ?_ | refine keeps_barArrive ?_ | refine keeps_barRelease ?_ | refine keeps_setFld ?_
      | refine Keeps.ite ?_ ?_ | refine Keeps.updSame ?_ rfl rfl rfl rfl rfl)

theorem keeps_switchIndex {s0 s : State} (h : Keeps s0 s) {a1 : Nat} : Keeps s0 (s.switchIndex a1) := by
  unfold State.switchIndex
  try dsimp only
  repeat' (with_reducible first
      | assumption | refine keeps_setFld ?_ | refine keeps_noteBus ?_ ?_ | refine keeps_regWrite ?_ | refine keeps_regRead ?_
      | refine Keeps.ite ?_ ?_ | refine Keeps.foldl _ ?_ (fun u x hu => ?_) | refine Keeps.updSame ?_ rfl rfl rfl rfl rfl)

theorem keeps_execCoreIndexSwitch {s0 s : State} (h : Keeps s0 s) : KeepsOut s0 (execCoreIndexSwitch s) := by
  unfold execCoreIndexSwitch
  try dsimp only
  repeat' (first
      | (with_reducible first
        | assumption | refine KeepsOut.next ?_ | refine keeps_answerRemote ?_ | refine keeps_setReg ?_
        | refine keeps_clearCore ?_ | refine keeps_barArrive ?_ | refine keeps_barRelease ?_ | refine keeps_switchIndex ?_
        | refine keeps_loadCode ?_ | refine keeps_lichenFw ?_ | refine keeps_unfence ?_ | refine Keeps.ite ?_ ?_
        | refine KeepsOut.ite ?_ ?_ | refine Keeps.foldl _ ?_ (fun u x hu => ?_)
        | refine Keeps.updSame ?_ rfl rfl rfl rfl rfl)
      | split)

theorem keeps_execRehSliceStart {s0 s : State} (h : Keeps s0 s) : KeepsOut s0 (execRehSliceStart s) := by
  unfold execRehSliceStart
  try dsimp only
  repeat' (first
      | (with_reducible first
        | assumption | refine KeepsOut.next ?_ | refine keeps_setFld ?_ | refine keeps_sliceFence ?_
        | refine KeepsOut.ite ?_ ?_ | refine Keeps.updSame ?_ rfl rfl rfl rfl rfl)
      | split)

theorem keeps_execRehDrainTimeout {s0 s : State} (h : Keeps s0 s) : KeepsOut s0 (execRehDrainTimeout s) := by
  unfold execRehDrainTimeout
  try dsimp only
  repeat' (first
      | (with_reducible first
        | assumption | refine KeepsOut.next ?_ | refine keeps_sliceUnfence ?_ | refine keeps_setFld ?_
        | refine keeps_lichenFw ?_ | refine Keeps.ite ?_ ?_ | refine KeepsOut.ite ?_ ?_
        | refine Keeps.updSame ?_ rfl rfl rfl rfl rfl)
      | split)

theorem keeps_execRehSliceEnd {s0 s : State} (h : Keeps s0 s) {a0 : Bool} {a1 : Word} {a2 : List Defect} :
    KeepsOut s0 (execRehSliceEnd a0 a1 a2 s) := by
  unfold execRehSliceEnd
  try dsimp only
  repeat' (first
      | (with_reducible first
        | assumption | refine KeepsOut.next ?_ | refine keeps_setFld ?_ | refine keeps_sliceReinit ?_ | refine keeps_setReg ?_
        | refine keeps_sliceUnfence ?_ | refine keeps_countWrap ?_ | refine keeps_slicePassed ?_ | refine keeps_count ?_
        | refine keeps_lichenFw ?_ | refine keeps_repairBlock ?_ | refine KeepsOut.ite ?_ ?_
        | refine Keeps.updSame ?_ rfl rfl rfl rfl rfl)
      | split)

theorem keeps_execPlannedSwap {s0 s : State} (h : Keeps s0 s) : KeepsOut s0 (execPlannedSwap s) := by
  unfold execPlannedSwap
  try dsimp only
  repeat' (first
      | (with_reducible first
        | assumption | refine KeepsOut.next ?_ | refine keeps_swapQuiesce ?_ | refine keeps_swapStart ?_
        | refine Keeps.ite ?_ ?_ | refine KeepsOut.ite ?_ ?_ | refine Keeps.updSame ?_ rfl rfl rfl rfl rfl)
      | split)

theorem keeps_execSwapQuiesceTimeout {s0 s : State} (h : Keeps s0 s) : KeepsOut s0 (execSwapQuiesceTimeout s) := by
  unfold execSwapQuiesceTimeout
  try dsimp only
  repeat' (first
      | (with_reducible first
        | assumption | refine KeepsOut.next ?_ | refine keeps_setFld ?_ | refine keeps_lichenFw ?_ | refine Keeps.ite ?_ ?_
        | refine KeepsOut.ite ?_ ?_ | refine Keeps.updSame ?_ rfl rfl rfl rfl rfl)
      | split)

theorem keeps_execMigrationDone {s0 s : State} (h : Keeps s0 s) : KeepsOut s0 (execMigrationDone s) := by
  unfold execMigrationDone
  try dsimp only
  repeat' (first
      | (with_reducible first
        | assumption | refine KeepsOut.next ?_ | refine keeps_migrate ?_ | refine keeps_setFld ?_ | refine keeps_count ?_
        | refine keeps_switchIndex ?_ | refine keeps_lichenFw ?_ | refine Keeps.ite ?_ ?_ | refine KeepsOut.ite ?_ ?_)
      | split)

theorem keeps_execCoreFailure {s0 s : State} (h : Keeps s0 s) {a0 : Fin 8} {a1 : Fin 3} :
    KeepsOut s0 (execCoreFailure a0 a1 s) := by
  unfold execCoreFailure
  try dsimp only
  repeat' (first
      | (with_reducible first
        | assumption | refine KeepsOut.next ?_ | refine keeps_scriptFault ?_ | refine keeps_sliceAbort ?_
        | refine keeps_setFld ?_ | refine keeps_lichenFw ?_ | refine keeps_fence ?_ | refine KeepsOut.ite ?_ ?_
        | refine Keeps.foldl _ ?_ (fun u x hu => ?_))
      | split | with_reducible refine Keeps.updSame ?_ rfl rfl rfl rfl rfl)

theorem keeps_execDdr4PatrolScrub {s0 s : State} (h : Keeps s0 s) {a0 : Fin 1073741824} {a1 : Fin 32768} :
    KeepsOut s0 (execDdr4PatrolScrub a0 a1 s) := by
  unfold execDdr4PatrolScrub
  try dsimp only
  repeat' (with_reducible first
      | assumption | refine KeepsOut.next ?_ | refine keeps_scrubRetire ?_ | refine keeps_noteEcc ?_
      | refine KeepsOut.ite ?_ ?_ | refine Keeps.updSame ?_ rfl rfl rfl rfl rfl)

theorem keeps_execDphyLoopback {s0 s : State} (h : Keeps s0 s) {a0 : Fin 12} {a1 : Nat} :
    KeepsOut s0 (execDphyLoopback a0 a1 s) := by
  unfold execDphyLoopback
  try dsimp only
  repeat' (with_reducible first
      | assumption | refine KeepsOut.next ?_ | refine keeps_analogueFail ?_ | refine Keeps.ite ?_ ?_)

theorem keeps_execEplPrbsLoopback {s0 s : State} (h : Keeps s0 s) {a0 : Fin 6} {a1 : Nat} :
    KeepsOut s0 (execEplPrbsLoopback a0 a1 s) := by
  unfold execEplPrbsLoopback
  try dsimp only
  repeat' (with_reducible first
      | assumption | refine KeepsOut.next ?_ | refine keeps_analogueFail ?_ | refine Keeps.ite ?_ ?_)

theorem keeps_execTempCrosscheck {s0 s : State} (h : Keeps s0 s) : KeepsOut s0 (execTempCrosscheck s) := by
  unfold execTempCrosscheck
  try dsimp only
  repeat' (with_reducible first
      | assumption | refine KeepsOut.next ?_ | refine keeps_crossCheck ?_ | refine Keeps.foldl _ ?_ (fun u x hu => ?_))

theorem keeps_execVoltageCrosscheck {s0 s : State} (h : Keeps s0 s) {a0 a1 : Nat} :
    KeepsOut s0 (execVoltageCrosscheck a0 a1 s) := by
  unfold execVoltageCrosscheck
  try dsimp only
  repeat' (with_reducible first
      | assumption | refine KeepsOut.next ?_ | refine keeps_analogueFail ?_ | refine Keeps.ite ?_ ?_)

theorem keeps_execActiveHourTick {s0 s : State} (h : Keeps s0 s) : KeepsOut s0 (execActiveHourTick s) := by
  unfold execActiveHourTick
  try dsimp only
  repeat' (first
      | (with_reducible first
        | assumption | refine KeepsOut.next ?_ | refine keeps_rotationEnd ?_ | refine Keeps.ite ?_ ?_
        | refine KeepsOut.ite ?_ ?_ | refine Keeps.upd ?_ rfl rfl rfl ?_ ?_)
      | exact Nat.le_refl _ | exact FusesRise.same rfl rfl rfl)

/-! ### CueActions -/

theorem keeps_bindIsp {s0 s : State} (h : Keeps s0 s) {a1 a2 : Nat} : Keeps s0 (s.bindIsp a1 a2) := by
  unfold State.bindIsp
  try dsimp only
  repeat' (with_reducible first | assumption | refine keeps_setStream ?_ | refine Keeps.ite ?_ ?_)

theorem keeps_taskStart {s0 s : State} (h : Keeps s0 s) {a1 a2 : Nat} : Keeps s0 (s.taskStart a1 a2) := by
  unfold State.taskStart
  try dsimp only
  repeat' (with_reducible first | assumption | refine keeps_setCtxSt ?_ | refine keeps_setCtx ?_)

theorem keeps_execDmaLaunch {s0 s : State} (h : Keeps s0 s) {a0 : QueueId} : KeepsOut s0 (execDmaLaunch a0 s) := by
  unfold execDmaLaunch
  try dsimp only
  repeat' (with_reducible first
      | assumption | exact KeepsOpt.none _ | refine KeepsOut.next ?_ | refine KeepsOpt.some ?_
      | refine keeps_fire ?_ (fun e u hu => ?_) | refine keeps_dmaLaunch ?_ | refine KeepsOpt.ite ?_ ?_)

theorem keeps_execFrondJob {s0 s : State} (h : Keeps s0 s) {a0 : Fin 8} : KeepsOut s0 (execFrondJob a0 s) := by
  unfold execFrondJob
  try dsimp only
  repeat' (with_reducible first
      | assumption | exact KeepsOpt.none _ | refine KeepsOut.next ?_ | refine KeepsOpt.some ?_
      | refine keeps_fire ?_ (fun e u hu => ?_) | refine keeps_frondPush ?_ | refine KeepsOpt.ite ?_ ?_)

theorem keeps_execTaskStart {s0 s : State} (h : Keeps s0 s) {a0 : Fin 8} : KeepsOut s0 (execTaskStart a0 s) := by
  unfold execTaskStart
  try dsimp only
  repeat' (with_reducible first
      | assumption | exact KeepsOpt.none _ | refine KeepsOut.next ?_ | refine KeepsOpt.some ?_
      | refine keeps_fire ?_ (fun e u hu => ?_) | refine keeps_taskStart ?_ | refine KeepsOpt.ite ?_ ?_)

theorem keeps_execVppInt {s0 s : State} (h : Keeps s0 s) {a0 : Fin 8} : KeepsOut s0 (execVppInt a0 s) := by
  unfold execVppInt
  try dsimp only
  repeat' (with_reducible first
      | assumption | refine KeepsOut.next ?_ | refine KeepsOpt.some ?_ | refine keeps_fire ?_ (fun e u hu => ?_)
      | refine keeps_raiseInt ?_)

theorem keeps_execBarrierRelease {s0 s : State} (h : Keeps s0 s) : KeepsOut s0 (execBarrierRelease s) := by
  unfold execBarrierRelease
  try dsimp only
  repeat' (with_reducible first
      | assumption | refine KeepsOut.next ?_ | refine KeepsOpt.some ?_ | refine keeps_fire ?_ (fun e u hu => ?_)
      | refine keeps_barCue ?_)

theorem keeps_execFsyncPulse {s0 s : State} (h : Keeps s0 s) {a0 : Fin 12} : KeepsOut s0 (execFsyncPulse a0 s) := by
  unfold execFsyncPulse
  try dsimp only
  repeat' (with_reducible first
      | assumption | refine KeepsOut.next ?_ | refine KeepsOpt.some ?_ | refine keeps_fire ?_ (fun e u hu => ?_)
      | refine keeps_fsyncPulse ?_)

theorem keeps_execSensorWrite {s0 s : State} (h : Keeps s0 s) {a0 : Fin 12} : KeepsOut s0 (execSensorWrite a0 s) := by
  unfold execSensorWrite
  try dsimp only
  repeat' (with_reducible first
      | assumption | exact KeepsOpt.none _ | refine KeepsOut.next ?_ | refine KeepsOpt.some ?_
      | refine keeps_fire ?_ (fun e u hu => ?_) | refine keeps_i2cStartList ?_ | refine KeepsOpt.ite ?_ ?_)

theorem keeps_execIspApply {s0 s : State} (h : Keeps s0 s) {a0 : Fin 12} : KeepsOut s0 (execIspApply a0 s) := by
  unfold execIspApply
  try dsimp only
  repeat' (with_reducible first
      | assumption | refine KeepsOut.next ?_ | refine KeepsOpt.some ?_ | refine keeps_fire ?_ (fun e u hu => ?_)
      | refine keeps_bindIsp ?_ | refine Keeps.ite ?_ ?_)

theorem keeps_execWake {s0 s : State} (h : Keeps s0 s) : KeepsOut s0 (execWake s) := by
  unfold execWake
  try dsimp only
  repeat' (with_reducible first
      | assumption | refine KeepsOut.next ?_ | refine KeepsOpt.some ?_ | refine keeps_fire ?_ (fun e u hu => ?_)
      | refine keeps_wakeFire ?_)

end Sys2Proof.Machine
end

