-- ==== Sys2Proof/Laws/KeepsHost.lean ====
section
/-!
SUPPORT. What every operation and every command keeps (Keeps.lean): the command layer and the host commands.
-/
namespace Sys2Proof.Machine

/-! ### HostCore -/

theorem keeps_reply {s0 s : State} (h : Keeps s0 s) {a1 : Reply} : Keeps s0 (s.reply a1) := by
  unfold State.reply
  try dsimp only
  repeat' (with_reducible first | assumption | refine Keeps.updSame ?_ rfl rfl rfl rfl rfl)

theorem keeps_modOutstanding {s0 s : State} (h : Keeps s0 s) {a1 : Nat} {a2 : Outstanding → Outstanding} :
    Keeps s0 (s.modOutstanding a1 a2) := by
  unfold State.modOutstanding
  try dsimp only
  repeat' (with_reducible first | assumption | refine Keeps.updSame ?_ rfl rfl rfl rfl rfl)

theorem keeps_disarm {s0 s : State} (h : Keeps s0 s) {a1 : Nat} : Keeps s0 (s.disarm a1) := by
  unfold State.disarm
  try dsimp only
  repeat' (with_reducible first | assumption | refine Keeps.updSame ?_ rfl rfl rfl rfl rfl)

theorem keeps_dropCached {s0 s : State} (h : Keeps s0 s) : Keeps s0 (s.dropCached) := by
  unfold State.dropCached
  try dsimp only
  repeat' (with_reducible first
      | assumption | refine keeps_invGo ?_ | refine keeps_setFld ?_ | refine Keeps.foldl _ ?_ (fun u x hu => ?_))

theorem keeps_replyTo {s0 s : State} (h : Keeps s0 s) {a1 : Outstanding} {a2 : Nat} {a3 : List Nat} :
    Keeps s0 (s.replyTo a1 a2 a3) := by
  unfold State.replyTo
  try dsimp only
  repeat' (with_reducible first | assumption | refine keeps_reply ?_ | refine Keeps.updSame ?_ rfl rfl rfl rfl rfl)

theorem keeps_endCommands {s0 s : State} (h : Keeps s0 s) : Keeps s0 (s.endCommands) := by
  unfold State.endCommands
  try dsimp only
  repeat' (with_reducible first
      | assumption | refine keeps_disarm ?_ | refine keeps_dmaAbort ?_ | refine Keeps.foldl _ ?_ (fun u x hu => ?_)
      | refine Keeps.updSame ?_ rfl rfl rfl rfl rfl)

theorem keeps_stopXfer {s0 s : State} (h : Keeps s0 s) {a1 : Outstanding} {a2 : Nat} : Keeps s0 (s.stopXfer a1 a2) := by
  unfold State.stopXfer
  try dsimp only
  repeat' (with_reducible first
      | assumption | refine keeps_dmaAbort ?_ | refine keeps_disarm ?_ | refine keeps_modOutstanding ?_
      | refine Keeps.ite ?_ ?_)

theorem keeps_xferLaunch {s0 s : State} (h : Keeps s0 s) {a1 a2 : Nat} {a3 : List Nat} :
    Keeps s0 (s.xferLaunch a1 a2 a3) := by
  unfold State.xferLaunch
  try dsimp only
  repeat' (with_reducible first | assumption | refine keeps_modChan ?_ | refine keeps_setFld ?_)

theorem keeps_xferNext {s0 s : State} (h : Keeps s0 s) {a1 : Outstanding} : Keeps s0 (s.xferNext a1) := by
  unfold State.xferNext
  try dsimp only
  repeat' (first | (with_reducible first | assumption | refine keeps_xferLaunch ?_) | split)

theorem keeps_pollXfer {s0 s : State} (h : Keeps s0 s) {a1 : Outstanding} : Keeps s0 (s.pollXfer a1) := by
  unfold State.pollXfer
  try dsimp only
  repeat' (first
      | (with_reducible first
        | assumption | refine keeps_dmaResume ?_ | refine keeps_stopXfer ?_ | refine keeps_xferNext ?_
        | refine keeps_modOutstanding ?_ | refine keeps_replyTo ?_ | refine keeps_disarm ?_ | refine keeps_dropCached ?_
        | refine Keeps.ite ?_ ?_)
      | split | with_reducible refine Keeps.updSame ?_ rfl rfl rfl rfl rfl)

/-! ### HostBase -/

theorem keeps_noteAccepted {s0 s : State} (h : Keeps s0 s) : Keeps s0 (s.noteAccepted) := by
  unfold State.noteAccepted
  try dsimp only
  repeat' (first
      | (with_reducible first
        | assumption | refine keeps_confirmSlot ?_ | refine Keeps.ite ?_ ?_ | refine Keeps.upd ?_ rfl rfl rfl ?_ ?_)
      | exact Nat.le_refl _ | exact FusesRise.same rfl rfl rfl)

theorem keeps_cmdReply {s0 s : State} (h : Keeps s0 s) {a1 : CmdHeader} {a2 a3 : Nat} {a4 : List ClampEntry} {a5 : List Nat} :
    Keeps s0 (s.cmdReply a1 a2 a3 a4 a5) := by
  unfold State.cmdReply
  try dsimp only
  repeat' (with_reducible first | assumption | refine keeps_reply ?_ | refine Keeps.updSame ?_ rfl rfl rfl rfl rfl)

theorem keeps_start {s0 s : State} (h : Keeps s0 s) {a1 : CmdHeader}
    {a2 : CmdSpec} (hc : ∀ u, Keeps s0 u → KeepsRes s0 (a2.run u)) :
    Keeps s0 (s.start a1 a2) := by
  unfold State.start
  try dsimp only
  repeat' (with_reducible first
      | assumption | refine Keeps.res ?_ | refine hc _ ?_ | refine keeps_cmdReply ?_ | refine keeps_modOutstanding ?_
      | refine Keeps.ite ?_ ?_)

theorem keeps_command {s0 s : State} (h : Keeps s0 s) {a1 : CmdHeader} {a2 : Instr}
    {a3 : CmdSpec} (hc : ∀ u, Keeps s0 u → KeepsRes s0 (a3.run u)) :
    KeepsOut s0 (s.command a1 a2 a3) := by
  unfold State.command
  try dsimp only
  repeat' (first
      | (with_reducible first
        | assumption | refine KeepsOut.next ?_ | refine hc _ ?_ | refine keeps_start ?_ (fun u hu => ?_)
        | refine keeps_reply ?_ | refine keeps_noteAccepted ?_ | refine KeepsOut.ite ?_ ?_
        | refine Keeps.updSame ?_ rfl rfl rfl rfl rfl)
      | split)

theorem keeps_dropHeld {s0 s : State} (h : Keeps s0 s) {a1 : Outstanding} {a2 : Nat} : Keeps s0 (s.dropHeld a1 a2) := by
  unfold State.dropHeld
  try dsimp only
  repeat' (with_reducible first | assumption | refine keeps_replyTo ?_ | refine Keeps.updSame ?_ rfl rfl rfl rfl rfl)

theorem keeps_stopCommand {s0 s : State} (h : Keeps s0 s) {a1 : Outstanding} {a2 : Nat} :
    Keeps s0 (s.stopCommand a1 a2).1 := by
  unfold State.stopCommand
  try dsimp only
  repeat' (first
      | (with_reducible first | assumption | refine keeps_dropHeld ?_ | refine keeps_stopXfer ?_ | refine keeps_replyTo ?_)
      | split)

theorem keeps_cmdFail {s0 s : State} (h : Keeps s0 s) {a1 : Nat} : KeepsRes s0 (cmdFail s a1) := by
  unfold cmdFail
  try dsimp only
  repeat' (with_reducible first | assumption | refine KeepsRes.mk ?_)

theorem keeps_cmdOk {s0 s : State} (h : Keeps s0 s) {a1 : List Nat} : KeepsRes s0 (cmdOk s a1) := by
  unfold cmdOk
  try dsimp only
  repeat' (with_reducible first | assumption | refine KeepsRes.mk ?_)

theorem keeps_execCommandRunt {s0 s : State} (h : Keeps s0 s) {a0 : Fin 16} : KeepsOut s0 (execCommandRunt a0 s) := by
  unfold execCommandRunt
  try dsimp only
  repeat' (with_reducible first | assumption | refine KeepsOut.next ?_ | refine keeps_countBy ?_ | refine Keeps.ite ?_ ?_)

theorem keeps_execCommandTimeout {s0 s : State} (h : Keeps s0 s) {a0 : Nat} : KeepsOut s0 (execCommandTimeout a0 s) := by
  unfold execCommandTimeout
  try dsimp only
  repeat' (first
      | (with_reducible first | assumption | refine KeepsOut.next ?_ | refine keeps_stopCommand ?_ | refine Keeps.ite ?_ ?_)
      | split)

/-! ### HostStatus -/

theorem keeps_fwRead {s0 s : State} (h : Keeps s0 s) {a1 : Nat} : Keeps s0 (s.fwRead a1).2 := by
  unfold State.fwRead
  try dsimp only
  repeat' (first
      | (with_reducible first | assumption | refine keeps_regRead ?_ | refine Keeps.ofSnd ?_ (by assumption))
      | split)

theorem keeps_gather {s0 s : State} (h : Keeps s0 s) {a1 : List Nat} : Keeps s0 (s.gather a1) := by
  unfold State.gather
  try dsimp only
  repeat' (with_reducible first | assumption | refine keeps_fwRead ?_ | refine Keeps.foldl _ ?_ (fun u x hu => ?_))

theorem keeps_execPing {s0 s : State} (h : Keeps s0 s) {a0 : CmdHeader} : KeepsOut s0 (execPing a0 s) := by
  unfold execPing
  try dsimp only
  repeat' (with_reducible first | assumption | refine keeps_command ?_ (fun u hu => ?_) | refine keeps_cmdOk ?_)

theorem keeps_execGetIdentity {s0 s : State} (h : Keeps s0 s) {a0 : CmdHeader} : KeepsOut s0 (execGetIdentity a0 s) := by
  unfold execGetIdentity
  try dsimp only
  repeat' (with_reducible first | assumption | refine keeps_command ?_ (fun u hu => ?_) | refine keeps_cmdOk ?_)

theorem keeps_execCmdAbort {s0 s : State} (h : Keeps s0 s) {a0 : CmdHeader} {a1 : Nat} :
    KeepsOut s0 (execCmdAbort a0 a1 s) := by
  unfold execCmdAbort
  try dsimp only
  repeat' (first
      | (with_reducible first
        | assumption | refine keeps_command ?_ (fun u hu => ?_) | refine keeps_cmdFail ?_ | refine keeps_stopCommand ?_
        | refine keeps_cmdOk ?_ | refine KeepsRes.ite ?_ ?_)
      | dsimp only | split)

theorem keeps_execGetStatus {s0 s : State} (h : Keeps s0 s) {a0 : CmdHeader} : KeepsOut s0 (execGetStatus a0 s) := by
  unfold execGetStatus
  try dsimp only
  repeat' (with_reducible first | assumption | refine keeps_command ?_ (fun u hu => ?_) | refine keeps_cmdOk ?_)

theorem keeps_execGetCounters {s0 s : State} (h : Keeps s0 s) {a0 : CmdHeader} {a1 a2 a3 : Nat} :
    KeepsOut s0 (execGetCounters a0 a1 a2 a3 s) := by
  unfold execGetCounters
  try dsimp only
  repeat' (with_reducible first
      | assumption | refine keeps_command ?_ (fun u hu => ?_) | refine keeps_cmdFail ?_ | refine keeps_gather ?_
      | refine keeps_cmdOk ?_ | refine KeepsRes.ite ?_ ?_)

theorem keeps_execLichenInfo {s0 s : State} (h : Keeps s0 s) {a0 : CmdHeader} : KeepsOut s0 (execLichenInfo a0 s) := by
  unfold execLichenInfo
  try dsimp only
  repeat' (with_reducible first | assumption | refine keeps_command ?_ (fun u hu => ?_) | refine keeps_cmdOk ?_)

theorem keeps_execLichenRead {s0 s : State} (h : Keeps s0 s) {a0 : CmdHeader} {a1 a2 : Nat} :
    KeepsOut s0 (execLichenRead a0 a1 a2 s) := by
  unfold execLichenRead
  try dsimp only
  repeat' (with_reducible first | assumption | refine keeps_command ?_ (fun u hu => ?_) | refine keeps_cmdOk ?_)

/-! ### HostTime -/

theorem keeps_pushIsp {s0 s : State} (h : Keeps s0 s) {a1 a2 a3 : Nat} : Keeps s0 (s.pushIsp a1 a2 a3) := by
  unfold State.pushIsp
  try dsimp only
  repeat' (with_reducible first | assumption | refine keeps_pushCue ?_)

theorem keeps_execTimeGet {s0 s : State} (h : Keeps s0 s) {a0 : CmdHeader} : KeepsOut s0 (execTimeGet a0 s) := by
  unfold execTimeGet
  try dsimp only
  repeat' (with_reducible first
      | assumption | refine keeps_command ?_ (fun u hu => ?_) | refine keeps_fwRead ?_ | refine keeps_cmdOk ?_)

theorem keeps_execTimeSetEpoch {s0 s : State} (h : Keeps s0 s) {a0 : CmdHeader} {a1 : Nat} :
    KeepsOut s0 (execTimeSetEpoch a0 a1 s) := by
  unfold execTimeSetEpoch
  try dsimp only
  repeat' (first
      | with_reducible assumption | split | exact Nat.le_of_lt (by assumption)
      | (with_reducible first
        | refine keeps_command ?_ (fun u hu => ?_) | refine keeps_cmdFail ?_ | refine keeps_cmdOk ?_
        | refine keeps_jumpTo ?_ ?_ | refine KeepsRes.ite ?_ ?_))

theorem keeps_execTimePps {s0 s : State} (h : Keeps s0 s) {a0 : CmdHeader} {a1 : Nat} :
    KeepsOut s0 (execTimePps a0 a1 s) := by
  unfold execTimePps
  try dsimp only
  repeat' (first
      | (with_reducible first | assumption | refine keeps_command ?_ (fun u hu => ?_) | refine keeps_cmdOk ?_)
      | dsimp only | with_reducible refine Keeps.upd ?_ rfl rfl rfl ?_ ?_ | exact Nat.le_refl _
      | exact FusesRise.same rfl rfl rfl)

theorem keeps_execWingsOpen {s0 s : State} (h : Keeps s0 s) {a0 : CmdHeader} {a1 : Nat} :
    KeepsOut s0 (execWingsOpen a0 a1 s) := by
  unfold execWingsOpen
  try dsimp only
  repeat' (first
      | (with_reducible first
        | assumption | refine keeps_command ?_ (fun u hu => ?_) | refine keeps_cmdFail ?_ | refine keeps_cmdOk ?_
        | refine keeps_setWset ?_)
      | dsimp only | split)

theorem keeps_execWingsStage {s0 s : State} (h : Keeps s0 s) {a0 : CmdHeader} {a1 : Nat} {a2 : List StageMember} :
    KeepsOut s0 (execWingsStage a0 a1 a2 s) := by
  unfold execWingsStage
  try dsimp only
  repeat' (first
      | (with_reducible first
        | assumption | refine keeps_command ?_ (fun u hu => ?_) | refine keeps_cmdFail ?_ | refine keeps_stageAll ?_
        | refine KeepsRes.ite ?_ ?_ | refine Keeps.ofStg ?_ (by assumption))
      | split | with_reducible refine KeepsRes.mk ?_)

theorem keeps_execWingsCheck {s0 s : State} (h : Keeps s0 s) {a0 : CmdHeader} {a1 a2 : Nat} :
    KeepsOut s0 (execWingsCheck a0 a1 a2 s) := by
  unfold execWingsCheck
  try dsimp only
  repeat' (first
      | (with_reducible first
        | assumption | refine keeps_command ?_ (fun u hu => ?_) | refine keeps_cmdFail ?_ | refine keeps_cmdOk ?_
        | refine keeps_setWset ?_ | refine KeepsRes.ite ?_ ?_)
      | split | with_reducible refine KeepsRes.mk ?_)

theorem keeps_execWingsApplyAt {s0 s : State} (h : Keeps s0 s) {a0 : CmdHeader} {a1 a2 a3 : Nat} :
    KeepsOut s0 (execWingsApplyAt a0 a1 a2 a3 s) := by
  unfold execWingsApplyAt
  try dsimp only
  repeat' (first
      | (with_reducible first
        | assumption | refine keeps_command ?_ (fun u hu => ?_) | refine keeps_cmdFail ?_ | refine keeps_armSet ?_
        | refine keeps_cmdOk ?_ | refine keeps_pushIsp ?_ | refine KeepsRes.ite ?_ ?_ | refine Keeps.ofFst ?_ (by assumption))
      | split | with_reducible refine KeepsRes.mk ?_)

theorem keeps_execWingsCancel {s0 s : State} (h : Keeps s0 s) {a0 : CmdHeader} {a1 : Nat} :
    KeepsOut s0 (execWingsCancel a0 a1 s) := by
  unfold execWingsCancel
  try dsimp only
  repeat' (with_reducible first
      | assumption | refine keeps_command ?_ (fun u hu => ?_) | refine keeps_cmdFail ?_ | refine keeps_cmdOk ?_
      | refine keeps_releaseSet ?_ | refine KeepsRes.ite ?_ ?_)

theorem keeps_execWingsRelease {s0 s : State} (h : Keeps s0 s) {a0 : CmdHeader} {a1 : Nat} :
    KeepsOut s0 (execWingsRelease a0 a1 s) := by
  unfold execWingsRelease
  try dsimp only
  repeat' (with_reducible first
      | assumption | refine keeps_command ?_ (fun u hu => ?_) | refine keeps_cmdFail ?_ | refine keeps_cmdOk ?_
      | refine keeps_releaseSet ?_ | refine KeepsRes.ite ?_ ?_)

theorem keeps_execWingsStatus {s0 s : State} (h : Keeps s0 s) {a0 : CmdHeader} {a1 : Nat} :
    KeepsOut s0 (execWingsStatus a0 a1 s) := by
  unfold execWingsStatus
  try dsimp only
  repeat' (with_reducible first
      | assumption | refine keeps_command ?_ (fun u hu => ?_) | refine keeps_cmdFail ?_ | refine keeps_cmdOk ?_
      | refine KeepsRes.ite ?_ ?_)

/-! ### HostCamera -/

theorem keeps_dropFsync {s0 s : State} (h : Keeps s0 s) {a1 : Nat} : Keeps s0 (s.dropFsync a1) := by
  unfold State.dropFsync
  try dsimp only
  repeat' (with_reducible first | assumption | refine keeps_setCq ?_)

theorem keeps_issueRead {s0 s : State} (h : Keeps s0 s) {a1 : Outstanding} : Keeps s0 (s.issueRead a1) := by
  unfold State.issueRead
  try dsimp only
  repeat' (with_reducible first
      | assumption | refine keeps_modOutstanding ?_ | refine keeps_i2cGo ?_ | refine keeps_setReg ?_ | refine Keeps.ite ?_ ?_)

theorem keeps_putList {s0 s : State} (h : Keeps s0 s) {a1 a2 : Nat} {a3 a4 : Nat} {a5 : List (Word × Word)} :
    Keeps s0 (s.putList a1 a2 a3 a4 a5) := by
  unfold State.putList
  try dsimp only
  repeat' (with_reducible first | assumption | refine keeps_setReg ?_ | refine Keeps.foldl _ ?_ (fun u x hu => ?_))

theorem keeps_placeLists {s0 s : State} (h : Keeps s0 s) {a1 : Nat} {a2 : List Settings} : Keeps s0 (s.placeLists a1 a2) := by
  unfold State.placeLists
  try dsimp only
  repeat' (with_reducible first
      | assumption | refine keeps_pushCue ?_ | refine keeps_putList ?_ | refine Keeps.foldl _ ?_ (fun u x hu => ?_))

theorem keeps_pollRead {s0 s : State} (h : Keeps s0 s) {a1 : Outstanding} : Keeps s0 (s.pollRead a1) := by
  unfold State.pollRead
  try dsimp only
  repeat' (with_reducible first | assumption | refine keeps_issueRead ?_ | refine keeps_replyTo ?_ | refine Keeps.ite ?_ ?_)

theorem keeps_execSensorSettings {s0 s : State} (h : Keeps s0 s) {a0 : CmdHeader} {a1 a2 : Nat} {a3 a4 : List (Word × Word)}
    {a5 a6 a7 : Nat × Nat} :
    KeepsOut s0 (execSensorSettings a0 a1 a2 a3 a4 a5 a6 a7 s) := by
  unfold execSensorSettings
  try dsimp only
  repeat' (with_reducible first
      | assumption | refine keeps_command ?_ (fun u hu => ?_) | refine keeps_cmdFail ?_ | refine keeps_cmdOk ?_
      | refine keeps_placeLists ?_ | refine KeepsRes.ite ?_ ?_)

theorem keeps_execIspParams {s0 s : State} (h : Keeps s0 s) {a0 : CmdHeader} {a1 a2 a3 : Nat} {a4 : List Half} :
    KeepsOut s0 (execIspParams a0 a1 a2 a3 a4 s) := by
  unfold execIspParams
  try dsimp only
  repeat' (first
      | (with_reducible first
        | assumption | refine keeps_command ?_ (fun u hu => ?_) | refine keeps_cmdFail ?_ | refine keeps_stageAll ?_
        | refine keeps_setWset ?_ | refine keeps_armSet ?_ | refine keeps_cmdOk ?_ | refine keeps_pushIsp ?_
        | refine KeepsRes.ite ?_ ?_ | refine Keeps.ofFst ?_ (by assumption) | refine Keeps.ofStg ?_ (by assumption))
      | split | with_reducible refine KeepsRes.mk ?_)

theorem keeps_execI2cRead {s0 s : State} (h : Keeps s0 s) {a0 : CmdHeader} {a1 a2 a3 : Nat} {a4 : Bool} {a5 : Nat} :
    KeepsOut s0 (execI2cRead a0 a1 a2 a3 a4 a5 s) := by
  unfold execI2cRead
  try dsimp only
  repeat' (first
      | (with_reducible first
        | assumption | refine keeps_command ?_ (fun u hu => ?_) | refine keeps_modOutstanding ?_ | refine keeps_issueRead ?_)
      | dsimp only | split | with_reducible refine KeepsRes.mk ?_)

theorem keeps_execFsyncSchedule {s0 s : State} (h : Keeps s0 s) {a0 : CmdHeader} {a1 a2 : Nat} {a3 a4 : Nat} :
    KeepsOut s0 (execFsyncSchedule a0 a1 a2 a3 a4 s) := by
  unfold execFsyncSchedule
  try dsimp only
  repeat' (with_reducible first
      | assumption | refine keeps_command ?_ (fun u hu => ?_) | refine keeps_dropFsync ?_ | refine keeps_cmdFail ?_
      | refine keeps_cmdOk ?_ | refine keeps_pushCue ?_ | refine KeepsRes.ite ?_ ?_)

theorem keeps_execStreamStatus {s0 s : State} (h : Keeps s0 s) {a0 : CmdHeader} {a1 : Nat} :
    KeepsOut s0 (execStreamStatus a0 a1 s) := by
  unfold execStreamStatus
  try dsimp only
  repeat' (with_reducible first
      | assumption | refine keeps_command ?_ (fun u hu => ?_) | refine keeps_gather ?_ | refine keeps_cmdOk ?_)

/-! ### HostMem -/

theorem keeps_mapPages {s0 s : State} (h : Keeps s0 s) {a1 a2 : Nat} {a3 : Bool} {a4 : List Nat} :
    Keeps s0 (s.mapPages a1 a2 a3 a4) := by
  unfold State.mapPages
  try dsimp only
  repeat' (with_reducible first | assumption | refine keeps_setNum ?_ | refine Keeps.foldl _ ?_ (fun u x hu => ?_))

theorem keeps_pollUnmap {s0 s : State} (h : Keeps s0 s) {a1 : Outstanding} : Keeps s0 (s.pollUnmap a1) := by
  unfold State.pollUnmap
  try dsimp only
  repeat' (with_reducible first | assumption | refine keeps_replyTo ?_ | refine Keeps.ite ?_ ?_)

theorem keeps_tvaRead {s0 s : State} (h : Keeps s0 s) {a1 a2 a3 : Nat} : Keeps s0 (s.tvaRead a1 a2 a3).2 := by
  unfold State.tvaRead
  try dsimp only
  repeat' (first
      | (with_reducible first
        | assumption | refine keeps_readMem ?_ | refine Keeps.foldlSnd _ ?_ (fun r x hu => ?_)
        | refine Keeps.ofSnd ?_ (by assumption))
      | split)

theorem keeps_tvaWrite {s0 s : State} (h : Keeps s0 s) {a1 a2 : Nat} {a3 : List Byte} :
    KeepsOpt s0 (s.tvaWrite a1 a2 a3) := by
  unfold State.tvaWrite
  exact KeepsOpt.foldl _ (KeepsOpt.some h) (fun r x hr => KeepsOpt.bind hr (fun u hu => KeepsOpt.bindAny (fun d => keeps_writeMem hu)))

theorem keeps_unmapPages {s0 s : State} (h : Keeps s0 s) {a1 a2 a3 : Nat} : Keeps s0 (s.unmapPages a1 a2 a3) := by
  unfold State.unmapPages
  try dsimp only
  repeat' (with_reducible first
      | assumption | refine keeps_tvaInv ?_ | refine keeps_setNum ?_ | refine Keeps.foldl _ ?_ (fun u x hu => ?_))

theorem keeps_execMemMap {s0 s : State} (h : Keeps s0 s) {a0 : CmdHeader} {a1 a2 : Nat} {a3 a4 : Nat}
    {a5 : List (Fin 32768)} :
    KeepsOut s0 (execMemMap a0 a1 a2 a3 a4 a5 s) := by
  unfold execMemMap
  try dsimp only
  repeat' (with_reducible first
      | assumption | refine keeps_command ?_ (fun u hu => ?_) | refine keeps_cmdFail ?_ | refine keeps_mapPages ?_
      | refine keeps_cmdOk ?_ | refine KeepsRes.ite ?_ ?_ | refine Keeps.updSame ?_ rfl rfl rfl rfl rfl)

theorem keeps_execMemUnmap {s0 s : State} (h : Keeps s0 s) {a0 : CmdHeader} {a1 a2 : Nat} :
    KeepsOut s0 (execMemUnmap a0 a1 a2 s) := by
  unfold execMemUnmap
  try dsimp only
  repeat' (first
      | (with_reducible first
        | assumption | refine keeps_command ?_ (fun u hu => ?_) | refine keeps_cmdFail ?_ | refine keeps_unmapPages ?_
        | refine KeepsRes.ite ?_ ?_)
      | dsimp only | split
      | (with_reducible first | refine KeepsRes.mk ?_ | refine Keeps.updSame ?_ rfl rfl rfl rfl rfl))

theorem keeps_execXfer {s0 s : State} (h : Keeps s0 s) {a0 : CmdHeader} {a1 a2 : Nat} {a3 a4 : Nat} {a5 a6 a7 : Nat} :
    KeepsOut s0 (execXfer a0 a1 a2 a3 a4 a5 a6 a7 s) := by
  unfold execXfer
  try dsimp only
  repeat' (with_reducible first
      | assumption | refine keeps_command ?_ (fun u hu => ?_) | refine keeps_cmdFail ?_ | refine keeps_cmdOk ?_
      | refine keeps_xferLaunch ?_ | refine keeps_modOutstanding ?_ | refine KeepsRes.ite ?_ ?_ | refine KeepsRes.mk ?_
      | refine Keeps.updSame ?_ rfl rfl rfl rfl rfl)

theorem keeps_execMemWrite {s0 s : State} (h : Keeps s0 s) {a0 : CmdHeader} {a1 a2 : Nat} {a3 : List Byte} :
    KeepsOut s0 (execMemWrite a0 a1 a2 a3 s) := by
  unfold execMemWrite
  try dsimp only
  repeat' (first
      | (with_reducible first
        | assumption | refine keeps_command ?_ (fun u hu => ?_) | refine keeps_cmdFail ?_ | refine keeps_tvaWrite ?_
        | refine keeps_cmdOk ?_ | refine keeps_dropCached ?_ | refine KeepsRes.ite ?_ ?_
        | refine Keeps.ofOpt ?_ (by assumption))
      | split)

theorem keeps_execMemRead {s0 s : State} (h : Keeps s0 s) {a0 : CmdHeader} {a1 a2 a3 : Nat} :
    KeepsOut s0 (execMemRead a0 a1 a2 a3 s) := by
  unfold execMemRead
  try dsimp only
  repeat' (first
      | (with_reducible first
        | assumption | refine keeps_command ?_ (fun u hu => ?_) | refine keeps_cmdFail ?_ | refine keeps_tvaRead ?_
        | refine keeps_cmdOk ?_ | refine KeepsRes.ite ?_ ?_ | refine Keeps.ofSnd ?_ (by assumption))
      | split)

/-! ### HostPower -/

theorem keeps_pollEntry {s0 s : State} (h : Keeps s0 s) {a1 : Outstanding} : Keeps s0 (s.pollEntry a1) := by
  unfold State.pollEntry
  try dsimp only
  repeat' (with_reducible first | assumption | refine keeps_beginEntry ?_ | refine keeps_replyTo ?_ | refine Keeps.ite ?_ ?_)

theorem keeps_execPowerGet {s0 s : State} (h : Keeps s0 s) {a0 : CmdHeader} : KeepsOut s0 (execPowerGet a0 s) := by
  unfold execPowerGet
  try dsimp only
  repeat' (with_reducible first | assumption | refine keeps_command ?_ (fun u hu => ?_) | refine keeps_cmdOk ?_)

theorem keeps_execSetOp {s0 s : State} (h : Keeps s0 s) {a0 : CmdHeader} {a1 a2 : Nat} :
    KeepsOut s0 (execSetOp a0 a1 a2 s) := by
  unfold execSetOp
  try dsimp only
  repeat' (with_reducible first
      | assumption | refine keeps_command ?_ (fun u hu => ?_) | refine keeps_cmdFail ?_ | refine keeps_cmdOk ?_
      | refine keeps_settle ?_ | refine keeps_setReqOp ?_ | refine keeps_setCluster ?_ | refine KeepsRes.ite ?_ ?_)

theorem keeps_execSetPowerCap {s0 s : State} (h : Keeps s0 s) {a0 : CmdHeader} {a1 : Nat} :
    KeepsOut s0 (execSetPowerCap a0 a1 s) := by
  unfold execSetPowerCap
  try dsimp only
  repeat' (with_reducible first
      | assumption | refine keeps_command ?_ (fun u hu => ?_) | refine keeps_cmdOk ?_ | refine keeps_setFld ?_)

theorem keeps_execSleep {s0 s : State} (h : Keeps s0 s) {a0 : CmdHeader} {a1 a2 : Nat} :
    KeepsOut s0 (execSleep a0 a1 a2 s) := by
  unfold execSleep
  try dsimp only
  repeat' (first
      | (with_reducible first | assumption | refine keeps_command ?_ (fun u hu => ?_) | refine keeps_modOutstanding ?_)
      | dsimp only | split | with_reducible refine KeepsRes.mk ?_)

theorem keeps_execDark {s0 s : State} (h : Keeps s0 s) {a0 : CmdHeader} {a1 : Nat} : KeepsOut s0 (execDark a0 a1 s) := by
  unfold execDark
  try dsimp only
  repeat' (first
      | (with_reducible first | assumption | refine keeps_command ?_ (fun u hu => ?_) | refine keeps_modOutstanding ?_)
      | dsimp only | with_reducible refine KeepsRes.mk ?_)

/-! ### HostRehearse -/

theorem keeps_closeGate {s0 s : State} (h : Keeps s0 s) : Keeps s0 (s.closeGate) := by
  unfold State.closeGate
  try dsimp only
  repeat' (with_reducible first
      | assumption | refine keeps_setCore ?_ | refine keeps_setFld ?_ | refine Keeps.foldl _ ?_ (fun u x hu => ?_))

theorem keeps_compactMap {s0 s : State} (h : Keeps s0 s) : Keeps s0 (s.compactMap) := by
  unfold State.compactMap
  try dsimp only
  repeat' (with_reducible first
      | assumption | refine keeps_setBytes ?_ | refine keeps_norErase ?_ | refine Keeps.updSame ?_ rfl rfl rfl rfl rfl)

theorem keeps_fullRepair {s0 s : State} (h : Keeps s0 s) {a1 : RepairEntry} : Keeps s0 (s.fullRepair a1) := by
  unfold State.fullRepair
  try dsimp only
  repeat' (first
      | (with_reducible first
        | assumption | refine keeps_applyRepair ?_ | refine keeps_mapWrite ?_ | refine keeps_lichenFw ?_)
      | split)

theorem keeps_pollRehearse {s0 s : State} (h : Keeps s0 s) {a1 : Outstanding} : Keeps s0 (s.pollRehearse a1) := by
  unfold State.pollRehearse
  try dsimp only
  repeat' (with_reducible first | assumption | refine keeps_replyTo ?_ | refine Keeps.ite ?_ ?_)

theorem keeps_pollReplace {s0 s : State} (h : Keeps s0 s) {a1 : Outstanding} : Keeps s0 (s.pollReplace a1) := by
  unfold State.pollReplace
  try dsimp only
  repeat' (with_reducible first
      | assumption | refine keeps_replyTo ?_ | refine keeps_swapStart ?_ | refine keeps_modOutstanding ?_
      | refine Keeps.ite ?_ ?_)

theorem keeps_programFuses {s0 s : State} (h : Keeps s0 s) {a1 : List RepairEntry} : Keeps s0 (s.programFuses a1) := by
  fun_induction State.programFuses s a1 <;> repeat' (first
      | (with_reducible first | assumption | apply_assumption | refine Keeps.upd ?_ rfl rfl rfl ?_ ?_)
      | exact Nat.le_refl _ | exact FusesRise.same rfl rfl rfl)

theorem keeps_testResults {s0 s : State} (h : Keeps s0 s) {a1 : List Nat} : Keeps s0 (s.testResults a1).2 := by
  fun_induction State.testResults s a1 <;> repeat' (with_reducible first
      | assumption | refine keeps_free ?_ | apply_assumption | refine Keeps.ofSnd ?_ (by assumption))

theorem keeps_pollFullTest {s0 s : State} (h : Keeps s0 s) {o : Outstanding} : Keeps s0 (s.pollFullTest o) := by
  unfold State.pollFullTest
  extract_lets s1 s2 s3 q q2 s4
  have h1 : Keeps s0 s1 := Keeps.foldl _ h (fun u x hu => keeps_fullRepair hu)
  have h2 : Keeps s0 s2 := keeps_programFuses h1
  have h3 : Keeps s0 s3 := Keeps.ite (keeps_compactMap h2) h2
  have h4 : Keeps s0 s4 := by
    refine keeps_closeGate ?_
    exact h3.trans ⟨rfl, id, Nat.le_refl _, FusesRise.same rfl rfl rfl⟩
  split
  exact keeps_replyTo (Keeps.ofSnd (keeps_testResults h4) (by assumption))

theorem keeps_execRehearsalStatus {s0 s : State} (h : Keeps s0 s) {a0 : CmdHeader} :
    KeepsOut s0 (execRehearsalStatus a0 s) := by
  unfold execRehearsalStatus
  try dsimp only
  repeat' (with_reducible first
      | assumption | refine keeps_command ?_ (fun u hu => ?_) | refine keeps_gather ?_ | refine keeps_cmdOk ?_)

theorem keeps_execRehearsalCfg {s0 s : State} (h : Keeps s0 s) {a0 : CmdHeader} {a1 : Nat} :
    KeepsOut s0 (execRehearsalCfg a0 a1 s) := by
  unfold execRehearsalCfg
  try dsimp only
  repeat' (with_reducible first
      | assumption | refine keeps_command ?_ (fun u hu => ?_) | refine keeps_cmdOk ?_ | refine keeps_setFld ?_)

theorem keeps_execRehearseNow {s0 s : State} (h : Keeps s0 s) {a0 : CmdHeader} {a1 : Nat} :
    KeepsOut s0 (execRehearseNow a0 a1 s) := by
  unfold execRehearseNow
  try dsimp only
  repeat' (with_reducible first
      | assumption | refine keeps_command ?_ (fun u hu => ?_) | refine keeps_cmdFail ?_ | refine keeps_rehGo ?_
      | refine KeepsRes.ite ?_ ?_ | refine KeepsRes.mk ?_)

theorem keeps_execRepairMapGet {s0 s : State} (h : Keeps s0 s) {a0 : CmdHeader} {a1 : Nat} :
    KeepsOut s0 (execRepairMapGet a0 a1 s) := by
  unfold execRepairMapGet
  try dsimp only
  repeat' (with_reducible first | assumption | refine keeps_command ?_ (fun u hu => ?_) | refine keeps_cmdOk ?_)

theorem keeps_execCoreReplace {s0 s : State} (h : Keeps s0 s) {a0 : CmdHeader} {a1 : Nat} :
    KeepsOut s0 (execCoreReplace a0 a1 s) := by
  unfold execCoreReplace
  try dsimp only
  repeat' (first
      | (with_reducible first
        | assumption | refine keeps_command ?_ (fun u hu => ?_) | refine keeps_cmdFail ?_ | refine keeps_modOutstanding ?_
        | refine keeps_pollReplace ?_ | refine KeepsRes.ite ?_ ?_)
      | split | with_reducible refine KeepsRes.mk ?_)

theorem keeps_execFullTest {s0 s : State} (h : Keeps s0 s) {a0 : CmdHeader} {a1 : Nat} {a2 : List Nat} :
    KeepsOut s0 (execFullTest a0 a1 a2 s) := by
  unfold execFullTest
  try dsimp only
  repeat' (first
      | (with_reducible first
        | assumption | refine keeps_command ?_ (fun u hu => ?_) | refine keeps_cmdFail ?_ | refine keeps_modOutstanding ?_
        | refine KeepsRes.ite ?_ ?_ | refine KeepsRes.mk ?_ | refine Keeps.upd ?_ rfl rfl rfl ?_ ?_)
      | exact Nat.le_refl _ | exact FusesRise.same rfl rfl rfl)

/-! ### HostScript -/

theorem keeps_channelSpace {s0 s : State} (h : Keeps s0 s) {a1 : Script} {a2 : Nat} : Keeps s0 (s.channelSpace a1 a2) := by
  unfold State.channelSpace
  try dsimp only
  repeat' (with_reducible first | assumption | refine keeps_setFld ?_ | refine Keeps.foldl _ ?_ (fun u x hu => ?_))

theorem keeps_endStreams {s0 s : State} (h : Keeps s0 s) {a1 : Script} : Keeps s0 (s.endStreams a1) := by
  unfold State.endStreams
  try dsimp only
  repeat' (with_reducible first
      | assumption | refine keeps_saDisable ?_ | refine keeps_setFld ?_ | refine Keeps.ite ?_ ?_
      | refine Keeps.foldl _ ?_ (fun u x hu => ?_))

theorem keeps_endRun {s0 s : State} (h : Keeps s0 s) {a1 : Nat} : Keeps s0 (s.endRun a1) := by
  unfold State.endRun
  try dsimp only
  repeat' (first | (with_reducible first | assumption | refine keeps_endStreams ?_ | refine keeps_stopScript ?_) | split)

theorem keeps_grantPool {s0 s : State} (h : Keeps s0 s) {a1 a2 a3 : Nat} {a4 : List (Nat × Nat)} :
    Keeps s0 (s.grantPool a1 a2 a3 a4) := by
  unfold State.grantPool
  try dsimp only
  repeat' (with_reducible first
      | assumption | refine keeps_setFld ?_ | refine keeps_setReg ?_ | refine keeps_poolReset ?_
      | refine Keeps.foldl _ ?_ (fun u x hu => ?_))

theorem keeps_grantPools {s0 s : State} (h : Keeps s0 s) {a1 a2 : Nat} {a3 : List (Nat × List (Nat × Nat))} :
    Keeps s0 (s.grantPools a1 a2 a3) := by
  fun_induction State.grantPools s a1 a2 a3 <;> repeat' (with_reducible first
      | assumption | refine keeps_grantPool ?_ | apply_assumption)

theorem keeps_powerWays {s0 s : State} (h : Keeps s0 s) {a1 : Nat} : Keeps s0 (s.powerWays a1) := by
  unfold State.powerWays
  try dsimp only
  repeat' (with_reducible first | assumption | refine keeps_setWayCfg ?_)

theorem keeps_powerBanks {s0 s : State} (h : Keeps s0 s) {a1 : List Nat} : Keeps s0 (s.powerBanks a1) := by
  unfold State.powerBanks
  try dsimp only
  repeat' (with_reducible first
      | assumption | refine keeps_setBankOn ?_ | refine keeps_setFld ?_ | refine Keeps.foldl _ ?_ (fun u x hu => ?_))

theorem keeps_pinOps {s0 s : State} (h : Keeps s0 s) : Keeps s0 (s.pinOps) := by
  unfold State.pinOps
  try dsimp only
  repeat' (with_reducible first
      | assumption | refine keeps_settle ?_ | refine keeps_setReqOp ?_ | refine Keeps.foldl _ ?_ (fun u x hu => ?_))

theorem keeps_writeRecord {s0 s : State} (h : Keeps s0 s) {a1 : List Byte} : Keeps s0 (s.writeRecord a1) := by
  unfold State.writeRecord
  try dsimp only
  repeat' (with_reducible first
      | assumption | refine keeps_setReg ?_ | refine keeps_setFld ?_ | refine Keeps.foldl _ ?_ (fun u x hu => ?_))

theorem keeps_grantChains {s0 s : State} (h : Keeps s0 s) {a1 : Script} : Keeps s0 (s.grantChains a1) := by
  unfold State.grantChains
  try dsimp only
  repeat' (first
      | (with_reducible first | assumption | refine keeps_setFld ?_ | refine Keeps.foldl _ ?_ (fun u x hu => ?_))
      | split)

theorem keeps_writeEntries {s0 s : State} (h : Keeps s0 s) {a1 : ScriptDecl} : Keeps s0 (s.writeEntries a1) := by
  unfold State.writeEntries
  try dsimp only
  repeat' (with_reducible first | assumption | refine keeps_setFld ?_ | refine Keeps.foldl _ ?_ (fun u x hu => ?_))

theorem keeps_initScript {s0 s : State} (h : Keeps s0 s) {a1 : Script} : Keeps s0 (s.initScript a1) := by
  unfold State.initScript
  try dsimp only
  repeat' (with_reducible first
      | assumption | refine keeps_loadCode ?_ | refine keeps_writeRecord ?_ | refine keeps_grantChains ?_
      | refine keeps_writeEntries ?_ | refine Keeps.foldl _ ?_ (fun u x hu => ?_))

theorem keeps_shareContexts {s0 s : State} (h : Keeps s0 s) {a1 : List Nat} : Keeps s0 (s.shareContexts a1) := by
  unfold State.shareContexts
  try dsimp only
  repeat' (with_reducible first | assumption | refine keeps_setFld ?_ | refine Keeps.foldl _ ?_ (fun u x hu => ?_))

theorem keeps_shareTags {s0 s : State} (h : Keeps s0 s) {a1 : List Nat} : Keeps s0 (s.shareTags a1) := by
  unfold State.shareTags
  try dsimp only
  repeat' (with_reducible first | assumption | refine keeps_setTag ?_ | refine Keeps.foldl _ ?_ (fun u x hu => ?_))

theorem keeps_grant {s0 s : State} (h : Keeps s0 s) {a1 a2 : Nat} {a3 : ScriptDecl} {a4 : List Byte} :
    Keeps s0 (s.grant a1 a2 a3 a4) := by
  unfold State.grant
  try dsimp only
  repeat' (with_reducible first
      | assumption | refine keeps_grantPools ?_ | refine keeps_setScript ?_ | refine keeps_setFld ?_
      | refine keeps_barReset ?_ | refine keeps_setReg ?_ | refine keeps_setWindow ?_ | refine keeps_powerWays ?_
      | refine keeps_powerBanks ?_ | refine keeps_pinOps ?_ | refine keeps_channelSpace ?_ | refine keeps_initScript ?_
      | refine keeps_shareContexts ?_ | refine keeps_shareTags ?_ | refine Keeps.foldl _ ?_ (fun u x hu => ?_))

theorem keeps_handRequest {s0 s : State} (h : Keeps s0 s) {a1 : Outstanding} : Keeps s0 (s.handRequest a1) := by
  unfold State.handRequest
  try dsimp only
  repeat' (first
      | (with_reducible first
        | assumption | refine keeps_taskStart ?_ | refine keeps_modOutstanding ?_ | refine keeps_setScript ?_
        | refine Keeps.ite ?_ ?_ | refine Keeps.foldl _ ?_ (fun u x hu => ?_))
      | split)

theorem keeps_pollSubmit {s0 s : State} (h : Keeps s0 s) {a1 : Outstanding} : Keeps s0 (s.pollSubmit a1) := by
  unfold State.pollSubmit
  try dsimp only
  repeat' (first
      | (with_reducible first
        | assumption | refine keeps_replyTo ?_ | refine keeps_handRequest ?_ | refine keeps_free ?_
        | refine keeps_setScript ?_ | refine Keeps.ite ?_ ?_)
      | split)

theorem keeps_stopDue {s0 s : State} (h : Keeps s0 s) : Keeps s0 (s.stopDue) := by
  unfold State.stopDue
  try dsimp only
  repeat' (with_reducible first
      | assumption | refine keeps_endRun ?_ | refine Keeps.ite ?_ ?_ | refine Keeps.foldl _ ?_ (fun u x hu => ?_))

theorem keeps_runScript {s0 s : State} (h : Keeps s0 s) {a1 a2 : Nat} : Keeps s0 (s.runScript a1 a2) := by
  unfold State.runScript
  try dsimp only
  repeat' (first
      | (with_reducible first
        | assumption | refine keeps_setFld ?_ | refine keeps_bindSheet ?_ | refine keeps_startStreams ?_
        | refine Keeps.foldl _ ?_ (fun u x hu => ?_))
      | split)

theorem keeps_ungrant {s0 s : State} (h : Keeps s0 s) {a1 : Nat} : Keeps s0 (s.ungrant a1) := by
  unfold State.ungrant
  try dsimp only
  repeat' (first
      | (with_reducible first
        | assumption | refine keeps_abortChannels ?_ | refine keeps_dropCues ?_ | refine keeps_setFld ?_
        | refine keeps_poolReset ?_ | refine keeps_setHq ?_ | refine keeps_setWindow ?_ | refine keeps_pinOps ?_
        | refine keeps_shareContexts ?_ | refine keeps_shareTags ?_ | refine keeps_powerWays ?_ | refine keeps_powerBanks ?_
        | refine Keeps.ite ?_ ?_ | refine Keeps.foldl _ ?_ (fun u x hu => ?_))
      | split | with_reducible refine Keeps.updSame ?_ rfl rfl rfl rfl rfl)

theorem keeps_execLoadScript {s0 s : State} (h : Keeps s0 s) {a0 : CmdHeader} {a1 a2 a3 : Nat} {a4 : ScriptDecl} :
    KeepsOut s0 (execLoadScript a0 a1 a2 a3 a4 s) := by
  unfold execLoadScript
  try dsimp only
  repeat' (first
      | (with_reducible first
        | assumption | refine keeps_command ?_ (fun u hu => ?_) | refine keeps_cmdFail ?_ | refine keeps_tvaRead ?_
        | refine keeps_grant ?_ | refine keeps_lichenFw ?_ | refine keeps_cmdOk ?_ | refine Keeps.ite ?_ ?_
        | refine KeepsRes.ite ?_ ?_ | refine Keeps.ofSnd ?_ (by assumption))
      | split
      | (with_reducible first | refine KeepsRes.mk ?_ | refine Keeps.upd ?_ rfl rfl rfl ?_ ?_)
      | exact Nat.le_refl _ | exact FusesRise.same rfl rfl rfl)

theorem keeps_execUnloadScript {s0 s : State} (h : Keeps s0 s) {a0 : CmdHeader} {a1 : Nat} :
    KeepsOut s0 (execUnloadScript a0 a1 s) := by
  unfold execUnloadScript
  try dsimp only
  repeat' (first
      | (with_reducible first
        | assumption | refine keeps_command ?_ (fun u hu => ?_) | refine keeps_cmdFail ?_ | refine keeps_cmdOk ?_
        | refine keeps_ungrant ?_ | refine KeepsRes.ite ?_ ?_)
      | dsimp only | split)

theorem keeps_execRun {s0 s : State} (h : Keeps s0 s) {a0 : CmdHeader} {a1 a2 : Nat} : KeepsOut s0 (execRun a0 a1 a2 s) := by
  unfold execRun
  try dsimp only
  repeat' (first
      | (with_reducible first
        | assumption | refine keeps_command ?_ (fun u hu => ?_) | refine keeps_cmdFail ?_ | refine keeps_cmdOk ?_
        | refine keeps_runScript ?_ | refine KeepsRes.ite ?_ ?_)
      | dsimp only | split)

theorem keeps_execStop {s0 s : State} (h : Keeps s0 s) {a0 : CmdHeader} {a1 a2 : Nat} :
    KeepsOut s0 (execStop a0 a1 a2 s) := by
  unfold execStop
  try dsimp only
  repeat' (first
      | (with_reducible first
        | assumption | refine keeps_command ?_ (fun u hu => ?_) | refine keeps_cmdFail ?_ | refine keeps_cmdOk ?_
        | refine keeps_endRun ?_ | refine keeps_setScript ?_ | refine KeepsRes.ite ?_ ?_)
      | dsimp only | split)

theorem keeps_execSubmit {s0 s : State} (h : Keeps s0 s) {a0 : CmdHeader} {a1 a2 : Nat} {a3 a4 a5 : Nat} :
    KeepsOut s0 (execSubmit a0 a1 a2 a3 a4 a5 s) := by
  unfold execSubmit
  try dsimp only
  repeat' (first
      | (with_reducible first
        | assumption | refine keeps_command ?_ (fun u hu => ?_) | refine keeps_cmdFail ?_ | refine keeps_modOutstanding ?_
        | refine keeps_handRequest ?_ | refine KeepsRes.ite ?_ ?_)
      | dsimp only | split | with_reducible refine KeepsRes.mk ?_)

theorem keeps_execScriptStatus {s0 s : State} (h : Keeps s0 s) {a0 : CmdHeader} {a1 : Nat} :
    KeepsOut s0 (execScriptStatus a0 a1 s) := by
  unfold execScriptStatus
  try dsimp only
  repeat' (first
      | (with_reducible first
        | assumption | refine keeps_command ?_ (fun u hu => ?_) | refine keeps_cmdFail ?_ | refine keeps_gather ?_
        | refine keeps_cmdOk ?_)
      | dsimp only | split)

theorem keeps_execRestart {s0 s : State} (h : Keeps s0 s) {a0 : CmdHeader} {a1 : Nat} :
    KeepsOut s0 (execRestart a0 a1 s) := by
  unfold execRestart
  try dsimp only
  repeat' (first
      | (with_reducible first
        | assumption | refine keeps_command ?_ (fun u hu => ?_) | refine keeps_cmdFail ?_ | refine keeps_cmdOk ?_
        | refine keeps_setScript ?_ | refine keeps_initScript ?_ | refine KeepsRes.ite ?_ ?_)
      | dsimp only | split)

/-! ### HostSecurity -/

theorem keeps_lifeChange {s0 s : State} (h : Keeps s0 s) {a1 a2 a3 : Nat} : Keeps s0 (s.lifeChange a1 a2 a3) := by
  unfold State.lifeChange
  dsimp only
  refine keeps_lichenFw ?_
  have h1 : Keeps s0 { s with sec := { s.sec with
      blown := s.sec.blown ++ s.nextFuse a1 a2
      revoked := s.sec.revoked ||| a3 } } := h.trans ⟨rfl, id, Nat.le_refl _, ⟨fun _ x => List.mem_append_left _ x, Nat.le_refl _,
    fun n x => by
      have e : bitOf (s.sec.revoked ||| a3) n = (bitOf s.sec.revoked n || bitOf a3 n) := bitOf_or _ _ _
      show bitOf (s.sec.revoked ||| a3) n = true
      rw [e, x]; rfl⟩⟩
  refine Keeps.ite ?_ h1
  have hb : ∀ (l : List Byte) (k : Nat) (u : State), (u.setBytes k l).sec = u.sec := by
    intro l
    induction l with
    | nil => intro k u; rfl
    | cons x l ih => intro k u; exact ih _ _
  refine Keeps.upd (keeps_setBytes h1 (a1 := norPlace 0x3210000) (a2 := (Config.wrappedKeys s.sec.serial).take 65536)) rfl rfl rfl (Nat.le_refl _) ?_
  refine FusesRise.same ?_ ?_ ?_
  · rw [hb]
  · rw [hb]
  · rw [hb]

theorem keeps_updateWrite {s0 s : State} (h : Keeps s0 s) {a1 : Nat} {a2 : List Byte} : Keeps s0 (s.updateWrite a1 a2) := by
  unfold State.updateWrite
  try dsimp only
  repeat' (first
      | (with_reducible first | assumption | refine keeps_norProgram ?_ | refine Keeps.upd ?_ rfl rfl rfl ?_ ?_)
      | exact Nat.le_refl _ | exact FusesRise.same rfl rfl rfl)

theorem keeps_execAttest {s0 s : State} (h : Keeps s0 s) {a0 : CmdHeader} {a1 : List Byte} :
    KeepsOut s0 (execAttest a0 a1 s) := by
  unfold execAttest
  try dsimp only
  repeat' (with_reducible first
      | assumption | refine keeps_command ?_ (fun u hu => ?_) | refine keeps_cmdFail ?_ | refine keeps_cmdOk ?_
      | refine KeepsRes.ite ?_ ?_)

theorem keeps_execFwUpdateBegin {s0 s : State} (h : Keeps s0 s) {a0 : CmdHeader} {a1 a2 : Nat} :
    KeepsOut s0 (execFwUpdateBegin a0 a1 a2 s) := by
  unfold execFwUpdateBegin
  try dsimp only
  repeat' (first
      | (with_reducible first
        | assumption | refine keeps_command ?_ (fun u hu => ?_) | refine keeps_norErase ?_ | refine keeps_cmdOk ?_
        | refine Keeps.upd ?_ rfl rfl rfl ?_ ?_)
      | exact Nat.le_refl _ | exact FusesRise.same rfl rfl rfl)

theorem keeps_execFwUpdateData {s0 s : State} (h : Keeps s0 s) {a0 : CmdHeader} {a1 : Nat} {a2 : List Byte} :
    KeepsOut s0 (execFwUpdateData a0 a1 a2 s) := by
  unfold execFwUpdateData
  try dsimp only
  repeat' (first
      | (with_reducible first
        | assumption | refine keeps_command ?_ (fun u hu => ?_) | refine keeps_cmdFail ?_ | refine keeps_cmdOk ?_
        | refine keeps_updateWrite ?_ | refine KeepsRes.ite ?_ ?_)
      | split)

theorem keeps_execFwUpdateCommit {s0 s : State} (h : Keeps s0 s) {a0 : CmdHeader} :
    KeepsOut s0 (execFwUpdateCommit a0 s) := by
  unfold execFwUpdateCommit
  try dsimp only
  repeat' (first
      | (with_reducible first
        | assumption | refine keeps_command ?_ (fun u hu => ?_) | refine keeps_cmdFail ?_ | refine keeps_setFwSlot ?_
        | refine keeps_norProgram ?_ | refine keeps_cmdOk ?_ | refine KeepsRes.ite ?_ ?_)
      | dsimp only | split | with_reducible refine Keeps.upd ?_ rfl rfl rfl ?_ ?_ | exact Nat.le_refl _
      | exact FusesRise.same rfl rfl rfl)

theorem keeps_execLifecycleToken {s0 s : State} (h : Keeps s0 s) {a0 : CmdHeader} {a1 : List Byte} :
    KeepsOut s0 (execLifecycleToken a0 a1 s) := by
  unfold execLifecycleToken
  try dsimp only
  repeat' (first
      | (with_reducible first
        | assumption | refine keeps_command ?_ (fun u hu => ?_) | refine keeps_cmdFail ?_ | refine keeps_lifeChange ?_
        | refine keeps_cmdOk ?_ | refine KeepsRes.ite ?_ ?_)
      | split)

/-! ### HostOther -/

theorem keeps_poll {s0 s : State} (h : Keeps s0 s) {a1 : Outstanding} : Keeps s0 (s.poll a1) := by
  unfold State.poll
  try dsimp only
  repeat' (first
      | (with_reducible first
        | assumption | refine keeps_pollUnmap ?_ | refine keeps_pollXfer ?_ | refine keeps_pollSubmit ?_
        | refine keeps_pollRead ?_ | refine keeps_pollEntry ?_ | refine keeps_pollRehearse ?_ | refine keeps_pollReplace ?_
        | refine keeps_pollFullTest ?_ | refine Keeps.ite ?_ ?_)
      | split)

theorem keeps_pollAll {s0 s : State} (h : Keeps s0 s) : Keeps s0 (s.pollAll) := by
  unfold State.pollAll
  try dsimp only
  repeat' (with_reducible first | assumption | refine keeps_poll ?_ | refine Keeps.foldl _ ?_ (fun u x hu => ?_))

theorem keeps_wordAt {s0 s : State} (h : Keeps s0 s) {a1 : Nat} : Keeps s0 (s.wordAt a1).2 := by
  unfold State.wordAt
  try dsimp only
  repeat' (first
      | (with_reducible first
        | assumption | refine keeps_regRead ?_ | refine keeps_dpaRead ?_ | refine Keeps.ofSnd ?_ (by assumption))
      | split)

theorem keeps_wordSet {s0 s : State} (h : Keeps s0 s) {a1 : Nat} {a2 a3 a4 : Word} : Keeps s0 (s.wordSet a1 a2 a3 a4).2 := by
  unfold State.wordSet
  try dsimp only
  repeat' (first
      | (with_reducible first
        | assumption | refine keeps_regWrite ?_ | refine keeps_dpaWrite ?_ | refine Keeps.ofOpt ?_ (by assumption))
      | split)

theorem keeps_wordsAt {s0 s : State} (h : Keeps s0 s) {a n : Nat} : Keeps s0 (s.wordsAt a n).2.2 := by
  induction n generalizing s a with
  | zero => exact h
  | succ n ih =>
    unfold State.wordsAt
    split
    · have h1 := Keeps.ofSnd (keeps_wordAt h) (by assumption)
      split
      exact Keeps.ofThird (ih h1) (by assumption)
    · exact Keeps.ofSnd (keeps_wordAt h) (by assumption)

theorem keeps_execFabricStatus {s0 s : State} (h : Keeps s0 s) {a0 : CmdHeader} : KeepsOut s0 (execFabricStatus a0 s) := by
  unfold execFabricStatus
  try dsimp only
  repeat' (with_reducible first
      | assumption | refine keeps_command ?_ (fun u hu => ?_) | refine keeps_gather ?_ | refine keeps_cmdOk ?_)

theorem keeps_execLinkReset {s0 s : State} (h : Keeps s0 s) {a0 : CmdHeader} {a1 : Nat} :
    KeepsOut s0 (execLinkReset a0 a1 s) := by
  unfold execLinkReset
  try dsimp only
  repeat' (with_reducible first
      | assumption | refine keeps_command ?_ (fun u hu => ?_) | refine keeps_cmdOk ?_ | refine keeps_linkReset ?_
      | refine Keeps.ite ?_ ?_)

theorem keeps_execRegRead {s0 s : State} (h : Keeps s0 s) {a0 : CmdHeader} {a1 a2 : Nat} :
    KeepsOut s0 (execRegRead a0 a1 a2 s) := by
  unfold execRegRead
  try dsimp only
  repeat' (first
      | (with_reducible first
        | assumption | refine keeps_command ?_ (fun u hu => ?_) | refine keeps_wordsAt ?_ | refine keeps_cmdOk ?_
        | refine keeps_cmdFail ?_ | refine Keeps.ofThird ?_ (by assumption))
      | dsimp only | split)

theorem keeps_execRegWrite {s0 s : State} (h : Keeps s0 s) {a0 : CmdHeader} {a1 a2 a3 : Nat} :
    KeepsOut s0 (execRegWrite a0 a1 a2 a3 s) := by
  unfold execRegWrite
  try dsimp only
  repeat' (first
      | (with_reducible first
        | assumption | refine keeps_command ?_ (fun u hu => ?_) | refine keeps_wordSet ?_ | refine keeps_cmdOk ?_
        | refine keeps_cmdFail ?_ | refine Keeps.ofSnd ?_ (by assumption))
      | dsimp only | split)

theorem keeps_execFenceUnit {s0 s : State} (h : Keeps s0 s) {a0 : CmdHeader} {a1 a2 : Nat} :
    KeepsOut s0 (execFenceUnit a0 a1 a2 s) := by
  unfold execFenceUnit
  try dsimp only
  repeat' (with_reducible first
      | assumption | refine keeps_command ?_ (fun u hu => ?_) | refine keeps_cmdOk ?_ | refine keeps_fence ?_
      | refine keeps_unfence ?_ | refine Keeps.ite ?_ ?_)

end Sys2Proof.Machine
end

