-- ==== Sys2Proof/Laws/KeepsPower.lean ====
section
/-!
SUPPORT. What every operation and every command keeps (Keeps.lean): power states, the Prompter, USB and the vector cores.
-/
namespace Sys2Proof.Machine

/-! ### Power -/

theorem keeps_enterDark {s0 s : State} (h : Keeps s0 s) : Keeps s0 (s.enterDark) := by
  unfold State.enterDark
  try dsimp only
  repeat' (with_reducible first
      | assumption | refine keeps_toAon ?_ | refine keeps_bootReset ?_ | refine Keeps.ite ?_ ?_
      | refine Keeps.updSame ?_ rfl rfl rfl rfl rfl)

theorem keeps_sleepOff {s0 s : State} (h : Keeps s0 s) : Keeps s0 s.sleepOff := by
  unfold State.sleepOff
  extract_lets s1 s2 s3
  have h1 : Keeps s0 s1 := Keeps.foldl _ (keeps_discardFrames h) (fun u x hu => Keeps.ite hu
    ((keeps_setFld hu).trans ⟨rfl, id, Nat.le_refl _, FusesRise.same rfl rfl rfl⟩))
  have h2 : Keeps s0 s2 := Keeps.foldl _ h1 (fun u x hu => keeps_setFld (keeps_setReg (keeps_setReg (keeps_setFrond (keeps_setSboard hu)))))
  have h3 : Keeps s0 s3 := keeps_setReg (keeps_setReg h2)
  exact Keeps.updFilter h3 rfl rfl rfl rfl rfl

theorem keeps_enterSleep {s0 s : State} (h : Keeps s0 s) : Keeps s0 (s.enterSleep) := by
  unfold State.enterSleep
  try dsimp only
  repeat' (first
      | (with_reducible first
        | assumption | refine keeps_loseAlign ?_ | refine keeps_sleepOff ?_ | refine keeps_setFld ?_
        | refine keeps_acceptWake ?_)
      | split | with_reducible refine Keeps.updSame ?_ rfl rfl rfl rfl rfl)

theorem keeps_entryStep {s0 s : State} (h : Keeps s0 s) {a1 : Nat} : Keeps s0 (s.entryStep a1) := by
  unfold State.entryStep
  try dsimp only
  repeat' (with_reducible first | assumption | refine Keeps.updSame ?_ rfl rfl rfl rfl rfl)

theorem keeps_stopStreams {s0 s : State} (h : Keeps s0 s) : Keeps s0 (s.stopStreams) := by
  unfold State.stopStreams
  try dsimp only
  repeat' (with_reducible first
      | assumption | refine keeps_saDisable ?_ | refine keeps_setFld ?_ | refine Keeps.ite ?_ ?_
      | refine Keeps.foldl _ ?_ (fun u x hu => ?_))

theorem keeps_goodbyes {s0 s : State} (h : Keeps s0 s) : Keeps s0 (s.goodbyes) := by
  unfold State.goodbyes
  try dsimp only
  repeat' (with_reducible first
      | assumption | refine keeps_handLink ?_ | refine Keeps.ite ?_ ?_ | refine Keeps.foldl _ ?_ (fun u x hu => ?_))

theorem keeps_stopWork {s0 s : State} (h : Keeps s0 s) {a1 : Bool} : Keeps s0 (s.stopWork a1) := by
  unfold State.stopWork
  try dsimp only
  repeat' (with_reducible first
      | assumption | refine keeps_stopStreams ?_ | refine keeps_sliceAbort ?_ | refine keeps_suspendScript ?_
      | refine keeps_stopScript ?_ | refine keeps_dmaAbort ?_ | refine keeps_wingsSleep ?_ | refine keeps_goodbyes ?_
      | refine Keeps.ite ?_ ?_ | refine Keeps.foldl _ ?_ (fun u x hu => ?_))

theorem keeps_entryWork {s0 s : State} (h : Keeps s0 s) {a1 : PowerEntry} : Keeps s0 (s.entryWork a1) := by
  unfold State.entryWork
  try dsimp only
  repeat' (first
      | (with_reducible first
        | assumption | refine keeps_entryStep ?_ | refine keeps_stopWork ?_ | refine keeps_recordOngoing ?_
        | refine keeps_audit ?_ | refine keeps_pushCue ?_ | refine Keeps.ite ?_ ?_)
      | split)

theorem keeps_postWatch {s0 s : State} (h : Keeps s0 s) : Keeps s0 (s.postWatch) := by
  unfold State.postWatch
  try dsimp only
  repeat' (first
      | (with_reducible first
        | assumption | refine keeps_postEvent ?_ | refine keeps_setPort ?_ | refine Keeps.foldl _ ?_ (fun u x hu => ?_))
      | split)

theorem keeps_powerStores {s0 s : State} (h : Keeps s0 s) : Keeps s0 (s.powerStores) := by
  unfold State.powerStores
  try dsimp only
  repeat' (with_reducible first
      | assumption | refine keeps_setBankOn ?_ | refine keeps_setWayTrans ?_ | refine Keeps.ite ?_ ?_
      | refine Keeps.foldl _ ?_ (fun u x hu => ?_))

theorem keeps_resetPrompter {s0 s : State} (h : Keeps s0 s) : Keeps s0 (s.resetPrompter) := by
  unfold State.resetPrompter
  try dsimp only
  repeat' (with_reducible first | assumption | refine keeps_setReg ?_ | refine Keeps.updSame ?_ rfl rfl rfl rfl rfl)

theorem keeps_resumeScript {s0 s : State} (h : Keeps s0 s) {a1 : Nat} : Keeps s0 (s.resumeScript a1) := by
  unfold State.resumeScript
  try dsimp only
  repeat' (first
      | (with_reducible first
        | assumption | refine keeps_setFld ?_ | refine keeps_taskStart ?_ | refine keeps_bindSheet ?_
        | refine keeps_startStreams ?_ | refine Keeps.ite ?_ ?_ | refine Keeps.foldl _ ?_ (fun u x hu => ?_))
      | split)

theorem keeps_execIdleEntry {s0 s : State} (h : Keeps s0 s) : KeepsOut s0 (execIdleEntry s) := by
  unfold execIdleEntry
  try dsimp only
  repeat' (with_reducible first
      | assumption | refine KeepsOut.next ?_ | refine KeepsOut.ite ?_ ?_ | refine Keeps.updSame ?_ rfl rfl rfl rfl rfl)

theorem keeps_execIdleExit {s0 s : State} (h : Keeps s0 s) : KeepsOut s0 (execIdleExit s) := by
  unfold execIdleExit
  try dsimp only
  repeat' (with_reducible first
      | assumption | refine KeepsOut.next ?_ | refine KeepsOut.ite ?_ ?_ | refine Keeps.updSame ?_ rfl rfl rfl rfl rfl)

theorem keeps_execSleepEntry {s0 s : State} (h : Keeps s0 s) : KeepsOut s0 (execSleepEntry s) := by
  unfold execSleepEntry
  try dsimp only
  repeat' (first
      | (with_reducible first
        | assumption | refine KeepsOut.next ?_ | refine keeps_entryWork ?_ | refine keeps_entryStep ?_
        | refine keeps_enterSleep ?_ | refine Keeps.ite ?_ ?_ | refine KeepsOut.ite ?_ ?_
        | refine Keeps.updSame ?_ rfl rfl rfl rfl rfl)
      | split)

theorem keeps_execDarkEntry {s0 s : State} (h : Keeps s0 s) : KeepsOut s0 (execDarkEntry s) := by
  unfold execDarkEntry
  try dsimp only
  repeat' (first
      | (with_reducible first
        | assumption | refine KeepsOut.next ?_ | refine keeps_entryWork ?_ | refine keeps_entryStep ?_
        | refine keeps_lichenDark ?_ | refine keeps_enterDark ?_ | refine KeepsOut.ite ?_ ?_)
      | split)

theorem keeps_execWakeSource {s0 s : State} (h : Keeps s0 s) {a0 : Fin 6} : KeepsOut s0 (execWakeSource a0 s) := by
  unfold execWakeSource
  try dsimp only
  repeat' (with_reducible first | assumption | refine KeepsOut.next ?_ | refine keeps_wakeFire ?_)

theorem keeps_execWakeComplete {s0 s : State} (h : Keeps s0 s) : KeepsOut s0 (execWakeComplete s) := by
  unfold execWakeComplete
  try dsimp only
  repeat' (with_reducible first
      | assumption | refine KeepsOut.next ?_ | refine keeps_discardFrames ?_ | refine keeps_retrain ?_
      | refine keeps_powerStores ?_ | refine keeps_refill ?_ | refine keeps_resumeScript ?_ | refine keeps_postWatch ?_
      | refine keeps_postWake ?_ | refine Keeps.ite ?_ ?_ | refine KeepsOut.ite ?_ ?_
      | refine Keeps.foldl _ ?_ (fun u x hu => ?_) | refine Keeps.updSame ?_ rfl rfl rfl rfl rfl)

theorem keeps_execWatchdogKick {s0 s : State} (h : Keeps s0 s) : KeepsOut s0 (execWatchdogKick s) := by
  unfold execWatchdogKick
  try dsimp only
  repeat' (with_reducible first | assumption | refine KeepsOut.next ?_ | refine Keeps.updSame ?_ rfl rfl rfl rfl rfl)

theorem keeps_execWatchdogExpire {s0 s : State} (h : Keeps s0 s) : KeepsOut s0 (execWatchdogExpire s) := by
  unfold execWatchdogExpire
  try dsimp only
  repeat' (with_reducible first
      | assumption | refine KeepsOut.next ?_ | refine keeps_alert ?_ | refine keeps_bootReset ?_ | refine keeps_lichenFw ?_
      | refine KeepsOut.ite ?_ ?_)

theorem keeps_execRstNAssert {s0 s : State} (h : Keeps s0 s) : KeepsOut s0 (execRstNAssert s) := by
  unfold execRstNAssert
  try dsimp only
  repeat' (with_reducible first | assumption | refine KeepsOut.next ?_ | refine keeps_bootReset ?_)

theorem power_on_reset (s : State) : ∃ t, execPowerOnReset s = .next t ∧ t.pending = s.pending ∧ (s.canon → t.canon) ∧ FusesRise s t := by
  unfold execPowerOnReset
  extract_lets t
  refine ⟨_, rfl, rfl, fun c => ?_, ⟨fun _ x => x, Nat.le_refl _, fun _ x => x⟩⟩
  exact ⟨Cells.wf_set _ _ _ _ rfl, Cells.wf_filter _ _ _ c.2⟩

theorem keeps_execPrompterReset {s0 s : State} (h : Keeps s0 s) : KeepsOut s0 (execPrompterReset s) := by
  unfold execPrompterReset
  try dsimp only
  repeat' (with_reducible first
      | assumption | refine KeepsOut.next ?_ | refine keeps_resetPrompter ?_ | refine Keeps.ite ?_ ?_)

theorem keeps_execUvWarn {s0 s : State} (h : Keeps s0 s) {a0 : Nat} : KeepsOut s0 (execUvWarn a0 s) := by
  unfold execUvWarn
  try dsimp only
  repeat' (with_reducible first
      | assumption | refine KeepsOut.next ?_ | refine keeps_lichenFw ?_ | refine keeps_alert ?_ | refine KeepsOut.ite ?_ ?_
      | refine Keeps.updSame ?_ rfl rfl rfl rfl rfl)

theorem keeps_execUvShutdown {s0 s : State} (h : Keeps s0 s) {a0 : Nat} : KeepsOut s0 (execUvShutdown a0 s) := by
  unfold execUvShutdown
  try dsimp only
  repeat' (with_reducible first
      | assumption | refine KeepsOut.next ?_ | refine keeps_lichenUv ?_ | refine keeps_setReg ?_ | refine keeps_enterDark ?_
      | refine KeepsOut.ite ?_ ?_ | refine Keeps.updSame ?_ rfl rfl rfl rfl rfl)

theorem keeps_execUvRecover {s0 s : State} (h : Keeps s0 s) {a0 : Nat} : KeepsOut s0 (execUvRecover a0 s) := by
  unfold execUvRecover
  try dsimp only
  repeat' (with_reducible first
      | assumption | refine KeepsOut.next ?_ | refine keeps_bootReset ?_ | refine Keeps.ite ?_ ?_ | refine KeepsOut.ite ?_ ?_
      | refine Keeps.updSame ?_ rfl rfl rfl rfl rfl)

theorem keeps_execSmbWake {s0 s : State} (h : Keeps s0 s) : KeepsOut s0 (execSmbWake s) := by
  unfold execSmbWake
  try dsimp only
  repeat' (with_reducible first | assumption | refine KeepsOut.next ?_ | refine keeps_wakeFire ?_ | refine Keeps.ite ?_ ?_)

theorem keeps_execPrompterRestartDone {s0 s : State} (h : Keeps s0 s) : KeepsOut s0 (execPrompterRestartDone s) := by
  unfold execPrompterRestartDone
  try dsimp only
  repeat' (first
      | (with_reducible first
        | assumption | refine KeepsOut.next ?_ | refine keeps_scriptFault ?_ | refine keeps_startPrompter ?_
        | refine keeps_lichenFw ?_ | refine keeps_endCommands ?_ | refine Keeps.foldl _ ?_ (fun u x hu => ?_)
        | refine Keeps.updSame ?_ rfl rfl rfl rfl rfl)
      | split)

/-! ### Idle -/

theorem keeps_noteWork {s0 s : State} (h : Keeps s0 s) : Keeps s0 (s.noteWork) := by
  unfold State.noteWork
  try dsimp only
  repeat' (with_reducible first | assumption | refine Keeps.ite ?_ ?_ | refine Keeps.updSame ?_ rfl rfl rfl rfl rfl)

theorem keeps_quiet {s0 s : State} (h : Keeps s0 s) : Keeps s0 (s.quiet) := by
  unfold State.quiet
  try dsimp only
  repeat' (with_reducible first
      | assumption | refine keeps_idleTick ?_ | refine keeps_noteWork ?_ | refine keeps_stopDue ?_ | refine keeps_pollAll ?_)

theorem keeps_takeHeld {s0 s : State} (h : Keeps s0 s) {a1 : Nat} : Keeps s0 (s.takeHeld a1) := by
  unfold State.takeHeld
  try dsimp only
  repeat' (with_reducible first | assumption | refine Keeps.updSame ?_ rfl rfl rfl rfl rfl)

/-! ### Prompter -/

theorem keeps_setW {s0 s : State} (h : Keeps s0 s) {a1 a2 a3 : Nat} : Keeps s0 (s.setW a1 a2 a3) := by
  unfold State.setW
  try dsimp only
  repeat' (with_reducible first | assumption | refine Keeps.updSame ?_ rfl rfl rfl rfl rfl)

theorem keeps_promptArith {s0 s : State} (h : Keeps s0 s) {a1 : PromptAlu} {a2 a3 a4 : Nat} :
    KeepsPr s0 (s.promptArith a1 a2 a3 a4) := by
  unfold State.promptArith
  try dsimp only
  repeat' (first
      | (with_reducible first
        | refine KeepsPr.ok ?_ | exact KeepsPr.fault | assumption | refine keeps_setW ?_ | refine KeepsPr.ite ?_ ?_)
      | split)

theorem keeps_promptCmp {s0 s : State} (h : Keeps s0 s) {a1 : Bool} {a2 a3 : Nat} : KeepsPr s0 (s.promptCmp a1 a2 a3) := by
  unfold State.promptCmp
  try dsimp only
  repeat' (with_reducible first
      | refine KeepsPr.ok ?_ | exact KeepsPr.fault | assumption | refine KeepsPr.ite ?_ ?_
      | refine Keeps.updSame ?_ rfl rfl rfl rfl rfl)

theorem keeps_promptCue {s0 s : State} (h : Keeps s0 s) {a1 : Bool} {a2 a3 a4 : Nat} :
    KeepsPr s0 (s.promptCue a1 a2 a3 a4) := by
  unfold State.promptCue
  try dsimp only
  repeat' (with_reducible first
      | refine KeepsPr.ok ?_ | exact KeepsPr.fault | assumption | refine keeps_setW ?_ | refine KeepsPr.ite ?_ ?_)

theorem keeps_promptHandle {s0 s : State} (h : Keeps s0 s) {a1 : PromptHandleOp} {a2 a3 a4 : Nat} :
    KeepsPr s0 (s.promptHandle a1 a2 a3 a4) := by
  unfold State.promptHandle
  try dsimp only
  repeat' (first
      | (with_reducible first
        | refine KeepsPr.ok ?_ | exact KeepsPr.fault | assumption | refine keeps_noteHq ?_ | refine keeps_setW ?_
        | refine keeps_hqAlloc ?_ | refine keeps_hqPush ?_ | refine keeps_hqPop ?_ | refine keeps_hqFree ?_
        | refine keeps_hqFill ?_ | refine keeps_dmaLaunch ?_ | refine keeps_dmaAbort ?_ | refine keeps_dmaResume ?_
        | refine Keeps.ite ?_ ?_ | refine KeepsPr.ite ?_ ?_)
      | split)

theorem keeps_promptLoad {s0 s : State} (h : Keeps s0 s) {a1 a2 : Nat} : KeepsPr s0 (s.promptLoad a1 a2) := by
  unfold State.promptLoad
  try dsimp only
  repeat' (first
      | (with_reducible first
        | refine KeepsPr.ok ?_ | exact KeepsPr.fault | exact KeepsPr.waits | assumption | refine keeps_regRead ?_
        | refine keeps_setW ?_ | refine keeps_dpaRead ?_ | refine KeepsPr.ite ?_ ?_ | refine Keeps.ofSnd ?_ (by assumption)
        | refine Keeps.updSame ?_ rfl rfl rfl rfl rfl)
      | split)

theorem keeps_promptStore {s0 s : State} (h : Keeps s0 s) {a1 a2 : Nat} : KeepsPr s0 (s.promptStore a1 a2) := by
  unfold State.promptStore
  try dsimp only
  repeat' (first
      | (with_reducible first
        | refine KeepsPr.ok ?_ | exact KeepsPr.fault | exact KeepsPr.waits | assumption | refine keeps_regWrite ?_
        | refine keeps_dpaWrite ?_ | refine KeepsOpt.getD ?_ ?_ | refine KeepsPr.ite ?_ ?_
        | refine Keeps.ofSnd ?_ (by assumption) | refine Keeps.updSame ?_ rfl rfl rfl rfl rfl)
      | split)

theorem keeps_promptPush {s0 s : State} (h : Keeps s0 s) {a1 : QueueId} {a2 a3 : Nat} {a4 a5 : Nat} :
    KeepsPr s0 (s.promptPush a1 a2 a3 a4 a5) := by
  unfold State.promptPush
  try dsimp only
  repeat' (with_reducible first
      | refine KeepsPr.ok ?_ | exact KeepsPr.fault | assumption | refine keeps_pushCue ?_ | refine KeepsPr.ite ?_ ?_)

theorem keeps_promptStage {s0 s : State} (h : Keeps s0 s) {a1 a2 : Nat} {a3 a4 a5 : Nat} :
    KeepsPr s0 (s.promptStage a1 a2 a3 a4 a5) := by
  unfold State.promptStage
  try dsimp only
  repeat' (first
      | (with_reducible first
        | refine KeepsPr.ok ?_ | exact KeepsPr.fault | assumption | refine keeps_stageAll ?_ | refine keeps_setW ?_
        | refine KeepsPr.ite ?_ ?_ | refine Keeps.ofStg ?_ (by assumption))
      | split)

theorem keeps_promptOp {s0 s : State} (h : Keeps s0 s) {a1 : PromptOp} : KeepsPr s0 (s.promptOp a1) := by
  unfold State.promptOp
  try dsimp only
  repeat' (first
      | (with_reducible first
        | refine KeepsPr.ok ?_ | refine KeepsPr.go ?_ | exact KeepsPr.fault | assumption | refine keeps_promptArith ?_
        | refine keeps_promptCmp ?_ | refine keeps_promptLoad ?_ | refine keeps_promptStore ?_ | refine keeps_setW ?_
        | refine keeps_promptHandle ?_ | refine keeps_promptPush ?_ | refine keeps_promptCue ?_ | refine keeps_promptStage ?_
        | refine KeepsPr.ite ?_ ?_ | refine Keeps.updSame ?_ rfl rfl rfl rfl rfl)
      | split)

theorem keeps_tagFault {s0 s : State} (h : Keeps s0 s) : Keeps s0 (s.tagFault) := by
  unfold State.tagFault
  try dsimp only
  repeat' (with_reducible first
      | assumption | refine keeps_lichenHw ?_ | refine keeps_resetPrompter ?_ | refine Keeps.ite ?_ ?_
      | refine Keeps.updSame ?_ rfl rfl rfl rfl rfl)

theorem keeps_execPrompterOpIssue {s0 s : State} (h : Keeps s0 s) {a0 : PromptOp} :
    KeepsOut s0 (execPrompterOpIssue a0 s) := by
  unfold execPrompterOpIssue
  try dsimp only
  repeat' (first
      | (with_reducible first
        | assumption | refine KeepsOut.next ?_ | refine keeps_promptOp ?_ | refine keeps_tagFault ?_
        | refine KeepsOut.ite ?_ ?_ | refine Keeps.ofPrOk ?_ (by assumption) | refine Keeps.ofPrGo ?_ (by assumption))
      | split | with_reducible refine Keeps.updSame ?_ rfl rfl rfl rfl rfl)

/-! ### Usb -/

theorem keeps_setUsbLink {s0 s : State} (h : Keeps s0 s) {a1 : Nat} : Keeps s0 (s.setUsbLink a1) := by
  unfold State.setUsbLink
  try dsimp only
  repeat' (with_reducible first | assumption | refine keeps_setFld ?_)

theorem keeps_usbTraffic {s0 s : State} (h : Keeps s0 s) : Keeps s0 (s.usbTraffic) := by
  unfold State.usbTraffic
  try dsimp only
  repeat' (with_reducible first
      | assumption | refine keeps_setUsbLink ?_ | refine Keeps.ite ?_ ?_ | refine Keeps.updSame ?_ rfl rfl rfl rfl rfl)

theorem keeps_execUsbAttach {s0 s : State} (h : Keeps s0 s) {a0 : Fin 7} : KeepsOut s0 (execUsbAttach a0 s) := by
  unfold execUsbAttach
  try dsimp only
  repeat' (with_reducible first
      | assumption | refine KeepsOut.next ?_ | refine keeps_wakeFire ?_ | refine keeps_setFld ?_ | refine keeps_setUsbLink ?_
      | refine keeps_lichenFw ?_ | refine Keeps.ite ?_ ?_ | refine KeepsOut.ite ?_ ?_
      | refine Keeps.updSame ?_ rfl rfl rfl rfl rfl)

theorem keeps_execUsbReset {s0 s : State} (h : Keeps s0 s) {a0 : Fin 3} : KeepsOut s0 (execUsbReset a0 s) := by
  unfold execUsbReset
  try dsimp only
  repeat' (with_reducible first
      | assumption | refine KeepsOut.next ?_ | refine keeps_setFld ?_ | refine keeps_count ?_ | refine keeps_endCommands ?_
      | refine keeps_setUsbLink ?_ | refine keeps_lichenFw ?_ | refine Keeps.ite ?_ ?_ | refine KeepsOut.ite ?_ ?_
      | refine Keeps.updSame ?_ rfl rfl rfl rfl rfl)

theorem keeps_execClearEndpointHalt {s0 s : State} (h : Keeps s0 s) {a0 : Fin 4} {a1 : Bool} :
    KeepsOut s0 (execClearEndpointHalt a0 a1 s) := by
  unfold execClearEndpointHalt
  try dsimp only
  repeat' (with_reducible first
      | assumption | refine KeepsOut.next ?_ | refine keeps_stopXfer ?_ | refine KeepsOut.ite ?_ ?_
      | refine Keeps.foldl _ ?_ (fun u x hu => ?_) | refine Keeps.updSame ?_ rfl rfl rfl rfl rfl)

theorem keeps_execEp2OutData {s0 s : State} (h : Keeps s0 s) {a0 : Fin 16} {a1 : List Byte} {a2 : Nat} :
    KeepsOut s0 (execEp2OutData a0 a1 a2 s) := by
  unfold execEp2OutData
  try dsimp only
  repeat' (with_reducible first
      | assumption | refine KeepsOut.next ?_ | refine keeps_countBy ?_ | refine keeps_usbTraffic ?_
      | refine KeepsOut.ite ?_ ?_ | refine Keeps.updSame ?_ rfl rfl rfl rfl rfl)

theorem keeps_execUsbU1U2Entry {s0 s : State} (h : Keeps s0 s) {a0 : Bool} : KeepsOut s0 (execUsbU1U2Entry a0 s) := by
  unfold execUsbU1U2Entry
  try dsimp only
  repeat' (with_reducible first
      | assumption | refine KeepsOut.next ?_ | refine keeps_setUsbLink ?_ | refine KeepsOut.ite ?_ ?_)

theorem keeps_execUsbSuspend {s0 s : State} (h : Keeps s0 s) : KeepsOut s0 (execUsbSuspend s) := by
  unfold execUsbSuspend
  try dsimp only
  repeat' (with_reducible first
      | assumption | refine KeepsOut.next ?_ | refine keeps_setUsbLink ?_ | refine keeps_beginEntry ?_
      | refine KeepsOut.ite ?_ ?_)

theorem keeps_execUsbResume {s0 s : State} (h : Keeps s0 s) : KeepsOut s0 (execUsbResume s) := by
  unfold execUsbResume
  try dsimp only
  repeat' (with_reducible first
      | assumption | refine KeepsOut.next ?_ | refine keeps_wakeFire ?_ | refine keeps_setUsbLink ?_
      | refine KeepsOut.ite ?_ ?_)

theorem keeps_execUsbTrainFail {s0 s : State} (h : Keeps s0 s) {a0 : Fin 7} : KeepsOut s0 (execUsbTrainFail a0 s) := by
  unfold execUsbTrainFail
  try dsimp only
  repeat' (with_reducible first
      | assumption | refine KeepsOut.next ?_ | refine keeps_lichenFw ?_ | refine keeps_setFld ?_ | refine KeepsOut.ite ?_ ?_)

theorem keeps_execEp3InTransfer {s0 s : State} (h : Keeps s0 s) : KeepsOut s0 (execEp3InTransfer s) := by
  unfold execEp3InTransfer
  try dsimp only
  repeat' (with_reducible first
      | assumption | refine KeepsOut.next ?_ | refine keeps_usbTraffic ?_ | refine KeepsOut.ite ?_ ?_
      | refine Keeps.updSame ?_ rfl rfl rfl rfl rfl)

theorem keeps_execUsbStandardRequest {s0 s : State} (h : Keeps s0 s) {a0 : UsbRequest} :
    KeepsOut s0 (execUsbStandardRequest a0 s) := by
  unfold execUsbStandardRequest
  try dsimp only
  repeat' (first
      | (with_reducible first
        | assumption | refine KeepsOut.next ?_ | refine keeps_usbTraffic ?_ | refine keeps_setFld ?_ | refine Keeps.ite ?_ ?_
        | refine KeepsOut.ite ?_ ?_ | refine Keeps.updSame ?_ rfl rfl rfl rfl rfl)
      | split)

/-! ### Vector -/

theorem keeps_vrqCount {s0 s : State} (h : Keeps s0 s) {a1 : Nat} {a2 : VppCtx} {a3 a4 : Nat} {a5 : Option Nat} :
    Keeps s0 (s.vrqCount a1 a2 a3 a4 a5) := by
  unfold State.vrqCount
  try dsimp only
  repeat' (with_reducible first | assumption | refine keeps_countBy ?_ | refine Keeps.ite ?_ ?_)

/-! ### VppMem -/

theorem keeps_ownWrite {s0 s : State} (h : Keeps s0 s) {b c o : Nat} {d : List Byte} {m : List Bool} {n : Nat} :
    Keeps s0 (s.ownWrite b c o d m n).2 := by
  unfold State.ownWrite
  refine Keeps.foldlSnd _ h (fun r x hu => ?_)
  split
  · exact hu
  · exact keeps_regWrite hu

theorem keeps_writeAccs {s0 s : State} (h : Keeps s0 s) {b p c : Nat} {d : List Byte} {m : List Bool} {l : List Hop} :
    Keeps s0 (s.writeAccs b p c d m l).2 := by
  induction l generalizing s d m with
  | nil => exact h
  | cons a l ih =>
    unfold State.writeAccs
    extract_lets n step
    split
    · exact ih h
    · split
      · exact h
      · extract_lets k t
        refine ih (KeepsOpt.getD ?_ h)
        exact KeepsOpt.ite (keeps_writeMemOwn h) (keeps_writeMasked h)
      · exact ih (keeps_issueRemote h)
      · split
        · exact ih (Keeps.ofSnd (keeps_ownWrite h) (by assumption))
        · exact keeps_ownWrite h

theorem keeps_ownRead {s0 s : State} (h : Keeps s0 s) {b c o n : Nat} : Keeps s0 (s.ownRead b c o n).2.2 := by
  unfold State.ownRead
  refine Keeps.foldlThird _ h (fun r x hu => ?_)
  split
  · exact hu
  · split
    · exact Keeps.ofSnd (keeps_regRead hu) (by assumption)
    · exact Keeps.ofSnd (keeps_regRead hu) (by assumption)

theorem keeps_readAccs {s0 s : State} (h : Keeps s0 s) {b p c : Nat} {far : List (List Byte)} {l : List Hop} :
    Keeps s0 (s.readAccs b p c far l).2.2 := by
  induction l generalizing s far with
  | nil => exact h
  | cons a l ih =>
    unfold State.readAccs
    split
    · exact h
    · split
      split
      exact Keeps.ofThird (ih (Keeps.ofSnd (keeps_readMem h) (by assumption))) (by assumption)
    · split
      exact Keeps.ofThird (ih h) (by assumption)
    · split
      · split
        exact Keeps.ofThird (ih (Keeps.ofThird (keeps_ownRead h) (by assumption))) (by assumption)
      · exact Keeps.ofThird (keeps_ownRead h) (by assumption)

/-! ### Vpp -/

theorem keeps_startWait {s0 s : State} (h : Keeps s0 s) {a1 a2 : Nat} {a3 a4 : List (Nat × Nat)} :
    Keeps s0 (s.startWait a1 a2 a3 a4) := by
  unfold State.startWait
  try dsimp only
  repeat' (with_reducible first | assumption | refine keeps_setSboard ?_)

theorem keeps_dropWait {s0 s : State} (h : Keeps s0 s) {a1 a2 : Nat} : Keeps s0 (s.dropWait a1 a2) := by
  unfold State.dropWait
  try dsimp only
  repeat' (with_reducible first | assumption | refine keeps_setSboard ?_)

theorem keeps_trapHalt {s0 s : State} (h : Keeps s0 s) {a1 a2 a3 : Nat} : Keeps s0 (s.trapHalt a1 a2 a3) := by
  unfold State.trapHalt
  try dsimp only
  repeat' (with_reducible first | assumption | refine keeps_setCtx ?_ | refine keeps_setFld ?_ | refine keeps_setCore ?_)

theorem keeps_enter {s0 s : State} (h : Keeps s0 s) {a1 a2 : Nat} {a3 a4 : Nat} {a5 : Bool} :
    Keeps s0 (s.enter a1 a2 a3 a4 a5) := by
  unfold State.enter
  try dsimp only
  repeat' (first
      | (with_reducible first
        | assumption | exact KeepsOpt.none _ | refine keeps_dropWait ?_ | refine keeps_dropResv ?_ | refine keeps_setCtx ?_
        | refine keeps_trapHalt ?_ | refine keeps_writeMem ?_ | refine Keeps.ite ?_ ?_ | refine KeepsOpt.ite ?_ ?_
        | refine Keeps.ofOpt ?_ (by assumption))
      | split)

theorem keeps_trap {s0 s : State} (h : Keeps s0 s) {a1 a2 a3 : Nat} {a4 a5 : Option Nat} :
    Keeps s0 (s.trap a1 a2 a3 a4 a5) := by
  unfold State.trap
  try dsimp only
  repeat' (with_reducible first | assumption | refine keeps_enter ?_ | refine keeps_setCtx ?_)

theorem keeps_issueFar {s0 s : State} (h : Keeps s0 s) {a1 a2 a3 : Nat} {a4 : VppCtx} {a5 : List VppOp} {a6 : List Hop} :
    Keeps s0 (s.issueFar a1 a2 a3 a4 a5 a6) := by
  unfold State.issueFar
  try dsimp only
  repeat' (first
      | (with_reducible first
        | assumption | refine keeps_issueRemote ?_ | refine keeps_setCtx ?_ | refine Keeps.foldlFst _ ?_ (fun r x hu => ?_))
      | split)

theorem keeps_ageCore {s0 s : State} (h : Keeps s0 s) {a1 : Nat} : Keeps s0 (s.ageCore a1) := by
  unfold State.ageCore
  try dsimp only
  repeat' (with_reducible first | assumption | refine keeps_setCtx ?_ | refine Keeps.foldl _ ?_ (fun u x hu => ?_))

theorem keeps_gatherAll {s0 s : State} (h : Keeps s0 s) {a1 : Nat} {a2 : VppCtx} {a3 a4 : Nat} {a5 a6 : Nat}
    {a7 : Option Nat} :
    Keeps s0 (s.gatherAll a1 a2 a3 a4 a5 a6 a7).2 := by
  unfold State.gatherAll
  try dsimp only
  repeat' (with_reducible first | assumption | refine keeps_readMem ?_ | refine Keeps.foldl _ ?_ (fun u x hu => ?_))

theorem keeps_scatterAll {s0 s : State} (h : Keeps s0 s) {a1 a2 : Nat} {a3 : VppCtx} {a4 a5 : Nat} {a6 a7 : Nat}
    {a8 : List Nat} :
    Keeps s0 (s.scatterAll a1 a2 a3 a4 a5 a6 a7 a8) := by
  fun_induction State.scatterAll s a1 a2 a3 a4 a5 a6 a7 a8 <;> repeat' (with_reducible first
      | assumption | refine keeps_writeMemOwn ?_ | apply_assumption | refine KeepsOpt.getD ?_ ?_)

theorem keeps_atomicLocal {s0 s : State} (h : Keeps s0 s) {a1 : Nat} {a2 : AtomicOp} {a3 a4 : Nat} {a5 : List Byte} :
    Keeps s0 (s.atomicLocal a1 a2 a3 a4 a5).2.2 := by
  unfold State.atomicLocal
  try dsimp only
  repeat' (first
      | (with_reducible first
        | assumption | refine keeps_writeMem ?_ | refine keeps_reserve ?_ | refine keeps_dropResv ?_
        | refine KeepsOpt.getD ?_ ?_)
      | split)

theorem keeps_memOp {s0 s : State} (h : Keeps s0 s) {a1 a2 a3 : Nat} {a4 a5 : VppCtx} {a6 : List (List Byte)} {a7 : VppOp} :
    Keeps s0 (s.memOp a1 a2 a3 a4 a5 a6 a7).2.1 := by
  unfold State.memOp
  try dsimp only
  repeat' (first
      | (with_reducible first
        | assumption | refine keeps_writeAccs ?_ | refine keeps_setCtx ?_ | refine keeps_readAccs ?_
        | refine keeps_dropResv ?_ | refine keeps_gatherAll ?_ | refine keeps_scatterAll ?_ | refine keeps_atomicLocal ?_)
      | dsimp only | split)

theorem keeps_runOps {s0 s : State} (h :
    Keeps s0 s) {b p c : Nat} {x : VppCtx} {far : List (List Byte)} {y : VppCtx} {l : List VppOp} :
    Keeps s0 (s.runOps b p c x far y l).2.1 := by
  induction l generalizing s y with
  | nil => exact h
  | cons o l ih =>
    unfold State.runOps
    split
    · split
      have h1 := Keeps.ofMid (keeps_memOp h) (by assumption)
      split
      · exact h1
      · refine ih (Keeps.ite ?_ h1)
        exact h1.trans ⟨rfl, id, Nat.le_refl _, FusesRise.same rfl rfl rfl⟩
    · extract_lets z t t1
      have h1 : Keeps s0 t := by
        unfold t
        split
        · exact keeps_vrqCount h
        · exact h
      refine ih (Keeps.ite ?_ h1)
      exact h1.trans ⟨rfl, id, Nat.le_refl _, FusesRise.same rfl rfl rfl⟩

theorem keeps_noteDeferral {s0 s : State} (h : Keeps s0 s) {a1 a2 : Nat} : Keeps s0 (s.noteDeferral a1 a2) := by
  unfold State.noteDeferral
  try dsimp only
  repeat' (with_reducible first | assumption | refine keeps_setCore ?_ | refine keeps_setFld ?_ | refine Keeps.ite ?_ ?_)

theorem keeps_finish {s0 s : State} (h : Keeps s0 s) {a1 a2 a3 : Nat} {a4 : VppCtx} {a5 : List (List Byte)}
    {a6 : List VppOp} :
    Keeps s0 (s.finish a1 a2 a3 a4 a5 a6) := by
  unfold State.finish
  try dsimp only
  repeat' (first
      | (with_reducible first
        | assumption | refine keeps_ageCore ?_ | refine keeps_runOps ?_ | refine keeps_setCtx ?_ | refine keeps_trap ?_
        | refine keeps_noteDeferral ?_ | refine keeps_enter ?_ | refine keeps_dropResv ?_ | refine keeps_ctxStop ?_
        | refine Keeps.ite ?_ ?_ | refine Keeps.ofMid ?_ (by assumption))
      | split)

theorem keeps_access {s0 s : State} (h : Keeps s0 s) {a1 a2 a3 : Nat} {a4 : VppCtx} {a5 : List VppOp} :
    Keeps s0 (s.access a1 a2 a3 a4 a5) := by
  unfold State.access
  try dsimp only
  repeat' (first
      | (with_reducible first
        | assumption | refine keeps_startWait ?_ | refine keeps_setCtx ?_ | refine keeps_trap ?_ | refine keeps_noteEcc ?_
        | refine keeps_issueFar ?_ | refine keeps_finish ?_ | refine Keeps.ite ?_ ?_)
      | split)

theorem keeps_latchEmu {s0 s : State} (h : Keeps s0 s) {a1 a2 a3 : Nat} {a4 : List Nat} :
    Keeps s0 (s.latchEmu a1 a2 a3 a4) := by
  unfold State.latchEmu
  try dsimp only
  repeat' (with_reducible first
      | assumption | refine keeps_setReg ?_ | refine keeps_setFld ?_ | refine Keeps.foldl _ ?_ (fun u x hu => ?_))

theorem keeps_decodeAt {s0 s : State} (h : Keeps s0 s) {b p c : Nat} {go : State → VppCtx → List VppOp → State}
    (hg : ∀ u x o, Keeps s0 u → Keeps s0 (go u x o)) : Keeps s0 (s.decodeAt b p c go) := by
  unfold State.decodeAt
  extract_lets x s1
  split
  · exact keeps_trap (Keeps.ite (keeps_noteEcc h) h)
  · have h1 : Keeps s0 s1 := keeps_readMem h
    split
    · exact keeps_trap (keeps_latchEmu h1)
    · exact keeps_trap h1
    · exact keeps_trap h1
    · split
      · exact keeps_trap h1
      · exact hg _ _ _ h1

theorem keeps_issueBundle {s0 s : State} (h : Keeps s0 s) {a1 a2 a3 : Nat} : Keeps s0 (s.issueBundle a1 a2 a3) := by
  unfold State.issueBundle
  try dsimp only
  repeat' (first
      | (with_reducible first
        | assumption | refine keeps_trap ?_ | refine keeps_decodeAt ?_ (fun u x o hu => ?_) | refine keeps_access ?_)
      | split)

theorem keeps_schedule {s0 s : State} (h : Keeps s0 s) {a1 : Nat} : Keeps s0 (s.schedule a1) := by
  unfold State.schedule
  try dsimp only
  repeat' (first
      | (with_reducible first
        | assumption | refine keeps_dropResv ?_ | refine keeps_count ?_ | refine keeps_setCore ?_ | refine keeps_setCtxSt ?_
        | refine Keeps.ite ?_ ?_)
      | split)

theorem keeps_execVppBundleIssue {s0 s : State} (h : Keeps s0 s) {a0 : Fin 9} : KeepsOut s0 (execVppBundleIssue a0 s) := by
  unfold execVppBundleIssue
  try dsimp only
  repeat' (first
      | (with_reducible first
        | assumption | refine KeepsOut.next ?_ | refine keeps_schedule ?_ | refine keeps_issueBundle ?_
        | refine KeepsOut.ite ?_ ?_)
      | split)

theorem keeps_execVppInterruptEntry {s0 s : State} (h : Keeps s0 s) {a0 : Fin 9} :
    KeepsOut s0 (execVppInterruptEntry a0 s) := by
  unfold execVppInterruptEntry
  try dsimp only
  repeat' (first
      | (with_reducible first
        | assumption | refine KeepsOut.next ?_ | refine keeps_setCore ?_ | refine keeps_enter ?_ | refine KeepsOut.ite ?_ ?_)
      | split)

theorem keeps_execContextSwitchOut {s0 s : State} (h : Keeps s0 s) {a0 : Fin 9} :
    KeepsOut s0 (execContextSwitchOut a0 s) := by
  unfold execContextSwitchOut
  try dsimp only
  repeat' (first
      | (with_reducible first
        | assumption | refine KeepsOut.next ?_ | refine keeps_schedule ?_ | refine keeps_setCtxSt ?_
        | refine KeepsOut.ite ?_ ?_)
      | split)

theorem keeps_execContextWaitClear {s0 s : State} (h : Keeps s0 s) {a0 : Fin 9} {a1 : Fin 4} :
    KeepsOut s0 (execContextWaitClear a0 a1 s) := by
  unfold execContextWaitClear
  try dsimp only
  repeat' (with_reducible first | assumption | refine KeepsOut.next ?_ | refine keeps_setCtxSt ?_ | refine KeepsOut.ite ?_ ?_)

theorem keeps_execContextPreempt {s0 s : State} (h : Keeps s0 s) {a0 : Fin 9} : KeepsOut s0 (execContextPreempt a0 s) := by
  unfold execContextPreempt
  try dsimp only
  repeat' (first
      | (with_reducible first
        | assumption | refine KeepsOut.next ?_ | refine keeps_schedule ?_ | refine keeps_setCtxSt ?_
        | refine KeepsOut.ite ?_ ?_)
      | split)

theorem keeps_execRemoteLoadReturn {s0 s : State} (h : Keeps s0 s) {a0 : Fin 9} {a1 : Fin 4} :
    KeepsOut s0 (execRemoteLoadReturn a0 a1 s) := by
  unfold execRemoteLoadReturn
  try dsimp only
  repeat' (first
      | (with_reducible first
        | assumption | refine KeepsOut.next ?_ | refine keeps_freeTag ?_ | refine keeps_setCtx ?_
        | refine keeps_decodeAt ?_ (fun u x o hu => ?_) | refine keeps_trap ?_ | refine keeps_finish ?_
        | refine KeepsOut.ite ?_ ?_ | refine Keeps.foldl _ ?_ (fun u x hu => ?_))
      | split | with_reducible refine Keeps.updSame ?_ rfl rfl rfl rfl rfl)

end Sys2Proof.Machine
end

