-- ==== Sys2Proof/WellFormed.lean ====
section
/-!
DEFINITION. Well-formed commands: a command's operands fit the widths in which they are carried (R373, R381). A command that does
not is none that an agent can send.
-/
namespace Sys2Proof

/-- The number fits `n` bits. -/
def inWidth (n x : Nat) : Bool := decide (x < 2 ^ n)

/-- R377: the list fits the payload of a command. -/
def fits {α : Type} (l : List α) : Bool := decide (l.length ≤ 65536)

/-- R373: a header's fields fit their widths. -/
def CmdHeader.wf (h : CmdHeader) : Bool :=
  inWidth 2 h.rsv && inWidth 16 h.tag && inWidth 32 h.length && inWidth 32 h.timeout && inWidth 32 h.hcrc

/-- The operands of a command fit their widths. -/
def Instr.wf (i : Instr) : Bool :=
  match i with
  | .registerWrite _ _ _ => true
  | .rcCounterRead _ _ => true
  | .tagWaitIssue _ => true
  | .coreIndexSwitch => true
  | .aonTick => true
  | .cueTrimStep => true
  | .cueSlewStep => true
  | .cueHandoverWake => true
  | .cueHandoverSleep => true
  | .ppsEdge _ => true
  | .ppsTimeout => true
  | .timeSyncTimer => true
  | .timeHoldEnd => true
  | .cueqPush _ _ => true
  | .cueqFlush _ => true
  | .cueqResume _ => true
  | .cuePrewake _ => true
  | .cueLate _ => true
  | .nop _ => true
  | .dmaLaunch _ => true
  | .frondJob _ => true
  | .taskStart _ => true
  | .vppInt _ => true
  | .barrierRelease => true
  | .nocWindowOpen => true
  | .nocWindowClose => true
  | .fsyncPulse _ => true
  | .fsyncPulseEnd _ => true
  | .sensorWrite _ => true
  | .ispApply _ => true
  | .wingsApply _ => true
  | .wake => true
  | .hostEvent => true
  | .wingsCommitDeadline _ => true
  | .frondJobQWrite _ _ => true
  | .frondJobStart _ => true
  | .frondRtPreempt _ => true
  | .frondWeightBlockLoad _ => true
  | .frondPassStart _ => true
  | .frondJobComplete _ => true
  | .frondBusError _ => true
  | .frondFlush _ => true
  | .frondResume _ => true
  | .vppStart _ => true
  | .vppHalt _ => true
  | .vppIntSet _ _ => true
  | .vppBundleIssue _ => true
  | .vppInterruptEntry _ => true
  | .contextSwitchOut _ => true
  | .contextWaitClear _ _ => true
  | .contextPreempt _ => true
  | .vppDeadlineMiss _ _ => true
  | .prompterOpIssue _ => true
  | .remoteLoadReturn _ _ => true
  | .remoteStoreAck _ => true
  | .remoteAccessArrive _ => true
  | .ssInvalidateGo _ _ => true
  | .ssInvalidateDone _ => true
  | .cacheFill _ => true
  | .sbRegister _ _ _ _ => true
  | .sbRelease _ _ _ _ _ => true
  | .sbWaitClear _ => true
  | .sbTimeout _ _ => true
  | .bankSwitchOff _ _ _ => true
  | .powerDownWithdrawn _ _ _ => true
  | .bankPowerUpDone _ _ _ => true
  | .eccCorrectedWriteback => true
  | .dmaKick _ _ => true
  | .dmaDescFetch _ _ => true
  | .dmaDescStart _ _ => true
  | .dmaShadowHandover _ _ => true
  | .dmaReadReturn _ _ _ => true
  | .dmaWriteAck _ _ => true
  | .dmaRingWriteback _ _ => true
  | .dmaCqRecordPost _ => true
  | .dmaPostingResume _ _ => true
  | .dmaPaceResume _ _ => true
  | .dmaBusError _ _ => true
  | .dmaPtWalk _ _ => true
  | .dmaTranslationFault _ _ => true
  | .dmaResume _ _ => true
  | .dmaAbort _ _ => true
  | .dmaAbortDone _ _ => true
  | .dmaShadowSeal _ _ => true
  | .tvaInvalidate _ => true
  | .tvaInvalidateDone => true
  | .pageRetire _ _ => true
  | .dmaPost _ _ => true
  | .postTimeout _ => true
  | .mailboxArrive _ => true
  | .mbxPop _ => true
  | .faultQueuePop => true
  | .hqAlloc _ _ => true
  | .hqPush _ _ _ => true
  | .hqPop _ _ => true
  | .hqFree _ _ => true
  | .hqFill _ _ => true
  | .barArrive _ _ _ => true
  | .barWait _ _ => true
  | .barCountRelease _ => true
  | .barReset _ _ => true
  | .barTimeout _ => true
  | .chainTileArrive _ => true
  | .chainTileForward _ => true
  | .chainWaitExpire _ => true
  | .scriptFault _ => true
  | .auditRun => true
  | .auditRunNow => true
  | .portCfgApply _ => true
  | .deskewSequence _ => true
  | .hsBurstDiscard _ _ => true
  | .frameStart _ _ _ _ => true
  | .frameEnd _ _ _ _ => true
  | .frameEndTimeout _ => true
  | .lineStart _ _ _ _ => true
  | .imageLine _ _ _ _ _ _ => true
  | .embeddedLine _ _ _ _ _ => true
  | .watchEnable _ _ => true
  | .i2cXfer _ _ => true
  | .i2cListComplete _ _ _ => true
  | .i2cStuckTimeout _ _ => true
  | .trigEdge _ _ _ => true
  | .trigFsyncDelay _ => true
  | .saRowWrite => true
  | .slotReady _ _ _ => true
  | .stripePop _ _ => true
  | .stripeFb _ _ _ => true
  | .stripeXrel _ _ => true
  | .stripeDone _ _ _ => true
  | .stripeDres _ _ => true
  | .stripeDrop _ => true
  | .saStreamDisable _ => true
  | .saStreamFlush _ => true
  | .stripeCountPoll _ => true
  | .eplGroupRx _ _ => true
  | .eplReplayTimeout _ => true
  | .eplTrailerTimeout _ => true
  | .eplLinkReset _ => true
  | .eplTrainDone _ => true
  | .eplResetWrite _ => true
  | .eplWinLock _ => true
  | .wr _ => true
  | .rd _ => true
  | .wrAck _ => true
  | .rdData _ => true
  | .nb4Ann _ => true
  | .nb4Data _ => true
  | .nb4Ctl _ => true
  | .tsSync _ => true
  | .tsDreq _ => true
  | .tsDrsp _ => true
  | .barArr _ => true
  | .barRel _ => true
  | .barBroken _ => true
  | .wingsRpt _ => true
  | .wingsCommit _ => true
  | .heartbeatTimer _ => true
  | .heartbeat _ => true
  | .peerAliveTimeout _ => true
  | .goodbye _ => true
  | .linit _ => true
  | .linitAck _ => true
  | .commandRunt _ => true
  | .commandTimeout tag => inWidth 16 tag
  | .ping h => h.wf
  | .getIdentity h => h.wf
  | .cmdAbort h target => h.wf && inWidth 16 target
  | .getStatus h => h.wf
  | .getCounters h blk inst cont => h.wf && inWidth 64 blk && inWidth 64 inst && inWidth 64 cont
  | .timeGet h => h.wf
  | .timeSetEpoch h t => h.wf && inWidth 64 t
  | .timePps h en => h.wf && inWidth 64 en
  | .wingsOpen h id => h.wf && inWidth 64 id
  | .wingsStage h n ms => h.wf && inWidth 64 n && fits ms
  | .wingsCheck h n t => h.wf && inWidth 64 n && inWidth 64 t
  | .wingsApplyAt h n t isp => h.wf && inWidth 64 n && inWidth 64 t && inWidth 64 isp
  | .wingsCancel h n => h.wf && inWidth 64 n
  | .wingsRelease h n => h.wf && inWidth 64 n
  | .wingsStatus h n => h.wf && inWidth 64 n
  | .memMap h asid bytes writable page _ => h.wf && inWidth 64 asid && inWidth 64 bytes && inWidth 64 writable && inWidth 64 page
  | .memUnmap h asid tva => h.wf && inWidth 64 asid && inWidth 64 tva
  | .xfer h dir stream asid tva bytes frc type => h.wf && inWidth 64 dir && inWidth 64 stream && inWidth 64 asid && inWidth 64 tva && inWidth 64 bytes && inWidth 64 frc && inWidth 64 type
  | .memWrite h asid tva b => h.wf && inWidth 64 asid && inWidth 64 tva && fits b
  | .memRead h asid tva n => h.wf && inWidth 64 asid && inWidth 64 tva && inWidth 64 n
  | .loadScript h asid tva len _ => h.wf && inWidth 64 asid && inWidth 64 tva && inWidth 64 len
  | .unloadScript h n => h.wf && inWidth 64 n
  | .run h n anchor => h.wf && inWidth 64 n && inWidth 64 anchor
  | .stop h n t => h.wf && inWidth 64 n && inWidth 64 t
  | .submit h n inp inLen outp outLen => h.wf && inWidth 64 n && inWidth 64 inp && inWidth 64 inLen && inWidth 64 outp && inWidth 64 outLen
  | .scriptStatus h n => h.wf && inWidth 64 n
  | .restart h n => h.wf && inWidth 64 n
  | .sensorSettings h k fidx expo gain _ _ _ => h.wf && inWidth 64 k && inWidth 64 fidx && fits expo && fits gain
  | .ispParams h k fidx t w => h.wf && inWidth 64 k && inWidth 64 fidx && inWidth 64 t && fits w
  | .i2cRead h bus dev reg _ n => h.wf && inWidth 64 bus && inWidth 64 dev && inWidth 64 reg && inWidth 64 n
  | .fsyncSchedule h n period phase width => h.wf && inWidth 64 n && inWidth 64 period && inWidth 64 phase && inWidth 64 width
  | .streamStatus h k => h.wf && inWidth 64 k
  | .powerGet h => h.wf
  | .setOp h c op => h.wf && inWidth 64 c && inWidth 64 op
  | .setPowerCap h w => h.wf && inWidth 64 w
  | .sleep h t mask => h.wf && inWidth 64 t && inWidth 64 mask
  | .dark h mask => h.wf && inWidth 64 mask
  | .rehearsalStatus h => h.wf
  | .rehearsalCfg h hours => h.wf && inWidth 64 hours
  | .rehearseNow h block => h.wf && inWidth 64 block
  | .repairMapGet h cont => h.wf && inWidth 64 cont
  | .coreReplace h b => h.wf && inWidth 64 b
  | .fullTest h mask finds => h.wf && inWidth 64 mask && fits finds
  | .attest h nonce => h.wf && fits nonce
  | .fwUpdateBegin h fw cfg => h.wf && inWidth 64 fw && inWidth 64 cfg
  | .fwUpdateData h o b => h.wf && inWidth 64 o && fits b
  | .fwUpdateCommit h => h.wf
  | .lifecycleToken h tok => h.wf && fits tok
  | .fabricStatus h => h.wf
  | .linkReset h l => h.wf && inWidth 64 l
  | .lichenInfo h => h.wf
  | .lichenRead h first count => h.wf && inWidth 64 first && inWidth 64 count
  | .regRead h dpa n => h.wf && inWidth 64 dpa && inWidth 64 n
  | .regWrite h dpa value mask => h.wf && inWidth 64 dpa && inWidth 64 value && inWidth 64 mask
  | .fenceUnit h unit on => h.wf && inWidth 64 unit && inWidth 64 on
  | .usbAttach _ => true
  | .usbReset _ => true
  | .clearEndpointHalt _ _ => true
  | .ep2OutData _ _ _ => true
  | .usbU1U2Entry _ => true
  | .usbSuspend => true
  | .usbResume => true
  | .usbTrainFail _ => true
  | .pllLock _ => true
  | .opTransition _ => true
  | .avsTick _ _ _ => true
  | .droopEvent _ => true
  | .powerLimiterSample mv curr c0 c1 => inWidth 16 mv && inWidth 16 curr && inWidth 16 c0 && inWidth 16 c1
  | .thermalCheck _ _ => true
  | .limitHoldEnd _ _ => true
  | .idleEntry => true
  | .idleExit => true
  | .sleepEntry => true
  | .darkEntry => true
  | .wakeSource _ => true
  | .wakeComplete => true
  | .watchdogKick => true
  | .watchdogExpire => true
  | .rstNAssert => true
  | .powerOnReset => true
  | .prompterReset => true
  | .uvWarn mv => inWidth 16 mv
  | .uvShutdown mv => inWidth 16 mv
  | .uvRecover mv => inWidth 16 mv
  | .moduleInsert => true
  | .bootRomStart _ => true
  | .slotConfirm _ => true
  | .secLockBoot => true
  | .secLockCfg => true
  | .emuGateReq => true
  | .sigEngineGo _ => true
  | .sigEngineDone => true
  | .norAccess _ => true
  | .rehGo _ => true
  | .rehSliceStart => true
  | .rehDrainTimeout => true
  | .rehSliceEnd _ _ _ => true
  | .plannedSwap => true
  | .swapQuiesceTimeout => true
  | .migrationDone => true
  | .coreFailure _ _ => true
  | .ddr4PatrolScrub _ _ => true
  | .dphyLoopback _ _ => true
  | .eplPrbsLoopback _ _ => true
  | .pllLockLoss _ => true
  | .tempCrosscheck => true
  | .voltageCrosscheck _ _ => true
  | .lichenRequest code _ => inWidth 16 code
  | .lichenRecordWrite _ => true
  | .lichenPositionFind => true
  | .lichenTokenRefill => true
  | .opsecTick => true
  | .smbIdentity => true
  | .smbState => true
  | .smbVin => true
  | .smbCurrent => true
  | .smbPower => true
  | .smbTemp => true
  | .smbTempSensor => true
  | .smbAlertStatRead => true
  | .smbAlertStatClear _ _ => true
  | .smbAlertMaskRead => true
  | .smbAlertMaskWrite _ _ => true
  | .smbWake => true
  | .smbAlertResponse => true
  | .smbClockTimeout => true
  | .jtagBypass => true
  | .jtagIdcode => true
  | .jtagSamplePreload _ _ => true
  | .jtagExtest _ _ => true
  | .jtagExtestPulse _ _ => true
  | .jtagExtestTrain _ _ => true
  | .cueSheetRefill => true
  | .loLatchRead _ _ => true
  | .unmatchedPacket _ => true
  | .ep3InTransfer => true
  | .usbStandardRequest _ => true
  | .vioCamLoss => true
  | .vioCamReturn => true
  | .eplSignalDetect _ => true
  | .aonCrystalStable => true
  | .prompterRestartDone => true
  | .activeHourTick => true
  | .jtagDebugInstruction => true

end Sys2Proof
end

