-- ==== Sys2Proof/Tests/Slice0.lean ====
section
/-!
SUPPORT. Tests: ill-formed commands are refused, single commands on small states give what the rules of the spec give, and for every
statement that has hypotheses a state and operands that meet them.
-/
set_option maxRecDepth 100000
set_option linter.all false
set_option Elab.async false
namespace Sys2Proof
open Sys2Proof.Machine

/-! ### States and operands of the tests -/

def tAon : State := State.reset.setFld rCUE_STATUS fCUE_STATUS_SOURCE 0
def tRuns : State := { State.reset with power := { st := .active }, time := { crystal := true, ns := 2 ^ 40 } }
def tTrim (v : Nat) : State := tRuns.setFld rCUE_TRIM fCUE_TRIM_TRIM v
def tSlew (v : Nat) : State := tRuns.setFld rCUE_SLEW fCUE_SLEW_SLEW v
def tWaking : State := { tAon with power := { st := .waking, locked := [0] } }
def tAsleep : State := { State.reset with power := { st := .sleep } }
def tPps : State := { State.reset with power := { st := .active } }
def tPpsLost : State := { State.reset with time := { ppsLast := some 0, ns := 1500000000 } }
def tNow : State := { State.reset with power := { st := .active }, time := { now := 100, ns := 2 ^ 40 } }
def tLatePush (w2 : Word) : State := { tNow with time := { now := 5000 }, cueq := [(0x10, { w0 := 200, w2 := w2 })] }
def tE (op time : Nat) : CueEntry := { time := time, op := op, late := 0, fab := false, period := 0, arg := 0 }
def tFire (q : QueueId) (e : CueEntry) : State :=
  { State.reset with power := { st := .active }, time := { now := if e.time = 0 then 5000 else 100 }, cueq := [(q.num, { entries := [e] })] }
def tHalted : State := { tNow with cueq := [(0x10, { entries := [tE 0 50], halted := true })] }
def tMsg (ty : Nat) (spec : List Byte) : LinkMsg := { type := ty, dest := 0, src := 1, len := 0, spec := spec }
def tMaster (m : LinkMsg) : State := { tNow.setFld rCUE_STATUS fCUE_STATUS_MASTER 1 with links := [(2, { rx := [m] })] }
def tJobWords : List Nat := [0, 8, 0, 0, 0, 0, 0, 0, 0, 3 * 2 ^ 26, 0, 0, 0x1000, 0, 0, 0]
def tJobBytes : List Byte := tJobWords.flatMap (leBytes 4)
def tJob : FrondJob := { ofs := 0, d := tJobWords }
def tRtJob : FrondJob := { ofs := 0, d := [2 ^ 27, 8, 0, 0, 0, 0, 0, 0, 0, 3 * 2 ^ 26, 0, 0, 0x1000, 0, 0, 0], agent := some 1 }
def tFrond (x : FrondSt) : State :=
  { tNow with sb := [(0, { granted := [(0, [⟨0, true⟩]), (1, [⟨1, true⟩])] })] }.setFrond 0 x
def tJobMem : State := tNow.setBytes (corePlace 0 0x300000) tJobBytes
def tTile : ChainTile := ⟨64, [], false, false, false⟩
def tChain : State := ({ tNow with chain := [(0, [tTile])] }.setFld (rCHAIN_CFG 0) fCHAIN_CFG_EN 1).setFld (rCHAIN_CFG 1) fCHAIN_CFG_EN 1
def tChainJob : FrondJob := { ofs := 0, d := [0, 8, 0, 0, 0, 0, 0, 2 * 2 ^ 8, 0, 3 * 2 ^ 26, 0, 0, 0x1000, 0, 0, 0] }
def tChainWait : State := (tFrond { cur := some tChainJob }).setFld (rCHAIN_CFG 0) fCHAIN_CFG_EN 1
def tBlk : List Byte := List.replicate 576 0
def tBlock (j : FrondJob) : State := (tFrond { cur := some j }).setFld (rLS_PWR_STAT 0) ⟨0, 0⟩ 1
def tTagJob : FrondJob := { ofs := 0, d := [1, 8, 0, 0, 0, 0, 0, 0, 0, 3 * 2 ^ 26, 0, 0, 0x1000, 0, 0, 0] }
def tFullJob : FrondJob := { tJob with plane := [tBlk] }
def tVpp (n : Nat) : State := (tNow.setFld (rVPP_CTL 0) fVPP_CTL_HALTED 0).setReg (rVPP_CTX_STAT 0) (BitVec.ofNat 32 n)
def tVppInt : State := { ((tVpp 2).setReg (rVPP_INT_PEND 0) 32).setReg (rVPP_INT_EN 0) 32 with vpp := [(0, { ctxs := [(0, { r := [(0x38, 0x40000)] })] })] }
def tLateRt : State :=
  { (((tVpp 2).setFld (rVPP_CTX_CTL 0) fVPP_CTX_CTL_RTMASK 1).setFld (rVPP_CTX_CTL 0) fVPP_CTX_CTL_DLEN 1).setReg (rVPP_CTX_DL 0 0) 50 with
    sb := [(0, { waits := [⟨.vpp 0, [], [], 0, 0, false, false⟩] })] }
def tAcc : RemoteAccess := { id := 7, slot := 0, ctx := 0, op := .load, dpa := 0x8000000000, len := 4 }
def tRem (r : RemoteAccess) : State := { tNow with remotes := [r] }
def tDmaD : List Nat := [0x80000000, 0, 0x50000000, 64, 0x50000000, 0, 0, 0, 0, 0, 0, 0, 0, 0, 0, 0]
def tDmaRun : State := tNow.setChan 9 5 { st := .run, desc := tDmaD }
def tDmaMoving : State := tNow.setChan 9 5 { st := .run, started := true, desc := tDmaD }
def tCq : State := tNow.setChan 9 5 { st := .run, status := some 0, stage := 1, desc := tDmaD }
def tCqAfter : State := (tCq.dpaWrite false 0 (tCq.cqRecord 5 0 4)).getD tCq
def tWalk (v : Nat) : State := (tNow.setChan 9 5 { st := .run, walk := some ⟨2, 0, true, true, 0⟩ }).setByte 0 (BitVec.ofNat 8 v)
def tRetire (u : Nat) : State := (tNow.setChan 9 5 { unacked := u }).setNum 0 8 (5 * 2 ^ 21 + 1)
def tWalkRead (v : Nat) : State := ((tWalk v).count rHUB_TVA_MISS_CNT).modChan 9 5 (fun y => { y with walk := none })
def tWalked (v : Nat) : State := ((tWalkRead v).dpaRead false 0 8).2
def tCoreDecl : CoreDecl := ⟨2, 0, 0, (0, 0), (0, 0), 0, 1, 0, 0, 0, 0, 0, none⟩
def tDecl : ScriptDecl :=
  { version := 1, coreMask := 4, fixedPath := false, realtime := false, fabric := false, sleepResume := false, rsvOk := true,
    ss := [], pools := [], buffers := 0, hqueues := [], barriers := [], chains := 0, windows := [], hubCh := 0, hubCue := 0,
    hubSlotsRt := 0, hubTags := 0, period := 0, cores := [tCoreDecl], deadlines := [], jobs := [], dmaDescs := [], tensors := [], layers := [],
    sheet := [], streams := [], entries := [], code := [] }
def tScripted (x : Script) : State := tNow.setScript 5 x
def tHaltedScript : State := { tScripted { decl := tDecl } with vpp := [(2, { trapHalt := true, ctxs := [(0, { r := [(0x38, 9 * 2 ^ 24)] })] })] }
def tFencedScript : State := { tScripted { decl := tDecl, pools := [3] } with host := { tNow.host with fenced := [0x3103] } }
def tCalls : State := { tNow with prompt := tNow.prompt.setReg 1 (4 * 2 ^ 32 + 64) }
def tPort : State := ((tNow.setFld (rINT_PORT_CFG 2) fINT_PORT_CFG_EN 1).setPort 2 { cfg := 0xFFFFFFFF }).setFld (rINT_STR_CFG 8) fINT_STR_CFG_EN 1
def tPortDt : Fin 64 := ⟨tPort.fld (rINT_STR_CFG 8) fINT_STR_CFG_DT, by decide +kernel⟩
def tOpen : OpenFrame := { fidx := 0, fnum := 0, time := 0, ns := 0, cfg := 0, geom := 0 }
def tSaFrame (v : Bool) : SaFrame :=
  { fidx := 3, height := 4, width := 4, cfg := BitVec.ofNat 32 (2 ^ fSA_STR_CFG_DROP_PAST.lo), halo := 0, base := 0, geom := 0, dl := 9, zval := 0, xr := [], isp := [], raw := true,
    first := 0, void := v }
def tBufRow : BufRow := { stream := 8, fidx := 3, row := 200, samples := [1, 2, 3, 4], key := 0, bytes := 8 }
def tRow (v : Bool) : State :=
  { tNow with sa := { streams := [(8, { frames := [tSaFrame v] })] }, ports := [(2, { buf := [tBufRow] })] }
def tSaSlot (st : Nat) : SaSlot := { st := st, fidx := 3, stripe := 0, lo := 0, hi := 8, xr := [], got := 99 }
def tSlot (st : Nat) : State :=
  { tNow with sa := { streams := [(8, { frames := [tSaFrame false] })], slots := [(slotKey 8 2 1, tSaSlot st)] } }
def tFbWord : Word := BitVec.ofNat 32 (8 * 2 ^ fSTRIPE_FB_STREAM.lo)
def tDoneW : Word := BitVec.ofNat 32 (8 * 2 ^ fSTRIPE_DONE_STREAM.lo + 2 ^ fSTRIPE_DONE_SLOT.lo)
def tDoneS : State := { tSlot 3 with sa := { (tSlot 3).sa with streams := [(8, { frames := [{ tSaFrame false with height := 999 }] })] } }
def tDoneT : State := (tDoneS.stripeJudge 8 (tSaSlot 3) 0).setReg (rSA_STR_LAT_MAX 8) (BitVec.ofNat 32 (max ((tDoneS.stripeJudge 8 (tSaSlot 3) 0).reg (rSA_STR_LAT_MAX 8)).toNat (min (tDoneS.time.now - 0) (2 ^ 32 - 1))))
def tDoneF : SaFrame := (tDoneT.saFrame 8 3).getD (tSaFrame false)
def tPast (j : Nat) : State :=
  { tSlot 2 with sa := { (tSlot 2).sa with slots := [(slotKey 8 2 1, { tSaSlot 2 with stripe := j })] } }
def tWindow (m : LinkMsg) : State :=
  (((({ tNow with links := [(2, { rx := [m] })] }.setFld (rEPL_WIN_CTL 0) fEPL_WIN_CTL_VALID 1).setFld (rEPL_WIN_CTL 0) fEPL_WIN_CTL_WR 1).setFld
    (rEPL_WIN_CTL 0) fEPL_WIN_CTL_KIND (b2n m.kind)).setFld (rEPL_WIN_SRC 0) fEPL_WIN_SRC_SRC 2).setFld (rEPL_WIN_LIMIT 0) fEPL_WIN_LIMIT_LIMIT 0xFFFFF
def tWr (k : Bool) (a : Nat) : LinkMsg := { tMsg 1 [4, 0] with kind := k, addr := a, data := List.replicate 32 7 }
def tRd (a : Nat) : LinkMsg := { tMsg 2 [4, 0] with kind := true, addr := a }
def tWrote : State := ((tWindow (tWr true 64)).dpaWrite false 64 [7, 7, 7, 7]).getD tNow
def tReqs (m : LinkMsg) : State := { tNow with links := [(2, { rx := [m], reqs := [⟨0, 1, 1, 5, 4, 0⟩] })] }
def tReqTaken (m : LinkMsg) : State := (((tReqs m).freeRx 2 m).takeReq m).elim tNow (·.2)
def tNb4 : State :=
  { (tNow.setChan 9 5 { st := .run, started := true, desc := [0x000A0000] }).setFld rEPL_FAB_CFG fEPL_FAB_CFG_MOD_ID 0 with
    links := [(2, { rx := [{ tMsg 0x10 [5] with src := 0 }] })] }
def tNb4Data : State :=
  { tNow.setChan 9 5 { st := .run, started := true, desc := [0x000A0000], nb4Open := true } with links := [(2, { rx := [tMsg 0x11 [5, 0]] })] }
def tNb4Ctl : State :=
  { tNow.setChan 9 5 { st := .run, started := true, desc := [0x00090000] } with links := [(2, { rx := [tMsg 0x12 [5, 0]] })] }
def tChild (m : LinkMsg) : State :=
  { tNow with links := [(2, { rx := [m] })], time := { tNow.time with sync := { tNow.time.sync with parent := some 2 } } }
def tReq : LichenReq := { code := 0x0A10, ongoing := false, hw := false, seconds := 0, p0 := 0, p1 := 0, p2 := 0, p3 := 0 }
def tLogFull : State :=
  ([65504, 98256, 114632, 122820, 126914, 128961, 129985, 130497, 130753, 130881, 130945, 130977, 130993, 131001, 131005, 131007].foldl (fun s m => s.setByte (lichenPlace m) 0) tNow).setBytes (lichenPlace 131071) [0xFF, 0x0A, 0, 0x5A]
def tHost : State :=
  { (tNow.setFld rUSB_STAT fUSB_STAT_CONFIGURED 1).setFld rUSB_STAT fUSB_STAT_SPEED 3 with sec := { tNow.sec with blown := [0, 1, 2] } }
def tHdr (op : Nat) : CmdHeader :=
  let h : CmdHeader := { strict := false, fence := false, rsv := 0, tag := 7, length := 16, got := 16, lenOk := true, rsvOk := true,
                         timeout := 0, hcrc := 0 }
  { h with hcrc := (crc32 (headerBytes h op)).toNat }
def tOut : Outstanding := { opcode := 0x0FF, tag := 9, fence := false, deadline := 5 }
def tAbort : State := { tHost with host := { tHost.host with outstanding := [tOut] } }
def tSet (x : WingsSet) : State := { tHost with wings := [(3, x)] }
def tMapped : State :=
  { (tHost.mapPages 1 0 true [5]) with host := { tHost.host with regions := [⟨1, 0, [5], true⟩] } }
def tSlotted (x : Script) : State := tHost.setScript 5 x
def tEmpty : ScriptDecl := { tDecl with coreMask := 0, cores := [] }
def tCam : State :=
  { ((((((tHost.setReg (rINT_STR_PERIOD 8) 33000000).setFld (rI2C_ALLOW_LO 2 0) fI2C_ALLOW_LO_VALID 1).setFld (rI2C_ALLOW_LO 2 0) fI2C_ALLOW_LO_W 1).setFld
    (rI2C_ALLOW_LO 2 0) fI2C_ALLOW_LO_DEV 16).setFld (rI2C_ALLOW_LO 2 0) fI2C_ALLOW_LO_REG_LO 0).setFld (rI2C_ALLOW_HI 2 0) fI2C_ALLOW_HI_REG_HI 255) with
    streams := [(8, { lastFs := some 50 })] }
def tItem : Word × Word := (7, setF (setF 0 fWL_ITEM_HI_DEV 16) fWL_ITEM_HI_REG 5)
def tLate : Nat := tCam.fld (rINT_STR_CFG 8) fINT_STR_CFG_EXP_LAT + 1
def tIspW : List Half := List.replicate 256 0
def tIspAt : State := tCam.accepted (tHdr 0x401) 0x401 1000000 [oStream 8]
def tIspStaged : State :=
  match (tIspAt.setWset 0 { st := .opened }).stageAll 0 (ispMembers 8 tIspW) with
  | .ok v _ => v
  | _ => tHost
def tToken : List Byte := List.replicate 12 0 ++ ([16, 0, 0, 0] ++ (List.replicate 16880 0 ++ [3, 2, 0, 0, 1, 0, 0, 0, 0, 0, 0, 0, 0, 0, 0, 0]))
def tFab (v : Bool) : State :=
  (tFire .hub { tE 5 50 with fab := true }).setFld rCUE_STATUS fCUE_STATUS_ALIGN_OK (b2n v)
def tFabNop : State := (tFire .hub { tE 0 50 with fab := true }).setFld rCUE_STATUS fCUE_STATUS_ALIGN_OK 1
def tDupHdr (op : Nat) : CmdHeader :=
  let h := { tHdr op with tag := 9 }
  { h with hcrc := (crc32 (headerBytes h op)).toNat }
def tHeld : State := { tHost with host := { tHost.host with held := [(9, .ping (tDupHdr 0))] } }


def tOkHdr : CmdHeader :=
  { strict := false, fence := false, rsv := 0, tag := 7, length := 16, got := 16, lenOk := true, rsvOk := true, timeout := 0, hcrc := 0 }

def tMember : StageMember := ⟨0x32, 0, 0, 0⟩
/-- A field of the next state, and of nothing after a fault or a refusal. -/
def tNext {α : Type} (o : Out) (f : State → α) : Option α :=
  match o with
  | .next t => some (f t)
  | _ => none


/-! ### Well-formedness: each check refuses an ill-formed term -/

theorem test_wf_header : { tOkHdr with rsv := 4 }.wf = false ∧ { tOkHdr with tag := 2 ^ 16 }.wf = false ∧
    { tOkHdr with length := 2 ^ 32 }.wf = false ∧ { tOkHdr with timeout := 2 ^ 32 }.wf = false ∧
    { tOkHdr with hcrc := 2 ^ 32 }.wf = false ∧ tOkHdr.wf = true := by decide

theorem test_wf_accepts_1 :
    (Instr.commandTimeout 1).wf = true ∧
    (Instr.ping tOkHdr).wf = true ∧
    (Instr.getIdentity tOkHdr).wf = true ∧
    (Instr.cmdAbort tOkHdr 1).wf = true ∧
    (Instr.getStatus tOkHdr).wf = true ∧
    (Instr.getCounters tOkHdr 1 1 1).wf = true ∧
    (Instr.timeGet tOkHdr).wf = true ∧
    (Instr.timeSetEpoch tOkHdr 1).wf = true ∧
    (Instr.timePps tOkHdr 1).wf = true ∧
    (Instr.wingsOpen tOkHdr 1).wf = true ∧
    (Instr.wingsStage tOkHdr 1 []).wf = true ∧
    (Instr.wingsCheck tOkHdr 1 1).wf = true ∧
    (Instr.wingsApplyAt tOkHdr 1 1 1).wf = true ∧
    (Instr.wingsCancel tOkHdr 1).wf = true ∧
    (Instr.wingsRelease tOkHdr 1).wf = true ∧
    (Instr.wingsStatus tOkHdr 1).wf = true ∧
    (Instr.memMap tOkHdr 1 1 1 1 []).wf = true ∧
    (Instr.memUnmap tOkHdr 1 1).wf = true ∧
    (Instr.xfer tOkHdr 1 1 1 1 1 1 1).wf = true ∧
    (Instr.memWrite tOkHdr 1 1 []).wf = true ∧
    (Instr.memRead tOkHdr 1 1 1).wf = true ∧
    (Instr.loadScript tOkHdr 1 1 1 tEmpty).wf = true ∧
    (Instr.unloadScript tOkHdr 1).wf = true ∧
    (Instr.run tOkHdr 1 1).wf = true ∧
    (Instr.stop tOkHdr 1 1).wf = true ∧
    (Instr.submit tOkHdr 1 1 1 1 1).wf = true ∧
    (Instr.scriptStatus tOkHdr 1).wf = true ∧
    (Instr.restart tOkHdr 1).wf = true ∧
    (Instr.sensorSettings tOkHdr 1 1 [] [] (0, 0) (0, 0) (0, 0)).wf = true ∧
    (Instr.ispParams tOkHdr 1 1 1 []).wf = true := by decide

theorem test_wf_accepts_2 :
    (Instr.i2cRead tOkHdr 1 1 1 false 1).wf = true ∧
    (Instr.fsyncSchedule tOkHdr 1 1 1 1).wf = true ∧
    (Instr.streamStatus tOkHdr 1).wf = true ∧
    (Instr.powerGet tOkHdr).wf = true ∧
    (Instr.setOp tOkHdr 1 1).wf = true ∧
    (Instr.setPowerCap tOkHdr 1).wf = true ∧
    (Instr.sleep tOkHdr 1 1).wf = true ∧
    (Instr.dark tOkHdr 1).wf = true ∧
    (Instr.rehearsalStatus tOkHdr).wf = true ∧
    (Instr.rehearsalCfg tOkHdr 1).wf = true ∧
    (Instr.rehearseNow tOkHdr 1).wf = true ∧
    (Instr.repairMapGet tOkHdr 1).wf = true ∧
    (Instr.coreReplace tOkHdr 1).wf = true ∧
    (Instr.fullTest tOkHdr 1 []).wf = true ∧
    (Instr.attest tOkHdr []).wf = true ∧
    (Instr.fwUpdateBegin tOkHdr 1 1).wf = true ∧
    (Instr.fwUpdateData tOkHdr 1 []).wf = true ∧
    (Instr.fwUpdateCommit tOkHdr).wf = true ∧
    (Instr.lifecycleToken tOkHdr []).wf = true ∧
    (Instr.fabricStatus tOkHdr).wf = true ∧
    (Instr.linkReset tOkHdr 1).wf = true ∧
    (Instr.lichenInfo tOkHdr).wf = true ∧
    (Instr.lichenRead tOkHdr 1 1).wf = true ∧
    (Instr.regRead tOkHdr 1 1).wf = true ∧
    (Instr.regWrite tOkHdr 1 1 1).wf = true ∧
    (Instr.fenceUnit tOkHdr 1 1).wf = true ∧
    (Instr.powerLimiterSample 1 1 1 1).wf = true ∧
    (Instr.uvWarn 1).wf = true ∧
    (Instr.uvShutdown 1).wf = true ∧
    (Instr.uvRecover 1).wf = true := by decide

theorem test_wf_accepts_3 :
    (Instr.lichenRequest 1 false).wf = true := by decide

theorem test_wf_refuses_1 :
    (Instr.commandTimeout (2 ^ 16)).wf = false ∧
    (Instr.ping { tOkHdr with tag := 2 ^ 16 }).wf = false ∧
    (Instr.getIdentity { tOkHdr with tag := 2 ^ 16 }).wf = false ∧
    (Instr.cmdAbort { tOkHdr with tag := 2 ^ 16 } 1).wf = false ∧
    (Instr.cmdAbort tOkHdr (2 ^ 16)).wf = false ∧
    (Instr.getStatus { tOkHdr with tag := 2 ^ 16 }).wf = false ∧
    (Instr.getCounters { tOkHdr with tag := 2 ^ 16 } 1 1 1).wf = false ∧
    (Instr.getCounters tOkHdr (2 ^ 64) 1 1).wf = false ∧
    (Instr.getCounters tOkHdr 1 (2 ^ 64) 1).wf = false ∧
    (Instr.getCounters tOkHdr 1 1 (2 ^ 64)).wf = false ∧
    (Instr.timeGet { tOkHdr with tag := 2 ^ 16 }).wf = false ∧
    (Instr.timeSetEpoch { tOkHdr with tag := 2 ^ 16 } 1).wf = false ∧
    (Instr.timeSetEpoch tOkHdr (2 ^ 64)).wf = false ∧
    (Instr.timePps { tOkHdr with tag := 2 ^ 16 } 1).wf = false ∧
    (Instr.timePps tOkHdr (2 ^ 64)).wf = false ∧
    (Instr.wingsOpen { tOkHdr with tag := 2 ^ 16 } 1).wf = false ∧
    (Instr.wingsOpen tOkHdr (2 ^ 64)).wf = false ∧
    (Instr.wingsStage { tOkHdr with tag := 2 ^ 16 } 1 []).wf = false ∧
    (Instr.wingsStage tOkHdr (2 ^ 64) []).wf = false ∧
    (Instr.wingsCheck { tOkHdr with tag := 2 ^ 16 } 1 1).wf = false ∧
    (Instr.wingsCheck tOkHdr (2 ^ 64) 1).wf = false ∧
    (Instr.wingsCheck tOkHdr 1 (2 ^ 64)).wf = false ∧
    (Instr.wingsApplyAt { tOkHdr with tag := 2 ^ 16 } 1 1 1).wf = false ∧
    (Instr.wingsApplyAt tOkHdr (2 ^ 64) 1 1).wf = false := by decide

theorem test_wf_refuses_2 :
    (Instr.wingsApplyAt tOkHdr 1 (2 ^ 64) 1).wf = false ∧
    (Instr.wingsApplyAt tOkHdr 1 1 (2 ^ 64)).wf = false ∧
    (Instr.wingsCancel { tOkHdr with tag := 2 ^ 16 } 1).wf = false ∧
    (Instr.wingsCancel tOkHdr (2 ^ 64)).wf = false ∧
    (Instr.wingsRelease { tOkHdr with tag := 2 ^ 16 } 1).wf = false ∧
    (Instr.wingsRelease tOkHdr (2 ^ 64)).wf = false ∧
    (Instr.wingsStatus { tOkHdr with tag := 2 ^ 16 } 1).wf = false ∧
    (Instr.wingsStatus tOkHdr (2 ^ 64)).wf = false ∧
    (Instr.memMap { tOkHdr with tag := 2 ^ 16 } 1 1 1 1 []).wf = false ∧
    (Instr.memMap tOkHdr (2 ^ 64) 1 1 1 []).wf = false ∧
    (Instr.memMap tOkHdr 1 (2 ^ 64) 1 1 []).wf = false ∧
    (Instr.memMap tOkHdr 1 1 (2 ^ 64) 1 []).wf = false ∧
    (Instr.memMap tOkHdr 1 1 1 (2 ^ 64) []).wf = false ∧
    (Instr.memUnmap { tOkHdr with tag := 2 ^ 16 } 1 1).wf = false ∧
    (Instr.memUnmap tOkHdr (2 ^ 64) 1).wf = false ∧
    (Instr.memUnmap tOkHdr 1 (2 ^ 64)).wf = false ∧
    (Instr.xfer { tOkHdr with tag := 2 ^ 16 } 1 1 1 1 1 1 1).wf = false ∧
    (Instr.xfer tOkHdr (2 ^ 64) 1 1 1 1 1 1).wf = false ∧
    (Instr.xfer tOkHdr 1 (2 ^ 64) 1 1 1 1 1).wf = false ∧
    (Instr.xfer tOkHdr 1 1 (2 ^ 64) 1 1 1 1).wf = false ∧
    (Instr.xfer tOkHdr 1 1 1 (2 ^ 64) 1 1 1).wf = false ∧
    (Instr.xfer tOkHdr 1 1 1 1 (2 ^ 64) 1 1).wf = false ∧
    (Instr.xfer tOkHdr 1 1 1 1 1 (2 ^ 64) 1).wf = false ∧
    (Instr.xfer tOkHdr 1 1 1 1 1 1 (2 ^ 64)).wf = false := by decide

theorem test_wf_refuses_3 :
    (Instr.memWrite { tOkHdr with tag := 2 ^ 16 } 1 1 []).wf = false ∧
    (Instr.memWrite tOkHdr (2 ^ 64) 1 []).wf = false ∧
    (Instr.memWrite tOkHdr 1 (2 ^ 64) []).wf = false ∧
    (Instr.memRead { tOkHdr with tag := 2 ^ 16 } 1 1 1).wf = false ∧
    (Instr.memRead tOkHdr (2 ^ 64) 1 1).wf = false ∧
    (Instr.memRead tOkHdr 1 (2 ^ 64) 1).wf = false ∧
    (Instr.memRead tOkHdr 1 1 (2 ^ 64)).wf = false ∧
    (Instr.loadScript { tOkHdr with tag := 2 ^ 16 } 1 1 1 tEmpty).wf = false ∧
    (Instr.loadScript tOkHdr (2 ^ 64) 1 1 tEmpty).wf = false ∧
    (Instr.loadScript tOkHdr 1 (2 ^ 64) 1 tEmpty).wf = false ∧
    (Instr.loadScript tOkHdr 1 1 (2 ^ 64) tEmpty).wf = false ∧
    (Instr.unloadScript { tOkHdr with tag := 2 ^ 16 } 1).wf = false ∧
    (Instr.unloadScript tOkHdr (2 ^ 64)).wf = false ∧
    (Instr.run { tOkHdr with tag := 2 ^ 16 } 1 1).wf = false ∧
    (Instr.run tOkHdr (2 ^ 64) 1).wf = false ∧
    (Instr.run tOkHdr 1 (2 ^ 64)).wf = false ∧
    (Instr.stop { tOkHdr with tag := 2 ^ 16 } 1 1).wf = false ∧
    (Instr.stop tOkHdr (2 ^ 64) 1).wf = false ∧
    (Instr.stop tOkHdr 1 (2 ^ 64)).wf = false ∧
    (Instr.submit { tOkHdr with tag := 2 ^ 16 } 1 1 1 1 1).wf = false ∧
    (Instr.submit tOkHdr (2 ^ 64) 1 1 1 1).wf = false ∧
    (Instr.submit tOkHdr 1 (2 ^ 64) 1 1 1).wf = false ∧
    (Instr.submit tOkHdr 1 1 (2 ^ 64) 1 1).wf = false ∧
    (Instr.submit tOkHdr 1 1 1 (2 ^ 64) 1).wf = false := by decide

theorem test_wf_refuses_4 :
    (Instr.submit tOkHdr 1 1 1 1 (2 ^ 64)).wf = false ∧
    (Instr.scriptStatus { tOkHdr with tag := 2 ^ 16 } 1).wf = false ∧
    (Instr.scriptStatus tOkHdr (2 ^ 64)).wf = false ∧
    (Instr.restart { tOkHdr with tag := 2 ^ 16 } 1).wf = false ∧
    (Instr.restart tOkHdr (2 ^ 64)).wf = false ∧
    (Instr.sensorSettings { tOkHdr with tag := 2 ^ 16 } 1 1 [] [] (0, 0) (0, 0) (0, 0)).wf = false ∧
    (Instr.sensorSettings tOkHdr (2 ^ 64) 1 [] [] (0, 0) (0, 0) (0, 0)).wf = false ∧
    (Instr.sensorSettings tOkHdr 1 (2 ^ 64) [] [] (0, 0) (0, 0) (0, 0)).wf = false ∧
    (Instr.ispParams { tOkHdr with tag := 2 ^ 16 } 1 1 1 []).wf = false ∧
    (Instr.ispParams tOkHdr (2 ^ 64) 1 1 []).wf = false ∧
    (Instr.ispParams tOkHdr 1 (2 ^ 64) 1 []).wf = false ∧
    (Instr.ispParams tOkHdr 1 1 (2 ^ 64) []).wf = false ∧
    (Instr.i2cRead { tOkHdr with tag := 2 ^ 16 } 1 1 1 false 1).wf = false ∧
    (Instr.i2cRead tOkHdr (2 ^ 64) 1 1 false 1).wf = false ∧
    (Instr.i2cRead tOkHdr 1 (2 ^ 64) 1 false 1).wf = false ∧
    (Instr.i2cRead tOkHdr 1 1 (2 ^ 64) false 1).wf = false ∧
    (Instr.i2cRead tOkHdr 1 1 1 false (2 ^ 64)).wf = false ∧
    (Instr.fsyncSchedule { tOkHdr with tag := 2 ^ 16 } 1 1 1 1).wf = false ∧
    (Instr.fsyncSchedule tOkHdr (2 ^ 64) 1 1 1).wf = false ∧
    (Instr.fsyncSchedule tOkHdr 1 (2 ^ 64) 1 1).wf = false ∧
    (Instr.fsyncSchedule tOkHdr 1 1 (2 ^ 64) 1).wf = false ∧
    (Instr.fsyncSchedule tOkHdr 1 1 1 (2 ^ 64)).wf = false ∧
    (Instr.streamStatus { tOkHdr with tag := 2 ^ 16 } 1).wf = false ∧
    (Instr.streamStatus tOkHdr (2 ^ 64)).wf = false := by decide

theorem test_wf_refuses_5 :
    (Instr.powerGet { tOkHdr with tag := 2 ^ 16 }).wf = false ∧
    (Instr.setOp { tOkHdr with tag := 2 ^ 16 } 1 1).wf = false ∧
    (Instr.setOp tOkHdr (2 ^ 64) 1).wf = false ∧
    (Instr.setOp tOkHdr 1 (2 ^ 64)).wf = false ∧
    (Instr.setPowerCap { tOkHdr with tag := 2 ^ 16 } 1).wf = false ∧
    (Instr.setPowerCap tOkHdr (2 ^ 64)).wf = false ∧
    (Instr.sleep { tOkHdr with tag := 2 ^ 16 } 1 1).wf = false ∧
    (Instr.sleep tOkHdr (2 ^ 64) 1).wf = false ∧
    (Instr.sleep tOkHdr 1 (2 ^ 64)).wf = false ∧
    (Instr.dark { tOkHdr with tag := 2 ^ 16 } 1).wf = false ∧
    (Instr.dark tOkHdr (2 ^ 64)).wf = false ∧
    (Instr.rehearsalStatus { tOkHdr with tag := 2 ^ 16 }).wf = false ∧
    (Instr.rehearsalCfg { tOkHdr with tag := 2 ^ 16 } 1).wf = false ∧
    (Instr.rehearsalCfg tOkHdr (2 ^ 64)).wf = false ∧
    (Instr.rehearseNow { tOkHdr with tag := 2 ^ 16 } 1).wf = false ∧
    (Instr.rehearseNow tOkHdr (2 ^ 64)).wf = false ∧
    (Instr.repairMapGet { tOkHdr with tag := 2 ^ 16 } 1).wf = false ∧
    (Instr.repairMapGet tOkHdr (2 ^ 64)).wf = false ∧
    (Instr.coreReplace { tOkHdr with tag := 2 ^ 16 } 1).wf = false ∧
    (Instr.coreReplace tOkHdr (2 ^ 64)).wf = false ∧
    (Instr.fullTest { tOkHdr with tag := 2 ^ 16 } 1 []).wf = false ∧
    (Instr.fullTest tOkHdr (2 ^ 64) []).wf = false ∧
    (Instr.attest { tOkHdr with tag := 2 ^ 16 } []).wf = false ∧
    (Instr.fwUpdateBegin { tOkHdr with tag := 2 ^ 16 } 1 1).wf = false := by decide

theorem test_wf_refuses_6 :
    (Instr.fwUpdateBegin tOkHdr (2 ^ 64) 1).wf = false ∧
    (Instr.fwUpdateBegin tOkHdr 1 (2 ^ 64)).wf = false ∧
    (Instr.fwUpdateData { tOkHdr with tag := 2 ^ 16 } 1 []).wf = false ∧
    (Instr.fwUpdateData tOkHdr (2 ^ 64) []).wf = false ∧
    (Instr.fwUpdateCommit { tOkHdr with tag := 2 ^ 16 }).wf = false ∧
    (Instr.lifecycleToken { tOkHdr with tag := 2 ^ 16 } []).wf = false ∧
    (Instr.fabricStatus { tOkHdr with tag := 2 ^ 16 }).wf = false ∧
    (Instr.linkReset { tOkHdr with tag := 2 ^ 16 } 1).wf = false ∧
    (Instr.linkReset tOkHdr (2 ^ 64)).wf = false ∧
    (Instr.lichenInfo { tOkHdr with tag := 2 ^ 16 }).wf = false ∧
    (Instr.lichenRead { tOkHdr with tag := 2 ^ 16 } 1 1).wf = false ∧
    (Instr.lichenRead tOkHdr (2 ^ 64) 1).wf = false ∧
    (Instr.lichenRead tOkHdr 1 (2 ^ 64)).wf = false ∧
    (Instr.regRead { tOkHdr with tag := 2 ^ 16 } 1 1).wf = false ∧
    (Instr.regRead tOkHdr (2 ^ 64) 1).wf = false ∧
    (Instr.regRead tOkHdr 1 (2 ^ 64)).wf = false ∧
    (Instr.regWrite { tOkHdr with tag := 2 ^ 16 } 1 1 1).wf = false ∧
    (Instr.regWrite tOkHdr (2 ^ 64) 1 1).wf = false ∧
    (Instr.regWrite tOkHdr 1 (2 ^ 64) 1).wf = false ∧
    (Instr.regWrite tOkHdr 1 1 (2 ^ 64)).wf = false ∧
    (Instr.fenceUnit { tOkHdr with tag := 2 ^ 16 } 1 1).wf = false ∧
    (Instr.fenceUnit tOkHdr (2 ^ 64) 1).wf = false ∧
    (Instr.fenceUnit tOkHdr 1 (2 ^ 64)).wf = false ∧
    (Instr.powerLimiterSample (2 ^ 16) 1 1 1).wf = false := by decide

theorem test_wf_refuses_7 :
    (Instr.powerLimiterSample 1 (2 ^ 16) 1 1).wf = false ∧
    (Instr.powerLimiterSample 1 1 (2 ^ 16) 1).wf = false ∧
    (Instr.powerLimiterSample 1 1 1 (2 ^ 16)).wf = false ∧
    (Instr.uvWarn (2 ^ 16)).wf = false ∧
    (Instr.uvShutdown (2 ^ 16)).wf = false ∧
    (Instr.uvRecover (2 ^ 16)).wf = false ∧
    (Instr.lichenRequest (2 ^ 16) false).wf = false := by decide

theorem test_fits {α : Type} (x : α) : fits (List.replicate 65537 x) = false := by
  unfold fits; rw [List.length_replicate]; decide

theorem test_wf_refuses_long :
    (Instr.wingsStage tOkHdr 1 (List.replicate 65537 tMember)).wf = false ∧
    (Instr.memWrite tOkHdr 1 1 (List.replicate 65537 (0 : Byte))).wf = false ∧
    (Instr.sensorSettings tOkHdr 1 1 (List.replicate 65537 ((0, 0) : Word × Word)) [] (0, 0) (0, 0) (0, 0)).wf = false ∧
    (Instr.sensorSettings tOkHdr 1 1 [] (List.replicate 65537 ((0, 0) : Word × Word)) (0, 0) (0, 0) (0, 0)).wf = false ∧
    (Instr.ispParams tOkHdr 1 1 1 (List.replicate 65537 (0 : Half))).wf = false ∧
    (Instr.fullTest tOkHdr 1 (List.replicate 65537 0)).wf = false ∧
    (Instr.attest tOkHdr (List.replicate 65537 (0 : Byte))).wf = false ∧
    (Instr.fwUpdateData tOkHdr 1 (List.replicate 65537 (0 : Byte))).wf = false ∧
    (Instr.lifecycleToken tOkHdr (List.replicate 65537 (0 : Byte))).wf = false := by
  refine ⟨?_, ?_, ?_, ?_, ?_, ?_, ?_, ?_, ?_⟩ <;>
    (simp only [Instr.wf, test_fits, Bool.and_false, Bool.false_and])

/-! ### Single commands -/

/-- R45: an entry that fires earlier goes in front. -/
theorem test_push_orders :
    tNext (exec (.cueqPush .hub 0) { tNow with cueq := [(0x10, { w0 := 150, entries := [tE 0 160] })] })
      (fun t => (t.cq 0x10).entries.map (·.time)) = some [150, 160] := by decide +kernel

/-- R41: a port queue holds 8 entries; the ninth is refused. -/
theorem test_push_refused :
    tNext (exec (.cueqPush (.port 2) 0) { tNow with cueq := [(0x22, { w0 := 150, entries := List.replicate 8 (tE 0 160) })] })
      (fun t => ((t.cq 0x22).entries.length, t.fld (rCUEQ_STAT (queueGroup (.port 2))) fCUEQ_STAT_REFUSED)) = some (8, 1) := by decide +kernel

/-- R48: FLUSH empties a queue. -/
theorem test_flush : tNext (exec (.cueqFlush .hub) (tFire .hub (tE 0 50))) (fun t => (t.cq 0x10).entries.length) = some 0 := by decide +kernel

/-- R40: the same entry waits without alignment and fires with it. -/
theorem test_fab : tNext (exec (.nop .hub) { tFabNop with regs := [] }) (fun t => (t.cq 0x10).entries.length) = some 1 ∧
    tNext (exec (.nop .hub) tFabNop) (fun t => (t.cq 0x10).entries.length) = some 0 := by decide +kernel

/-- R330: with CORES = 0x2C the stripes go to cores 2, 3, 5, 2, ... -/
theorem test_round_robin :
    (List.range 5).map (fun (n : Nat) =>
      (SaFrame.place { tSaFrame false with cfg := setF 0 fSA_STR_CFG_CORES 0x2C } n).map (fun x => x.1)) =
      [some 2, some 3, some 5, some 2, some 3] := by decide +kernel

/-- R384: a second command with the tag of an outstanding one. -/
theorem test_dup : tNext (exec (.ping (tDupHdr 0)) tAbort)
    (fun t => (t.host.outstanding.length, t.host.replies.map (fun r => (r.tag, r.status, r.dup)))) = some (1, [(9, 0x0B, true)]) := by decide +kernel

/-- R381: PING replies with cue time. -/
theorem test_ping : tNext (exec (.ping (tHdr 0)) tHost) (fun t => t.host.replies.map (fun r => (r.tag, r.status, r.payload))) =
    some [(7, 0, [100])] := by decide +kernel

/-- R117: 240 shifted right by 5 is 7, the greatest 3-bit residual; by 4 it is 15. -/
theorem test_frc_shift : frcShift 240 7 16 = 5 ∧ frcShift 7 7 16 = 0 ∧ frcShift 8 7 16 = 1 := by decide +kernel

/-- R118: a unit whose values are all equal decodes exactly. -/
theorem test_frc_equal : frcDecode 2 1 (frcEncode 2 1 (List.replicate 256 200)) = (List.replicate 256 200, 0) := by decide +kernel

/-- R444, R495: in FIELD a debug instruction selects BYPASS. -/
theorem test_jtag_debug : tNext (exec .jtagDebugInstruction tNow) (fun t => t.tap.ir) = some .bypass := by decide +kernel

/-- R428: a power-on reset starts cue time at 0 and keeps the queue. -/
theorem test_power_on : tNext (exec .powerOnReset { tNow with pending := [.aonTick] }) (fun t => (t.now, t.pending)) = some (0, [.aonTick]) := by decide +kernel

/-- An empty queue: the block idles. -/
theorem test_idle : tNext (step tNow) (fun t => (t.time.ns, t.pending)) = some (2 ^ 40 + 1, []) := by decide +kernel

/-- No word spells a command. -/
theorem test_no_word : decodeTableWord 8 0 = none ∧ tNow.withFetchWord 8 0 = tNow := by decide +kernel

/-! ### The hypotheses of every statement can be met -/

theorem witness_CueTimeCommands_1 :
    (∃ (s : State), (s.fastSource = false)) ∧
    (∃ (s : State), (0 < s.trim) ∧ (s.fastRuns = true) ∧ (s.time.lastTrim + 10 ^ 9 / s.trim.natAbs ≤ s.time.ns)) ∧
    (∃ (s : State), (s.trim < 0) ∧ (s.fastRuns = true) ∧ (s.time.lastTrim + 10 ^ 9 / s.trim.natAbs ≤ s.time.ns)) ∧
    (∃ (s : State), (s.canon) ∧ (0 < s.slew) ∧ (s.fastRuns = true) ∧ (s.time.lastSlew + 4096 ≤ s.time.ns)) ∧
    (∃ (s : State), (s.canon) ∧ (s.slew < 0) ∧ (s.fastRuns = true) ∧ (s.time.lastSlew + 4096 ≤ s.time.ns)) ∧
    (∃ (s : State), (s.canon) ∧ (s.power.st = .waking) ∧ (s.fastSource = false) ∧ (0 ∈ s.power.locked)) :=
  ⟨⟨tAon, by decide +kernel⟩,
   ⟨tTrim 5, by decide +kernel⟩,
   ⟨tTrim 0xFFFFB, by decide +kernel⟩,
   ⟨tSlew 5, by decide +kernel⟩,
   ⟨tSlew 0xFFFFFB, by decide +kernel⟩,
   ⟨tWaking, by decide +kernel⟩⟩

theorem witness_CueTimeCommands_2 :
    ∃ (s : State), (s.canon) ∧ ((∃ e, s.power.entry = some e ∧ e.step = 6 ∧ e.dark = false) ∨ (s.power.entry = none ∧ s.power.st = .sleep)) ∧ (s.fastSource = true) :=
  ⟨tAsleep, by decide +kernel⟩

theorem witness_PpsAndHold :
    (∃ (s : State) (high : Nat), (s.canon) ∧ (s.awake = true) ∧ (1000 ≤ high) ∧ (s.time.ppsLast.any (fun l => decide (s.time.ns < l + 500000000)) = false) ∧ (s.time.ppsEnabled = false)) ∧
    (∃ (s : State) (high : Nat), (s.canon) ∧ (s.awake = true) ∧ (1000 ≤ high) ∧ (s.time.ppsLast.any (fun l => decide (s.time.ns < l + 500000000)) = false) ∧ (s.time.ppsEnabled = true) ∧ (-(2 ^ 23) ≤ secondDistance s.now) ∧ (secondDistance s.now < 2 ^ 23)) ∧
    (∃ (s : State) (high : Nat), (s.canon) ∧ (s.awake = true) ∧ (1000 ≤ high) ∧ (s.time.ppsLast.any (fun l => decide (s.time.ns < l + 500000000)) = false) ∧ (s.time.ppsEnabled = true) ∧ (secondDistance s.now < -(2 ^ 23) ∨ 2 ^ 23 ≤ secondDistance s.now)) ∧
    (∃ (s : State) (high : Nat), (s.awake = true) ∧ (high < 1000 ∨ s.time.ppsLast.any (fun l => decide (s.time.ns < l + 500000000)) = true)) ∧
    (∃ (s : State) (l : Nat), (s.canon) ∧ (s.time.ppsLast = some l) ∧ (l + 1500000000 ≤ s.time.ns)) ∧
    (∃ (s : State) (u : Nat), (s.canon) ∧ (s.time.holdUntil = some u) ∧ (u ≤ s.time.ns)) :=
  ⟨⟨tPps, 1000, by exact ⟨by decide, by decide, by decide, by decide, rfl⟩⟩,
   ⟨{ tPps with time := { ppsEnabled := true } }, 1000, by exact ⟨by decide, by decide, by decide, by decide, rfl, by decide, by decide⟩⟩,
   ⟨{ tPps with time := { ppsEnabled := true, now := 100000000 } }, 1000, by exact ⟨by decide, by decide, by decide, by decide, rfl, by decide⟩⟩,
   ⟨tPps, 999, by decide⟩,
   ⟨tPpsLost, 0, by decide +kernel⟩,
   ⟨{ State.reset with time := { holdUntil := some 0 } }, 0, by decide +kernel⟩⟩

theorem witness_CueQueueCommands_1 :
    (∃ (s : State) (q : QueueId) (w : Word) (e : CueEntry), (e = CueEntry.ofWords (s.cq q.num).w0 (s.cq q.num).w1 (s.cq q.num).w2 w) ∧ ((s.cq q.num).entries.length < queueCap q) ∧ (entryReserved (s.cq q.num).w2 = false) ∧ (legalEntry s q e = true) ∧ (s.now ≤ e.time + s.tol)) ∧
    (∃ (s : State) (q : QueueId) (w : Word) (e : CueEntry), (e = CueEntry.ofWords (s.cq q.num).w0 (s.cq q.num).w1 (s.cq q.num).w2 w) ∧ ((s.cq q.num).entries.length < queueCap q) ∧ (entryReserved (s.cq q.num).w2 = false) ∧ (legalEntry s q e = true) ∧ (e.time + s.tol < s.now) ∧ (e.late = 0)) ∧
    (∃ (s : State) (q : QueueId) (w : Word) (e : CueEntry), (e = CueEntry.ofWords (s.cq q.num).w0 (s.cq q.num).w1 (s.cq q.num).w2 w) ∧ ((s.cq q.num).entries.length < queueCap q) ∧ (entryReserved (s.cq q.num).w2 = false) ∧ (legalEntry s q e = true) ∧ (e.time + s.tol < s.now) ∧ (e.late = 1)) ∧
    (∃ (s : State) (q : QueueId) (w : Word) (e : CueEntry), (e = CueEntry.ofWords (s.cq q.num).w0 (s.cq q.num).w1 (s.cq q.num).w2 w) ∧ ((s.cq q.num).entries.length < queueCap q) ∧ (entryReserved (s.cq q.num).w2 = false) ∧ (legalEntry s q e = true) ∧ (e.time + s.tol < s.now) ∧ (e.late = 2)) ∧
    (∃ (s : State) (q : QueueId) (w : Word), (queueCap q ≤ (s.cq q.num).entries.length ∨ entryReserved (s.cq q.num).w2 = true ∨
        legalEntry s q (CueEntry.ofWords (s.cq q.num).w0 (s.cq q.num).w1 (s.cq q.num).w2 w) = false)) ∧
    (∃ (s : State) (q : QueueId), ((s.cq q.num).halted = true)) :=
  ⟨⟨tNow, .hub, 0, CueEntry.ofWords 0 0 0 0, by decide +kernel⟩,
   ⟨tLatePush 0, .hub, 0, CueEntry.ofWords 200 0 0 0, by decide +kernel⟩,
   ⟨tLatePush 64, .hub, 0, CueEntry.ofWords 200 0 64 0, by decide +kernel⟩,
   ⟨tLatePush 128, .hub, 0, CueEntry.ofWords 200 0 128 0, by decide +kernel⟩,
   ⟨{ tNow with cueq := [(0x30, { w2 := 512 })] }, .aon, 0, by exact Or.inr (Or.inl (by decide))⟩,
   ⟨tHalted, .hub, by decide +kernel⟩⟩

theorem witness_CueQueueCommands_2 :
    (∃ (s : State) (q : QueueId) (e : CueEntry), ((s.cq q.num).entries.head? = some e) ∧ (s.power.st = .idle) ∧ (e.time ≤ s.now + 256) ∧ (q.num ∉ s.power.ungated)) ∧
    (∃ (s : State) (q : QueueId) (e : CueEntry) (l : List CueEntry), ((s.cq q.num).entries = e :: l) ∧ ((s.cq q.num).halted = false) ∧ (s.isLate e = true) ∧ (s.holding = false) ∧ (s.queueRuns q = true) ∧ (s.fabWaits e = false) ∧ (e.late = 0) ∧ (e.counted = false)) ∧
    (∃ (s : State) (q : QueueId) (e : CueEntry) (l : List CueEntry), ((s.cq q.num).entries = e :: l) ∧ ((s.cq q.num).halted = false) ∧ (s.isLate e = true) ∧ (s.holding = false) ∧ (s.queueRuns q = true) ∧ (s.fabWaits e = false) ∧ (e.late = 1)) ∧
    (∃ (s : State) (q : QueueId) (e : CueEntry) (l : List CueEntry), ((s.cq q.num).entries = e :: l) ∧ ((s.cq q.num).halted = false) ∧ (s.isLate e = true) ∧ (s.holding = false) ∧ (s.queueRuns q = true) ∧ (s.fabWaits e = false) ∧ (e.late ≠ 0) ∧ (e.late ≠ 1)) :=
  ⟨⟨{ tFire .hub (tE 0 300) with power := { st := .idle } }, .hub, tE 0 300, by decide +kernel⟩,
   ⟨tFire .hub { (tE 0 0) with late := 0 }, .hub, { (tE 0 0) with late := 0 }, [], by decide +kernel⟩,
   ⟨tFire .hub { (tE 0 0) with late := 1 }, .hub, { (tE 0 0) with late := 1 }, [], by decide +kernel⟩,
   ⟨tFire .hub { (tE 0 0) with late := 2 }, .hub, { (tE 0 0) with late := 2 }, [], by decide +kernel⟩⟩

theorem witness_CueActions_1 :
    (∃ (s : State) (e : CueEntry) (q : QueueId), (s.firing q 0x00 = some e)) ∧
    (∃ (s : State) (e : CueEntry), (s.firing .hub 0x0D = some e)) ∧
    (∃ (s : State) (e : CueEntry) (n : Nat), (s.firing .hub 0x06 = some e) ∧ (bitsOf e.arg 3 0 = n) ∧ (((s.taken .hub e).window n).booked = true)) ∧
    (∃ (s : State) (e : CueEntry) (n : Nat), (s.firing .hub 0x07 = some e) ∧ (bitsOf e.arg 3 0 = n)) ∧
    (∃ (s : State) (e : CueEntry) (q : QueueId), (s.firing q 0x01 = some e) ∧ (((s.taken q e).chan ((s.taken q e).queueEngine q) (bitsOf e.arg 5 0)).launchPend = false)) ∧
    (∃ (s : State) (e : CueEntry) (b : Fin 8), (s.firing (.core b) 0x02 = some e) ∧ ((s.taken (.core b) e).frondFull b.val = false)) :=
  ⟨⟨tFire .hub (tE 0 50), tE 0 50, .hub, by decide +kernel⟩,
   ⟨tFire .hub { (tE 0x0D 50) with arg := 0x8000 }, { (tE 0x0D 50) with arg := 0x8000 }, by decide +kernel⟩,
   ⟨{ tFire .hub (tE 6 50) with noc := [(0, { booked := true })] }, tE 6 50, 0, by decide +kernel⟩,
   ⟨tFire .hub (tE 7 50), tE 7 50, 0, by decide +kernel⟩,
   ⟨tFire .hub (tE 1 50), tE 1 50, .hub, by decide +kernel⟩,
   ⟨tFire (.core 3) (tE 2 50), tE 2 50, 3, by decide +kernel⟩⟩

theorem witness_CueActions_2 :
    (∃ (s : State) (e : CueEntry) (b : Fin 8), (s.firing (.core b) 0x03 = some e) ∧ ((s.taken (.core b) e).ctxSt ((s.taken (.core b) e).phys b.val) (bitsOf e.arg 1 0) = 0)) ∧
    (∃ (s : State) (e : CueEntry) (b : Fin 8), (s.firing (.core b) 0x04 = some e)) ∧
    (∃ (s : State) (e : CueEntry), (s.firing .hub 0x05 = some e)) ∧
    (∃ (s : State) (e : CueEntry) (p : Fin 12), (s.firing (.port p) 0x08 = some e)) ∧
    (∃ (s : State) (e : CueEntry) (p : Fin 12), (s.firing (.port p) 0x09 = some e) ∧ ((s.taken (.port p) e).i2cBusy p.val = false)) ∧
    (∃ (s : State) (e : CueEntry) (p : Fin 12), (s.firing (.port p) 0x0A = some e) ∧ (s.power.st ≠ .sleep) ∧ (s.power.st ≠ .waking)) :=
  ⟨⟨tFire (.core 3) (tE 3 50), tE 3 50, 3, by decide +kernel⟩,
   ⟨tFire (.core 3) (tE 4 50), tE 4 50, 3, by decide +kernel⟩,
   ⟨tFire .hub (tE 5 50), tE 5 50, by decide +kernel⟩,
   ⟨tFire (.port 2) (tE 8 50), tE 8 50, 2, by decide +kernel⟩,
   ⟨(tFire (.port 2) (tE 9 50)).setFld (rI2C_CFG 2) fI2C_CFG_EN 1, tE 9 50, 2, by decide +kernel⟩,
   ⟨tFire (.port 2) (tE 10 50), tE 10 50, 2, by decide +kernel⟩⟩

theorem witness_CueActions_3 :
    ∃ (s : State) (e : CueEntry), (s.firing .aon 0x0C = some e) :=
  ⟨tFire .aon (tE 12 50), tE 12 50, by decide +kernel⟩

theorem witness_WingsEvents :
    (∃ (s : State) (n : Fin 64) (e : CueEntry), (s.firing .hub 0x0B = some e) ∧ (bitsOf e.arg 5 0 = n.val) ∧ ((s.taken .hub e).awake = true) ∧ ((s.taken .hub e).strobeDue n.val = true)) ∧
    (∃ (s : State) (n : Fin 64), (s.firing .hub 0x0B = none) ∧ (s.awake = true) ∧ (s.strobeDue n.val = true) ∧ ((s.wset n.val).members.all (fun m => m.isSealed) = true)) ∧
    (∃ (s : State) (n : Fin 64) (i : Nat), (s.firing .hub 0x0B = none) ∧ (s.awake = true) ∧ (s.strobeDue n.val = true) ∧ ((s.wset n.val).members.findIdx? (fun m => !m.isSealed) = some i)) ∧
    (∃ (s : State) (n : Fin 64), ((s.wset n.val).st = .armed) ∧ ((s.wset n.val).fabric ≠ 0) ∧ ((s.wset n.val).committed = false) ∧ ((s.wset n.val).time ≤ s.now + 1000000)) ∧
    (∃ (s : State) (l : Fin 7) (m : LinkMsg), (s.headMsg l.val 0x38 = some m) ∧ (s.master = true)) ∧
    (∃ (s : State) (l : Fin 7) (m : LinkMsg), (s.headMsg l.val 0x39 = some m)) :=
  ⟨⟨{ tFire .hub (tE 11 50) with wings := [(0, { st := .armed, time := 50 })] }, 0, tE 11 50, by decide +kernel⟩,
   ⟨{ tNow with wings := [(3, { st := .armed, time := 50, members := [⟨0x32, 0xC, 7, true⟩] })] }, 3, by decide +kernel⟩,
   ⟨{ tNow with wings := [(3, { st := .armed, time := 50, members := [⟨0x32, 0xC, 7, false⟩] })] }, 3, 0, by decide +kernel⟩,
   ⟨{ tNow with wings := [(3, { st := .armed, time := 50, fabric := 9 })] }, 3, by decide +kernel⟩,
   ⟨tMaster (tMsg 0x38 []), 2, tMsg 0x38 [], by decide +kernel⟩,
   ⟨tMaster (tMsg 0x39 [9, 0]), 2, tMsg 0x39 [9, 0], by decide +kernel⟩⟩

theorem witness_FrondQueue :
    (∃ (s s1 : State) (b : Fin 9) (w : Word) (bytes : List Byte) (j : FrondJob), (getF w fFROND_JOB_Q_DESC_OFS % 32 = 0) ∧ (s.frondFull b.val = false) ∧ (s.readMem (corePlace (s.phys b.val) (0x300000 + getF w fFROND_JOB_Q_DESC_OFS)) 64 = (some bytes, s1)) ∧ (j = { ofs := getF w fFROND_JOB_Q_DESC_OFS, d := (List.range 16).map (fun (i : Nat) => ofLeBytes ((bytes.drop (4 * i)).take 4)) }) ∧ (j.check = 0)) ∧
    (∃ (s : State) (b : Fin 9) (w : Word), (getF w fFROND_JOB_Q_DESC_OFS % 32 = 0) ∧ (s.frondFull b.val = true)) ∧
    (∃ (s s1 : State) (b : Fin 9) (j j1 : FrondJob), ((s.frond (s.phys b.val)).next = some j) ∧ ((s.frond (s.phys b.val)).cur = none) ∧ ((s.frond (s.phys b.val)).halted = []) ∧ (s.frondFenced b.val = false) ∧ ((s.frond (s.phys b.val)).saved = none ∨ j.rt = true) ∧ (s.frondLeave (s.phys b.val) j = (s1, some j1))) ∧
    (∃ (s s1 : State) (b : Fin 9) (c j j1 : FrondJob), ((s.frond (s.phys b.val)).cur = some c) ∧ ((s.frond (s.phys b.val)).queue.find? FrondJob.rt = some j) ∧ (c.rt = false) ∧ (c.bad = none) ∧ ((s.frond (s.phys b.val)).saved = none) ∧ ((s.frond (s.phys b.val)).halted = []) ∧ (s.frondFenced b.val = false) ∧ (s.frondLeave (s.phys b.val) j = (s1, some j1))) ∧
    (∃ (s s1 : State) (b : Fin 9) (j j1 : FrondJob) (blk : List Byte), ((s.frond (s.phys b.val)).cur = some j) ∧ (j.bad = none) ∧ (j.pass < j.kt) ∧ (j.plane.length < j.blocks j.pass) ∧ ((s.frond (s.phys b.val)).halted = []) ∧ (s.nextBlock b.val j = (some (some blk), s1)) ∧ (j.blockOk (j.blockNo j.pass j.plane.length) blk = true) ∧ (j1 = { j with plane := j.plane ++ [blk] })) ∧
    (∃ (s s1 : State) (b : Fin 9) (j : FrondJob) (blk : List Byte), ((s.frond (s.phys b.val)).cur = some j) ∧ (j.bad = none) ∧ (j.pass < j.kt) ∧ (j.plane.length < j.blocks j.pass) ∧ ((s.frond (s.phys b.val)).halted = []) ∧ (s.nextBlock b.val j = (some (some blk), s1)) ∧ (j.blockOk (j.blockNo j.pass j.plane.length) blk = false)) :=
  ⟨⟨tJobMem, (tJobMem.readMem (corePlace 0 0x300000) 64).2, 0, 0, tJobBytes, tJob, by decide +kernel⟩,
   ⟨{ tNow with fronds := [(0, { queue := List.replicate 16 tJob })] }, 0, 0, by decide +kernel⟩,
   ⟨tFrond { queue := [{ tJob with agent := some 0 }] }, ((tFrond { queue := [{ tJob with agent := some 0 }] }).frondLeave 0 { tJob with agent := some 0 }).1, 0, { tJob with agent := some 0 }, { tJob with agent := some 0, since := 2 ^ 40 }, by decide +kernel⟩,
   ⟨tFrond { cur := some tJob, queue := [tRtJob] }, ((tFrond { cur := some tJob, queue := [tRtJob] }).frondLeave 0 tRtJob).1, 0, tJob, tRtJob, { tRtJob with since := 2 ^ 40 }, by decide +kernel⟩,
   ⟨tBlock tJob, ((tBlock tJob).nextBlock 0 tJob).2, 0, tJob, { tJob with plane := [tBlk] }, tBlk, by decide +kernel⟩,
   ⟨tBlock tTagJob, ((tBlock tTagJob).nextBlock 0 tTagJob).2, 0, tTagJob, tBlk, by decide +kernel⟩⟩

theorem witness_FrondRun :
    (∃ (s s1 : State) (b : Fin 9) (j : FrondJob) (rows : List (List Byte)) (acc : List (List (Int × Bool))), ((s.frond (s.phys b.val)).cur = some j) ∧ (j.bad = none) ∧ (j.pass < j.kt) ∧ (j.blocks j.pass ≤ j.plane.length) ∧ ((s.frond (s.phys b.val)).halted = []) ∧ (([j.actRange] ++ j.biasRange ++ [j.outRange]).any (fun (r : Nat × Nat) => s.coreSpan (s.phys b.val) r.1 (r.2 - r.1) == .wait) = false) ∧ (s.actRows (s.phys b.val) j 0 j.m = (.ok rows, s1)) ∧ (acc = (rows.zip (if j.pass = 0 then List.replicate j.m (List.replicate j.n ((0 : Int), false)) else j.acc)).map (fun (x : List Byte × List (Int × Bool)) =>
          ((List.range j.n).zip x.2).map (fun (y : Nat × (Int × Bool)) => j.column x.1 y.1 y.2)))) ∧
    (∃ (s : State) (b : Fin 9) (j : FrondJob) (rest : List FrondJob) (s1 s2 : State), ((s.frond (s.phys b.val)).drain = j :: rest) ∧ (j.bad = none) ∧ (s1 = (s.setFrond (s.phys b.val) { s.frond (s.phys b.val) with drain := rest }).sbReleaseAll (s.phys b.val) (j.agent.getD 0)) ∧ (s2 = (s1.countWrap (rFROND_DONE_CNT (s.phys b.val)) wholeReg).setFld (rFROND_STATUS (s.phys b.val)) fFROND_STATUS_LAST_TAG (j.f 15 15 0))) ∧
    (∃ (s : State) (b : Fin 9) (j : FrondJob), (((s.frond (s.phys b.val)).drain ++ (s.frond (s.phys b.val)).cur.toList ++ (s.frond (s.phys b.val)).saved.toList).find? (fun j => j.bad.isSome) = some j)) ∧
    (∃ (s : State) (b : Fin 9), ((s.frond (s.phys b.val)).halted ≠ [])) :=
  ⟨⟨tBlock tFullJob, ((tBlock tFullJob).actRows 0 tFullJob 0 1).2, 0, tFullJob, [List.replicate 32 0], [[(0, false)]], by decide +kernel⟩,
   ⟨tFrond { drain := [tJob] }, 0, tJob, [], ((tFrond { drain := [tJob] }).setFrond 0 {}).sbReleaseAll 0 0, ((((tFrond { drain := [tJob] }).setFrond 0 {}).sbReleaseAll 0 0).countWrap (rFROND_DONE_CNT 0) wholeReg).setFld (rFROND_STATUS 0) fFROND_STATUS_LAST_TAG 0, by decide +kernel⟩,
   ⟨tFrond { cur := some { tJob with bad := some (3, 0, 0) } }, 0, { tJob with bad := some (3, 0, 0) }, by decide +kernel⟩,
   ⟨tFrond { halted := [tJob] }, 0, by decide +kernel⟩⟩

theorem witness_ChainCommands :
    (∃ (s : State) (b : Fin 9) (t : ChainTile) (q : Nat), ((s.chainBuf (s.phys b.val)).find? (fun t => !t.forwarded && !t.filling) = some t) ∧ (s.chainNext (s.phys b.val) = some q) ∧ (s.flag (rCHAIN_CFG q) fCHAIN_CFG_HEAD = false) ∧ ((s.chainBuf q).length < 2)) ∧
    (∃ (s : State) (b : Fin 9) (t : ChainTile), ((s.chainBuf (s.phys b.val)).find? (fun t => !t.forwarded && !t.filling) = some t) ∧ ((∃ q, s.chainNext (s.phys b.val) = some q ∧ s.flag (rCHAIN_CFG q) fCHAIN_CFG_HEAD = true) ∨ s.chainNext (s.phys b.val) = none)) ∧
    (∃ (s : State) (b : Fin 9) (j : FrondJob), ((s.frond (s.phys b.val)).cur = some j) ∧ (s.chainMember (s.phys b.val) (s.fld (rCHAIN_CFG (s.phys b.val)) fCHAIN_CFG_ID) = true) ∧ (s.flag (rCHAIN_CFG (s.phys b.val)) fCHAIN_CFG_HEAD = false) ∧ (j.wsrc = 2) ∧ (j.fallback = false) ∧ (j.plane = []) ∧ (j.pass < j.kt) ∧ ((s.chainBuf (s.phys b.val)).any (fun t => t.dpa == j.tileAddr j.pass && !t.filling) = false) ∧ (j.since + s.fld (rCHAIN_CFG (s.phys b.val)) fCHAIN_CFG_WAIT * 256 ≤ s.time.ns)) :=
  ⟨⟨tChain, 0, tTile, 1, by decide +kernel⟩,
   ⟨{ tNow with chain := [(0, [tTile])] }, 0, tTile, by exact ⟨by decide, Or.inr (by decide)⟩⟩,
   ⟨tChainWait, 0, tChainJob, by decide +kernel⟩⟩

theorem witness_VppCommands :
    (∃ (s : State) (b : Fin 9), (s.canon)) ∧
    (∃ (s : State) (b : Fin 9), (s.canon)) ∧
    (∃ (s : State) (b : Fin 9) (w : Word), (s.canon)) ∧
    (∃ (s : State) (b : Fin 9) (c : Nat), (s.halted (s.phys b.val) = false) ∧ (s.awake = true) ∧ ((s.schedule (s.phys b.val)).running (s.phys b.val) = some c) ∧ (((s.schedule (s.phys b.val)).ctx (s.phys b.val) c).stall = []) ∧ ((s.schedule (s.phys b.val)).intDue (s.phys b.val) c = false) ∧ ((s.schedule (s.phys b.val)).preemptDue (s.phys b.val) c = false)) ∧
    (∃ (s : State) (b : Fin 9) (c cause : Nat), (s.running (s.phys b.val) = some c) ∧ (s.wantedCause (s.phys b.val) = some cause) ∧ (s.intDue (s.phys b.val) c = true) ∧ (s.halted (s.phys b.val) = false) ∧ (s.awake = true)) :=
  ⟨⟨tNow, 0, by decide +kernel⟩,
   ⟨tNow, 0, by decide +kernel⟩,
   ⟨tNow, 0, 7, by decide +kernel⟩,
   ⟨tVpp 1, 0, 0, by decide +kernel⟩,
   ⟨tVppInt, 0, 0, 5, by decide +kernel⟩⟩

theorem witness_ContextCommands :
    (∃ (s : State) (b : Fin 9) (c : Nat), (s.running (s.phys b.val) = some c) ∧ ((s.sboard (s.phys b.val)).waits.any (fun w => w.who == .vpp c && decide (w.since + s.fld (rVPP_CTX_CTL (s.phys b.val)) fVPP_CTX_CTL_SW_THRESH < s.time.ns)) = true) ∧ (s.rtCtx (s.phys b.val) c = false) ∧ ((s.ctx (s.phys b.val) c).flight = []) ∧ (s.halted (s.phys b.val) = false) ∧ ((List.range 4).any (fun d => s.ctxSt (s.phys b.val) d == 1) = true)) ∧
    (∃ (s : State) (b : Fin 9) (c : Fin 4), (s.canon) ∧ (s.ctxSt (s.phys b.val) c.val = 3) ∧ (s.sbWaits (s.phys b.val) c.val = false)) ∧
    (∃ (s : State) (b : Fin 9) (c : Nat), (s.running (s.phys b.val) = some c) ∧ (s.preemptDue (s.phys b.val) c = true) ∧ (s.halted (s.phys b.val) = false)) ∧
    (∃ (s : State) (b : Fin 9) (c : Fin 4) (i : Nat) (w : SbWait), (s.rtCtx (s.phys b.val) c.val = true) ∧ (s.deadlinePast (s.phys b.val) c.val = true) ∧ ((s.sboard (s.phys b.val)).waits.findIdx? (fun w => w.who == .vpp c.val && !w.reported) = some i) ∧ ((s.sboard (s.phys b.val)).waits[i]? = some w)) ∧
    (∃ (s : State) (b : Fin 9) (c : Fin 4), (s.rtCtx (s.phys b.val) c.val = true) ∧ (s.deadlinePast (s.phys b.val) c.val = true) ∧ ((s.sboard (s.phys b.val)).waits.findIdx? (fun w => w.who == .vpp c.val && !w.reported) = none) ∧ ((s.ctx (s.phys b.val) c.val).regWait.isSome = true) ∧ ((s.ctx (s.phys b.val) c.val).regReported = false)) :=
  ⟨⟨{ tVpp (2 + 4) with sb := [(0, { waits := [⟨.vpp 0, [], [], 0, 0, false, false⟩] })] }, 0, 0, by decide +kernel⟩,
   ⟨tVpp 3, 0, 0, by decide +kernel⟩,
   ⟨(tVpp (2 + 4)).setFld (rVPP_CTX_CTL 0) fVPP_CTX_CTL_RTMASK 2, 0, 0, by decide +kernel⟩,
   ⟨tLateRt, 0, 0, 0, ⟨.vpp 0, [], [], 0, 0, false, false⟩, by decide +kernel⟩,
   ⟨{ tLateRt with sb := [], vpp := [(0, { ctxs := [(0, { regWait := some 5 })] })] }, 0, 0, by decide +kernel⟩⟩

theorem witness_RemoteCommands :
    (∃ (s : State) (r : Fin 15) (x : RemoteAccess), (0 < (s.tag r.val).waiting) ∧ ((s.tag r.val).held < (s.tag r.val).share) ∧ (s.remotes.find? (fun (x : RemoteAccess) => x.slot == r.val && x.untagged) = some x)) ∧
    (∃ (s : State) (r : Fin 15), (0 < (s.tag r.val).waiting) ∧ ((s.tag r.val).held < (s.tag r.val).share) ∧ (s.remotes.find? (fun (x : RemoteAccess) => x.slot == r.val && x.untagged) = none)) ∧
    (∃ (s : State) (id : Nat) (r : RemoteAccess), (s.remotes.find? (fun (r : RemoteAccess) => r.id == id) = some r) ∧ (r.answered = false) ∧ (r.untagged = false) ∧ (s.remoteFirst r = true)) ∧
    (∃ (s : State) (id : Nat) (r : RemoteAccess), (s.remotes.find? (fun (r : RemoteAccess) => r.id == id) = some r) ∧ (r.op = .store) ∧ (r.answered = true) ∧ (r.failed = false)) ∧
    (∃ (s t : State) (id : Nat) (r : RemoteAccess), (s.remotes.find? (fun (r : RemoteAccess) => r.id == id) = some r) ∧ (r.op = .store) ∧ (r.answered = true) ∧ (r.failed = true) ∧ (t = ({ s with remotes := s.remotes.filter (fun (x : RemoteAccess) => x.id != id) }).freeTag r.slot)) ∧
    (∃ (s : State) (b : Fin 9) (c : Fin 4) (mine : List RemoteAccess) (u : State), ((s.ctx (s.phys b.val) c.val).stall ≠ []) ∧ (mine = s.remotes.filter (fun r => (s.ctx (s.phys b.val) c.val).stall.contains r.id)) ∧ (mine.length = (s.ctx (s.phys b.val) c.val).stall.length) ∧ (mine.all (fun r => r.answered) = true) ∧ (u = { ((s.ctx (s.phys b.val) c.val).stall.foldl (fun (t : State) _ => t.freeTag b.val) s) with
          remotes := ((s.ctx (s.phys b.val) c.val).stall.foldl (fun (t : State) _ => t.freeTag b.val) s).remotes.filter (fun r => !(s.ctx (s.phys b.val) c.val).stall.contains r.id) })) :=
  ⟨⟨{ tRem { tAcc with untagged := true } with tags := [(0, { waiting := 1 })] }, 0, { tAcc with untagged := true }, by decide +kernel⟩,
   ⟨{ tNow with tags := [(9, { waiting := 1 })] }, 9, by decide +kernel⟩,
   ⟨tRem tAcc, 7, tAcc, by decide +kernel⟩,
   ⟨tRem { tAcc with op := .store, answered := true }, 7, { tAcc with op := .store, answered := true }, by decide +kernel⟩,
   ⟨tRem { tAcc with op := .store, answered := true, failed := true }, _, 7, { tAcc with op := .store, answered := true, failed := true }, by exact ⟨by decide +kernel, by decide +kernel, by decide +kernel, by decide +kernel, rfl⟩⟩,
   ⟨{ tRem { tAcc with answered := true } with vpp := [(0, { ctxs := [(0, { stall := [7] })] })] }, 0, 0, [{ tAcc with answered := true }], _, by exact ⟨by decide +kernel, by decide +kernel, by decide +kernel, by decide +kernel, rfl⟩⟩⟩

theorem witness_BankCommands_1 :
    (∃ (s : State) (u : Fin 9) (i : Fin 16) (t : BankTrans), (s.bankTrans (16 * s.phys u.val + i.val) = some t) ∧ (t.up = false) ∧ (s.bankBusy (s.phys u.val) i.val = false)) ∧
    (∃ (s : State) (u : Fin 9) (i : Fin 16) (t : BankTrans), (s.bankTrans (256 + 16 * u.val + i.val) = some t) ∧ (t.up = false) ∧ (s.wayBusy u.val i.val = false)) ∧
    (∃ (s : State) (u : Fin 9) (i : Fin 16) (t : BankTrans), (s.bankTrans (16 * s.phys u.val + i.val) = some t) ∧ (t.up = false) ∧ (t.since + 4096 ≤ s.time.ns)) ∧
    (∃ (s : State) (u : Fin 9) (i : Fin 16) (t : BankTrans), (s.bankTrans (256 + 16 * u.val + i.val) = some t) ∧ (t.up = false) ∧ (t.since + 4096 ≤ s.time.ns)) ∧
    (∃ (s : State) (u : Fin 9) (i : Fin 12) (t : BankTrans), (s.bankTrans (16 * s.phys u.val + i.val) = some t) ∧ (t.up = true) ∧ (t.since + 1524 ≤ s.time.ns)) ∧
    (∃ (s : State) (u : Fin 9) (i : Fin 16) (t : BankTrans), (s.bankTrans (16 * s.phys u.val + i.val) = some t) ∧ (t.up = true) ∧ (t.since + 1524 ≤ s.time.ns) ∧ (i.val < 12)) :=
  ⟨⟨{ tNow with banks := [(16 * 2 + 3, ⟨false, 0⟩)] }, 2, 3, ⟨false, 0⟩, by decide +kernel⟩,
   ⟨{ tNow with banks := [(256 + 16 * 1 + 3, ⟨false, 0⟩)] }, 1, 3, ⟨false, 0⟩, by decide +kernel⟩,
   ⟨{ tNow with banks := [(16 * 2 + 3, ⟨false, 0⟩)] }, 2, 3, ⟨false, 0⟩, by decide +kernel⟩,
   ⟨{ tNow with banks := [(256 + 16 * 1 + 3, ⟨false, 0⟩)] }, 1, 3, ⟨false, 0⟩, by decide +kernel⟩,
   ⟨{ tNow with banks := [(16 * 2 + 3, ⟨true, 0⟩)] }, 2, 3, ⟨true, 0⟩, by decide +kernel⟩,
   ⟨{ tNow with banks := [(16 * 2 + 3, ⟨true, 0⟩)] }, 2, 3, ⟨true, 0⟩, by decide +kernel⟩⟩

theorem witness_BankCommands_2 :
    (∃ (s v : State) (u : Fin 9) (i : Fin 16) (t : BankTrans), (s.bankTrans (256 + 16 * u.val + i.val) = some t) ∧ (t.up = true) ∧ (t.since + 2548 ≤ s.time.ns) ∧ (v = ((s.setWayTrans u.val i.val none).zeroRange (0x4800000000 + u.val * 0x2000000 + i.val * 0x100000)
          (0x4800000000 + u.val * 0x2000000 + (i.val + 1) * 0x100000)).setFld (rSS_WAY_STAT u.val) ⟨i.val, i.val⟩ 1) ∧ (v.wayMode u.val i.val ≠ 0)) ∧
    (∃ (s : State) (w : Nat) (l : List Nat), (s.writeBacks = w :: l)) :=
  ⟨⟨({ tNow with banks := [(256 + 16 * 1 + 3, ⟨true, 0⟩)] }).setFld (rSS_WAY_CFG 1) ⟨7, 6⟩ 1, ((((({ tNow with banks := [(256 + 16 * 1 + 3, ⟨true, 0⟩)] }).setFld (rSS_WAY_CFG 1) ⟨7, 6⟩ 1).setWayTrans 1 3 none).zeroRange (0x4800000000 + 1 * 0x2000000 + 3 * 0x100000) (0x4800000000 + 1 * 0x2000000 + 4 * 0x100000)).setFld (rSS_WAY_STAT 1) ⟨3, 3⟩ 1), 1, 3, ⟨true, 0⟩, by decide +kernel⟩,
   ⟨{ tNow with writeBacks := [64], ecc := [(64, 1)] }, 64, [], by decide +kernel⟩⟩

theorem witness_CacheCommands :
    (∃ (s : State) (c : Fin 2) (v : Invalidation), ((s.cache c.val).running = some v) ∧ (v.since + (if v.all then 16400 else v.lines + 16) ≤ s.time.ns) ∧ ((s.cache c.val).queued = [])) ∧
    (∃ (s : State) (c : Fin 2) (v w : Invalidation) (l : List Invalidation), ((s.cache c.val).running = some v) ∧ (v.since + (if v.all then 16400 else v.lines + 16) ≤ s.time.ns) ∧ ((s.cache c.val).queued = w :: l)) ∧
    (∃ (s v : State) (c : Fin 2) (f : Fill) (l : List Fill) (d : List Byte), ((s.cache c.val).fills = f :: l) ∧ ((s.setCache c.val { s.cache c.val with fills := l }).readMem (64 * f.line) 64 = (some d, v))) :=
  ⟨⟨{ tNow with caches := [(1, { running := some { source := 4, all := true, line := 0, lines := 0, since := 0, seq := 0 } })] }, 1, { source := 4, all := true, line := 0, lines := 0, since := 0, seq := 0 }, by decide +kernel⟩,
   ⟨{ tNow with caches := [(1, { running := some { source := 4, all := true, line := 0, lines := 0, since := 0, seq := 0 }, queued := [{ source := 5, all := false, line := 3, lines := 1, since := 0, seq := 0 }] })] }, 1, { source := 4, all := true, line := 0, lines := 0, since := 0, seq := 0 }, { source := 5, all := false, line := 3, lines := 1, since := 0, seq := 0 }, [], by decide +kernel⟩,
   ⟨{ tNow with caches := [(1, { fills := [⟨0, 5, 3, 7⟩] })] }, { tNow with caches := [] }, 1, ⟨0, 5, 3, 7⟩, [], List.replicate 64 0, by decide +kernel⟩⟩

theorem witness_ScoreboardCommands_1 :
    (∃ (s : State) (b : Fin 9) (agent : Nat) (ws rs : List (Nat × Nat)), ((s.sboard (s.phys b.val)).clear ws rs = true)) ∧
    (∃ (s : State) (b : Fin 9) (agent : Nat) (ws rs : List (Nat × Nat)), ((s.sboard (s.phys b.val)).clear ws rs = false)) ∧
    (∃ (s : State) (b : Fin 9) (agent : Nat) (e : Fin 64), (⟨e.val, true⟩ ∈ Cells.get (fun _ => []) (s.sboard (s.phys b.val)).granted agent)) ∧
    (∃ (s : State) (b : Fin 9) (agent : Nat) (e : Fin 64), (⟨e.val, false⟩ ∈ Cells.get (fun _ => []) (s.sboard (s.phys b.val)).granted agent)) ∧
    (∃ (s : State) (b : Fin 9) (agent lo hi : Nat) (e : Fin 64) (w : Bool) (x : SbEntry), (⟨e.val, w⟩ ∈ Cells.get (fun _ => []) (s.sboard (s.phys b.val)).granted agent) ∧ (x = (s.sboard (s.phys b.val)).entry e.val) ∧ (x.merged = false) ∧ (x.joined = false) ∧ (x.used = true)) ∧
    (∃ (s : State) (b : Fin 9) (w : SbWait) (c : Nat), ((s.sboard (s.phys b.val)).nextClear = some w) ∧ (w.who = .vpp c)) :=
  ⟨⟨tNow, 2, 5, [(0, 64)], [(64, 128)], by decide +kernel⟩,
   ⟨{ tNow with sb := [(2, { entries := [(0, { lo := 0, hi := 8, w := 1 })] })] }, 2, 5, [(4, 64)], [], by decide +kernel⟩,
   ⟨{ tNow with sb := [(2, { granted := [(5, [⟨3, true⟩])] })] }, 2, 5, 3, by decide +kernel⟩,
   ⟨{ tNow with sb := [(2, { granted := [(5, [⟨3, false⟩])] })] }, 2, 5, 3, by decide +kernel⟩,
   ⟨{ tNow with sb := [(2, { entries := [(3, { lo := 0, hi := 8, w := 1 })], granted := [(5, [⟨3, true⟩])] })] }, 2, 5, 2, 6, 3, true, { lo := 0, hi := 8, w := 1 }, by decide +kernel⟩,
   ⟨{ tNow with sb := [(2, { waits := [⟨.vpp 1, [], [], 0, 0, false, false⟩] })] }, 2, ⟨.vpp 1, [], [], 0, 0, false, false⟩, 1, by decide +kernel⟩⟩

theorem witness_ScoreboardCommands_2 :
    (∃ (s : State) (b : Fin 9) (w : SbWait) (a : Nat), ((s.sboard (s.phys b.val)).nextClear = some w) ∧ (w.who = .reg a)) ∧
    (∃ (s : State) (b : Fin 9) (i : Nat) (w : SbWait) (a : Nat), ((s.sboard (s.phys b.val)).waits[i]? = some w) ∧ (w.who = .reg a) ∧ (w.since + w.limit ≤ s.time.ns) ∧ (w.timed = false)) ∧
    (∃ (s : State) (b : Fin 9) (i : Nat) (w : SbWait) (id : Nat), ((s.sboard (s.phys b.val)).waits[i]? = some w) ∧ (w.who = .remote id) ∧ (w.since + w.limit ≤ s.time.ns) ∧ (w.timed = false)) :=
  ⟨⟨{ tNow with sb := [(2, { waits := [⟨.reg 1, [], [], 0, 0, false, false⟩] })] }, 2, ⟨.reg 1, [], [], 0, 0, false, false⟩, 1, by decide +kernel⟩,
   ⟨{ tNow with sb := [(2, { waits := [⟨.reg 1, [], [], 0, 9, false, false⟩] })] }, 2, 0, ⟨.reg 1, [], [], 0, 9, false, false⟩, 1, by decide +kernel⟩,
   ⟨{ tNow with sb := [(2, { waits := [⟨.remote 1, [], [], 0, 9, false, false⟩] })] }, 2, 0, ⟨.remote 1, [], [], 0, 9, false, false⟩, 1, by decide +kernel⟩⟩

theorem witness_DmaLaunchCommands_1 :
    (∃ (s : State) (b : Fin 10) (n : Fin 64), (chanOk (s.engine b.val) n.val = true) ∧ (s.chEn (s.engine b.val) n.val = true)) ∧
    (∃ (s : State) (b : Fin 10) (n : Fin 64), (chanOk (s.engine b.val) n.val = true) ∧ (s.chEn (s.engine b.val) n.val = false)) ∧
    (∃ (s : State) (b : Fin 10) (n : Fin 64) (d : List Byte) (t : State), (chanOk (s.engine b.val) n.val = true) ∧ ((s.chan (s.engine b.val) n.val).fetching = true) ∧ ((s.chan (s.engine b.val) n.val).st = .idle) ∧ (s.ctrlRead (s.engine b.val) (s.ringSlot (s.engine b.val) n.val) 64 = (some d, t)) ∧ (bitOf ((fieldsOf d).getD 0 0) 31 = true)) ∧
    (∃ (s : State) (b : Fin 10) (n : Fin 64) (d : List Byte) (t : State), (chanOk (s.engine b.val) n.val = true) ∧ ((s.chan (s.engine b.val) n.val).fetching = true) ∧ ((s.chan (s.engine b.val) n.val).st = .idle) ∧ (s.ctrlRead (s.engine b.val) (s.ringSlot (s.engine b.val) n.val) 64 = (some d, t)) ∧ (bitOf ((fieldsOf d).getD 0 0) 31 = false)) ∧
    (∃ (s : State) (b : Fin 10) (n : Fin 64) (t : State), (chanOk (s.engine b.val) n.val = true) ∧ ((s.chan (s.engine b.val) n.val).fetching = true) ∧ ((s.chan (s.engine b.val) n.val).st = .idle) ∧ (s.ctrlRead (s.engine b.val) (s.ringSlot (s.engine b.val) n.val) 64 = (none, t))) ∧
    (∃ (s : State) (b : Fin 10) (n : Fin 64) (c : Nat) (t : State), (chanOk (s.engine b.val) n.val = true) ∧ ((s.chan (s.engine b.val) n.val).started = false) ∧ ((s.chan (s.engine b.val) n.val).status = none) ∧ ((s.chan (s.engine b.val) n.val).st = .run) ∧ (t = s.modChan (s.engine b.val) n.val (fun y => { y with st := .run, launchPend := if bitOf ((s.chan (s.engine b.val) n.val).desc.getD 0 0) 20 then false else y.launchPend })) ∧ (t.descCheck (s.engine b.val) (s.chan (s.engine b.val) n.val).desc = c) ∧ (c ≠ 0)) :=
  ⟨⟨tNow.setFld (rDMA_CH_CTL 9 5) fDMA_CH_CTL_EN 1, 9, 5, by decide +kernel⟩,
   ⟨tNow, 9, 5, by decide +kernel⟩,
   ⟨(tNow.setChan 9 5 { fetching := true }).setByte 3 0x80, 9, 5, 0 :: 0 :: 0 :: 0x80 :: List.replicate 60 0, (tNow.setChan 9 5 { fetching := true }).setByte 3 0x80, by decide +kernel⟩,
   ⟨(tNow.setChan 9 5 { fetching := true }), 9, 5, List.replicate 64 0, (tNow.setChan 9 5 { fetching := true }), by decide +kernel⟩,
   ⟨(tNow.setChan 9 5 { fetching := true }).setFld (rDMA_CH_RING_HI 9 5) fDMA_CH_RING_HI_BASE_HI 0x7E, 9, 5, (tNow.setChan 9 5 { fetching := true }).setFld (rDMA_CH_RING_HI 9 5) fDMA_CH_RING_HI_BASE_HI 0x7E, by decide +kernel⟩,
   ⟨(tNow.setChan 9 5 { st := .run, desc := [0x80000001] }), 9, 5, 1, ((tNow.setChan 9 5 { st := .run, desc := [0x80000001] })).modChan 9 5 (fun y => { y with st := .run }), by decide +kernel⟩⟩

theorem witness_DmaLaunchCommands_2 :
    (∃ (s : State) (b : Fin 10) (n : Fin 64) (t v : State), (chanOk (s.engine b.val) n.val = true) ∧ ((s.chan (s.engine b.val) n.val).started = false) ∧ ((s.chan (s.engine b.val) n.val).status = none) ∧ ((s.chan (s.engine b.val) n.val).st = .run) ∧ (t = s.modChan (s.engine b.val) n.val (fun y => { y with st := .run, launchPend := if bitOf ((s.chan (s.engine b.val) n.val).desc.getD 0 0) 20 then false else y.launchPend })) ∧ (t.descCheck (s.engine b.val) (s.chan (s.engine b.val) n.val).desc = 0) ∧ (xform (s.chan (s.engine b.val) n.val).desc ≠ 9) ∧ (xform (s.chan (s.engine b.val) n.val).desc ≠ 0xA) ∧ (v = t.modChan (s.engine b.val) n.val (fun y => { y with started := true, levels := s.levels (dfield (s.chan (s.engine b.val) n.val).desc 13 21 20) }))) ∧
    (∃ (s : State) (b : Fin 10) (n : Fin 64), (chanOk (s.engine b.val) n.val = true) ∧ (s.flag (rDMA_CH_SHCTL (s.engine b.val) n.val) fDMA_CH_SHCTL_SEALED = true) ∧ (s.flag (rDMA_CH_SHCTL (s.engine b.val) n.val) fDMA_CH_SHCTL_AT_DESC = true) ∧ ((s.chan (s.engine b.val) n.val).st = .idle) ∧ ((s.chan (s.engine b.val) n.val).fetching = false)) ∧
    (∃ (s : State) (b : Fin 10) (n : Fin 64), (chanOk (s.engine b.val) n.val = true)) :=
  ⟨⟨tDmaRun, 9, 5, _, _, by exact ⟨by decide +kernel, by decide +kernel, by decide +kernel, by decide +kernel, rfl, by decide +kernel, by decide +kernel, by decide +kernel, rfl⟩⟩,
   ⟨(tNow.setFld (rDMA_CH_SHCTL 9 5) fDMA_CH_SHCTL_SEALED 1).setFld (rDMA_CH_SHCTL 9 5) fDMA_CH_SHCTL_AT_DESC 1, 9, 5, by decide +kernel⟩,
   ⟨tNow, 9, 5, by decide +kernel⟩⟩

theorem witness_DmaRunCommands_1 :
    (∃ (s : State) (b : Fin 10) (n : Fin 64) (k : Nat) (t : State), (chanOk (s.engine b.val) n.val = true) ∧ ((s.chan (s.engine b.val) n.val).started = true) ∧ ((s.chan (s.engine b.val) n.val).st = .run) ∧ ((s.chan (s.engine b.val) n.val).status = none) ∧ (((s.chan (s.engine b.val) n.val).regWait && (Cells.get (fun _ => []) (s.sboard (s.chan (s.engine b.val) n.val).ticketCore).granted (chanAgent (s.engine b.val) n.val)).isEmpty) = false) ∧ ((s.chan (s.engine b.val) n.val).walk = none) ∧ ((s.chan (s.engine b.val) n.val).stopFault = none) ∧ ((s.chan (s.engine b.val) n.val).stopErr = none) ∧ ((s.chan (s.engine b.val) n.val).nb4Stopped = false) ∧ (xform (s.chan (s.engine b.val) n.val).desc ≠ 0xA) ∧ (t = s.modChan (s.engine b.val) n.val (fun y => { y with regWait := false })) ∧ (t.paceStops (s.engine b.val) n.val = false) ∧ ((t.chSides (s.engine b.val) n.val).1.kind ≠ 4)) ∧
    (∃ (s : State) (b : Fin 10) (n : Fin 64) (k : Nat) (t : State), (chanOk (s.engine b.val) n.val = true) ∧ ((s.chan (s.engine b.val) n.val).started = true) ∧ ((s.chan (s.engine b.val) n.val).st = .run) ∧ ((s.chan (s.engine b.val) n.val).status = none) ∧ (((s.chan (s.engine b.val) n.val).regWait && (Cells.get (fun _ => []) (s.sboard (s.chan (s.engine b.val) n.val).ticketCore).granted (chanAgent (s.engine b.val) n.val)).isEmpty) = false) ∧ ((s.chan (s.engine b.val) n.val).walk = none) ∧ ((s.chan (s.engine b.val) n.val).stopFault = none) ∧ ((s.chan (s.engine b.val) n.val).stopErr = none) ∧ ((s.chan (s.engine b.val) n.val).nb4Stopped = false) ∧ (xform (s.chan (s.engine b.val) n.val).desc ≠ 0xA) ∧ (t = s.modChan (s.engine b.val) n.val (fun y => { y with regWait := false })) ∧ (t.paceStops (s.engine b.val) n.val = true)) ∧
    (∃ (s : State) (b : Fin 10) (n : Fin 64), (chanOk (s.engine b.val) n.val = true) ∧ (0 < (s.chan (s.engine b.val) n.val).stale)) ∧
    (∃ (s : State) (b : Fin 10) (n : Fin 64), (chanOk (s.engine b.val) n.val = true) ∧ ((s.chan (s.engine b.val) n.val).stale = 0) ∧ (0 < (s.chan (s.engine b.val) n.val).unacked)) ∧
    (∃ (s : State) (b : Fin 10) (n : Fin 64) (v : Nat) (d0 d15 : List Byte) (t : State), (chanOk (s.engine b.val) n.val = true) ∧ ((s.chan (s.engine b.val) n.val).status = some v) ∧ ((s.chan (s.engine b.val) n.val).stage = 0) ∧ ((s.chan (s.engine b.val) n.val).st = .run) ∧ ((s.chan (s.engine b.val) n.val).fw = false) ∧ ((s.ctrlRead (s.engine b.val) (s.chan (s.engine b.val) n.val).slotAddr 4).1 = some d0) ∧ ((s.ctrlRead (s.engine b.val) ((s.chan (s.engine b.val) n.val).slotAddr + 60) 4).1 = some d15) ∧ (bitsOf (ofLeBytes d0) 30 23 = (s.chan (s.engine b.val) n.val).gen) ∧ ((s.ctrlWrite (s.engine b.val) (s.chan (s.engine b.val) n.val).slotAddr (leBytes 4 (ofLeBytes d0 % 2 ^ 31))).bind (fun u =>
        u.ctrlWrite (s.engine b.val) ((s.chan (s.engine b.val) n.val).slotAddr + 60) (leBytes 4 (ofLeBytes d15 % 2 ^ 24 + v * 2 ^ 24))) = some t)) ∧
    (∃ (s : State) (b : Fin 10) (n : Fin 64) (v : Nat) (d0 d15 : List Byte), (chanOk (s.engine b.val) n.val = true) ∧ ((s.chan (s.engine b.val) n.val).status = some v) ∧ ((s.chan (s.engine b.val) n.val).stage = 0) ∧ ((s.chan (s.engine b.val) n.val).st = .run) ∧ ((s.chan (s.engine b.val) n.val).fw = false) ∧ ((s.ctrlRead (s.engine b.val) (s.chan (s.engine b.val) n.val).slotAddr 4).1 = some d0) ∧ ((s.ctrlRead (s.engine b.val) ((s.chan (s.engine b.val) n.val).slotAddr + 60) 4).1 = some d15) ∧ (bitsOf (ofLeBytes d0) 30 23 ≠ (s.chan (s.engine b.val) n.val).gen)) :=
  ⟨⟨tDmaMoving, 9, 5, 1, _, by exact ⟨by decide +kernel, by decide +kernel, by decide +kernel, by decide +kernel, by decide +kernel, by decide +kernel, by decide +kernel, by decide +kernel, by decide +kernel, by decide +kernel, rfl, by decide +kernel, by decide +kernel⟩⟩,
   ⟨tDmaMoving.setFld (rDMA_CH_PACE 9 5) fDMA_CH_PACE_MODE 1, 9, 5, 1, _, by exact ⟨by decide +kernel, by decide +kernel, by decide +kernel, by decide +kernel, by decide +kernel, by decide +kernel, by decide +kernel, by decide +kernel, by decide +kernel, by decide +kernel, rfl, by decide +kernel⟩⟩,
   ⟨(tNow.setChan 9 5 { stale := 2 }), 9, 5, by decide +kernel⟩,
   ⟨(tNow.setChan 9 5 { unacked := 2 }), 9, 5, by decide +kernel⟩,
   ⟨(tNow.setChan 9 5 { st := .run, status := some 0 }), 9, 5, 0, [0,0,0,0], [0,0,0,0], { (tNow.setChan 9 5 { st := .run, status := some 0 }) with ecc := [] }, by decide +kernel⟩,
   ⟨(tNow.setChan 9 5 { st := .run, status := some 0, gen := 3 }), 9, 5, 0, [0,0,0,0], [0,0,0,0], by decide +kernel⟩⟩

theorem witness_DmaRunCommands_2 :
    (∃ (s t : State) (n : Fin 64) (q log2 prod : Nat), ((s.chan 9 n.val).status.isSome = true) ∧ ((s.chan 9 n.val).stage = 1) ∧ ((s.chan 9 n.val).st = .run) ∧ (s.chCfg 9 n.val fDMA_CH_CFG_CQ = q) ∧ (s.fld (rHUB_CQ_BASE_HI q) fHUB_CQ_BASE_HI_SIZE_LOG2 = log2) ∧ (s.fld (rHUB_CQ_PROD q) fHUB_CQ_PROD_PROD = prod) ∧ ((prod + 65536 - s.fld (rHUB_CQ_CONS q) fHUB_CQ_CONS_CONS) % 65536 ≠ 2 ^ log2) ∧ (s.dpaWrite false (s.fld (rHUB_CQ_BASE_LO q) fHUB_CQ_BASE_LO_BASE * 64 + s.fld (rHUB_CQ_BASE_HI q) fHUB_CQ_BASE_HI_BASE_HI * 2 ^ 32 +
        16 * (prod % 2 ^ log2)) (s.cqRecord n.val prod log2) = some t)) ∧
    (∃ (s : State) (n : Fin 64) (q : Nat), ((s.chan 9 n.val).status.isSome = true) ∧ ((s.chan 9 n.val).stage = 1) ∧ ((s.chan 9 n.val).st = .run) ∧ (s.chCfg 9 n.val fDMA_CH_CFG_CQ = q) ∧ ((s.fld (rHUB_CQ_PROD q) fHUB_CQ_PROD_PROD + 65536 - s.fld (rHUB_CQ_CONS q) fHUB_CQ_CONS_CONS) % 65536 = 2 ^ s.fld (rHUB_CQ_BASE_HI q) fHUB_CQ_BASE_HI_SIZE_LOG2)) ∧
    (∃ (s : State) (b : Fin 10) (n : Fin 64), ((s.chan (s.engine b.val) n.val).st = .posting)) ∧
    (∃ (s : State) (b : Fin 10) (n : Fin 64) (e : Nat), (s.engine b.val = e) ∧ ((s.chan e n.val).st = .paced) ∧ (s.fld (rDMA_CH_PACE e n.val) fDMA_CH_PACE_MODE = 1) ∧ ((s.hq (s.fld (rDMA_CH_PACE e n.val) fDMA_CH_PACE_QID)).length ≤ s.fld (rDMA_CH_PACE e n.val) fDMA_CH_PACE_START)) ∧
    (∃ (s : State) (b : Fin 10) (n : Fin 64) (e : Nat), (s.engine b.val = e) ∧ ((s.chan e n.val).st = .paced) ∧ (s.fld (rDMA_CH_PACE e n.val) fDMA_CH_PACE_MODE = 2) ∧ (s.fld (rDMA_CH_PACE e n.val) fDMA_CH_PACE_START ≤ (s.hq (s.fld (rDMA_CH_PACE e n.val) fDMA_CH_PACE_QID)).length)) :=
  ⟨⟨tCq, tCqAfter, 5, 0, 4, 0, by decide +kernel⟩,
   ⟨tCq.setFld (rHUB_CQ_PROD 0) fHUB_CQ_PROD_PROD 16, 5, 0, by decide +kernel⟩,
   ⟨(tNow.setChan 9 5 { st := .posting }), 9, 5, by decide +kernel⟩,
   ⟨(tNow.setChan 9 5 { st := .paced }).setFld (rDMA_CH_PACE 9 5) fDMA_CH_PACE_MODE 1, 9, 5, 9, by decide +kernel⟩,
   ⟨(tNow.setChan 9 5 { st := .paced }).setFld (rDMA_CH_PACE 9 5) fDMA_CH_PACE_MODE 2, 9, 5, 9, by decide +kernel⟩⟩

theorem witness_DmaStopCommands_1 :
    (∃ (s : State) (b : Fin 10) (n : Fin 64) (e kind addr : Nat) (dst : Bool), (s.engine b.val = e) ∧ ((s.chan e n.val).stopErr = some (kind, dst, addr)) ∧ ((s.chan e n.val).unacked = 0) ∧ ((s.chan e n.val).st = .run)) ∧
    (∃ (s : State) (b : Fin 10) (n : Fin 64) (e : Nat) (w : Walk) (bs : List Byte) (v : State), (s.engine b.val = e) ∧ ((s.chan e n.val).walk = some w) ∧ (s.ptRead e n.val w = (some bs, v)) ∧ (ptFault (ofLeBytes bs) false = 0) ∧ (ptFault (ofLeBytes bs) w.write = 0)) ∧
    (∃ (s : State) (b : Fin 10) (n : Fin 64) (e : Nat) (w : Walk) (bs : List Byte) (v : State), (s.engine b.val = e) ∧ ((s.chan e n.val).walk = some w) ∧ (s.ptRead e n.val w = (some bs, v)) ∧ (ptFault (ofLeBytes bs) false ≠ 0) ∧ (ptFault (ofLeBytes bs) w.write ≠ 0) ∧ (ptFault (ofLeBytes bs) w.write ≠ 4)) ∧
    (∃ (s : State) (b : Fin 10) (n : Fin 64) (e kind addr : Nat) (dst : Bool), (s.engine b.val = e) ∧ ((s.chan e n.val).stopFault = some (kind, dst, addr)) ∧ ((s.chan e n.val).unacked = 0) ∧ ((s.chan e n.val).st = .run)) ∧
    (∃ (s : State) (b : Fin 10) (n : Fin 64), (chanOk (s.engine b.val) n.val = true) ∧ ((s.chan (s.engine b.val) n.val).st = .fault)) ∧
    (∃ (s : State) (b : Fin 10) (n : Fin 64), (chanOk (s.engine b.val) n.val = true) ∧ ((s.chan (s.engine b.val) n.val).st = .halt) ∧ ((s.chan (s.engine b.val) n.val).ctrl = none) ∧ ((s.chan (s.engine b.val) n.val).err ≠ 5)) :=
  ⟨⟨(tNow.setChan 9 5 { st := .run, stopErr := some (5, false, 64) }), 9, 5, 9, 5, 64, false, by decide +kernel⟩,
   ⟨tWalk 3, 9, 5, 9, ⟨2, 0, true, true, 0⟩, 3 :: List.replicate 7 0, tWalked 3, by decide +kernel⟩,
   ⟨tWalk 0, 9, 5, 9, ⟨2, 0, true, true, 0⟩, List.replicate 8 0, tWalked 0, by decide +kernel⟩,
   ⟨(tNow.setChan 9 5 { st := .run, stopFault := some (1, false, 64) }), 9, 5, 9, 1, 64, false, by decide +kernel⟩,
   ⟨(tNow.setChan 9 5 { st := .fault }), 9, 5, by decide +kernel⟩,
   ⟨(tNow.setChan 9 5 { st := .halt, err := 1 }), 9, 5, by decide +kernel⟩⟩

theorem witness_DmaStopCommands_2 :
    (∃ (s : State) (b : Fin 10) (n : Fin 64), (chanOk (s.engine b.val) n.val = true) ∧ ((s.chan (s.engine b.val) n.val).st = .run) ∧ ((s.chan (s.engine b.val) n.val).status = none)) ∧
    (∃ (s : State) (b : Fin 10) (n : Fin 64), (chanOk (s.engine b.val) n.val = true) ∧ ((s.chan (s.engine b.val) n.val).st = .idle)) ∧
    (∃ (s : State) (b : Fin 10) (n : Fin 64), (chanOk (s.engine b.val) n.val = true) ∧ ((s.chan (s.engine b.val) n.val).st = .aborting) ∧ ((s.chan (s.engine b.val) n.val).unacked = 0) ∧ ((s.chan (s.engine b.val) n.val).peerLeft = 0)) :=
  ⟨⟨(tNow.setChan 9 5 { st := .run }), 9, 5, by decide +kernel⟩,
   ⟨tNow, 9, 5, by decide +kernel⟩,
   ⟨(tNow.setChan 9 5 { st := .aborting }), 9, 5, by decide +kernel⟩⟩

theorem witness_HubCommands_1 :
    (∃ (s : State) (asid page : Nat) (all : Bool), (s.hub.inv = some (asid, page, all)) ∧ (s.asidQuiet asid = true)) ∧
    (∃ (s t : State) (f p : Fin 32768) (l : List (Nat × Nat × Nat)), (s.mappings f.val = l) ∧ (t = s.remap l (fun v => if bitOf v 2 then v else v + 4)) ∧ (l.all (fun x => t.asidQuiet x.1) = true)) ∧
    (∃ (s t : State) (f p : Fin 32768) (l : List (Nat × Nat × Nat)), (s.mappings f.val = l) ∧ (t = s.remap l (fun v => if bitOf v 2 then v else v + 4)) ∧ (l.all (fun x => t.asidQuiet x.1) = false)) ∧
    (∃ (s t : State) (b : Fin 10) (v : Word), (getF v ⟨27, 24⟩ < 8 ∨ getF v ⟨27, 24⟩ = 0xE) ∧ (t = s.setReg (postReg (s.poster b.val) 0) (v &&& 0x0F00FFFF))) ∧
    (∃ (s : State) (b : Fin 10) (v : Word), (8 ≤ getF v ⟨27, 24⟩) ∧ (getF v ⟨27, 24⟩ ≠ 0xE)) ∧
    (∃ (s : State) (b : Fin 10) (x : Post) (l : List Post), ((Cells.get (fun _ => []) s.hub.posts (s.poster b.val)) = x :: l) ∧ (x.since + (s.reg (postReg (s.poster b.val) 2)).toNat ≤ s.time.ns)) :=
  ⟨⟨{ tNow with hub := { inv := some (2, 3, false) } }, 2, 3, false, by decide +kernel⟩,
   ⟨tRetire 0, _, 5, 9, _, by exact ⟨rfl, rfl, by decide +kernel⟩⟩,
   ⟨tRetire 1, _, 5, 9, _, by exact ⟨rfl, rfl, by decide +kernel⟩⟩,
   ⟨tNow, tNow.setReg (postReg 2 0) 0x05000000, 2, 0x05000000, by decide +kernel⟩,
   ⟨tNow, 2, 0x09000000, by decide +kernel⟩,
   ⟨{ tNow with hub := { posts := [(2, [⟨5, [], 0⟩])] } }, 2, ⟨5, [], 0⟩, [], by decide +kernel⟩⟩

theorem witness_HubCommands_2 :
    ∃ (s : State) (b : Fin 10) (x : Post) (l : List Post), ((Cells.get (fun _ => []) s.hub.posts (s.poster b.val)) = x :: l) ∧ ((Cells.get (fun _ => []) s.hub.boxes (s.boxOf x.target)).length < (if s.boxOf x.target = 16 then 32 else 8)) :=
  ⟨{ tNow with hub := { posts := [(2, [⟨5, [], 0⟩])] } }, 2, ⟨5, [], 0⟩, [], by decide +kernel⟩

theorem witness_HandleCommands_1 :
    (∃ (s : State) (a : Agent) (p : Fin 16) (j : Nat) (l : List Nat) (e : Nat) (t : State), (s.poolOk a p.val = true) ∧ (p.val ≠ 0) ∧ (s.flag (rHP_CFG p.val) fHP_CFG_EN = true) ∧ (s.freeList p.val = j :: l) ∧ ((s.fld (rHP_BASE p.val) fHP_BASE_FIRST + j) % 16384 = e) ∧ (t = (({ s with pools := Cells.set (fun _ => []) s.pools p.val l }).setBuf e 2 (holderOf a)).poolMove p.val (-1) 0 1)) ∧
    (∃ (s : State) (a : Agent) (p : Fin 16), (s.poolOk a p.val = true) ∧ (p.val ≠ 0) ∧ (s.flag (rHP_CFG p.val) fHP_CFG_EN = true) ∧ (s.freeList p.val = [])) ∧
    (∃ (s : State) (a : Agent) (q : Fin 256) (h : Half) (e : Nat), (s.queueOk a q.val = true) ∧ (s.flag (rHQ_CFG q.val) fHQ_CFG_EN = true) ∧ (s.handleEntry h.toNat = some e) ∧ (s.bufState e = 2) ∧ (h.toNat / 4096 = s.fld (rHQ_CFG q.val) fHQ_CFG_POOL) ∧ ((s.hq q.val).length < 256)) ∧
    (∃ (s : State) (a : Agent) (q : Fin 256) (h : Half) (e : Nat), (s.queueOk a q.val = true) ∧ (s.flag (rHQ_CFG q.val) fHQ_CFG_EN = true) ∧ (s.handleEntry h.toNat = some e) ∧ (s.bufState e = 2) ∧ (h.toNat / 4096 = s.fld (rHQ_CFG q.val) fHQ_CFG_POOL) ∧ (256 ≤ (s.hq q.val).length)) ∧
    (∃ (s : State) (a : Agent) (q : Fin 256) (h : Half) (e : Nat), (s.queueOk a q.val = true) ∧ (s.flag (rHQ_CFG q.val) fHQ_CFG_EN = true) ∧ (s.handleEntry h.toNat = some e) ∧ (s.bufState e = 2) ∧ (h.toNat / 4096 ≠ s.fld (rHQ_CFG q.val) fHQ_CFG_POOL)) ∧
    (∃ (s : State) (a : Agent) (q : Fin 256) (h : Half) (e : Nat), (s.queueOk a q.val = true) ∧ (s.flag (rHQ_CFG q.val) fHQ_CFG_EN = true) ∧ (s.handleEntry h.toNat = some e) ∧ (s.bufState e ≠ 2)) :=
  ⟨⟨{ (((tNow.setFld (rHP_CFG 3) fHP_CFG_EN 1).setFld (rHP_CFG 3) fHP_CFG_SIZE 4).setFld (rHQ_CFG 7) fHQ_CFG_EN 1) with pools := [(3, [0, 1])] }, .prompter, 3, 0, [1], 0, _, by exact ⟨by decide +kernel, by decide +kernel, by decide +kernel, by decide +kernel, by decide +kernel, rfl⟩⟩,
   ⟨(((tNow.setFld (rHP_CFG 3) fHP_CFG_EN 1).setFld (rHP_CFG 3) fHP_CFG_SIZE 4).setFld (rHQ_CFG 7) fHQ_CFG_EN 1), .prompter, 3, by decide +kernel⟩,
   ⟨((((tNow.setFld (rHP_CFG 3) fHP_CFG_EN 1).setFld (rHP_CFG 3) fHP_CFG_SIZE 4).setFld (rHQ_CFG 7) fHQ_CFG_EN 1).setFld (rHQ_CFG 7) fHQ_CFG_POOL 3).setFld (rHB_ENTRY1 1) fHB_ENTRY1_STATE 2, .prompter, 7, 0x3001, 1, by decide +kernel⟩,
   ⟨{ ((((tNow.setFld (rHP_CFG 3) fHP_CFG_EN 1).setFld (rHP_CFG 3) fHP_CFG_SIZE 4).setFld (rHQ_CFG 7) fHQ_CFG_EN 1).setFld (rHQ_CFG 7) fHQ_CFG_POOL 3).setFld (rHB_ENTRY1 1) fHB_ENTRY1_STATE 2 with hqueues := [(7, List.replicate 256 0x3000)] }, .prompter, 7, 0x3001, 1, by decide +kernel⟩,
   ⟨(((((tNow.setFld (rHP_CFG 3) fHP_CFG_EN 1).setFld (rHP_CFG 3) fHP_CFG_SIZE 4).setFld (rHQ_CFG 7) fHQ_CFG_EN 1).setFld (rHQ_CFG 7) fHQ_CFG_POOL 3).setFld (rHB_ENTRY1 1) fHB_ENTRY1_STATE 2).setFld (rHQ_CFG 7) fHQ_CFG_POOL 4, .prompter, 7, 0x3001, 1, by decide +kernel⟩,
   ⟨(((tNow.setFld (rHP_CFG 3) fHP_CFG_EN 1).setFld (rHP_CFG 3) fHP_CFG_SIZE 4).setFld (rHQ_CFG 7) fHQ_CFG_EN 1), .prompter, 7, 0x3001, 1, by decide +kernel⟩⟩

theorem witness_HandleCommands_2 :
    (∃ (s : State) (a : Agent) (q : Fin 256) (h : Half), (s.queueOk a q.val = false ∨ s.flag (rHQ_CFG q.val) fHQ_CFG_EN = false)) ∧
    (∃ (s : State) (a : Agent) (q : Fin 256) (h : Nat) (l : List Nat) (t : State), (s.queueOk a q.val = true) ∧ (s.flag (rHQ_CFG q.val) fHQ_CFG_EN = true) ∧ (s.hq q.val = h :: l) ∧ (t = ((s.setHq q.val l).setBuf ((s.handleEntry h).getD 0) 2 (holderOf a)).poolMove (h / 4096) 0 (-1) 1)) ∧
    (∃ (s : State) (a : Agent) (q : Fin 256), (s.queueOk a q.val = true) ∧ (s.flag (rHQ_CFG q.val) fHQ_CFG_EN = true) ∧ (s.hq q.val = [])) ∧
    (∃ (s : State) (a : Agent) (h : Half) (e : Nat) (t : State), (s.poolOk a (h.toNat / 4096) = true) ∧ (s.handleEntry h.toNat = some e) ∧ (s.bufState e = 2) ∧ (t = (({ s with pools := Cells.set (fun _ => []) s.pools (h.toNat / 4096) (s.freeList (h.toNat / 4096) ++ [h.toNat % 4096]) }).setBuf e 0 0).poolMove (h.toNat / 4096) 1 0 (-1))) ∧
    (∃ (s : State) (a : Agent) (q : Fin 256), (s.queueOk a q.val = true) ∧ (s.flag (rHQ_CFG q.val) fHQ_CFG_EN = true)) :=
  ⟨⟨tNow, .prompter, 8, 0x3001, by decide +kernel⟩,
   ⟨{ (((tNow.setFld (rHP_CFG 3) fHP_CFG_EN 1).setFld (rHP_CFG 3) fHP_CFG_SIZE 4).setFld (rHQ_CFG 7) fHQ_CFG_EN 1) with hqueues := [(7, [0x3002, 0x3001])] }, .prompter, 7, 0x3002, [0x3001], _, by exact ⟨by decide +kernel, by decide +kernel, by decide +kernel, rfl⟩⟩,
   ⟨(((tNow.setFld (rHP_CFG 3) fHP_CFG_EN 1).setFld (rHP_CFG 3) fHP_CFG_SIZE 4).setFld (rHQ_CFG 7) fHQ_CFG_EN 1), .prompter, 7, by decide +kernel⟩,
   ⟨((((tNow.setFld (rHP_CFG 3) fHP_CFG_EN 1).setFld (rHP_CFG 3) fHP_CFG_SIZE 4).setFld (rHQ_CFG 7) fHQ_CFG_EN 1).setFld (rHQ_CFG 7) fHQ_CFG_POOL 3).setFld (rHB_ENTRY1 1) fHB_ENTRY1_STATE 2, .prompter, 0x3001, 1, _, by exact ⟨by decide +kernel, by decide +kernel, by decide +kernel, rfl⟩⟩,
   ⟨(((tNow.setFld (rHP_CFG 3) fHP_CFG_EN 1).setFld (rHP_CFG 3) fHP_CFG_SIZE 4).setFld (rHQ_CFG 7) fHQ_CFG_EN 1), .prompter, 7, by decide +kernel⟩⟩

theorem witness_BarrierCommands_1 :
    (∃ (s : State) (b : Fin 32) (cfg : Word), (getF cfg fBAR_CFG_EN = 1)) ∧
    (∃ (s : State) (a : Agent) (b : Fin 32) (gen : Byte) (t : State), (s.flag (rBAR_CFG b.val) fBAR_CFG_EN = true) ∧ (s.owns a (s.fld (rBAR_CFG b.val) fBAR_CFG_OWNER) = true) ∧ (gen.toNat = s.barGen b.val) ∧ (s.barSt b.val = 0) ∧ (s.fld (rBAR_STAT b.val) fBAR_STAT_ARRIVED + 1 < s.fld (rBAR_CFG b.val) fBAR_CFG_PARTS) ∧ (t = ({ s with arrivals := Cells.set (fun _ => {}) s.arrivals (s.agentKey a) { bar := b.val, gen := gen.toNat } }).setFld (rBAR_STAT b.val) fBAR_STAT_ARRIVED (s.fld (rBAR_STAT b.val) fBAR_STAT_ARRIVED + 1))) ∧
    (∃ (s : State) (a : Agent) (b : Fin 32) (gen : Byte) (t : State), (s.flag (rBAR_CFG b.val) fBAR_CFG_EN = true) ∧ (s.owns a (s.fld (rBAR_CFG b.val) fBAR_CFG_OWNER) = true) ∧ (gen.toNat = s.barGen b.val) ∧ (s.barSt b.val = 0) ∧ (s.fld (rBAR_CFG b.val) fBAR_CFG_PARTS ≤ s.fld (rBAR_STAT b.val) fBAR_STAT_ARRIVED + 1) ∧ (t = ({ s with arrivals := Cells.set (fun _ => {}) s.arrivals (s.agentKey a) { bar := b.val, gen := gen.toNat } }).setFld (rBAR_STAT b.val) fBAR_STAT_ARRIVED (s.fld (rBAR_STAT b.val) fBAR_STAT_ARRIVED + 1))) ∧
    (∃ (s : State) (a : Agent) (b : Fin 32) (gen : Byte), (s.flag (rBAR_CFG b.val) fBAR_CFG_EN = true) ∧ (s.owns a (s.fld (rBAR_CFG b.val) fBAR_CFG_OWNER) = true) ∧ (gen.toNat ≠ s.barGen b.val)) ∧
    (∃ (s : State) (a : Agent) (b : Fin 32) (gen : Byte), (s.flag (rBAR_CFG b.val) fBAR_CFG_EN = false ∨ s.owns a (s.fld (rBAR_CFG b.val) fBAR_CFG_OWNER) = false)) ∧
    (∃ (s : State) (b : Fin 32), (s.barSt b.val = 1) ∧ (s.flag (rBAR_CFG b.val) fBAR_CFG_FAB = false) ∧ (s.flag (rBAR_CFG b.val) fBAR_CFG_MODE = false)) :=
  ⟨⟨tNow, 4, BitVec.ofNat 32 (2 ^ fBAR_CFG_EN.lo), by decide +kernel⟩,
   ⟨(tNow.setFld (rBAR_CFG 4) fBAR_CFG_EN 1).setFld (rBAR_CFG 4) fBAR_CFG_PARTS 2, .prompter, 4, 0, _, by exact ⟨by decide +kernel, by decide +kernel, by decide +kernel, by decide +kernel, by decide +kernel, rfl⟩⟩,
   ⟨(tNow.setFld (rBAR_CFG 4) fBAR_CFG_EN 1).setFld (rBAR_CFG 4) fBAR_CFG_PARTS 1, .prompter, 4, 0, _, by exact ⟨by decide +kernel, by decide +kernel, by decide +kernel, by decide +kernel, by decide +kernel, rfl⟩⟩,
   ⟨tNow.setFld (rBAR_CFG 4) fBAR_CFG_EN 1, .prompter, 4, 3, by decide +kernel⟩,
   ⟨tNow, .prompter, 4, 3, by decide +kernel⟩,
   ⟨tNow.setFld (rBAR_STAT 4) fBAR_STAT_STATE 1, 4, by decide +kernel⟩⟩

theorem witness_BarrierCommands_2 :
    (∃ (s : State) (b : Fin 32) (t : Nat), (s.barSt b.val = 1) ∧ (s.flag (rBAR_CFG b.val) fBAR_CFG_FAB = true) ∧ ((s.bar b.val).releaseAt = some t) ∧ (t ≤ s.now)) ∧
    (∃ (s : State) (b : Fin 8) (c : Fin 4) (w : Word), (s.barWait (.core b c) = some w)) ∧
    (∃ (s : State) (b : Fin 32) (t : Nat), ((s.bar b.val).first = some t) ∧ (s.flag (rBAR_CFG b.val) fBAR_CFG_FAB = true) ∧ (s.barSt b.val ≠ 2) ∧ ((s.bar b.val).releaseAt = none) ∧ (t + s.fld (rBAR_TMO b.val) fBAR_TMO_TMO_US * 1000 ≤ s.time.ns)) :=
  ⟨⟨({ tNow with bars := [(4, { releaseAt := some 50 })] }.setFld (rBAR_STAT 4) fBAR_STAT_STATE 1).setFld (rBAR_CFG 4) fBAR_CFG_FAB 1, 4, 50, by decide +kernel⟩,
   ⟨{ tNow with arrivals := [(0, { bar := 4, gen := 3, noAccess := true })] }, 0, 0, 0xC0000000, by decide +kernel⟩,
   ⟨({ tNow with bars := [(4, { first := some 50 })] }).setFld (rBAR_CFG 4) fBAR_CFG_FAB 1, 4, 50, by decide +kernel⟩⟩

theorem witness_RuntimeCommands :
    (∃ (s : State) (n : Fin 128) (b cause : Nat), (s.haltedScript n.val = some (b, cause))) ∧
    (∃ (s : State) (n : Fin 128), (s.haltedScript n.val = none) ∧ (s.poolFenced n.val = true)) ∧
    (∃ (s : State), (s.awake = true) ∧ ((Cells.get (fun _ => none) s.marks 1).getD 0 + s.fld rAUD_CTL fAUD_CTL_PERIOD_US * 1000 ≤ s.time.ns)) ∧
    (∃ (s t : State) (o : PromptOp), (s.prompt.down = none) ∧ (s.awake = true) ∧ (s.promptOp o = .ok t)) ∧
    (∃ (s t : State) (o : PromptOp) (pc : Nat), (s.prompt.down = none) ∧ (s.awake = true) ∧ (s.promptOp o = .go t pc)) :=
  ⟨⟨tHaltedScript, 5, 2, 9, by decide +kernel⟩,
   ⟨tFencedScript, 5, by decide +kernel⟩,
   ⟨tNow, by decide +kernel⟩,
   ⟨tNow, _, .tagof 0 1, by exact ⟨by decide +kernel, by decide +kernel, rfl⟩⟩,
   ⟨tCalls, tCalls.setW 0 4 4, .call 0 1, 64, by decide +kernel⟩⟩

theorem witness_CameraPackets_1 :
    (∃ (s t : State) (p : Fin 12) (vc : Fin 16) (num : Half) (c : Bool), (t = s.noteHeader p.val c) ∧ ((t.streamsOn p.val vc.val) ≠ [])) ∧
    (∃ (s t : State) (p : Fin 12) (vc : Fin 16) (num : Half) (c : Bool), (t = s.noteHeader p.val c) ∧ ((t.streamsOn p.val vc.val) = [])) ∧
    (∃ (s t : State) (p : Fin 12) (vc : Fin 16) (num : Half) (c : Bool), (t = s.noteHeader p.val c) ∧ ((t.streamsOn p.val vc.val) ≠ [])) ∧
    (∃ (s t : State) (p : Fin 12) (vc : Fin 16) (num : Half) (c : Bool), (t = s.noteHeader p.val c) ∧ ((t.streamsOn p.val vc.val) = [])) ∧
    (∃ (s t : State) (p : Fin 12) (vc : Fin 16) (num : Half) (c : Bool), (t = s.noteHeader p.val c) ∧ ((t.streamsOn p.val vc.val) ≠ [])) ∧
    (∃ (s t : State) (p : Fin 12) (vc : Fin 16) (num : Half) (c : Bool), (t = s.noteHeader p.val c) ∧ ((t.streamsOn p.val vc.val) = [])) :=
  ⟨⟨tPort, _, 2, 0, 1, false, by exact ⟨rfl, by decide +kernel⟩⟩,
   ⟨tNow, _, 2, 0, 1, false, by exact ⟨rfl, by decide +kernel⟩⟩,
   ⟨tPort, _, 2, 0, 1, false, by exact ⟨rfl, by decide +kernel⟩⟩,
   ⟨tNow, _, 2, 0, 1, true, by exact ⟨rfl, by decide +kernel⟩⟩,
   ⟨tPort, _, 2, 0, 1, false, by exact ⟨rfl, by decide +kernel⟩⟩,
   ⟨tNow, _, 2, 0, 1, false, by exact ⟨rfl, by decide +kernel⟩⟩⟩

theorem witness_CameraPackets_2 :
    (∃ (s t : State) (p : Fin 12) (vc : Fin 16) (dt : Fin 64) (b : List Byte) (ok c : Bool), (t = s.noteHeader p.val c) ∧ (((t.streamsOn p.val vc.val).filter (fun k => (match (t.stream k).frame with
          | some f => getF f.cfg fINT_STR_CFG_DT
          | none => t.fld (rINT_STR_CFG k) fINT_STR_CFG_DT) == dt.val)) ≠ [])) ∧
    (∃ (s t : State) (p : Fin 12) (vc : Fin 16) (dt : Fin 64) (b : List Byte) (ok c : Bool), (t = s.noteHeader p.val c) ∧ (((t.streamsOn p.val vc.val).filter (fun k => (match (t.stream k).frame with
          | some f => getF f.cfg fINT_STR_CFG_DT
          | none => t.fld (rINT_STR_CFG k) fINT_STR_CFG_DT) == dt.val)) = [])) ∧
    (∃ (s t : State) (p : Fin 12) (vc : Fin 16) (b : List Byte) (ok c : Bool), (t = s.noteHeader p.val c) ∧ (((t.streamsOn p.val vc.val).filter (fun k => (match (t.stream k).frame with
          | some f => getF f.cfg fINT_STR_CFG_EMB_LINES
          | none => t.fld (rINT_STR_CFG k) fINT_STR_CFG_EMB_LINES) != 0)) ≠ [])) ∧
    (∃ (s t : State) (p : Fin 12) (vc : Fin 16) (b : List Byte) (ok c : Bool), (t = s.noteHeader p.val c) ∧ (((t.streamsOn p.val vc.val).filter (fun k => (match (t.stream k).frame with
          | some f => getF f.cfg fINT_STR_CFG_EMB_LINES
          | none => t.fld (rINT_STR_CFG k) fINT_STR_CFG_EMB_LINES) != 0)) = [])) ∧
    (∃ (s : State) (p : Fin 12), (getF (s.port p.val).cfg fINT_PORT_CFG_EN = 1)) ∧
    (∃ (s : State) (p : Fin 12) (sot : Bool), (getF (s.port p.val).cfg fINT_PORT_CFG_EN = 1)) :=
  ⟨⟨tPort, _, 2, 0, tPortDt, [], true, false, by exact ⟨rfl, by decide +kernel⟩⟩,
   ⟨tNow, _, 2, 0, 0x2A, [], true, false, by exact ⟨rfl, by decide +kernel⟩⟩,
   ⟨tPort.setFld (rINT_STR_CFG 8) fINT_STR_CFG_EMB_LINES 1, _, 2, 0, [], true, false, by exact ⟨rfl, by decide +kernel⟩⟩,
   ⟨tNow, _, 2, 0, [], true, false, by exact ⟨rfl, by decide +kernel⟩⟩,
   ⟨tPort, 2, by decide +kernel⟩,
   ⟨tPort, 2, true, by decide +kernel⟩⟩

theorem witness_CameraPortEvents :
    (∃ (s : State) (p : Fin 12), (getF (s.reg (rINT_PORT_CFG p.val)) fINT_PORT_CFG_EN = 1) ∧ (getF (s.port p.val).cfg fINT_PORT_CFG_EN = 0)) ∧
    (∃ (s : State) (p : Fin 12), (getF (s.reg (rINT_PORT_CFG p.val)) fINT_PORT_CFG_EN ≠ 1 ∨ getF (s.port p.val).cfg fINT_PORT_CFG_EN ≠ 0)) ∧
    (∃ (s : State) (p : Fin 12), (getF (s.port p.val).cfg fINT_PORT_CFG_EN = 1)) ∧
    (∃ (s : State) (k : Fin 48) (f : OpenFrame), ((s.stream k.val).frame = some f) ∧ (f.ns + s.fld (rINT_STR_TMO k.val) fINT_STR_TMO_FE_TMO_US * 1000 ≤ s.time.ns)) ∧
    (∃ (s : State) (p : Fin 12) (w : Word), (getF w fINT_WATCH_CFG_EN = 1)) ∧
    (∃ (s : State) (p : Fin 12) (w : Word), (getF w fINT_WATCH_CFG_EN ≠ 1)) :=
  ⟨⟨tNow.setFld (rINT_PORT_CFG 2) fINT_PORT_CFG_EN 1, 2, by decide +kernel⟩,
   ⟨tNow, 2, by decide +kernel⟩,
   ⟨tPort, 2, by decide +kernel⟩,
   ⟨{ tNow with streams := [(8, { frame := some tOpen })] }, 8, tOpen, by decide +kernel⟩,
   ⟨tNow, 2, 0x80000000, by decide +kernel⟩,
   ⟨tNow, 2, 0, by decide +kernel⟩⟩

theorem witness_CameraControl_1 :
    (∃ (s : State) (b : Fin 12) (w : Word), (getF w fI2C_XFER_GO = 1)) ∧
    (∃ (s : State) (b : Fin 12) (w : Word), (getF w fI2C_XFER_GO ≠ 1)) ∧
    (∃ (s : State) (b : Fin 12) (n : Nat) (rd : Word), ((s.bus b.val).list = some n)) ∧
    (∃ (s : State) (b : Fin 12) (n : Nat) (i : Fin 256) (data : Bool) (rd : Word), ((s.bus b.val).list = some n)) ∧
    (∃ (s : State) (b : Fin 12) (w rd : Word), ((s.bus b.val).list = none) ∧ ((s.bus b.val).xfer = some w) ∧ (getF w fI2C_XFER_RD ≠ 1)) ∧
    (∃ (s : State) (b : Fin 12) (w rd : Word), ((s.bus b.val).list = none) ∧ ((s.bus b.val).xfer = some w) ∧ (getF w fI2C_XFER_RD = 1)) :=
  ⟨⟨tNow, 2, 0x80000000, by decide +kernel⟩,
   ⟨tNow, 2, 0, by decide +kernel⟩,
   ⟨{ tNow with i2c := [(2, { list := some 3 })] }, 2, 3, 0, by decide +kernel⟩,
   ⟨{ tNow with i2c := [(2, { list := some 3 })] }, 2, 3, 4, true, 0, by decide +kernel⟩,
   ⟨{ tNow with i2c := [(2, { xfer := some 0 })] }, 2, 0, 0, by decide +kernel⟩,
   ⟨{ tNow with i2c := [(2, { xfer := some 0xFFFFFFFF })] }, 2, 0xFFFFFFFF, 5, by decide +kernel⟩⟩

theorem witness_CameraControl_2 :
    (∃ (s : State) (b : Fin 12) (n : Nat) (i : Fin 256), ((s.bus b.val).list = some n)) ∧
    (∃ (s : State) (b : Fin 12) (i : Fin 256) (w : Word), ((s.bus b.val).list = none) ∧ ((s.bus b.val).xfer = some w)) ∧
    (∃ (s : State) (n : Fin 12) (t : Nat), ((s.fsOut n.val).ends = some t) ∧ (t ≤ s.time.ns)) ∧
    (∃ (s : State) (n : Fin 4) (fall : Bool) (us : Nat), (getF (s.reg (rINT_TRIG_CFG n.val)) fINT_TRIG_CFG_EN ≠ 0) ∧ (getF (s.reg (rINT_TRIG_CFG n.val)) fINT_TRIG_CFG_FALL = b2n fall) ∧ (s.power.vioLow = false) ∧ (us < s.glitch (getF (s.reg (rINT_TRIG_CFG n.val)) fINT_TRIG_CFG_GLITCH_US))) ∧
    (∃ (s t u : State) (n : Fin 4) (fall : Bool) (us : Nat) (x : TrigIn), (getF (s.reg (rINT_TRIG_CFG n.val)) fINT_TRIG_CFG_EN ≠ 0) ∧ (getF (s.reg (rINT_TRIG_CFG n.val)) fINT_TRIG_CFG_FALL = b2n fall) ∧ (s.power.vioLow = false) ∧ (s.glitch (getF (s.reg (rINT_TRIG_CFG n.val)) fINT_TRIG_CFG_GLITCH_US) ≤ us) ∧ (Cells.get (fun _ => {}) s.trig n.val = x) ∧ (x.last = none) ∧ (t = (({ s with trig := Cells.set (fun _ => {}) s.trig n.val { x with last := some s.time.ns, due := if getF (s.reg (rINT_TRIG_ACT n.val)) fINT_TRIG_ACT_LINK = 1 ∧ s.awake = true then some (s.time.ns + 1000 * getF (s.reg (rINT_TRIG_ACT n.val)) fINT_TRIG_ACT_DELAY_US) else x.due } }).countBy (rINT_TRIG_CNT n.val) fINT_TRIG_CNT_ACC 1).setTime (rINT_TRIG_CAP_LO n.val) s.time.now) ∧ (u = if getF (s.reg (rINT_TRIG_CFG n.val)) fINT_TRIG_CFG_HOSTEV = 1 then t.postEvent 0x0005 255 n.val (s.time.now % 2 ^ 32) else t)) ∧
    (∃ (s : State) (n : Fin 4) (x : TrigIn) (t : Nat), (Cells.get (fun _ => {}) s.trig n.val = x) ∧ (x.due = some t) ∧ (t ≤ s.time.ns)) :=
  ⟨⟨{ tNow with i2c := [(2, { list := some 3 })] }, 2, 3, 0, by decide +kernel⟩,
   ⟨{ tNow with i2c := [(2, { xfer := some 0 })] }, 2, 0, 0, by decide +kernel⟩,
   ⟨{ tNow with fsync := [(2, { ends := some 5 })] }, 2, 5, by decide +kernel⟩,
   ⟨(tNow.setFld (rINT_TRIG_CFG 1) fINT_TRIG_CFG_EN 1).setFld (rINT_TRIG_CFG 1) fINT_TRIG_CFG_GLITCH_US 9, 1, false, 0, by decide +kernel⟩,
   ⟨tNow.setFld (rINT_TRIG_CFG 1) fINT_TRIG_CFG_EN 1, _, _, 1, false, 1000, {}, by exact ⟨by decide +kernel, by decide +kernel, by decide +kernel, by decide +kernel, by decide +kernel, by decide +kernel, rfl, rfl⟩⟩,
   ⟨{ tNow with trig := [(1, { due := some 5 })] }, 1, { due := some 5 }, 5, by decide +kernel⟩⟩

theorem witness_StripeCommands_1 :
    (∃ (s : State) (r : BufRow) (l : List BufRow) (f : SaFrame), (s.rowsInOrder = r :: l) ∧ (s.saFrame r.stream r.fidx = some f) ∧ (f.void = true)) ∧
    (∃ (s t u : State) (r : BufRow) (l : List BufRow) (f : SaFrame), (s.rowsInOrder = r :: l) ∧ (s.saFrame r.stream r.fidx = some f) ∧ (f.void = false) ∧ (((f.stripesFor r.row).foldl (fun (t : State × Bool) j => let u := t.1.saSlotFor r.stream f j; (u.1, t.2 && u.2)) (s, true)) = (t, true)) ∧ (u = (f.stripesFor r.row).foldl (fun t j => t.saPut r.stream f r.row r.samples j) (((t.countBy (rSA_STR_SLOTWAIT r.stream) wholeReg ((t.saStream r.stream).waits.elim 0 (fun k => s.time.ns - k))).setSaStream r.stream { t.saStream r.stream with waits := none }).takeRow r))) ∧
    (∃ (s : State) (k : Fin 48) (b : Fin 8) (n : Fin 4) (x : SaSlot) (f : SaFrame), (s.saSlot (slotKey k.val b.val n.val) = some x) ∧ (s.saFrame k.val x.fidx = some f) ∧ (x.st = 1) ∧ (f.lastRow x.stripe < x.got)) ∧
    (∃ (s t : State) (b : Fin 8) (c : Fin 4) (w : Word), (s.stripePop b.val c.val = some (w, t))) ∧
    (∃ (s : State) (b : Fin 8) (c : Fin 4), (s.rtCtx (s.phys b.val) c.val = false)) ∧
    (∃ (s : State) (b : Fin 8) (c : Fin 4), (s.rtCtx (s.phys b.val) c.val = true) ∧ (s.popNext b.val = none)) :=
  ⟨⟨tRow true, tBufRow, [], tSaFrame true, by decide +kernel⟩,
   ⟨tRow false, tRow false, _, tBufRow, [], tSaFrame false, by exact ⟨by decide +kernel, by decide +kernel, by decide +kernel, by decide +kernel, rfl⟩⟩,
   ⟨tSlot 1, 8, 2, 1, tSaSlot 1, tSaFrame false, by decide +kernel⟩,
   ⟨tNow, tNow, 2, 1, 0, by decide +kernel⟩,
   ⟨tNow, 2, 1, by decide +kernel⟩,
   ⟨tNow.setFld (rVPP_CTX_CTL 2) fVPP_CTX_CTL_RTMASK 15, 2, 1, by decide +kernel⟩⟩

theorem witness_StripeCommands_2 :
    (∃ (s t : State) (b : Fin 8) (c : Fin 4) (w : Word) (y : Nat × SaSlot), (s.sa.slots.find? (fun (y : Nat × SaSlot) => y.1 / 32 == getF w fSTRIPE_FB_STREAM && y.1 / 4 % 8 == b.val && y.2.st == 3 && y.2.ctx == c.val && y.2.stripe == 0) = some y) ∧ (t = s.modSaFrame (getF w fSTRIPE_FB_STREAM) y.2.fidx (fun f => { f with handle := some (getF w fSTRIPE_FB_HANDLE) }))) ∧
    (∃ (s : State) (b : Fin 8) (w : Word) (x : SaSlot) (r : Nat × Nat), (s.saSlot (slotKey (getF w fSTRIPE_XREL_STREAM) b.val (getF w fSTRIPE_XREL_SLOT)) = some x) ∧ (x.xr[getF w fSTRIPE_XREL_RANGE]? = some r) ∧ (x.st = 3)) ∧
    (∃ (s : State) (b : Fin 8) (c : Fin 4) (w : Word), (s.saSlot (slotKey (getF w fSTRIPE_DONE_STREAM) b.val (getF w fSTRIPE_DONE_SLOT)) = none)) ∧
    (∃ (s t v : State) (b : Fin 8) (c : Fin 4) (w : Word) (x : SaSlot) (f : SaFrame), (s.saSlot (slotKey (getF w fSTRIPE_DONE_STREAM) b.val (getF w fSTRIPE_DONE_SLOT)) = some x) ∧ (x.st = 3) ∧ (x.done = false) ∧ (getF w fSTRIPE_DONE_STREAM < 48) ∧ (t = (s.stripeJudge (getF w fSTRIPE_DONE_STREAM) x (min 2 (getF w fSTRIPE_DONE_STATUS))).setReg (rSA_STR_LAT_MAX (getF w fSTRIPE_DONE_STREAM)) (BitVec.ofNat 32 (max ((s.stripeJudge (getF w fSTRIPE_DONE_STREAM) x (min 2 (getF w fSTRIPE_DONE_STATUS))).reg (rSA_STR_LAT_MAX (getF w fSTRIPE_DONE_STREAM))).toNat (min (s.time.now - x.ready) (2 ^ 32 - 1))))) ∧ (t.saFrame (getF w fSTRIPE_DONE_STREAM) x.fidx = some f) ∧ (f.stripes.length ≠ f.j) ∧ (f.xchg = false) ∧ (v = t.setStripePort (s.phys b.val) c.val { t.stripePort (s.phys b.val) c.val with dres := BitVec.ofNat 32 (2 ^ 30 + b2n f.refMiss * 2 ^ 29 + b2n f.nbrBad * 2 ^ 28 + b2n f.past * 2 ^ 27 + f.late % 1024 * 2 ^ 10 + f.bad % 1024) })) ∧
    (∃ (s : State) (k : Fin 48) (y : Nat × SaSlot) (l : List (Nat × SaSlot)), (s.pastEntries k.val = y :: l) ∧ (y.2.stripe ≠ 0)) ∧
    (∃ (s : State) (k : Fin 48) (y : Nat × SaSlot) (l : List (Nat × SaSlot)), (s.pastEntries k.val = y :: l) ∧ (y.2.stripe = 0)) :=
  ⟨⟨tSlot 3, _, 2, 0, tFbWord, (slotKey 8 2 1, tSaSlot 3), by exact ⟨by decide +kernel, rfl⟩⟩,
   ⟨{ tNow with sa := { slots := [(0, { tSaSlot 3 with xr := [(0, 8)] })] } }, 0, 0, { tSaSlot 3 with xr := [(0, 8)] }, (0, 8), by decide +kernel⟩,
   ⟨tNow, 2, 0, 0, by decide +kernel⟩,
   ⟨tDoneS, _, _, 2, 0, tDoneW, tSaSlot 3, tDoneF, by exact ⟨by decide +kernel, by decide +kernel, by decide +kernel, by decide +kernel, rfl, by decide +kernel, by decide +kernel, by decide +kernel, rfl⟩⟩,
   ⟨tPast 1, 8, (slotKey 8 2 1, { tSaSlot 2 with stripe := 1 }), [], by decide +kernel⟩,
   ⟨tPast 0, 8, (slotKey 8 2 1, { tSaSlot 2 with stripe := 0 }), [], by decide +kernel⟩⟩

theorem witness_StripeCommands_3 :
    ∃ (s : State) (k : Fin 48) (m n : Nat), ((s.reg (rSA_STR_MISS k.val)).toNat = m) ∧ ((s.reg (rSA_STR_SKIP k.val)).toNat = n) ∧ (m ≠ 0 ∨ n ≠ 0) :=
  ⟨tNow.setReg (rSA_STR_MISS 8) 3, 8, 3, 0, by decide +kernel⟩

theorem witness_UsbEvents_1 :
    (∃ (s t : State) (v : Fin 7), (s.usbOn = true) ∧ (s.power.st ≠ .dark) ∧ (s.flag rUSB_CFG fUSB_CFG_CONNECT = true) ∧ (v.val ≠ 0) ∧ (v.val ≠ 1) ∧ (s.flag rUSB_CFG fUSB_CFG_SS_DIS = false) ∧ (t = ((({ s with power := { s.power with vbus := true } }.setFld rUSB_STAT fUSB_STAT_ATTACHED 1).setFld rUSB_STAT fUSB_STAT_SPEED v.val).setUsbLink 1))) ∧
    (∃ (s : State) (v : Fin 7), (s.power.st = .dark)) ∧
    (∃ (s t u : State) (k : Fin 3), (s.usbOn = true) ∧ (k.val ≠ 2) ∧ (t = ((s.endCommands.count rUSB_RESET_CNT).setFld rUSB_STAT fUSB_STAT_CONFIGURED 0).setFld rUSB_STAT fUSB_STAT_RWAKE_EN 0) ∧ (u = { t with usb := { t.usb with u1 := false, u2 := false, enumerated := false, idleSince := s.time.ns } })) ∧
    (∃ (s t u : State), (s.usbOn = true) ∧ (t = ((({ s with power := { s.power with vbus := false } }).endCommands.count rUSB_RESET_CNT).setFld rUSB_STAT fUSB_STAT_CONFIGURED 0).setFld rUSB_STAT fUSB_STAT_RWAKE_EN 0) ∧ (u = { t with usb := { t.usb with u1 := false, u2 := false, enumerated := false, idleSince := s.time.ns } })) ∧
    (∃ (s : State) (ep : Fin 4) (inward : Bool), (ep.val ≠ 2) ∧ (ep.val ≠ 0)) ∧
    (∃ (s t u : State) (n : Fin 16) (b : List Byte) (r left : Nat), (t = s.countBy rUSB_ERR_CNT fUSB_ERR_CNT_RETRY r) ∧ (Cells.get (fun _ => 0) t.usb.armed (32 + n.val) = left) ∧ (t.flag rUSB_STAT fUSB_STAT_CONFIGURED = true) ∧ (t.usbOn = true) ∧ (b.length ≤ left) ∧ (0 < left) ∧ (t.fld rUSB_STAT fUSB_STAT_SPEED ≠ 2 ∨ n.val = 0) ∧ (u = t.usbTraffic)) :=
  ⟨⟨tNow.setFld rUSB_CFG fUSB_CFG_CONNECT 1, _, 3, by exact ⟨by decide +kernel, by decide +kernel, by decide +kernel, by decide +kernel, by decide +kernel, by decide +kernel, rfl⟩⟩,
   ⟨{ tNow with power := { st := .dark } }, 3, by decide +kernel⟩,
   ⟨tNow, _, _, 0, by exact ⟨by decide +kernel, by decide +kernel, rfl, rfl⟩⟩,
   ⟨tNow, _, _, by exact ⟨by decide +kernel, rfl, rfl⟩⟩,
   ⟨tNow, 1, true, by decide +kernel⟩,
   ⟨{ tNow.setFld rUSB_STAT fUSB_STAT_CONFIGURED 1 with usb := { armed := [(33, 64)] } }, _, _, 1, [7], 0, 64, by exact ⟨rfl, by decide +kernel, by decide +kernel, by decide +kernel, by decide +kernel, by decide +kernel, by decide +kernel, rfl⟩⟩⟩

theorem witness_UsbEvents_2 :
    (∃ (s : State), (s.usb.u1 = true) ∧ (s.usbLink = 1) ∧ (s.usbOn = true) ∧ (s.usb.idleSince + 2000 ≤ s.time.ns)) ∧
    (∃ (s : State), (s.usb.u2 = true) ∧ (s.usbLink = 1 ∨ s.usbLink = 2) ∧ (s.usbOn = true) ∧ (s.usb.idleSince + 100000 ≤ s.time.ns)) ∧
    (∃ (s : State), (s.usbOn = true) ∧ (s.usbLink ≠ 0) ∧ (s.flag rUSB_STAT fUSB_STAT_RWAKE_EN = false)) ∧
    (∃ (s : State) (m : Nat), (s.usbOn = true) ∧ (s.usbLink ≠ 0) ∧ (s.flag rUSB_STAT fUSB_STAT_RWAKE_EN = true) ∧ (s.host.outstanding.isEmpty = true) ∧ (s.host.held.isEmpty = true) ∧ (s.awake = true) ∧ (s.scripts.all (fun (x : Nat × Script) => x.2.st != .running) = true) ∧ (s.usb.sleepMask.getD 0x3F = m)) ∧
    (∃ (s : State), (s.usbLink = 4) ∧ (s.awake = true)) ∧
    (∃ (s : State), (s.usbLink = 4) ∧ (s.power.st = .sleep ∨ s.power.st = .waking)) :=
  ⟨⟨{ tNow.setUsbLink 1 with usb := { u1 := true } }, by decide +kernel⟩,
   ⟨{ tNow.setUsbLink 2 with usb := { u2 := true } }, by decide +kernel⟩,
   ⟨tNow.setUsbLink 1, by decide +kernel⟩,
   ⟨(tNow.setUsbLink 1).setFld rUSB_STAT fUSB_STAT_RWAKE_EN 1, 63, by decide +kernel⟩,
   ⟨tNow.setUsbLink 4, by decide +kernel⟩,
   ⟨{ tNow.setUsbLink 4 with power := { st := .sleep } }, by decide +kernel⟩⟩

theorem witness_UsbEvents_3 :
    (∃ (s : State) (v : Fin 7), (3 ≤ s.fld rUSB_STAT fUSB_STAT_SPEED) ∧ (v.val < s.fld rUSB_STAT fUSB_STAT_SPEED)) ∧
    (∃ (s : State), (s.flag rUSB_STAT fUSB_STAT_CONFIGURED = true) ∧ (s.usbOn = true)) ∧
    (∃ (s : State) (v : Fin 2), (s.usbOn = true) ∧ (s.fld rUSB_STAT fUSB_STAT_SPEED ≠ 0)) ∧
    (∃ (s : State) (on : Bool), (s.usbOn = true) ∧ (s.fld rUSB_STAT fUSB_STAT_SPEED ≠ 0)) ∧
    (∃ (s : State) (on : Bool), (s.usbOn = true) ∧ (s.fld rUSB_STAT fUSB_STAT_SPEED ≠ 0)) ∧
    (∃ (s : State) (on : Bool), (s.usbOn = true) ∧ (s.fld rUSB_STAT fUSB_STAT_SPEED ≠ 0)) :=
  ⟨⟨tNow.setFld rUSB_STAT fUSB_STAT_SPEED 4, 2, by decide +kernel⟩,
   ⟨tNow.setFld rUSB_STAT fUSB_STAT_CONFIGURED 1, by decide +kernel⟩,
   ⟨tNow.setFld rUSB_STAT fUSB_STAT_SPEED 4, 1, by decide +kernel⟩,
   ⟨tNow.setFld rUSB_STAT fUSB_STAT_SPEED 4, true, by decide +kernel⟩,
   ⟨tNow.setFld rUSB_STAT fUSB_STAT_SPEED 4, true, by decide +kernel⟩,
   ⟨tNow.setFld rUSB_STAT fUSB_STAT_SPEED 4, true, by decide +kernel⟩⟩

theorem witness_LinkEvents_1 :
    (∃ (s : State) (l : Fin 6) (g : FlitGroup), (s.linkSt l.val = 2 ∨ s.linkSt l.val = 3) ∧ (g.good = false)) ∧
    (∃ (s t : State) (l : Fin 6) (g : FlitGroup), (s.linkSt l.val = 2 ∨ s.linkSt l.val = 3) ∧ (g.good = true) ∧ (g.kinds.any (· == 3) = false) ∧ (g.nak = false) ∧ (t = s.acceptTrailer l.val g) ∧ (g.seq.toNat = (t.link l.val).rxSeq)) ∧
    (∃ (s t : State) (l : Fin 6) (g : FlitGroup), (s.linkSt l.val = 2 ∨ s.linkSt l.val = 3) ∧ (g.good = true) ∧ (g.kinds.any (· == 3) = false) ∧ (g.nak = false) ∧ (t = s.acceptTrailer l.val g) ∧ (g.seq.toNat ≠ (t.link l.val).rxSeq)) ∧
    (∃ (s : State) (l : Fin 6), (s.linkSt l.val = 3) ∧ (0 < (s.link l.val).replayBuf) ∧ ((s.link l.val).lastAck + 4000 ≤ s.time.ns)) ∧
    (∃ (s : State) (l : Fin 6), (s.linkSt l.val = 3) ∧ ((s.link l.val).lastTrailer + 16000 ≤ s.time.ns)) ∧
    (∃ (s : State) (l : Fin 6), (s.linkSt l.val ≠ 0) ∧ (s.linkSt l.val ≠ 5)) :=
  ⟨⟨({ tNow with links := [(2, {})] }.setFld (rEPL_STAT 2) fEPL_STAT_STATE 3), 2, ⟨false, 0, false, false, 0, [], [], []⟩, by decide +kernel⟩,
   ⟨({ tNow with links := [(2, {})] }.setFld (rEPL_STAT 2) fEPL_STAT_STATE 3), _, 2, ⟨true, 0, false, false, 0, [], [], []⟩, by exact ⟨by decide +kernel, by decide +kernel, by decide +kernel, by decide +kernel, rfl, by decide +kernel⟩⟩,
   ⟨({ tNow with links := [(2, {})] }.setFld (rEPL_STAT 2) fEPL_STAT_STATE 3), _, 2, ⟨true, 9, false, false, 0, [], [], []⟩, by exact ⟨by decide +kernel, by decide +kernel, by decide +kernel, by decide +kernel, rfl, by decide +kernel⟩⟩,
   ⟨({ tNow with links := [(2, { replayBuf := 3 })] }.setFld (rEPL_STAT 2) fEPL_STAT_STATE 3), 2, by decide +kernel⟩,
   ⟨({ tNow with links := [(2, {})] }.setFld (rEPL_STAT 2) fEPL_STAT_STATE 3), 2, by decide +kernel⟩,
   ⟨({ tNow with links := [(2, {})] }.setFld (rEPL_STAT 2) fEPL_STAT_STATE 3), 2, by decide +kernel⟩⟩

theorem witness_LinkEvents_2 :
    (∃ (s : State) (l : Fin 6), (s.linkSt l.val = 4) ∧ ((s.link l.val).rx.isEmpty = true)) ∧
    (∃ (s t : State) (l : Fin 6), (s.linkSt l.val = 0) ∧ (s.flag (rEPL_CTL l.val) fEPL_CTL_EN = true) ∧ (s.modId < 24) ∧ (s.awake = true) ∧ (t = s.setLink l.val { s.link l.val with signal := true })) ∧
    (∃ (s t : State) (l : Fin 6), (s.linkSt l.val = 1) ∧ (t = (s.setLinkSt l.val 2).transmit l.val ((s.setLinkSt l.val 2).initMsg l.val 0x48))) ∧
    (∃ (s : State) (w : Fin 16), (s.canon)) ∧
    (∃ (s t v : State) (l : Fin 6) (m : LinkMsg) (sizes : List Nat), ((s.link l.val).slot = some m) ∧ (m.type = 0x48) ∧ (s.linkSt l.val = 2) ∧ (m.src ≠ s.modId) ∧ (m.src < 24) ∧ (sizes = [m.field 16 2, m.field 18 2, m.field 20 1]) ∧ ((s.link l.val).peerSize.any (fun o => o != sizes) = false) ∧ ((s.link l.val).rx.isEmpty = true) ∧ (m.field 24 4 % 2 ^ 24 = s.fld rEPL_FAB_CFG fEPL_FAB_CFG_EPOCH) ∧ (t = (s.setLink l.val { s.link l.val with slot := none }).setFld (rEPL_STAT l.val) fEPL_STAT_PEER_MOD m.src) ∧ (v = (List.range 3).foldl (fun t c => t.setFld (rEPL_CRED l.val) (classFld c) (sizes.getD c 0)) (t.setLink l.val { t.link l.val with peerSize := some sizes }))) ∧
    (∃ (s : State) (l : Fin 6) (m : LinkMsg), ((s.link l.val).slot = some m) ∧ (m.type = 0x48) ∧ (s.linkSt l.val = 3)) :=
  ⟨⟨({ tNow with links := [(2, {})] }.setFld (rEPL_STAT 2) fEPL_STAT_STATE 4), 2, by decide +kernel⟩,
   ⟨({ tNow with links := [(2, {})] }.setFld (rEPL_STAT 2) fEPL_STAT_STATE 0).setFld (rEPL_CTL 2) fEPL_CTL_EN 1 |>.setFld rEPL_FAB_CFG fEPL_FAB_CFG_MOD_ID 3, _, 2, by exact ⟨by decide +kernel, by decide +kernel, by decide +kernel, by decide +kernel, rfl⟩⟩,
   ⟨({ tNow with links := [(2, {})] }.setFld (rEPL_STAT 2) fEPL_STAT_STATE 1), _, 2, by exact ⟨by decide +kernel, rfl⟩⟩,
   ⟨tNow, 3, by decide +kernel⟩,
   ⟨({ tNow with links := [(2, { slot := some { tMsg 0x48 (List.replicate 16 0) with src := 3 } })] }.setFld (rEPL_STAT 2) fEPL_STAT_STATE 2), _, _, 2, { tMsg 0x48 (List.replicate 16 0) with src := 3 }, _, by exact ⟨by decide +kernel, by decide +kernel, by decide +kernel, by decide +kernel, by decide +kernel, rfl, by decide +kernel, by decide +kernel, by decide +kernel, rfl, rfl⟩⟩,
   ⟨({ tNow with links := [(2, { slot := some (tMsg 0x48 []) })] }.setFld (rEPL_STAT 2) fEPL_STAT_STATE 3), 2, tMsg 0x48 [], by decide +kernel⟩⟩

theorem witness_LinkEvents_3 :
    ∃ (s t : State) (l : Fin 6) (m : LinkMsg), ((s.link l.val).slot = some m) ∧ (m.type = 0x49) ∧ (s.linkSt l.val = 2) ∧ (t = (((s.setLink l.val { s.link l.val with slot := none, lastBeat := s.time.ns, lastSent := s.time.ns, lastTrailer := s.time.ns, cause := 0 }).setLinkSt l.val 3).setFld (rEPL_STAT l.val) fEPL_STAT_ASLEEP 0).setFld (rEPL_STAT l.val) fEPL_STAT_PEER_ALIVE 1) :=
  ⟨({ tNow with links := [(2, { slot := some (tMsg 0x49 []) })] }.setFld (rEPL_STAT 2) fEPL_STAT_STATE 2), _, 2, tMsg 0x49 [], by exact ⟨by decide +kernel, by decide +kernel, by decide +kernel, rfl⟩⟩

theorem witness_LinkRequests_1 :
    (∃ (s : State) (l : Fin 7) (m : LinkMsg), (s.headMsg l.val 0x01 = some m) ∧ (s.admits m (m.field 16 2) true = false)) ∧
    (∃ (s : State) (l : Fin 7) (m : LinkMsg), (s.headMsg l.val 0x01 = some m) ∧ (s.admits m (m.field 16 2) true = true) ∧ (s.linkAddr m true = none)) ∧
    (∃ (s t : State) (l : Fin 7) (m : LinkMsg) (a : Nat), (s.headMsg l.val 0x01 = some m) ∧ (s.admits m (m.field 16 2) true = true) ∧ (s.linkAddr m true = some a) ∧ (s.linkWaits a (m.field 16 2) true = false) ∧ (s.dpaWrite false a (m.data.take (m.field 16 2)) = some t)) ∧
    (∃ (s : State) (l : Fin 7) (m : LinkMsg) (a : Nat), (s.headMsg l.val 0x01 = some m) ∧ (s.admits m (m.field 16 2) true = true) ∧ (s.linkAddr m true = some a) ∧ (s.linkWaits a (m.field 16 2) true = true)) ∧
    (∃ (s : State) (l : Fin 7) (m : LinkMsg), (s.headMsg l.val 0x02 = some m) ∧ (s.admits m (m.field 16 2) false = false)) ∧
    (∃ (s t : State) (l : Fin 7) (m : LinkMsg) (a : Nat) (d : List Byte), (s.headMsg l.val 0x02 = some m) ∧ (s.admits m (m.field 16 2) false = true) ∧ (s.linkAddr m false = some a) ∧ (s.linkWaits a (m.field 16 2) false = false) ∧ (s.dpaRead false a (m.field 16 2) = (some d, t))) :=
  ⟨⟨({ tNow with links := [(2, { rx := [tMsg 1 [4, 0]] })] }), 2, tMsg 1 [4, 0], by decide +kernel⟩,
   ⟨tWindow (tWr false 0), 2, tWr false 0, by decide +kernel⟩,
   ⟨tWindow (tWr true 64), tWrote, 2, tWr true 64, 64, by decide +kernel⟩,
   ⟨{ tWindow (tWr true 0x4000000000) with sb := [(0, { entries := [(0, { lo := 0, hi := 8, w := 1 })] })] }, 2, tWr true 0x4000000000, 0x4000000000, by decide +kernel⟩,
   ⟨({ tNow with links := [(2, { rx := [tMsg 2 [4, 0]] })] }), 2, tMsg 2 [4, 0], by decide +kernel⟩,
   ⟨tWindow (tRd 64), tWindow (tRd 64), 2, tRd 64, 64, [0, 0, 0, 0], by decide +kernel⟩⟩

theorem witness_LinkRequests_2 :
    (∃ (s t : State) (l : Fin 7) (m : LinkMsg) (r : LinkReq), (s.headMsg l.val 0x03 = some m) ∧ ((s.freeRx l.val m).takeReq m = some (r, t))) ∧
    (∃ (s : State) (l : Fin 7) (m : LinkMsg), (s.headMsg l.val 0x03 = some m) ∧ ((s.freeRx l.val m).takeReq m = none)) ∧
    (∃ (s t : State) (l : Fin 7) (m : LinkMsg) (r : LinkReq), (s.headMsg l.val 0x04 = some m) ∧ ((s.freeRx l.val m).takeReq m = some (r, t))) ∧
    (∃ (s : State) (l : Fin 7) (m : LinkMsg), (s.headMsg l.val 0x10 = some m) ∧ (s.nb4Waits (m.field 16 1) = false)) ∧
    (∃ (s t : State) (l : Fin 7) (m : LinkMsg) (lv : List Nat), (s.headMsg l.val 0x10 = some m) ∧ (s.admits m 1 true = true ∨ m.src = s.modId) ∧ (s.nb4Waits (m.field 16 1) = true) ∧ (lv = s.levels (dfield (s.chan 9 (m.field 16 1)).desc 13 21 20)) ∧ (t = (s.freeRx l.val m).modChan 9 (m.field 16 1) (fun x => { x with nb4Open := true, nb4Chan := m.tag % 256, nb4Mod := m.src, levels := lv }))) ∧
    (∃ (s : State) (l : Fin 7) (m : LinkMsg), (s.headMsg l.val 0x11 = some m) ∧ (s.nb4Waits (m.field 16 1) = false)) :=
  ⟨⟨tReqs (tMsg 3 [0]), tReqTaken (tMsg 3 [0]), 2, tMsg 3 [0], ⟨0, 1, 1, 5, 4, 0⟩, by decide +kernel⟩,
   ⟨({ tNow with links := [(2, { rx := [tMsg 3 [0]] })] }), 2, tMsg 3 [0], by decide +kernel⟩,
   ⟨tReqs (tMsg 4 [0]), tReqTaken (tMsg 4 [0]), 2, tMsg 4 [0], ⟨0, 1, 1, 5, 4, 0⟩, by decide +kernel⟩,
   ⟨({ tNow with links := [(2, { rx := [tMsg 0x10 [5]] })] }), 2, tMsg 0x10 [5], by decide +kernel⟩,
   ⟨tNb4, _, 2, { tMsg 0x10 [5] with src := 0 }, _, by exact ⟨by decide +kernel, Or.inr (by decide +kernel), by decide +kernel, rfl, rfl⟩⟩,
   ⟨({ tNow with links := [(2, { rx := [tMsg 0x11 [5]] })] }), 2, tMsg 0x11 [5], by decide +kernel⟩⟩

theorem witness_LinkRequests_3 :
    (∃ (s t : State) (l : Fin 7) (m : LinkMsg) (ok : Bool), (s.headMsg l.val 0x11 = some m) ∧ (s.nb4Waits (m.field 16 1) = true) ∧ ((s.chan 9 (m.field 16 1)).nb4Open = true) ∧ (s.nb4Blocks (m.field 16 1) (m.field 20 4) (m.field 17 1) m.data = (t, ok))) ∧
    (∃ (s : State) (l : Fin 7) (m : LinkMsg) (t : State), (s.headMsg l.val 0x12 = some m) ∧ (t = s.freeRx l.val m) ∧ (xform (t.chan 9 (m.field 16 1)).desc = 9) ∧ ((t.chan 9 (m.field 16 1)).started = true) ∧ ((t.chan 9 (m.field 16 1)).status = none)) :=
  ⟨⟨tNb4Data, tNb4Data, 2, tMsg 0x11 [5, 0], true, by decide +kernel⟩,
   ⟨tNb4Ctl, 2, tMsg 0x12 [5, 0], _, by exact ⟨by decide +kernel, rfl, by decide +kernel, by decide +kernel, by decide +kernel⟩⟩⟩

theorem witness_LinkServices_1 :
    (∃ (s t : State) (l : Fin 7) (m : LinkMsg), (s.headMsg l.val 0x20 = some m) ∧ (s.time.sync.parent = some l.val) ∧ (t = { s.freeRx l.val m with time := { (s.freeRx l.val m).time with sync := { (s.freeRx l.val m).time.sync with t1 := m.field 16 8, t2 := m.arrival, t3 := some s.now } } })) ∧
    (∃ (s : State) (l : Fin 7) (m : LinkMsg), (s.headMsg l.val 0x20 = some m) ∧ (s.time.sync.parent ≠ some l.val)) ∧
    (∃ (s : State) (l : Fin 7) (m : LinkMsg), (s.headMsg l.val 0x21 = some m)) ∧
    (∃ (s : State) (l : Fin 7) (m : LinkMsg), (s.headMsg l.val 0x22 = some m)) ∧
    (∃ (s t : State), (s.time.sync.started + 1000000 ≤ s.time.ns) ∧ (s.awake = true) ∧ (s.time.sync.parent = none) ∧ (s.time.sync.running = false) ∧ (t = { s with time := { s.time with sync := { s.time.sync with running := false, started := s.time.ns, missed := 0 } } })) ∧
    (∃ (s : State) (l : Fin 7) (m : LinkMsg) (t : State), (s.headMsg l.val 0x30 = some m) ∧ (t = s.freeRx l.val m) ∧ (t.flag (rBAR_CFG (m.field 16 1)) fBAR_CFG_FAB = true) ∧ (t.fld (rBAR_CFG (m.field 16 1)) fBAR_CFG_HOME = t.modId)) :=
  ⟨⟨tChild (tMsg 0x20 []), _, 2, tMsg 0x20 [], by exact ⟨by decide +kernel, by decide +kernel, rfl⟩⟩,
   ⟨({ tNow with links := [(2, { rx := [tMsg 0x20 []] })] }), 2, tMsg 0x20 [], by decide +kernel⟩,
   ⟨({ tNow with links := [(2, { rx := [tMsg 0x21 []] })] }), 2, tMsg 0x21 [], by decide +kernel⟩,
   ⟨tChild (tMsg 0x22 []), 2, tMsg 0x22 [], by decide +kernel⟩,
   ⟨tNow, _, by exact ⟨by decide +kernel, by decide +kernel, by decide +kernel, by decide +kernel, rfl⟩⟩,
   ⟨({ tNow with links := [(2, { rx := [tMsg 0x30 [4, 0]] })] }).setFld (rBAR_CFG 4) fBAR_CFG_FAB 1 |>.setFld rEPL_FAB_CFG fEPL_FAB_CFG_MOD_ID 0, 2, tMsg 0x30 [4, 0], _, by exact ⟨by decide +kernel, rfl, by decide +kernel, by decide +kernel⟩⟩⟩

theorem witness_LinkServices_2 :
    (∃ (s : State) (l : Fin 7) (m : LinkMsg) (t : State), (s.headMsg l.val 0x31 = some m) ∧ (t = s.freeRx l.val m) ∧ (m.field 17 1 = t.barGen (m.field 16 1)) ∧ (t.barSt (m.field 16 1) ≠ 2) ∧ (t.now ≤ m.field 20 8)) ∧
    (∃ (s : State) (l : Fin 7) (m : LinkMsg) (t : State), (s.headMsg l.val 0x31 = some m) ∧ (t = s.freeRx l.val m) ∧ (m.field 17 1 = t.barGen (m.field 16 1)) ∧ (t.barSt (m.field 16 1) ≠ 2) ∧ (m.field 20 8 < t.now)) ∧
    (∃ (s : State) (l : Fin 7) (m : LinkMsg) (t : State), (s.headMsg l.val 0x32 = some m) ∧ (t = s.freeRx l.val m) ∧ (m.field 17 1 = t.barGen (m.field 16 1)) ∧ (t.barSt (m.field 16 1) ≠ 2)) ∧
    (∃ (s t : State) (l : Fin 6), (s.linkSt l.val = 3) ∧ ((s.link l.val).lastSent + s.fld (rEPL_CTL l.val) fEPL_CTL_HB_US * 1000 ≤ s.time.ns) ∧ (t = s.setLink l.val { s.link l.val with lastSent := s.time.ns })) ∧
    (∃ (s : State) (l : Fin 7) (m : LinkMsg) (t u : State), (s.headMsg l.val 0x40 = some m) ∧ (l.val ≠ 6) ∧ (t = (s.freeRx l.val m).setFld (rEPL_STAT l.val) fEPL_STAT_PEER_ALIVE 1) ∧ (u = t.setLink l.val { t.link l.val with lastBeat := s.time.ns })) ∧
    (∃ (s t : State) (l : Fin 6), (s.linkSt l.val = 3) ∧ (s.flag (rEPL_STAT l.val) fEPL_STAT_PEER_ALIVE = true) ∧ ((s.link l.val).lastBeat + 3 * s.fld (rEPL_CTL l.val) fEPL_CTL_HB_US * 1000 ≤ s.time.ns) ∧ (t = s.setFld (rEPL_STAT l.val) fEPL_STAT_PEER_ALIVE 0)) :=
  ⟨⟨({ tNow with links := [(2, { rx := [tMsg 0x31 [4, 0, 0, 0, 255, 255]] })] }), 2, tMsg 0x31 [4, 0, 0, 0, 255, 255], _, by exact ⟨by decide +kernel, rfl, by decide +kernel, by decide +kernel, by decide +kernel⟩⟩,
   ⟨({ tNow with links := [(2, { rx := [tMsg 0x31 [4, 0, 0, 0, 5, 0]] })] }), 2, tMsg 0x31 [4, 0, 0, 0, 5, 0], _, by exact ⟨by decide +kernel, rfl, by decide +kernel, by decide +kernel, by decide +kernel⟩⟩,
   ⟨({ tNow with links := [(2, { rx := [tMsg 0x32 [4, 0]] })] }), 2, tMsg 0x32 [4, 0], _, by exact ⟨by decide +kernel, rfl, by decide +kernel, by decide +kernel⟩⟩,
   ⟨({ tNow with links := [(2, {})] }.setFld (rEPL_STAT 2) fEPL_STAT_STATE 3), _, 2, by exact ⟨by decide +kernel, by decide +kernel, rfl⟩⟩,
   ⟨({ tNow with links := [(2, { rx := [tMsg 0x40 []] })] }), 2, tMsg 0x40 [], _, _, by exact ⟨by decide +kernel, by decide +kernel, rfl, rfl⟩⟩,
   ⟨({ tNow with links := [(2, {})] }.setFld (rEPL_STAT 2) fEPL_STAT_STATE 3).setFld (rEPL_STAT 2) fEPL_STAT_PEER_ALIVE 1, _, 2, by exact ⟨by decide +kernel, by decide +kernel, by decide +kernel, rfl⟩⟩⟩

theorem witness_LinkServices_3 :
    ∃ (s : State) (l : Fin 7) (m : LinkMsg), (s.headMsg l.val 0x41 = some m) ∧ (l.val ≠ 6) :=
  ⟨({ tNow with links := [(2, { rx := [tMsg 0x41 []] })] }), 2, tMsg 0x41 [], by decide +kernel⟩

theorem witness_PowerAndClocks_1 :
    (∃ (s t : State) (k : Fin 5), (t = { s with power := { s.power with locked := if k.val ∈ s.power.locked then s.power.locked else s.power.locked ++ [k.val] } })) ∧
    (∃ (s t u v : State) (k : Fin 5) (m l : Nat), (t = { s with power := { s.power with locked := s.power.locked.filter (· != k.val) } }) ∧ (t.free Config.analogueFigure = (m, u)) ∧ (u.free Config.analogueFigure = (l, v))) ∧
    (∃ (s : State) (c : Fin 2), ((s.cluster c.val).clockOp < s.effOp c.val) ∧ ((s.cluster c.val).voltOp < s.effOp c.val)) ∧
    (∃ (s : State) (c : Fin 2), ((s.cluster c.val).clockOp < s.effOp c.val) ∧ (s.effOp c.val ≤ (s.cluster c.val).voltOp)) ∧
    (∃ (s : State) (c : Fin 2), (s.effOp c.val < (s.cluster c.val).clockOp)) ∧
    (∃ (s : State) (c : Fin 2), ((s.cluster c.val).clockOp = s.effOp c.val) ∧ ((s.cluster c.val).voltOp ≠ s.effOp c.val)) :=
  ⟨⟨tNow, _, 2, by rfl⟩,
   ⟨tNow, _, _, _, 2, _, _, by exact ⟨rfl, rfl, rfl⟩⟩,
   ⟨((tNow.setCluster 1 { clockOp := 0, voltOp := 0 }).setFld rPWR_OP_REQ fPWR_OP_REQ_OP_C1 5), 1, by decide +kernel⟩,
   ⟨((tNow.setCluster 1 { clockOp := 0, voltOp := 5 }).setFld rPWR_OP_REQ fPWR_OP_REQ_OP_C1 5), 1, by decide +kernel⟩,
   ⟨((tNow.setCluster 1 { clockOp := 5, voltOp := 5 }).setFld rPWR_OP_REQ fPWR_OP_REQ_OP_C1 2), 1, by decide +kernel⟩,
   ⟨((tNow.setCluster 1 { clockOp := 2, voltOp := 5 }).setFld rPWR_OP_REQ fPWR_OP_REQ_OP_C1 2), 1, by decide +kernel⟩⟩

theorem witness_PowerAndClocks_2 :
    (∃ (s : State) (c : Fin 2) (n : Nat), ((s.cluster c.val).slackSince = some n) ∧ (n + 1000000 ≤ s.time.ns)) ∧
    (∃ (s : State) (c : Fin 2), ((s.cluster c.val).slackSince = none)) ∧
    (∃ (s : State) (c : Fin 2) (h : Hold), (h = (s.cluster c.val).droopHold.getD ⟨s.time.ns, s.reqOp c.val, s.effOp c.val, none⟩) ∧ ((s.cluster c.val).droopHold = none ∨ s.time.ns ≤ (s.cluster c.val).lastDroop + 1000000)) ∧
    (∃ (s t : State) (mv curr c0 c1 : Nat), (t = { s with power := { s.power with samples := (mv * curr / 100 :: s.power.samples).take 100, nSamples := s.power.nSamples + 1 } }) ∧ (2 ≤ t.power.samples.length) ∧ ((t.power.samples.take 2).all (fun x => decide (5 * (1000 * s.fld rPWR_CAP fPWR_CAP_CAP) < 4 * x)) = true)) ∧
    (∃ (s t : State) (mv curr c0 c1 : Nat), (t = { s with power := { s.power with samples := (mv * curr / 100 :: s.power.samples).take 100, nSamples := s.power.nSamples + 1 } }) ∧ (meanOf 10 t.power.samples ≤ 1000 * s.fld rPWR_CAP fPWR_CAP_CAP) ∧ ((t.power.samples.take 2).all (fun x => decide (5 * (1000 * s.fld rPWR_CAP fPWR_CAP_CAP) < 4 * x)) = false) ∧ (s.reqOp 0 ≤ (s.cluster 0).powerOp) ∧ (s.reqOp 1 ≤ (s.cluster 1).powerOp)) ∧
    (∃ (s t u : State) (n : Fin 14) (x : Int), (t = { s with power := { s.power with temps := Cells.set (fun _ => 0) s.power.temps n.val x } }) ∧ (u = (((((t.setFld rTHERM_STAT fTHERM_STAT_SENSOR (t.hotSensor 13)).setFld rTHERM_STAT fTHERM_STAT_TEMP (wrapTo 16 (t.temp (t.hotSensor 13)))).throttle 0).throttle 1).settle.trip 0 n.val).trip 1 n.val) ∧ (u.temp n.val ≤ (if n.val ≤ 11 then 1150 else 1100))) :=
  ⟨⟨(tNow.setCluster 1 { slackSince := some 5 }), 1, 5, by decide +kernel⟩,
   ⟨tNow, 1, by decide +kernel⟩,
   ⟨tNow, 1, _, by exact ⟨rfl, by decide +kernel⟩⟩,
   ⟨{ tNow with power := { tNow.power with samples := [1000000000] } }, _, 100000, 1000000, 0, 0, by exact ⟨rfl, by decide +kernel, by decide +kernel⟩⟩,
   ⟨tNow, _, 9000, 1, 0, 0, by exact ⟨rfl, by decide +kernel, by decide +kernel, by decide +kernel, by decide +kernel⟩⟩,
   ⟨tNow, _, _, 3, 500, by exact ⟨rfl, rfl, by decide +kernel⟩⟩⟩

theorem witness_PowerAndClocks_3 :
    (∃ (s t u v : State) (n : Fin 14) (x : Int), (t = { s with power := { s.power with temps := Cells.set (fun _ => 0) s.power.temps n.val x } }) ∧ (u = (((((t.setFld rTHERM_STAT fTHERM_STAT_SENSOR (t.hotSensor 13)).setFld rTHERM_STAT fTHERM_STAT_TEMP (wrapTo 16 (t.temp (t.hotSensor 13)))).throttle 0).throttle 1).settle.trip 0 n.val).trip 1 n.val) ∧ ((if n.val ≤ 11 then 1150 else 1100) < u.temp n.val) ∧ (u.power.st ≠ .dark) ∧ (u.power.entry = none) ∧ (v = (u.setReg rAON_RST_CAUSE (u.reg rAON_RST_CAUSE ||| 0x40)).lichenHw 0x0203 n.val (wrapTo 32 (u.temp n.val)) 0 0)) ∧
    (∃ (s : State) (k : Fin 3) (c : Fin 2) (h : Hold) (n : Nat), ((s.cluster c.val).holdOf k.val = some h) ∧ (h.ended = some n) ∧ (k.val ≠ 2)) ∧
    (∃ (s : State) (k : Fin 3) (c : Fin 2) (h : Hold), ((s.cluster c.val).holdOf k.val = some h) ∧ (h.ended = none) ∧ (k.val ≠ 2) ∧ (h.since + 86400000000000 ≤ s.time.ns)) :=
  ⟨⟨tNow, _, _, _, 3, 1200, by exact ⟨rfl, rfl, by decide +kernel, by decide +kernel, by decide +kernel, rfl⟩⟩,
   ⟨(tNow.setCluster 1 { capHold := some ⟨1, 5, 3, some 9⟩ }), 0, 1, ⟨1, 5, 3, some 9⟩, 9, by decide +kernel⟩,
   ⟨({ tNow with time := { tNow.time with ns := 2 ^ 50 } }.setCluster 1 { capHold := some ⟨1, 5, 3, none⟩ }), 0, 1, ⟨1, 5, 3, none⟩, by decide +kernel⟩⟩

theorem witness_PowerStates_1 :
    (∃ (s : State), (s.power.st = .active) ∧ (s.working = false) ∧ (s.power.lastWork + 1000 * s.fld rAON_IDLE_HYST fAON_IDLE_HYST_IDLE_HYST_US ≤ s.time.ns)) ∧
    (∃ (s : State), (s.power.st = .idle)) ∧
    (∃ (s : State) (e : PowerEntry), (s.power.entry = some e) ∧ (s.power.st = .entering) ∧ (e.dark = false) ∧ (e.step ≤ 4)) ∧
    (∃ (s : State) (e : PowerEntry), (s.power.entry = some e) ∧ (s.power.st = .entering) ∧ (e.dark = false) ∧ (e.step = 5)) ∧
    (∃ (s : State) (e : PowerEntry), (s.power.entry = some e) ∧ (s.power.st = .entering) ∧ (e.dark = false) ∧ (5 < e.step) ∧ (s.fastSource = false)) ∧
    (∃ (s : State) (e : PowerEntry), (s.power.entry = some e) ∧ (s.power.st = .entering) ∧ (e.dark = true) ∧ (e.step ≤ 4)) :=
  ⟨⟨tNow, by decide +kernel⟩,
   ⟨{ tNow with power := { st := .idle } }, by decide +kernel⟩,
   ⟨{ tNow with power := { tNow.power with st := .entering, entry := some ⟨false, 3, none, 0⟩ } }, ⟨false, 3, none, 0⟩, by decide +kernel⟩,
   ⟨{ tNow with power := { tNow.power with st := .entering, entry := some ⟨false, 5, none, 0⟩ } }, ⟨false, 5, none, 0⟩, by decide +kernel⟩,
   ⟨({ tNow with power := { tNow.power with st := .entering, entry := some ⟨false, 6, none, 0⟩ } }).setFld rCUE_STATUS fCUE_STATUS_SOURCE 0, ⟨false, 6, none, 0⟩, by decide +kernel⟩,
   ⟨{ tNow with power := { tNow.power with st := .entering, entry := some ⟨true, 3, none, 0⟩ } }, ⟨true, 3, none, 0⟩, by decide +kernel⟩⟩

theorem witness_PowerStates_2 :
    (∃ (s : State) (e : PowerEntry), (s.power.entry = some e) ∧ (s.power.st = .entering) ∧ (e.dark = true) ∧ (e.step = 5)) ∧
    (∃ (s : State) (e : PowerEntry), (s.power.entry = some e) ∧ (s.power.st = .entering) ∧ (e.dark = true) ∧ (5 < e.step)) ∧
    (∃ (s t u : State), (s.power.st = .waking) ∧ (s.fastSource = true) ∧ (s.power.wakeAt + 120000 ≤ s.time.ns) ∧ (t = { s.discardFrames with power := { s.power with st := .active, prev := .waking, selfRefresh := false, lastWork := s.time.ns, wdog := 0 } }) ∧ (u = ((List.range 6).foldl (fun t l => if t.flag (rEPL_CTL l) fEPL_CTL_EN ∧ t.linkSt l = 0 ∧ t.modId < 24 then t.retrain l else t) t.powerStores).refill)) :=
  ⟨⟨{ tNow with power := { tNow.power with st := .entering, entry := some ⟨true, 5, none, 0⟩ } }, ⟨true, 5, none, 0⟩, by decide +kernel⟩,
   ⟨{ tNow with power := { tNow.power with st := .entering, entry := some ⟨true, 6, none, 0⟩ } }, ⟨true, 6, none, 0⟩, by decide +kernel⟩,
   ⟨{ tNow with power := { st := .waking } }, _, _, by exact ⟨by decide +kernel, by decide +kernel, by decide +kernel, rfl, rfl⟩⟩⟩

theorem witness_Resets_1 :
    (∃ (s : State) (ms : Nat), (ms = s.fld rAON_WDOG fAON_WDOG_TIMEOUT_MS) ∧ (s.awake = true) ∧ (ms * 1000000 ≤ s.power.wdog)) ∧
    (∃ (s : State), (s.prompt.inHandler = true) ∧ (s.prompt.down = none)) ∧
    (∃ (s t u : State) (n pc : Nat), (s.prompt.down = some (n, pc)) ∧ (t = { s with prompt := { s.prompt with down := none } }) ∧ (u = t.scripts.foldl (fun (t : State) (x : Nat × Script) => t.scriptFault x.1 (Config.haltCause 1) 0) t)) ∧
    (∃ (s t : State) (mv low : Nat), (mv < 9200) ∧ (low = (if s.power.lowestMv = 0 then mv else min mv s.power.lowestMv)) ∧ (t = { s with power := { s.power with uvNow := true, lowestMv := low } })) ∧
    (∃ (s t : State) (mv : Nat), (mv < 8600) ∧ (s.power.st ≠ .dark) ∧ (t = State.lichenUv (s.setReg rAON_RST_CAUSE (s.reg rAON_RST_CAUSE ||| 0x08)) mv)) ∧
    (∃ (s : State) (mv : Nat), (9300 ≤ mv) ∧ (s.power.undervolt = true) ∧ (s.power.st = .dark)) :=
  ⟨⟨{ tNow with power := { tNow.power with wdog := 2 ^ 60 } }, _, by exact ⟨rfl, by decide +kernel, by decide +kernel⟩⟩,
   ⟨{ tNow with prompt := { inHandler := true } }, by decide +kernel⟩,
   ⟨{ tNow with prompt := { down := some (1, 2) } }, _, _, 1, 2, by exact ⟨by decide +kernel, rfl, rfl⟩⟩,
   ⟨tNow, _, 9000, _, by exact ⟨by decide, rfl, rfl⟩⟩,
   ⟨tNow, _, 8000, by exact ⟨by decide, by decide +kernel, rfl⟩⟩,
   ⟨{ tNow with power := { st := .dark, undervolt := true } }, 9300, by decide +kernel⟩⟩

theorem witness_Resets_2 :
    ∃ (s : State) (mv : Nat), (9300 ≤ mv) ∧ (s.power.undervolt = false) :=
  ⟨tNow, 9300, by decide +kernel⟩

theorem witness_SidebandCommands :
    (∃ (s : State) (v : Byte) (p : Bool), (s.flag rSIDE_CFG fSIDE_CFG_PEC_REQ = false ∨ p = true)) ∧
    (∃ (s : State) (v : Byte), (s.flag rSIDE_CFG fSIDE_CFG_PEC_REQ = true)) ∧
    (∃ (s : State) (v : Byte) (p : Bool), (s.flag rSIDE_CFG fSIDE_CFG_PEC_REQ = false ∨ p = true)) ∧
    (∃ (s : State) (v : Byte), (s.flag rSIDE_CFG fSIDE_CFG_PEC_REQ = true)) ∧
    (∃ (s : State), (s.alertDriven = true)) ∧
    (∃ (s : State), (s.alertDriven = false)) :=
  ⟨⟨tNow, 3, true, by decide +kernel⟩,
   ⟨tNow.setFld rSIDE_CFG fSIDE_CFG_PEC_REQ 1, 3, by decide +kernel⟩,
   ⟨tNow, 3, true, by decide +kernel⟩,
   ⟨tNow.setFld rSIDE_CFG fSIDE_CFG_PEC_REQ 1, 3, by decide +kernel⟩,
   ⟨(tNow.setReg rSIDE_ALERT_STAT 1).setReg rSIDE_ALERT_MASK 1, by decide +kernel⟩,
   ⟨tNow, by decide +kernel⟩⟩

theorem witness_TapInstructions_1 :
    (∃ (s : State), (s.tapHeld = false)) ∧
    (∃ (s : State), (s.tapHeld = false)) ∧
    (∃ (s : State) (p l : Nat), (s.tapHeld = false)) ∧
    (∃ (s : State) (p l : Nat), (s.tapHeld = false) ∧ (s.power.rstLow = true)) ∧
    (∃ (s : State) (p l : Nat), (s.tapHeld = false) ∧ (s.power.rstLow = false)) ∧
    (∃ (s : State) (p l : Nat), (s.tapHeld = false) ∧ (s.power.rstLow = true)) :=
  ⟨⟨tNow, by decide +kernel⟩,
   ⟨tNow, by decide +kernel⟩,
   ⟨tNow, 5, 6, by decide +kernel⟩,
   ⟨{ tNow with power := { tNow.power with rstLow := true } }, 5, 6, by decide +kernel⟩,
   ⟨tNow, 5, 6, by decide +kernel⟩,
   ⟨{ tNow with power := { tNow.power with rstLow := true } }, 5, 6, by decide +kernel⟩⟩

theorem witness_TapInstructions_2 :
    (∃ (s : State) (p l : Nat), (s.tapHeld = false) ∧ (s.power.rstLow = false)) ∧
    (∃ (s : State) (p l : Nat), (s.tapHeld = false) ∧ (s.power.rstLow = true)) ∧
    (∃ (s : State) (p l : Nat), (s.tapHeld = false) ∧ (s.power.rstLow = false)) ∧
    (∃ (s : State), (s.tapHeld = false) ∧ (debugAllowed s.sec.lifeCycle = false)) ∧
    (∃ (s : State), (s.tapHeld = true)) :=
  ⟨⟨tNow, 5, 6, by decide +kernel⟩,
   ⟨{ tNow with power := { tNow.power with rstLow := true } }, 5, 6, by decide +kernel⟩,
   ⟨tNow, 5, 6, by decide +kernel⟩,
   ⟨{ tNow with sec := { tNow.sec with blown := [0, 1] } }, by decide +kernel⟩,
   ⟨tAsleep, by decide +kernel⟩⟩

theorem witness_SecurityCommands_1 :
    (∃ (s t : State), (s.power.st = .starting) ∧ (s.power.rstLow = false) ∧ (s.sec.handedOver = false) ∧ (t = (s.powerGood.completeFuses s.sec.half).setFld rSEC_BOOT fSEC_BOOT_MANIFEST_SKIPPED (b2n ((s.powerGood.completeFuses s.sec.half).sec.lifeCycle == 0)))) ∧
    (∃ (s t : State), (s.power.st = .starting) ∧ (s.power.rstLow = false) ∧ (s.sec.handedOver = false) ∧ (t = (s.powerGood.completeFuses s.sec.half).setFld rSEC_BOOT fSEC_BOOT_MANIFEST_SKIPPED (b2n ((s.powerGood.completeFuses s.sec.half).sec.lifeCycle == 0))) ∧ (((s.powerGood.completeFuses s.sec.half).sec.lifeCycle == 0) = false) ∧ (Config.sha384 (t.bytes (norPlace 0x3000000) 1792) ≠ t.sec.manifestHash)) ∧
    (∃ (s t : State) (f : Nat), (s.power.st = .starting) ∧ (s.power.rstLow = false) ∧ (s.sec.handedOver = false) ∧ (t = (s.powerGood.completeFuses s.sec.half).setFld rSEC_BOOT fSEC_BOOT_MANIFEST_SKIPPED (b2n ((s.powerGood.completeFuses s.sec.half).sec.lifeCycle == 0))) ∧ ((s.powerGood.completeFuses s.sec.half).sec.lifeCycle = 0 ∨ Config.sha384 (t.bytes (norPlace 0x3000000) 1792) = t.sec.manifestHash) ∧ (f = t.firstSlot)) ∧
    (∃ (s : State) (l : Fin 128), (s.sec.handedOver = true)) ∧
    (∃ (s t : State) (op : Fin 2), (s.sec.sigOp = none) ∧ (t = s.setFld rSEC_SIG_CTL fSEC_SIG_CTL_OP op.val)) ∧
    (∃ (s t : State), (s.sec.sigOp = some 0) ∧ (t = { s.setFld rSEC_SIG_STAT fSEC_SIG_STAT_BUSY 0 with sec := { s.sec with sigOp := none } })) :=
  ⟨⟨{ State.reset with power := { st := .starting } }, _, by exact ⟨by decide +kernel, by decide +kernel, by decide +kernel, rfl⟩⟩,
   ⟨{ State.reset with sec := { State.reset.sec with blown := [0, 1], manifestHash := Config.sha384 (State.reset.bytes (norPlace 0x3000000) 1792) ++ [0] } }, _, by exact ⟨by decide +kernel, by decide +kernel, by decide +kernel, rfl, by decide +kernel, fun h => by have := congrArg List.length (show Config.sha384 (State.reset.bytes (norPlace 0x3000000) 1792) = Config.sha384 (State.reset.bytes (norPlace 0x3000000) 1792) ++ [0] from h); rw [List.length_append] at this; simp at this⟩⟩,
   ⟨{ State.reset with sec := { State.reset.sec with blown := [] } }, _, _, by exact ⟨by decide +kernel, by decide +kernel, by decide +kernel, rfl, Or.inl (by decide +kernel), rfl⟩⟩,
   ⟨{ tNow with sec := { tNow.sec with handedOver := true } }, 5, by decide +kernel⟩,
   ⟨tNow, _, 1, by exact ⟨by decide +kernel, rfl⟩⟩,
   ⟨{ tNow with sec := { tNow.sec with sigOp := some 0 } }, _, by exact ⟨by decide +kernel, rfl⟩⟩⟩

theorem witness_SecurityCommands_2 :
    (∃ (s t : State) (n : Nat), (s.sec.sigOp = some 1) ∧ (n = 52 + 52 * imgNum (s.dpaReader s.sigAddr) 48 4) ∧ (t = State.setFld { s.setFld rSEC_SIG_STAT fSEC_SIG_STAT_BUSY 0 with sec := { s.sec with sigOp := none } } rSEC_SIG_STAT fSEC_SIG_STAT_RESULT 0)) ∧
    (∃ (s : State) (o : Fin (2 ^ 26)) (b : List Byte), ((List.range b.length).all (fun i => s.norMay (o.val + i) && decide (o.val + i < 2 ^ 26)) = true)) ∧
    (∃ (s : State) (o : Fin (2 ^ 26)) (n : Nat), (((o.val :: norBorders.filter (fun x => decide (o.val < x ∧ x < o.val + n))).all (fun x => s.norMay x) && decide (o.val + n ≤ 2 ^ 26)) = true)) ∧
    (∃ (s : State) (o : Fin (2 ^ 26)) (n : Nat), (((o.val :: norBorders.filter (fun x => decide (o.val < x ∧ x < o.val + n))).all (fun x => s.norMay x) && decide (o.val + n ≤ 2 ^ 26)) = false)) ∧
    (∃ (s : State) (o : Fin (2 ^ 26)) (b : List Byte), ((List.range b.length).all (fun i => s.norMay (o.val + i) && decide (o.val + i < 2 ^ 26)) = false)) :=
  ⟨⟨{ tNow with sec := { tNow.sec with sigOp := some 1 } }, _, _, by exact ⟨by decide +kernel, rfl, rfl⟩⟩,
   ⟨tNow, 0x100000, [1, 2], by decide +kernel⟩,
   ⟨tNow, 0x100000, 4096, by decide +kernel⟩,
   ⟨tNow, 0x3000000, 4096, by decide +kernel⟩,
   ⟨tNow, 0x3000000, [1, 2], by decide +kernel⟩⟩

theorem witness_RecorderCommands_1 :
    (∃ (s : State) (c : Nat) (o : Bool), (c ∈ hardwareOnly)) ∧
    (∃ (s t : State) (c : Nat) (o b : Bool), (c ∉ hardwareOnly) ∧ (s.lichenReq false o c (s.reg (rLCH_P 0)).toNat (s.reg (rLCH_P 1)).toNat (s.reg (rLCH_P 2)).toNat (s.reg (rLCH_P 3)).toNat = (t, b))) ∧
    (∃ (s t u : State) (r : LichenReq) (l : List LichenReq), (s.lichen.queue = r :: l) ∧ (s.lichen.ready = true) ∧ (s.lichen.full = false) ∧ (s.lichen.next < 131008) ∧ (t = s.setBytes (lichenPlace s.lichen.next) (s.recordBytes r s.lichen.next 0x5A)) ∧ (u = { t with lichen := { s.lichen with queue := l, next := s.lichen.next + 1, supp := Cells.set (fun _ => 0) s.lichen.supp r.code 0 } })) ∧
    (∃ (s t : State) (r : LichenReq) (l : List LichenReq), (s.lichen.queue = r :: l) ∧ (s.lichen.ready = true) ∧ (s.lichen.full = false) ∧ (s.lichen.next < 131008) ∧ (t = s.setBytes (lichenPlace s.lichen.next) (tornBytes s.freeTick 3 ++ [0xFF] ++ tornBytes (s.freeTick + 1) 28))) ∧
    (∃ (s : State) (r : LichenReq) (l : List LichenReq) (ok : Bool), (s.lichen.queue = r :: l) ∧ (s.lichen.ready = true) ∧ (s.lichen.full = false) ∧ (131008 ≤ s.lichen.next)) ∧
    (∃ (s : State), (s.findErased 18 0 131008 < 131008)) :=
  ⟨⟨tNow, 0x0103, false, by decide +kernel⟩,
   ⟨tNow, _, 0x0A10, false, _, by exact ⟨by decide +kernel, rfl⟩⟩,
   ⟨{ tNow with lichen := { queue := [tReq], ready := true } }, _, _, tReq, [], by exact ⟨by decide +kernel, by decide +kernel, by decide +kernel, by decide +kernel, rfl, rfl⟩⟩,
   ⟨{ tNow with lichen := { queue := [tReq], ready := true } }, _, tReq, [], by exact ⟨by decide +kernel, by decide +kernel, by decide +kernel, by decide +kernel, rfl⟩⟩,
   ⟨{ tNow with lichen := { queue := [tReq], ready := true, next := 131008 } }, tReq, [], true, by decide +kernel⟩,
   ⟨tNow, by decide +kernel⟩⟩

theorem witness_RecorderCommands_2 :
    (∃ (s : State), (131008 ≤ s.findErased 18 0 131008) ∧ (s.slotComplete 131071 = true) ∧ (s.num (lichenPlace 131071) 2 = 0x0AFF)) ∧
    (∃ (s : State), (s.lichen.lastRefill + 3600 ≤ s.lichen.opsec)) :=
  ⟨⟨tLogFull, by decide +kernel⟩,
   ⟨{ tNow with lichen := { opsec := 3600 } }, by decide +kernel⟩⟩

theorem witness_RegisterAccess_1 :
    (∃ (s : State) (x : Agent) (a : BitVec 40) (v : Word), (s.spot x a.toNat = none)) ∧
    (∃ (s u : State) (x : Agent) (a : BitVec 40) (v : Word) (p : Spot) (r : RegRow), (s.spot x a.toNat = some p) ∧ (s.switching ≠ some p.blk) ∧ (p.imem = false) ∧ (p.embedded = false) ∧ (regRow (blkBase p.blk + p.o) = some r) ∧ (s.writeIgnored x p = false) ∧ (u = (s.noteOverride p.a).regStore x p r 0xFFFFFFFF v)) ∧
    (∃ (s : State) (x : Agent) (a : BitVec 40) (v : Word) (p : Spot) (r : RegRow), (s.spot x a.toNat = some p) ∧ (s.switching ≠ some p.blk) ∧ (p.imem = false) ∧ (p.embedded = false) ∧ (regRow (blkBase p.blk + p.o) = some r) ∧ (s.writeIgnored x p = true)) ∧
    (∃ (s : State) (x : Agent) (a : BitVec 40) (v : Word) (p : Spot), (s.spot x a.toNat = some p) ∧ (s.switching ≠ some p.blk) ∧ (p.imem = false) ∧ (p.embedded = false) ∧ (regRow (blkBase p.blk + p.o) = none)) ∧
    (∃ (s : State) (x : Agent) (a : BitVec 40) (v : Word) (p : Spot), (s.spot x a.toNat = some p) ∧ (s.switching ≠ some p.blk) ∧ (p.imem = true) ∧ (bitOf (s.fld (rCORE_IMEM_LOCK p.p) fCORE_IMEM_LOCK_LOCK) ((p.o - 0x80000) / 0x4000) = true)) ∧
    (∃ (s : State) (x : Agent) (a : BitVec 40) (v : Word) (p : Spot), (s.spot x a.toNat = some p) ∧ (s.switching = some p.blk)) :=
  ⟨⟨tNow, .prompter, 0, 7, by decide +kernel⟩,
   ⟨tNow, _, .prompter, BitVec.ofNat 40 rCUE_TRIM, 5, ((tNow.spot .prompter rCUE_TRIM).getD ⟨0, 0, 0, 0⟩), ((regRow rCUE_TRIM).getD ⟨0, [], []⟩), by exact ⟨by decide +kernel, by decide +kernel, by decide +kernel, by decide +kernel, by decide +kernel, by decide +kernel, rfl⟩⟩,
   ⟨tNow, .core 2 0, BitVec.ofNat 40 (rVPP_CTL 2), 5, ((tNow.spot (.core 2 0) (rVPP_CTL 2)).getD ⟨0, 0, 0, 0⟩), ((regRow (rVPP_CTL 2)).getD ⟨0, [], []⟩), by decide +kernel⟩,
   ⟨tNow, .prompter, BitVec.ofNat 40 (rCUE_TRIM + 0x7000), 5, ((tNow.spot .prompter (rCUE_TRIM + 0x7000)).getD ⟨0, 0, 0, 0⟩), by decide +kernel⟩,
   ⟨tNow.setFld (rCORE_IMEM_LOCK 2) fCORE_IMEM_LOCK_LOCK 1, .prompter, BitVec.ofNat 40 (blkBase 2 + 0x80000), 5, ((tNow.spot .prompter (blkBase 2 + 0x80000)).getD ⟨0, 0, 0, 0⟩), by decide +kernel⟩,
   ⟨{ tNow with switching := some 2 }, .prompter, BitVec.ofNat 40 (blkBase 2), 5, ((tNow.spot .prompter (blkBase 2)).getD ⟨0, 0, 0, 0⟩), by decide +kernel⟩⟩

theorem witness_RegisterAccess_2 :
    (∃ (s : State) (x : Agent) (a : BitVec 40), (s.spot x a.toNat = none)) ∧
    (∃ (s t u : State) (x : Agent) (a : BitVec 40) (p : Spot) (r : RegRow) (w : Word), (s.spot x a.toNat = some p) ∧ (s.switching ≠ some p.blk) ∧ (p.imem = false) ∧ (p.embedded = false) ∧ (regRow (blkBase p.blk + p.o) = some r) ∧ ((p.blk < 9 → p.a ≠ rCORE_BAR_WAIT p.p ∧ p.a ≠ rSTRIPE_NEXT0 p.p)) ∧ (w = s.regView x p &&& ~~~(r.maskOf [.wo, .cmd])) ∧ (t = s.clearRc x p.a w 0xFFFFFFFF r) ∧ (u = t.latchHi p.a)) ∧
    (∃ (s : State) (x : Agent) (a : BitVec 40) (p : Spot), (s.spot x a.toNat = some p) ∧ (s.switching = some p.blk)) ∧
    (∃ (s : State) (x : Agent) (a : BitVec 40), (s.spot x a.toNat = none)) ∧
    (∃ (s t u : State) (x : Agent) (a : BitVec 40) (p : Spot) (r : RegRow) (w : Word), (s.spot x a.toNat = some p) ∧ (s.switching ≠ some p.blk) ∧ (p.imem = false) ∧ (p.embedded = false) ∧ (regRow (blkBase p.blk + p.o) = some r) ∧ ((p.blk < 9 → p.a ≠ rCORE_BAR_WAIT p.p ∧ p.a ≠ rSTRIPE_NEXT0 p.p)) ∧ (w = s.regView x p &&& ~~~(r.maskOf [.wo, .cmd])) ∧ (t = s.clearRc x p.a w 0xFFFFFFFF r) ∧ (u = t.latchHi p.a)) ∧
    (∃ (s : State) (x : Agent) (a : BitVec 40) (p : Spot), (s.spot x a.toNat = some p) ∧ (s.switching = some p.blk)) :=
  ⟨⟨tNow, .prompter, 0, by decide +kernel⟩,
   ⟨tNow, _, _, .prompter, BitVec.ofNat 40 rPWR_DROOP_CNT, ((tNow.spot .prompter rPWR_DROOP_CNT).getD ⟨0, 0, 0, 0⟩), ((regRow rPWR_DROOP_CNT).getD ⟨0, [], []⟩), _, by exact ⟨by decide +kernel, by decide +kernel, by decide +kernel, by decide +kernel, by decide +kernel, by decide +kernel, rfl, rfl, rfl⟩⟩,
   ⟨{ tNow with switching := some 2 }, .prompter, BitVec.ofNat 40 (blkBase 2), ((tNow.spot .prompter (blkBase 2)).getD ⟨0, 0, 0, 0⟩), by decide +kernel⟩,
   ⟨tNow, .prompter, 0, by decide +kernel⟩,
   ⟨tNow, _, _, .prompter, BitVec.ofNat 40 rCUE_NOW_LO, ((tNow.spot .prompter rCUE_NOW_LO).getD ⟨0, 0, 0, 0⟩), ((regRow rCUE_NOW_LO).getD ⟨0, [], []⟩), _, by exact ⟨by decide +kernel, by decide +kernel, by decide +kernel, by decide +kernel, by decide +kernel, by decide +kernel, rfl, rfl, rfl⟩⟩,
   ⟨{ tNow with switching := some 2 }, .prompter, BitVec.ofNat 40 (blkBase 2), ((tNow.spot .prompter (blkBase 2)).getD ⟨0, 0, 0, 0⟩), by decide +kernel⟩⟩

theorem witness_AccessCodes :
    (∃ (r : RegRow) (lock : Bool) (old mask v : Word) (k : Nat), (mask.getLsbD k = true) ∧ ((r.maskOf (if lock then [.rw, .wo] else [.rw, .wo, .rwl])).getLsbD k = true) ∧ ((r.maskOf [.w1c]).getLsbD k = false) ∧ ((r.maskOf [.w1s]).getLsbD k = false)) ∧
    (∃ (r : RegRow) (lock : Bool) (old mask v : Word) (k : Nat), (mask.getLsbD k = true) ∧ ((r.maskOf (if lock then [.rw, .wo] else [.rw, .wo, .rwl])).getLsbD k = false) ∧ ((r.maskOf [.w1c]).getLsbD k = false) ∧ ((r.maskOf [.w1s]).getLsbD k = false)) ∧
    (∃ (r : RegRow) (lock : Bool) (old mask v : Word) (k : Nat), (mask.getLsbD k = true) ∧ ((r.maskOf (if lock then [.rw, .wo] else [.rw, .wo, .rwl])).getLsbD k = false) ∧ ((r.maskOf [.w1c]).getLsbD k = true) ∧ ((r.maskOf [.w1s]).getLsbD k = false)) ∧
    (∃ (r : RegRow) (lock : Bool) (old mask v : Word) (k : Nat), (mask.getLsbD k = true) ∧ ((r.maskOf (if lock then [.rw, .wo] else [.rw, .wo, .rwl])).getLsbD k = false) ∧ ((r.maskOf [.w1c]).getLsbD k = false) ∧ ((r.maskOf [.w1s]).getLsbD k = true)) ∧
    (∃ (r : RegRow) (lock : Bool) (old mask v : Word) (k : Nat), (k < 32) ∧ (mask.getLsbD k = false)) :=
  ⟨⟨⟨0, [], [⟨3, 0, .rwl, 0⟩]⟩, false, 5, 0xFFFFFFFF, 2, 1, by decide +kernel⟩,
   ⟨⟨0, [], [⟨3, 0, .rwl, 0⟩]⟩, true, 5, 0xFFFFFFFF, 2, 1, by decide +kernel⟩,
   ⟨⟨0, [], [⟨3, 0, .w1c, 0⟩]⟩, false, 5, 0xFFFFFFFF, 2, 1, by decide +kernel⟩,
   ⟨⟨0, [], [⟨3, 0, .w1s, 0⟩]⟩, false, 5, 0xFFFFFFFF, 2, 1, by decide +kernel⟩,
   ⟨⟨0, [], [⟨3, 0, .rw, 0⟩]⟩, true, 5, 0, 2, 1, by decide +kernel⟩⟩

theorem witness_Slices_1 :
    (∃ (s : State) (x : Slice), (s.reh.slice = some x) ∧ (x.phase = 1)) ∧
    (∃ (s t : State) (x : Slice), (s.reh.slice = some x) ∧ (x.phase = 2) ∧ (x.since + 100000 ≤ s.time.ns) ∧ (s.sliceDrained x.block = false) ∧ (t = (State.setFld { s.sliceUnfence x.block with reh := { s.reh with slice := none, abandoned := if s.reh.abandoned.contains (s.sliceId x.block) = true then s.reh.abandoned else s.reh.abandoned ++ [s.sliceId x.block] } } rREH_STAT fREH_STAT_STATE 0).setFld rREH_STAT fREH_STAT_RESULT 3)) ∧
    (∃ (s t : State) (x : Slice) (misr : Word) (ds : List Defect), (s.reh.slice = some x) ∧ (x.phase = 2) ∧ (s.sliceDrained x.block = true) ∧ (t = State.setFld ((s.setReg rREH_MISR misr).sliceReinit x.block) rREH_STAT fREH_STAT_STATE 0)) ∧
    (∃ (s t u : State) (x : Slice) (misr : Word) (ds : List Defect), (s.reh.slice = some x) ∧ (x.phase = 2) ∧ (s.sliceDrained x.block = true) ∧ (t = State.setFld ((s.setReg rREH_MISR misr).sliceReinit x.block) rREH_STAT fREH_STAT_STATE 0) ∧ (u = t.countWrap rREH_SLICE_CNT wholeReg) ∧ (misr = s.reg rREH_EXPECT) ∧ (x.repeated = false)) ∧
    (∃ (s t u : State) (x : Slice) (misr : Word) (ds : List Defect) (v : State), (s.reh.slice = some x) ∧ (x.phase = 2) ∧ (s.sliceDrained x.block = true) ∧ (t = State.setFld ((s.setReg rREH_MISR misr).sliceReinit x.block) rREH_STAT fREH_STAT_STATE 0) ∧ (u = t.countWrap rREH_SLICE_CNT wholeReg) ∧ (misr = s.reg rREH_EXPECT) ∧ (x.repeated = true) ∧ (v = State.slicePassed (State.setFld { u.sliceUnfence x.block with reh := { u.reh with slice := none } } rREH_STAT fREH_STAT_RESULT 0) x.block)) ∧
    (∃ (s t u : State) (x : Slice) (misr : Word) (ds : List Defect), (s.reh.slice = some x) ∧ (x.phase = 2) ∧ (s.sliceDrained x.block = true) ∧ (t = State.setFld ((s.setReg rREH_MISR misr).sliceReinit x.block) rREH_STAT fREH_STAT_STATE 0) ∧ (u = t.countWrap rREH_SLICE_CNT wholeReg) ∧ (misr ≠ s.reg rREH_EXPECT) ∧ (x.repeated = false)) :=
  ⟨⟨{ tNow with reh := { tNow.reh with slice := some { block := 5, phase := 1, since := 0 } } }, { block := 5, phase := 1, since := 0 }, by decide +kernel⟩,
   ⟨({ tNow with reh := { tNow.reh with slice := some { block := 5, phase := 2, since := 0 } } }).setChan 8 3 { st := .run }, _, { block := 5, phase := 2, since := 0 }, by exact ⟨by decide +kernel, by decide +kernel, by decide +kernel, by decide +kernel, rfl⟩⟩,
   ⟨{ tNow with reh := { tNow.reh with slice := some { block := 5, phase := 2, since := 0, repeated := false } } }, _, { block := 5, phase := 2, since := 0, repeated := false }, 7, [], by exact ⟨by decide +kernel, by decide +kernel, by decide +kernel, rfl⟩⟩,
   ⟨{ tNow with reh := { tNow.reh with slice := some { block := 5, phase := 2, since := 0, repeated := false } } }, _, _, { block := 5, phase := 2, since := 0, repeated := false }, 0, [], by exact ⟨by decide +kernel, by decide +kernel, by decide +kernel, rfl, rfl, by decide +kernel, by decide +kernel⟩⟩,
   ⟨{ tNow with reh := { tNow.reh with slice := some { block := 5, phase := 2, since := 0, repeated := true } } }, _, _, { block := 5, phase := 2, since := 0, repeated := true }, 0, [], _, by exact ⟨by decide +kernel, by decide +kernel, by decide +kernel, rfl, rfl, by decide +kernel, by decide +kernel, rfl⟩⟩,
   ⟨{ tNow with reh := { tNow.reh with slice := some { block := 5, phase := 2, since := 0, repeated := false } } }, _, _, { block := 5, phase := 2, since := 0, repeated := false }, 7, [], by exact ⟨by decide +kernel, by decide +kernel, by decide +kernel, rfl, rfl, by decide +kernel, by decide +kernel⟩⟩⟩

theorem witness_Slices_2 :
    (∃ (s t u : State) (x : Slice) (misr : Word) (ds : List Defect) (v : State), (s.reh.slice = some x) ∧ (x.phase = 2) ∧ (s.sliceDrained x.block = true) ∧ (t = State.setFld ((s.setReg rREH_MISR misr).sliceReinit x.block) rREH_STAT fREH_STAT_STATE 0) ∧ (u = t.countWrap rREH_SLICE_CNT wholeReg) ∧ (misr ≠ s.reg rREH_EXPECT) ∧ (x.repeated = true) ∧ (v = State.setFld { u.sliceUnfence x.block with reh := { u.reh with slice := none } } rREH_STAT fREH_STAT_RESULT 1)) ∧
    (∃ (s t : State), (s.awake = true) ∧ (t = { s with sec := { s.sec with activeHours := s.sec.activeHours + 1 } })) :=
  ⟨⟨{ tNow with reh := { tNow.reh with slice := some { block := 5, phase := 2, since := 0, repeated := true } } }, _, _, { block := 5, phase := 2, since := 0, repeated := true }, 7, [], _, by exact ⟨by decide +kernel, by decide +kernel, by decide +kernel, rfl, rfl, by decide +kernel, by decide +kernel, rfl⟩⟩,
   ⟨tNow, _, by exact ⟨by decide +kernel, rfl⟩⟩⟩

theorem witness_SwapsAndReplacements_1 :
    (∃ (s : State) (x : Swap), (s.reh.swap = some x) ∧ (x.phase = 1) ∧ (s.awake = true)) ∧
    (∃ (s : State) (b : Nat), (s.reh.swap = none) ∧ (s.awake = true) ∧ (s.reh.swaps < 8) ∧ (s.reh.rotStart * 9 + s.fld rREH_CTL fREH_CTL_ROT_HOURS * (s.reh.swaps + 1) ≤ s.sec.activeHours * 9) ∧ (s.spareHealthy = true) ∧ (s.reh.slice = none) ∧ (s.flag rREH_CTL fREH_CTL_PAUSE = false) ∧ (s.swapChoice = some b)) ∧
    (∃ (s t u : State) (x : Swap) (n : Nat), (s.reh.swap = some x) ∧ (x.phase = 1) ∧ (x.since + 10000000 ≤ s.time.ns) ∧ (n = Cells.get (fun _ => 0) s.reh.attempts x.logical + 1) ∧ (t = { s with reh := { s.reh with swap := none, attempts := Cells.set (fun _ => 0) s.reh.attempts x.logical n } }) ∧ (u = if x.halted = true then t else t.setFld (rVPP_CTL (s.phys x.logical)) fVPP_CTL_HALTED 0)) ∧
    (∃ (s t u v : State) (x : Swap), (s.reh.swap = some x) ∧ (x.phase = 2) ∧ (x.since + s.migrationBytes (s.phys x.logical) / 64 + 2000 ≤ s.time.ns) ∧ (t = s.migrate (s.phys x.logical) (s.phys 8)) ∧ (u = if x.halted = true then t else t.setFld (rVPP_CTL (s.phys 8)) fVPP_CTL_HALTED 0) ∧ (v = ((u.switchIndex x.logical).count rREH_SWAP_CNT).setFld rREH_STAT fREH_STAT_STATE 0)) ∧
    (∃ (s t u v : State) (b : Fin 8) (c : Fin 3), (s.hasFailed b.val c.val = true) ∧ (s.switching = none) ∧ (t = ((s.scripts.filter (fun (x : Nat × Script) => x.2.decl.cores.any (fun d => d.core == b.val))).map (·.1)).foldl (fun (t : State) n => t.scriptFault n (Config.haltCause 0) b.val) s) ∧ (s.spareHealthy = true) ∧ (u = if t.reh.slice.any (fun x => decide (x.block < 4096)) = true then t.sliceAbort else t) ∧ (v = match u.reh.swap with | some x => (if x.halted = true then u else u.setFld (rVPP_CTL (u.phys x.logical)) fVPP_CTL_HALTED 0) | none => u)) ∧
    (∃ (s t : State) (b : Fin 8) (c : Fin 3), (s.hasFailed b.val c.val = true) ∧ (s.switching = none) ∧ (t = ((s.scripts.filter (fun (x : Nat × Script) => x.2.decl.cores.any (fun d => d.core == b.val))).map (·.1)).foldl (fun (t : State) n => t.scriptFault n (Config.haltCause 0) b.val) s) ∧ (s.spareHealthy = false)) :=
  ⟨⟨{ tNow with reh := { tNow.reh with swap := some { logical := 3, since := 0, phase := 1 } } }, { logical := 3, since := 0, phase := 1 }, by decide +kernel⟩,
   ⟨{ tNow with sec := { tNow.sec with activeHours := 1000 } }, 0, by decide +kernel⟩,
   ⟨{ tNow with reh := { tNow.reh with swap := some { logical := 3, since := 0, phase := 1 } } }, _, _, { logical := 3, since := 0, phase := 1 }, _, by exact ⟨by decide +kernel, by decide +kernel, by decide +kernel, rfl, rfl, rfl⟩⟩,
   ⟨{ tNow with reh := { tNow.reh with swap := some { logical := 3, since := 0, phase := 2 } } }, _, _, _, { logical := 3, since := 0, phase := 2 }, by exact ⟨by decide +kernel, by decide +kernel, by decide +kernel, rfl, rfl, rfl⟩⟩,
   ⟨{ tNow with host := { tNow.host with fenced := [2] } }, _, _, _, 2, 0, by exact ⟨by decide +kernel, by decide +kernel, rfl, by decide +kernel, rfl, rfl⟩⟩,
   ⟨{ tNow with host := { tNow.host with fenced := [2] }, reh := { tNow.reh with released := [8] } }, _, 2, 0, by exact ⟨by decide +kernel, by decide +kernel, rfl, by decide +kernel⟩⟩⟩

theorem witness_SwapsAndReplacements_2 :
    (∃ (s t u v : State) (x : Swap), (s.reh.swap = some x) ∧ (x.phase = 3) ∧ ((s.flightTo x.logical).isEmpty = true ∨ x.since + 100000 ≤ s.time.ns) ∧ (t = (s.flightTo x.logical).foldl (fun (t : State) r => t.answerRemote r.id false []) s) ∧ (u = ((t.clearCore (s.phys 8)).setReg (rCHAIN_CFG (s.phys 8)) (t.reg (rCHAIN_CFG (s.phys x.logical)))).barArrive .prompter 31 (((t.clearCore (s.phys 8)).setReg (rCHAIN_CFG (s.phys 8)) (t.reg (rCHAIN_CFG (s.phys x.logical)))).barGen 31)) ∧ (v = State.switchIndex (if u.barSt 31 = 1 then u.barRelease 31 false else u) x.logical)) ∧
    (∃ (s : State) (p : Fin 12) (n : Nat), (s.awake = true) ∧ ((List.range 4).any (fun k => (s.stream (4 * p.val + k)).frame.isSome) = false) ∧ (0 < n)) ∧
    (∃ (s : State) (l : Fin 6) (n : Nat), (s.awake = true) ∧ (s.linkSt l.val = 0 ∨ s.flag (rEPL_CTL l.val) fEPL_CTL_EN = false) ∧ (0 < n)) ∧
    (∃ (s : State) (a b : Nat), (a ≤ b)) ∧
    (∃ (s : State) (l : Fin 1073741824) (f : Fin 32768), (s.awake = true) ∧ (s.eccDouble (64 * l.val) 64 = true)) ∧
    (∃ (s : State) (l : Fin 1073741824) (f : Fin 32768), (s.awake = true) ∧ (s.eccDouble (64 * l.val) 64 = false) ∧ ((s.eccSingles (64 * l.val) 64).isEmpty = true)) :=
  ⟨⟨{ tNow with reh := { tNow.reh with swap := some { logical := 3, since := 0, phase := 3 } } }, _, _, _, { logical := 3, since := 0, phase := 3 }, by exact ⟨by decide +kernel, by decide +kernel, by decide +kernel, rfl, rfl, rfl⟩⟩,
   ⟨tNow, 2, 3, by decide +kernel⟩,
   ⟨tNow, 2, 3, by decide +kernel⟩,
   ⟨tNow, 3, 5, by decide +kernel⟩,
   ⟨{ tNow with ecc := [(64, 2)] }, 1, 5, by decide +kernel⟩,
   ⟨tNow, 1, 5, by decide +kernel⟩⟩

theorem witness_SwapsAndReplacements_3 :
    ∃ (s t : State) (l : Fin 1073741824) (f : Fin 32768) (all : List Nat), (s.awake = true) ∧ (s.eccDouble (64 * l.val) 64 = false) ∧ ((s.eccSingles (64 * l.val) 64).isEmpty = false) ∧ (t = { s with ecc := s.ecc.filter (fun (x : Nat × Nat) => !((s.eccSingles (64 * l.val) 64).contains x.1)) }) ∧ (all = Cells.get (fun _ => []) t.reh.scrub (64 * l.val / 2 ^ 21) ++ (s.eccSingles (64 * l.val) 64).filter (fun a => !((Cells.get (fun _ => []) t.reh.scrub (64 * l.val / 2 ^ 21)).contains a))) :=
  ⟨{ tNow with ecc := [(64, 1)] }, _, 1, 5, _, by exact ⟨by decide +kernel, by decide +kernel, by decide +kernel, rfl, rfl⟩⟩

theorem witness_HostStatusCommands_1 :
    (∃ (s t : State) (h : CmdHeader) , (s.accepts h 0x000 [] = true) ∧ (t = s.accepted h 0x000 1000000 [])) ∧
    (∃ (s t : State) (h : CmdHeader) , (s.accepts h 0x001 [] = true) ∧ (t = s.accepted h 0x001 1000000 [])) ∧
    (∃ (s t : State) (h : CmdHeader) (n : Nat) (o : Outstanding), (s.accepts h 0x002 [] = true) ∧ (t = s.accepted h 0x002 1000000 []) ∧ (t.outstandingTag n = some o) ∧ (o.stop = none) ∧ ((t.stopCommand o 0x0F).2 = true)) ∧
    (∃ (s t : State) (h : CmdHeader) (n : Nat), (s.accepts h 0x002 [] = true) ∧ (t = s.accepted h 0x002 1000000 []) ∧ (t.outstandingTag n = none)) ∧
    (∃ (s t : State) (h : CmdHeader) , (s.accepts h 0x003 [] = true) ∧ (t = s.accepted h 0x003 1000000 [])) ∧
    (∃ (s t : State) (h : CmdHeader) (b i k : Nat) (l : List (Nat × Nat)), (s.accepts h 0x004 [] = true) ∧ (t = s.accepted h 0x004 1000000 []) ∧ ((blockRows b).isEmpty = false) ∧ (l = unitCounters b i) ∧ (l.isEmpty = false)) :=
  ⟨⟨tHost, _, tHdr 0x000, by exact ⟨by decide +kernel, rfl⟩⟩,
   ⟨tHost, _, tHdr 0x001, by exact ⟨by decide +kernel, rfl⟩⟩,
   ⟨tAbort, _, tHdr 0x002, 9, tOut, by exact ⟨by decide +kernel, rfl, by decide +kernel, by decide +kernel, by decide +kernel⟩⟩,
   ⟨tHost, _, tHdr 0x002, 9, by exact ⟨by decide +kernel, rfl, by decide +kernel⟩⟩,
   ⟨tHost, _, tHdr 0x003, by exact ⟨by decide +kernel, rfl⟩⟩,
   ⟨tHost, _, tHdr 0x004, 0x28, 0, 0, unitCounters 0x28 0, by exact ⟨by decide +kernel, rfl, by decide +kernel, rfl, by decide +kernel⟩⟩⟩

theorem witness_HostStatusCommands_2 :
    (∃ (s t : State) (h : CmdHeader) , (s.accepts h 0x900 [] = true) ∧ (t = s.accepted h 0x900 1000000 [])) ∧
    (∃ (s t : State) (h : CmdHeader) (f n : Nat), (s.accepts h 0x901 [] = true) ∧ (t = s.accepted h 0x901 1000000 []) ∧ (n ≤ 2047)) ∧
    (∃ (s : State) (n : Nat) (o : Outstanding), (s.outstandingTag n = some o) ∧ (o.deadline ≤ s.time.ns) ∧ (o.stop = none)) ∧
    (∃ (s : State) (n : Fin 16), (s.hostReady = true)) :=
  ⟨⟨tHost, _, tHdr 0x900, by exact ⟨by decide +kernel, rfl⟩⟩,
   ⟨tHost, _, tHdr 0x901, 0, 5, by exact ⟨by decide +kernel, rfl, by decide +kernel⟩⟩,
   ⟨tAbort, 9, tOut, by decide +kernel⟩,
   ⟨tHost, 3, by decide +kernel⟩⟩

theorem witness_HostTimeCommands_1 :
    (∃ (s t : State) (h : CmdHeader) (u : State), (s.accepts h 0x100 [] = true) ∧ (t = s.accepted h 0x100 1000000 []) ∧ (u = (t.fwRead rCUE_STATUS).2)) ∧
    (∃ (s t : State) (h : CmdHeader) (e : Nat), (s.accepts h 0x101 [] = true) ∧ (t = s.accepted h 0x101 1000000 []) ∧ (t.master = true) ∧ (t.now < e)) ∧
    (∃ (s t : State) (h : CmdHeader) (e : Nat), (s.accepts h 0x101 [] = true) ∧ (t = s.accepted h 0x101 1000000 []) ∧ (t.master = false)) ∧
    (∃ (s t : State) (h : CmdHeader) (e : Nat), (s.accepts h 0x102 [] = true) ∧ (t = s.accepted h 0x102 1000000 []) ∧ (e ≤ 1)) ∧
    (∃ (s t : State) (h : CmdHeader) (id n : Nat), (s.accepts h 0x103 [] = true) ∧ (t = s.accepted h 0x103 1000000 []) ∧ ((List.range 64).find? (fun n => (t.wset n).st == .free) = some n)) ∧
    (∃ (s t : State) (h : CmdHeader) (n : Nat) (ms : List StageMember) (u : State), (s.accepts h 0x104 [oSet n] = true) ∧ (t = s.accepted h 0x104 1000000 [oSet n]) ∧ (ms.all (fun m => m.rsv == 0 && stageRsvClear m) = true) ∧ (t.setExists n = true) ∧ (t.stageAll n (ms.map stageMemberOf) = .ok u [])) :=
  ⟨⟨tHost, _, tHdr 0x100, _, by exact ⟨by decide +kernel, rfl, rfl⟩⟩,
   ⟨tHost.setFld rCUE_STATUS fCUE_STATUS_MASTER 1, _, tHdr 0x101, 500, by exact ⟨by decide +kernel, rfl, by decide +kernel, by decide +kernel⟩⟩,
   ⟨tHost.setFld rCUE_STATUS fCUE_STATUS_MASTER 0, _, tHdr 0x101, 500, by exact ⟨by decide +kernel, rfl, by decide +kernel⟩⟩,
   ⟨tHost, _, tHdr 0x102, 1, by exact ⟨by decide +kernel, rfl, by decide +kernel⟩⟩,
   ⟨tHost, _, tHdr 0x103, 0, 0, by exact ⟨by decide +kernel, rfl, by decide +kernel⟩⟩,
   ⟨tSet { st := .opened }, _, tHdr 0x104, 3, [], ((tSet { st := .opened }).accepted (tHdr 0x104) 0x104 1000000 [oSet 3]).setWset 3 { st := .opened, members := [] }, by exact ⟨by decide +kernel, rfl, by decide +kernel, by decide +kernel, by decide +kernel⟩⟩⟩

theorem witness_HostTimeCommands_2 :
    (∃ (s t : State) (h : CmdHeader) (n e : Nat), (s.accepts h 0x105 [oSet n] = true) ∧ (t = s.accepted h 0x105 1000000 [oSet n]) ∧ (t.setExists n = true) ∧ ((t.wset n).st = .opened ∨ (t.wset n).st = .checked) ∧ (t.violations n (if e = 0 then none else some e) = [])) ∧
    (∃ (s t : State) (h : CmdHeader) (n e : Nat), (s.accepts h 0x105 [oSet n] = true) ∧ (t = s.accepted h 0x105 1000000 [oSet n]) ∧ (t.setExists n = true) ∧ ((t.wset n).st = .opened ∨ (t.wset n).st = .checked) ∧ (t.violations n (if e = 0 then none else some e) ≠ [])) ∧
    (∃ (s t : State) (h : CmdHeader) (n e : Nat), (s.accepts h 0x106 [oSet n] = true) ∧ (t = s.accepted h 0x106 1000000 [oSet n]) ∧ (t.clampApplyTime n 0 ≤ e) ∧ (e < 2 ^ 64) ∧ (t.setExists n = true) ∧ ((t.wset n).st = .checked) ∧ ((t.armSet n (t.clampApplyTime n e) none).2 = [])) ∧
    (∃ (s t : State) (h : CmdHeader) (n : Nat), (s.accepts h 0x107 [oSet n] = true) ∧ (t = s.accepted h 0x107 1000000 [oSet n]) ∧ (t.setExists n = true) ∧ ((t.wset n).st = .armed) ∧ (t.strobeDue n = false)) ∧
    (∃ (s t : State) (h : CmdHeader) (n : Nat), (s.accepts h 0x108 [oSet n] = true) ∧ (t = s.accepted h 0x108 1000000 [oSet n]) ∧ (t.setExists n = true)) ∧
    (∃ (s t : State) (h : CmdHeader) (n : Nat), (s.accepts h 0x109 [oSet n] = true) ∧ (t = s.accepted h 0x109 1000000 [oSet n]) ∧ (n < 64)) :=
  ⟨⟨tSet { st := .opened }, _, tHdr 0x105, 3, 0, by exact ⟨by decide +kernel, rfl, by decide +kernel, by decide +kernel, by decide +kernel⟩⟩,
   ⟨{ tSet { st := .opened, members := [⟨0x20, 0x5000, 0xFFFFFF, false⟩] } with cueq := [(0x20, { entries := [{ tE 0x08 900 with period := 5 }] })] }, _, tHdr 0x105, 3, 0, by exact ⟨by decide +kernel, rfl, by decide +kernel, by decide +kernel, by decide +kernel⟩⟩,
   ⟨tSet { st := .checked }, _, tHdr 0x106, 3, 1000000, by exact ⟨by decide +kernel, rfl, by decide +kernel, by decide +kernel, by decide +kernel, by decide +kernel, by decide +kernel⟩⟩,
   ⟨tSet { st := .armed, time := 2 ^ 40 }, _, tHdr 0x107, 3, by exact ⟨by decide +kernel, rfl, by decide +kernel, by decide +kernel, by decide +kernel⟩⟩,
   ⟨tSet { st := .applied }, _, tHdr 0x108, 3, by exact ⟨by decide +kernel, rfl, by decide +kernel⟩⟩,
   ⟨tHost, _, tHdr 0x109, 3, by exact ⟨by decide +kernel, rfl, by decide +kernel⟩⟩⟩

theorem witness_HostMemoryCommands :
    (∃ (s t : State) (h : CmdHeader) (a n w p k : Nat) (f : List (Fin 32768)) (u : State), (s.accepts h 0x200 [] = true) ∧ (t = s.accepted h 0x200 1000000 []) ∧ (a < 16) ∧ (w ≤ 1) ∧ (k = (n + 2 ^ 21 - 1) / 2 ^ 21) ∧ (0 < k) ∧ (f.length = k) ∧ (t.framesFree (f.map (·.val)) = true) ∧ (t.pagesFree a p k = true) ∧ (u = t.mapPages a p (w == 1) (f.map (·.val)))) ∧
    (∃ (s t : State) (h : CmdHeader) (a v : Nat) (r : Region) (u : State), (s.accepts h 0x201 (s.regionObj a v) = true) ∧ (t = s.accepted h 0x201 1000000 (s.regionObj a v)) ∧ (a < 16) ∧ (t.regionOf a v = some r) ∧ (v = r.page * 2 ^ 21) ∧ (u = t.unmapPages a r.page r.frames.length)) ∧
    (∃ (s t : State) (h : CmdHeader) (a v : Nat) (b : List Byte) (u : State), (s.accepts h 0x203 (s.regionObj a v) = true) ∧ (t = s.accepted h 0x203 1000000 (s.regionObj a v)) ∧ (a < 16) ∧ (b.length ≤ 65520) ∧ ((t.regionOf a v).isSome = true) ∧ (t.tvaWrite a v b = some u)) ∧
    (∃ (s t : State) (h : CmdHeader) (a v n : Nat) (d : List Byte), (s.accepts h 0x204 (s.regionObj a v) = true) ∧ (t = s.accepted h 0x204 1000000 (s.regionObj a v)) ∧ (a < 16) ∧ (n ≤ 65536) ∧ ((t.regionOf a v).isSome = true) ∧ ((t.tvaRead a v n).1 = some d)) ∧
    (∃ (s t : State) (h : CmdHeader) (d k a v n f y : Nat) (u : State), (s.accepts h 0x202 (oEp2 (s.xferChannel d k) :: s.regionObj a v) = true) ∧ (t = s.accepted h 0x202 600000000 (oEp2 (s.xferChannel d k) :: s.regionObj a v)) ∧ (d ≤ 1) ∧ (k < 16) ∧ (a < 16) ∧ (f ≤ 8) ∧ (y ≤ 3) ∧ ((t.regionOf a v).isSome = true) ∧ (0 < n) ∧ (u = (t.modOutstanding h.tag (fun o => { o with object := t.xferChannel d k, bytes := n, args := [a, t.xferChannel d k % 16, v, f, y] })).xferLaunch (t.xferChannel d k) a (xferDesc (d == 0) (t.xferChannel d k % 16) v n f y))) :=
  ⟨⟨tHost, _, tHdr 0x200, 1, 2097152, 1, 0, _, [5], _, by exact ⟨by decide +kernel, rfl, by decide +kernel, by decide +kernel, rfl, by decide +kernel, by decide +kernel, by decide +kernel, by decide +kernel, rfl⟩⟩,
   ⟨tMapped, _, tHdr 0x201, 1, 0, ⟨1, 0, [5], true⟩, _, by exact ⟨by decide +kernel, rfl, by decide +kernel, by decide +kernel, by decide +kernel, rfl⟩⟩,
   ⟨tMapped, _, tHdr 0x203, 1, 16, [1, 2], ((tMapped.accepted (tHdr 0x203) 0x203 1000000 (tMapped.regionObj 1 16)).tvaWrite 1 16 [1, 2]).getD tHost, by exact ⟨by decide +kernel, rfl, by decide +kernel, by decide +kernel, by decide +kernel, by decide +kernel⟩⟩,
   ⟨tMapped, _, tHdr 0x204, 1, 16, 2, [0, 0], by exact ⟨by decide +kernel, rfl, by decide +kernel, by decide +kernel, by decide +kernel, by decide +kernel⟩⟩,
   ⟨tMapped, _, tHdr 0x202, 0, 2, 1, 16, 64, 0, 0, _, by exact ⟨by decide +kernel, rfl, by decide +kernel, by decide +kernel, by decide +kernel, by decide +kernel, by decide +kernel, by decide +kernel, by decide +kernel, rfl⟩⟩⟩

theorem witness_HostScriptCommands_1 :
    (∃ (s t : State) (h : CmdHeader) (a v n k : Nat) (d : ScriptDecl) (u w : State) (img : List Byte) (ok : Bool × Bool), (s.accepts h 0x300 (oAdmission :: s.regionObj a v) = true) ∧ (t = s.accepted h 0x300 10000000 (oAdmission :: s.regionObj a v)) ∧ (a < 16) ∧ ((t.regionOf a v).isSome = true) ∧ (t.tvaRead a v n = (some img, u)) ∧ (ok = u.scriptAllowed (u.imageCheck (fun i => img.getD i 0) (n == headerLen + imgBodyLen (fun i => img.getD i 0)) 3)) ∧ (declOk d = true) ∧ (u.refusals d = []) ∧ ((List.range 128).find? (fun n => (u.script n).isNone) = some k) ∧ (w = u.grant k a d (imgHash (fun i => img.getD i 0)))) ∧
    (∃ (s t : State) (h : CmdHeader) (n : Nat) (x : Script), (s.accepts h 0x301 [oAdmission, oScript n] = true) ∧ (t = s.accepted h 0x301 1000000 [oAdmission, oScript n]) ∧ (t.script n = some x) ∧ (x.st ≠ .running)) ∧
    (∃ (s t : State) (h : CmdHeader) (n e : Nat) (x : Script), (s.accepts h 0x302 [oScript n] = true) ∧ (t = s.accepted h 0x302 1000000 [oScript n]) ∧ (t.script n = some x) ∧ (x.st = .loaded ∨ x.st = .stopped)) ∧
    (∃ (s t : State) (h : CmdHeader) (n e : Nat) (x : Script), (s.accepts h 0x303 [oScript n] = true) ∧ (t = s.accepted h 0x303 1000000 [oScript n]) ∧ (t.script n = some x) ∧ (x.st = .running) ∧ (e ≤ t.now)) ∧
    (∃ (s t : State) (h : CmdHeader) (n e : Nat) (x : Script), (s.accepts h 0x303 [oScript n] = true) ∧ (t = s.accepted h 0x303 1000000 [oScript n]) ∧ (t.script n = some x) ∧ (x.st = .running) ∧ (t.now < e)) ∧
    (∃ (s t : State) (h : CmdHeader) (n i il p pl : Nat) (x : Script) (u : State), (s.accepts h 0x304 [oScript n, 0x5000 + n] = true) ∧ (t = s.accepted h 0x304 600000000 [oScript n, 0x5000 + n]) ∧ (t.script n = some x) ∧ (x.st = .running) ∧ (x.batch.isEmpty = false) ∧ (u = t.modOutstanding h.tag (fun o => { o with object := n, bytes := pl, args := [i, il, p, pl] }))) :=
  ⟨⟨tMapped, _, tHdr 0x300, 1, 16, 2, 0, tEmpty, ((tMapped.accepted (tHdr 0x300) 0x300 10000000 (oAdmission :: tMapped.regionObj 1 16)).tvaRead 1 16 2).2, _, [0, 0], _, by exact ⟨by decide +kernel, rfl, by decide +kernel, by decide +kernel, by decide +kernel, rfl, by decide +kernel, by decide +kernel, by decide +kernel, rfl⟩⟩,
   ⟨tSlotted { decl := tDecl }, _, tHdr 0x301, 5, { decl := tDecl }, by exact ⟨by decide +kernel, rfl, by decide +kernel, by decide +kernel⟩⟩,
   ⟨tSlotted { decl := tDecl }, _, tHdr 0x302, 5, 9, { decl := tDecl }, by exact ⟨by decide +kernel, rfl, by decide +kernel, by decide +kernel⟩⟩,
   ⟨tSlotted { decl := tDecl, st := .running }, _, tHdr 0x303, 5, 9, { decl := tDecl, st := .running }, by exact ⟨by decide +kernel, rfl, by decide +kernel, by decide +kernel, by decide +kernel⟩⟩,
   ⟨tSlotted { decl := tDecl, st := .running }, _, tHdr 0x303, 5, 900, { decl := tDecl, st := .running }, by exact ⟨by decide +kernel, rfl, by decide +kernel, by decide +kernel, by decide +kernel⟩⟩,
   ⟨tSlotted { decl := tDecl, st := .running }, _, tHdr 0x304, 5, 1, 2, 3, 4, { decl := tDecl, st := .running }, _, by exact ⟨by decide +kernel, rfl, by decide +kernel, by decide +kernel, by decide +kernel, rfl⟩⟩⟩

theorem witness_HostScriptCommands_2 :
    (∃ (s t : State) (h : CmdHeader) (n : Nat) (x : Script) (l : List Nat), (s.accepts h 0x305 [oScript n] = true) ∧ (t = s.accepted h 0x305 1000000 [oScript n]) ∧ (t.script n = some x) ∧ (l = x.decl.streams.map (fun r => rSA_STR_MISS (recordField r 0 1)))) ∧
    (∃ (s t : State) (h : CmdHeader) (n : Nat) (x : Script), (s.accepts h 0x306 [oScript n] = true) ∧ (t = s.accepted h 0x306 1000000 [oScript n]) ∧ (t.script n = some x) ∧ (x.st ≠ .running)) :=
  ⟨⟨tSlotted { decl := tDecl }, _, tHdr 0x305, 5, { decl := tDecl }, _, by exact ⟨by decide +kernel, rfl, by decide +kernel, rfl⟩⟩,
   ⟨tSlotted { decl := tDecl }, _, tHdr 0x306, 5, { decl := tDecl }, by exact ⟨by decide +kernel, rfl, by decide +kernel, by decide +kernel⟩⟩⟩

theorem witness_HostCameraCommands :
    (∃ (s t : State) (h : CmdHeader) (k f : Nat) (x g : List (Word × Word)) (a b c : Nat × Nat) (l : List Settings), (s.accepts h 0x400 [oStream k] = true) ∧ (t = s.accepted h 0x400 1000000 [oStream k]) ∧ (l = t.settings k x g a b c) ∧ (k < 48) ∧ (t.predicts k = true) ∧ (t.indexOf k (t.reach k f l) = f) ∧ (x.length ≤ 255 ∧ x.all itemClear = true) ∧ (g.length ≤ 255 ∧ g.all itemClear = true) ∧ (l.all (fun y => t.itemsAllowed (k / 4) y.items) = true) ∧ (t.placesOk l = true) ∧ ((t.cq (0x20 + k / 4)).entries.length + l.length ≤ 8) ∧ (l.all (fun y => t.inTime k (t.reach k f l) y) = true)) ∧
    (∃ (s t : State) (h : CmdHeader) (k f e n m : Nat) (w : List Half) (v : State) (cl : List (Nat × Nat × Int × Int)), (s.accepts h 0x401 [oStream k] = true) ∧ (t = s.accepted h 0x401 1000000 [oStream k]) ∧ (k < 48) ∧ (t.predicts k = true) ∧ (n = t.ispReach k f) ∧ (t.indexOf k n = f) ∧ (w.length = 256) ∧ ((List.range 64).find? (fun m => (t.wset m).st == .free) = some m) ∧ (t.portRoom k = true) ∧ (t.now + 50000 + 20 * 128 ≤ e) ∧ (t.startOf k (n - 1) < e) ∧ (e < t.startOf k n) ∧ ((t.setWset m { st := .opened }).stageAll m (ispMembers k w) = .ok v cl) ∧ ((v.armSet m e (some k)).2 = [])) ∧
    (∃ (s t : State) (h : CmdHeader) (b d r n : Nat) (a : Bool) (u : State), (s.accepts h 0x402 [] = true) ∧ (t = s.accepted h 0x402 1000000 []) ∧ (b < 12) ∧ (d < 128) ∧ (r < if a then 65536 else 256) ∧ (1 ≤ n) ∧ (n ≤ 4) ∧ (u = t.modOutstanding h.tag (fun o => { o with object := b, bytes := n, args := [(readWord d r a n).toNat] }))) ∧
    (∃ (s t : State) (h : CmdHeader) (n p f w : Nat), (s.accepts h 0x403 [] = true) ∧ (t = s.accepted h 0x403 1000000 []) ∧ (n < 12) ∧ (t.fld (rINT_FSYNC_CFG n) fINT_FSYNC_CFG_MIN_PERIOD_US ≤ p) ∧ (p ≤ 4194303) ∧ (1 ≤ w) ∧ (w ≤ 255) ∧ (((t.dropFsync n).cq (0x20 + n)).entries.length < 8)) ∧
    (∃ (s t : State) (h : CmdHeader) (k : Nat) (u : State), (s.accepts h 0x404 [oStream k] = true) ∧ (t = s.accepted h 0x404 1000000 [oStream k]) ∧ (k < 48) ∧ (u = t.gather ((streamCounters k).map (·.1)).eraseDups)) :=
  ⟨⟨tCam, _, tHdr 0x400, 8, tLate, [tItem], [], (0, 0), (0, 0), (100, 0), _, by exact ⟨by decide +kernel, rfl, rfl, by decide +kernel, by decide +kernel, by decide +kernel, by decide +kernel, by decide +kernel, by decide +kernel, by decide +kernel, by decide +kernel, by decide +kernel⟩⟩,
   ⟨tCam, _, tHdr 0x401, 8, 1, 100000, _, 0, tIspW, tIspStaged, [], by exact ⟨by decide +kernel, rfl, by decide +kernel, by decide +kernel, rfl, by decide +kernel, by decide +kernel, by decide +kernel, by decide +kernel, by decide +kernel, by decide +kernel, by decide +kernel, by decide +kernel, by decide +kernel⟩⟩,
   ⟨tCam, _, tHdr 0x402, 2, 16, 5, 1, false, _, by exact ⟨by decide +kernel, rfl, by decide +kernel, by decide +kernel, by decide +kernel, by decide +kernel, by decide +kernel, rfl⟩⟩,
   ⟨tCam, _, tHdr 0x403, 2, 1000, 0, 10, by exact ⟨by decide +kernel, rfl, by decide +kernel, by decide +kernel, by decide +kernel, by decide +kernel, by decide +kernel, by decide +kernel⟩⟩,
   ⟨tCam, _, tHdr 0x404, 8, _, by exact ⟨by decide +kernel, rfl, by decide +kernel, rfl⟩⟩⟩

theorem witness_HostPowerAndRehearsalCommands_1 :
    (∃ (s t : State) (h : CmdHeader) , (s.accepts h 0x500 [] = true) ∧ (t = s.accepted h 0x500 1000000 [])) ∧
    (∃ (s t : State) (h : CmdHeader) (c o : Nat), (s.accepts h 0x501 [] = true) ∧ (t = s.accepted h 0x501 1000000 []) ∧ (c < 2) ∧ (o < 8) ∧ (t.pinned c = false ∨ o = 7)) ∧
    (∃ (s t : State) (h : CmdHeader) (c o : Nat), (s.accepts h 0x501 [] = true) ∧ (t = s.accepted h 0x501 1000000 []) ∧ (c < 2) ∧ (o < 7) ∧ (t.pinned c = true)) ∧
    (∃ (s t : State) (h : CmdHeader) (w : Nat), (s.accepts h 0x502 [] = true) ∧ (t = s.accepted h 0x502 1000000 []) ∧ (20 ≤ w) ∧ (w ≤ t.fld rPWR_CAP fPWR_CAP_CEIL)) ∧
    (∃ (s t : State) (h : CmdHeader) (e m : Nat), (s.accepts h 0x503 [] = true) ∧ (t = s.accepted h 0x503 1000000 []) ∧ (e = 0 ∨ (t.now + 5000000 ≤ e ∧ e < 2 ^ 64)) ∧ (m < 64)) ∧
    (∃ (s t : State) (h : CmdHeader) (m : Nat), (s.accepts h 0x504 [] = true) ∧ (t = s.accepted h 0x504 1000000 []) ∧ (m < 64)) :=
  ⟨⟨tHost, _, tHdr 0x500, by exact ⟨by decide +kernel, rfl⟩⟩,
   ⟨tHost, _, tHdr 0x501, 1, 5, by exact ⟨by decide +kernel, rfl, by decide +kernel, by decide +kernel, by decide +kernel⟩⟩,
   ⟨tSlotted { decl := { tDecl with realtime := true } }, _, tHdr 0x501, 0, 5, by exact ⟨by decide +kernel, rfl, by decide +kernel, by decide +kernel, by decide +kernel⟩⟩,
   ⟨tHost, _, tHdr 0x502, 30, by exact ⟨by decide +kernel, rfl, by decide +kernel, by decide +kernel⟩⟩,
   ⟨tHost, _, tHdr 0x503, 0, 5, by exact ⟨by decide +kernel, rfl, by decide +kernel, by decide +kernel⟩⟩,
   ⟨tHost, _, tHdr 0x504, 5, by exact ⟨by decide +kernel, rfl, by decide +kernel⟩⟩⟩

theorem witness_HostPowerAndRehearsalCommands_2 :
    (∃ (s t : State) (h : CmdHeader) (u : State), (s.accepts h 0x600 [] = true) ∧ (t = s.accepted h 0x600 1000000 []) ∧ (u = t.gather [rREH_FAIL_CNT])) ∧
    (∃ (s t : State) (h : CmdHeader) (n : Nat), (s.accepts h 0x601 [] = true) ∧ (t = s.accepted h 0x601 1000000 []) ∧ (1 ≤ n) ∧ (n ≤ 720)) ∧
    (∃ (s t : State) (h : CmdHeader) (b : Nat), (s.accepts h 0x602 [] = true) ∧ (t = s.accepted h 0x602 1000000 []) ∧ (listedBlock b = true) ∧ (t.sliceOk b = true) ∧ (t.reh.slice = none) ∧ ((t.rehGo b).reh.slice.isSome = true)) ∧
    (∃ (s t : State) (h : CmdHeader) (k : Nat) (l : List (List Nat)), (s.accepts h 0x603 [] = true) ∧ (t = s.accepted h 0x603 1000000 []) ∧ (l = t.sec.fuseRepairs.map (repairWords true) ++ t.fieldRepairs.map (repairWords false))) ∧
    (∃ (s t : State) (h : CmdHeader) (b : Nat) (u : State), (s.accepts h 0x604 [] = true) ∧ (t = s.accepted h 0x604 1000000 []) ∧ (b < 8) ∧ (t.spareHealthy = true) ∧ (u = t.modOutstanding h.tag (fun o => { o with object := b, bytes := t.phys b }))) ∧
    (∃ (s t : State) (h : CmdHeader) (b : Nat), (s.accepts h 0x604 [] = true) ∧ (t = s.accepted h 0x604 1000000 []) ∧ (b < 8) ∧ (t.spareHealthy = false)) :=
  ⟨⟨tHost, _, tHdr 0x600, _, by exact ⟨by decide +kernel, rfl, rfl⟩⟩,
   ⟨tHost, _, tHdr 0x601, 720, by exact ⟨by decide +kernel, rfl, by decide +kernel, by decide +kernel⟩⟩,
   ⟨tHost, _, tHdr 0x602, 5, by exact ⟨by decide +kernel, rfl, by decide +kernel, by decide +kernel, by decide +kernel, by decide +kernel⟩⟩,
   ⟨tHost, _, tHdr 0x603, 0, _, by exact ⟨by decide +kernel, rfl, rfl⟩⟩,
   ⟨tHost, _, tHdr 0x604, 2, _, by exact ⟨by decide +kernel, rfl, by decide +kernel, by decide +kernel, rfl⟩⟩,
   ⟨{ tHost with reh := { tHost.reh with released := [8] } }, _, tHdr 0x604, 2, by exact ⟨by decide +kernel, rfl, by decide +kernel, by decide +kernel⟩⟩⟩

theorem witness_HostPowerAndRehearsalCommands_3 :
    ∃ (s t : State) (h : CmdHeader) (m : Nat) (f : List Nat) (u : State), (s.accepts h 0x605 [] = true) ∧ (t = s.accepted h 0x605 1000000 []) ∧ (m < 65536) ∧ (t.sec.fullTest = false) ∧ (u = t.modOutstanding h.tag (fun o => { o with args := m :: f })) :=
  ⟨tHost, _, tHdr 0x605, 5, [], _, by exact ⟨by decide +kernel, rfl, by decide +kernel, by decide +kernel, rfl⟩⟩

theorem witness_HostSecurityCommands :
    (∃ (s t : State) (h : CmdHeader) (x : List Byte), (s.accepts h 0x700 [] = true) ∧ (t = s.accepted h 0x700 1000000 []) ∧ (x.length = 48)) ∧
    (∃ (s t : State) (h : CmdHeader) (f c : Nat) (u : State), (s.accepts h 0x701 [oNor] = true) ∧ (t = s.accepted h 0x701 1000000 [oNor]) ∧ (f ≤ 0x1700000) ∧ (c ≤ 0x100000) ∧ (u = t.norErase (slotBase t.updateSlot) 0x1800000)) ∧
    (∃ (s t : State) (h : CmdHeader) (o f c : Nat) (b : List Byte), (s.accepts h 0x702 [oNor] = true) ∧ (t = s.accepted h 0x702 1000000 [oNor]) ∧ (b.length ≤ 65520) ∧ (t.sec.update = some (f, c)) ∧ (o + b.length ≤ f ∨ (0x1700000 ≤ o ∧ o + b.length ≤ 0x1700000 + c))) ∧
    (∃ (s t : State) (h : CmdHeader) (o f c : Nat) (b : List Byte), (s.accepts h 0x702 [oNor] = true) ∧ (t = s.accepted h 0x702 1000000 [oNor]) ∧ (b.length ≤ 65520) ∧ (t.sec.update = some (f, c)) ∧ (f < o + b.length) ∧ (o < 0x1700000 ∨ 0x1700000 + c < o + b.length)) ∧
    (∃ (s t : State) (h : CmdHeader) (f c : Nat) (u : State), (s.accepts h 0x703 [oNor] = true) ∧ (t = s.accepted h 0x703 60000000 [oNor]) ∧ (t.sec.update = some (f, c)) ∧ (u = (t.norProgram (slotBase t.updateSlot) (imgBytes t.updateReader 0 headerLen)).setFwSlot t.updateSlot { mark := .pending, attempts := 0 })) ∧
    (∃ (s t : State) (h : CmdHeader) (b : List Byte) (x : Nat) (a c r n : Nat) (u : State), (s.accepts h 0x704 [oNor] = true) ∧ (t = s.accepted h 0x704 60000000 [oNor]) ∧ (x = t.imageCheck (fun i => b.getD i 0) (b.length == headerLen + imgBodyLen (fun i => b.getD i 0)) 4) ∧ (tokenBody (imgBody (fun i => b.getD i 0)) = some (a, c, r, n)) ∧ (t.tokenOk a c r n = true) ∧ (u = t.lifeChange a c r)) :=
  ⟨⟨tHost, _, tHdr 0x700, List.replicate 48 1, by exact ⟨by decide +kernel, rfl, by decide +kernel⟩⟩,
   ⟨tHost, _, tHdr 0x701, 0x1700000, 0x100000, _, by exact ⟨by decide +kernel, rfl, by decide +kernel, by decide +kernel, rfl⟩⟩,
   ⟨{ tHost with sec := { tHost.sec with update := some (100, 10) } }, _, tHdr 0x702, 98, 100, 10, [1, 2], by exact ⟨by decide +kernel, rfl, by decide +kernel, by decide +kernel, by decide +kernel⟩⟩,
   ⟨{ tHost with sec := { tHost.sec with update := some (100, 10) } }, _, tHdr 0x702, 99, 100, 10, [1, 2], by exact ⟨by decide +kernel, rfl, by decide +kernel, by decide +kernel, by decide +kernel, by decide +kernel⟩⟩,
   ⟨{ tHost with sec := { tHost.sec with update := some (100, 10) } }, _, tHdr 0x703, 100, 10, _, by exact ⟨by decide +kernel, rfl, by decide +kernel, rfl⟩⟩,
   ⟨tHost, _, tHdr 0x704, tToken, _, 3, 2, 0, 1, _, by exact ⟨by decide +kernel, rfl, rfl, by decide +kernel, by decide +kernel, rfl⟩⟩⟩

theorem witness_HostFabricAndServiceCommands :
    (∃ (s t : State) (h : CmdHeader) (u : State), (s.accepts h 0x800 [] = true) ∧ (t = s.accepted h 0x800 1000000 []) ∧ (u = t.gather ((List.range 6).flatMap (fun l => (linkCounters l).map (·.1))).eraseDups)) ∧
    (∃ (s t : State) (h : CmdHeader) (l : Nat), (s.accepts h 0x801 [oLink l] = true) ∧ (t = s.accepted h 0x801 1000000 [oLink l]) ∧ (l < 6)) ∧
    (∃ (s t : State) (h : CmdHeader) (d n : Nat) (l : List Nat) (u : State), (s.accepts h 0xF00 [] = true) ∧ (t = s.accepted h 0xF00 1000000 []) ∧ (n ≤ 16384) ∧ (t.wordsAt d n = (none, l, u))) ∧
    (∃ (s t : State) (h : CmdHeader) (d v m : Nat) (x w : Word) (u : State), (s.accepts h 0xF01 [] = true) ∧ (t = s.accepted h 0xF01 1000000 []) ∧ (v < 2 ^ 32) ∧ (m < 2 ^ 32) ∧ ((t.wordAt d).1 = .ok x) ∧ (t.wordSet d (BitVec.ofNat 32 m) (BitVec.ofNat 32 v) x = (.ok w, u))) ∧
    (∃ (s t : State) (h : CmdHeader) (n o : Nat), (s.accepts h 0xF02 [] = true) ∧ (t = s.accepted h 0xF02 1000000 []) ∧ ((blockRows n).isEmpty = false) ∧ (o ≤ 1)) :=
  ⟨⟨tHost, _, tHdr 0x800, _, by exact ⟨by decide +kernel, rfl, rfl⟩⟩,
   ⟨tHost, _, tHdr 0x801, 2, by exact ⟨by decide +kernel, rfl, by decide +kernel⟩⟩,
   ⟨tHost, _, tHdr 0xF00, 64, 2, [0, 0], ((tHost.accepted (tHdr 0xF00) 0xF00 1000000 []).wordsAt 64 2).2.2, by exact ⟨by decide +kernel, rfl, by decide +kernel, by decide +kernel⟩⟩,
   ⟨tHost, _, tHdr 0xF01, 64, 7, 0xFF, 0, 0, ((tHost.accepted (tHdr 0xF01) 0xF01 1000000 []).wordSet 64 0xFF 7 0).2, by exact ⟨by decide +kernel, rfl, by decide +kernel, by decide +kernel, by decide +kernel, by decide +kernel⟩⟩,
   ⟨tHost, _, tHdr 0xF02, 2, 1, by exact ⟨by decide +kernel, rfl, by decide +kernel, by decide +kernel⟩⟩⟩

theorem witness_StepOnEmptyQueue :
    (∃ (s : State), (s.pending = []) ∧ (s.nextHeld = none)) ∧
    (∃ (s : State) (tag : Nat) (c : Instr), (s.pending = []) ∧ (s.nextHeld = some (tag, c))) :=
  ⟨⟨State.reset, by decide +kernel⟩,
   ⟨tHeld, 9, (.ping (tDupHdr 0)), by decide +kernel⟩⟩

theorem witness_CanonicalFormKept :
    ∃ (s t : State), (s.canon) ∧ (step s = .next t) :=
  ⟨State.reset, _, by exact ⟨by decide, rfl⟩⟩

theorem witness_FusesNeverRestored :
    ∃ (s t : State), (step s = .next t) :=
  ⟨State.reset, _, by exact rfl⟩

theorem witness_CueTimeNeverDecreases :
    (∃ (s t : State), (s.stepCommand ≠ some .powerOnReset) ∧ (step s = .next t)) ∧
    (∃ (s t : State), (exec .powerOnReset s = .next t)) :=
  ⟨⟨State.reset, _, by exact ⟨by decide, rfl⟩⟩,
   ⟨tNow, _, by exact rfl⟩⟩

theorem witness_EveryCommandAnswers :
    (∃ (s : State) (c : Instr) (rest : List Instr), (c ≠ .jtagDebugInstruction ∨ s.tapHeld = true ∨ debugAllowed s.sec.lifeCycle = false)) ∧
    (∃ (s : State) (rest : List Instr), (s.tapHeld = false) ∧ (debugAllowed s.sec.lifeCycle = true)) :=
  ⟨⟨tNow, .jtagBypass, [.jtagIdcode], by decide +kernel⟩,
   ⟨{ tNow with sec := { tNow.sec with blown := [] } }, [], by decide +kernel⟩⟩

theorem witness_FrcErrorBound :
    ∃ (f t : Nat) (unit : List Byte) (e : Nat), (1 ≤ f) ∧ (f ≤ 4) ∧ (t < 4) ∧ (t < 2 ↔ f < 3) ∧ (unit.length = frcUnit f) ∧ (e < 256) :=
  ⟨4, 3, List.replicate 512 7, 200, by decide +kernel⟩

theorem witness_FabricActions :
    (∃ (s : State) (q : QueueId) (op : Nat) (e : CueEntry) (l : List CueEntry), ((s.cq q.num).entries = e :: l) ∧ (e.fab = true) ∧ (s.flag rCUE_STATUS fCUE_STATUS_ALIGN_OK = false)) ∧
    (∃ (s : State) (e : CueEntry) (l : List CueEntry), ((s.cq QueueId.hub.num).entries = e :: l) ∧ (e.fab = true) ∧ (s.flag rCUE_STATUS fCUE_STATUS_ALIGN_OK = false)) ∧
    (∃ (s : State) (q : QueueId) (op : Nat) (e : CueEntry) (l : List CueEntry), ((s.cq q.num).entries = e :: l) ∧ (e.op = op) ∧ ((s.cq q.num).halted = false) ∧ (e.time ≤ s.now) ∧ (s.holding = false) ∧ (s.queueRuns q = true) ∧ (e.fab = true → s.flag rCUE_STATUS fCUE_STATUS_ALIGN_OK = true) ∧ (op = 0x0B ∨ s.wingsDue e.time = false) ∧ (e.late = 0) ∧ (s.targetGated q = false)) ∧
    (∃ (s : State) (q : QueueId) (op : Nat) (e : CueEntry) (l : List CueEntry), ((s.cq q.num).entries = e :: l) ∧ (e.op = op) ∧ ((s.cq q.num).halted = false) ∧ (e.time ≤ s.now) ∧ (s.holding = false) ∧ (s.queueRuns q = true) ∧ (e.fab = true → s.flag rCUE_STATUS fCUE_STATUS_ALIGN_OK = true) ∧ (op = 0x0B ∨ s.wingsDue e.time = false) ∧ (e.late = 0) ∧ (s.targetGated q = false) ∧ (op = 0)) :=
  ⟨⟨tFab false, .hub, 0x05, { tE 5 50 with fab := true }, [], by decide +kernel⟩,
   ⟨tFab false, { tE 5 50 with fab := true }, [], by decide +kernel⟩,
   ⟨tFab true, .hub, 5, { tE 5 50 with fab := true }, [], by decide +kernel⟩,
   ⟨tFabNop, .hub, 0, { tE 0 50 with fab := true }, [], by decide +kernel⟩⟩

theorem witness_RoundRobin :
    (∃ (f : SaFrame) (n core slot : Nat), (f.place n = some (core, slot))) ∧
    (∃ (f : SaFrame) (n : Nat), (getF f.cfg fSA_STR_CFG_CORES ≠ 0)) ∧
    (∃ (s t : State) (k : Nat) (f : SaFrame) (j : Nat), (s.saSlotFor k f j = (t, true))) :=
  ⟨⟨{ tSaFrame false with cfg := setF 0 fSA_STR_CFG_CORES 0x2C }, 7, _, _, by exact rfl⟩,
   ⟨{ tSaFrame false with cfg := setF 0 fSA_STR_CFG_CORES 0x2C }, 7, by decide +kernel⟩,
   ⟨tSlot 1, _, 8, { tSaFrame false with cfg := setF (setF 0 fSA_STR_CFG_CORES 4) fSA_STR_CFG_NSLOT_M1 1, first := 1 }, 0, by exact rfl⟩⟩

theorem witness_DuplicateTag :
    (∃ (s : State) (h : CmdHeader) (c : Instr) (spec : CmdSpec) (op : Nat) (o : Outstanding) (t : State), (spec.op = op) ∧ (s.host.releasing ≠ some h.tag) ∧ (s.hostReady = true) ∧ (cmdHeaderOk h op = true) ∧ (h.rsv = 0) ∧ (s.outstandingTag h.tag = some o) ∧ (t = (s.inUse).reply { opcode := opField h op, tag := h.tag, status := 0x0B, dup := true })) ∧
    (∃ (s : State) (h : CmdHeader) (o : Outstanding) (t : State), (s.host.releasing ≠ some h.tag) ∧ (s.hostReady = true) ∧ (cmdHeaderOk h 0 = true) ∧ (h.rsv = 0) ∧ (s.outstandingTag h.tag = some o) ∧ (t = (s.inUse).reply { opcode := opField h 0, tag := h.tag, status := 0x0B, dup := true })) :=
  ⟨⟨tAbort, (tDupHdr 0), (.ping (tDupHdr 0)), { op := 0, run := fun s => cmdOk s [] }, 0, tOut, _, by exact ⟨rfl, by decide +kernel, by decide +kernel, by decide +kernel, by decide +kernel, by decide +kernel, rfl⟩⟩,
   ⟨tAbort, tDupHdr 0, tOut, _, by exact ⟨by decide +kernel, by decide +kernel, by decide +kernel, by decide +kernel, by decide +kernel, rfl⟩⟩⟩

end Sys2Proof
end

section
/-!
O38: what each access code (R6) does to one bit of a register that is written.
-/
namespace Sys2Proof.Machine

/-- A write of a register, bit by bit: the writable bits of the mask take the value, a 1 clears the W1C bits, and a 1 sets the
W1S bits. -/
theorem RegRow.merge_getLsbD (r : RegRow) (lock : Bool) (old mask v : Word) {k : Nat} (hk : k < 32) :
    (r.merge lock old mask v).getLsbD k =
      ((if mask.getLsbD k && (r.maskOf (if lock then [.rw, .wo] else [.rw, .wo, .rwl])).getLsbD k
          then v.getLsbD k else old.getLsbD k) &&
        !(v.getLsbD k && mask.getLsbD k && (r.maskOf [.w1c]).getLsbD k) ||
        v.getLsbD k && mask.getLsbD k && (r.maskOf [.w1s]).getLsbD k) := by
  unfold RegRow.merge
  simp only [BitVec.getLsbD_or, BitVec.getLsbD_and, BitVec.getLsbD_not, hk, decide_true, Bool.true_and]
  generalize (r.maskOf (if lock then [.rw, .wo] else [.rw, .wo, .rwl])).getLsbD k = set
  cases mask.getLsbD k <;> cases set <;> simp

/-- A bit outside the mask of a write stays. -/
theorem RegRow.merge_outside (r : RegRow) (lock : Bool) (old mask v : Word) {k : Nat} (hk : k < 32)
    (hm : mask.getLsbD k = false) : (r.merge lock old mask v).getLsbD k = old.getLsbD k := by
  simp [r.merge_getLsbD lock old mask v hk, hm]

/-- Settles O38: each clause reads the one equation for a written bit at the access code that the bit has. -/
theorem accessCodes : Obligations.AccessCodes := by
  unfold Obligations.AccessCodes
  refine ⟨?writable, ?readOnly, ?w1c, ?w1s, fun r lock old mask v k hk hm => r.merge_outside lock old mask v hk hm⟩
  all_goals
    intro r lock old mask v k hm hset hc hs
    rw [r.merge_getLsbD lock old mask v (BitVec.lt_of_getLsbD hm), hm, hset, hc, hs]
    simp

end Sys2Proof.Machine
end

section
/-!
O37: what a register access by address answers (R5, R6, R13, R14, R19, R33, R204), branch by branch, and how the commands that
access a register note the answer.
-/
namespace Sys2Proof.Machine

/-! ### How an answer is noted -/

theorem State.noteBus_ok (s t : State) (w : Word) (held : Option HeldAccess) :
    s.noteBus (.ok w, t) held = { t with host := { t.host with busData := w, busError := false } } := rfl

theorem State.noteBus_error (s t : State) (held : Option HeldAccess) :
    s.noteBus (.error, t) held = { t with host := { t.host with busData := 0, busError := true } } := rfl

/-- R19: an access that waits for the switch of an index is held. -/
theorem State.noteBus_waits {s : State} {b : Nat} (hsw : s.switching = some b) (t : State) (x : HeldAccess) :
    s.noteBus (.waits, t) (some x) = { s with waiting := s.waiting ++ [x] } := by
  simp [State.noteBus, hsw]

/-! ### Writes -/

section
variable {s : State} {x : Agent} {a : Nat} {mask v : Word} {p : Spot} {r : RegRow}

theorem State.regWrite_outside (h : s.spot x a = none) : s.regWrite x a mask v = (.error, s) := by
  simp [State.regWrite, h]

theorem State.regWrite_switching (h : s.spot x a = some p) (hsw : s.switching = some p.blk) :
    s.regWrite x a mask v = (.waits, s) := by
  simp [State.regWrite, h, hsw]

theorem State.regWrite_sealed (h : s.spot x a = some p) (hsw : s.switching ≠ some p.blk) (hi : p.imem = true)
    (hl : bitOf (s.fld (rCORE_IMEM_LOCK p.p) fCORE_IMEM_LOCK_LOCK) ((p.o - 0x80000) / 0x4000) = true) :
    s.regWrite x a mask v = (.error, s) := by
  simp [State.regWrite, h, hsw, hi, hl]

theorem State.regWrite_unlisted (h : s.spot x a = some p) (hsw : s.switching ≠ some p.blk) (hi : p.imem = false)
    (he : p.embedded = false) (hr : regRow (blkBase p.blk + p.o) = none) : s.regWrite x a mask v = (.ok 0, s) := by
  simp [State.regWrite, h, hsw, hi, he, hr]

theorem State.regWrite_listed (h : s.spot x a = some p) (hsw : s.switching ≠ some p.blk) (hi : p.imem = false)
    (he : p.embedded = false) (hr : regRow (blkBase p.blk + p.o) = some r) :
    s.regWrite x a mask v =
      (.ok 0, if s.writeIgnored x p then s else (s.noteOverride p.a).regStore x p r mask v) := by
  simp [State.regWrite, h, hsw, hi, he, hr]

/-! ### Reads -/

theorem State.regRead_outside (h : s.spot x a = none) : s.regRead x a mask = (.error, s) := by
  simp [State.regRead, h]

theorem State.regRead_switching (h : s.spot x a = some p) (hsw : s.switching = some p.blk) :
    s.regRead x a mask = (.waits, s) := by
  simp [State.regRead, h, hsw]

/-- R6, R33: a read of a listed register that is neither of the two that wait for an answer. -/
theorem State.regRead_listed (h : s.spot x a = some p) (hsw : s.switching ≠ some p.blk) (hi : p.imem = false)
    (he : p.embedded = false) (hr : regRow (blkBase p.blk + p.o) = some r)
    (hw : p.blk < 9 → p.a ≠ rCORE_BAR_WAIT p.p ∧ p.a ≠ rSTRIPE_NEXT0 p.p) :
    s.regRead x a mask =
      (.ok (s.regView x p &&& ~~~(r.maskOf [.wo, .cmd])),
        (s.clearRc x p.a (s.regView x p &&& ~~~(r.maskOf [.wo, .cmd])) mask r).latchHi p.a) := by
  have hbar : ¬ (p.blk < 9 ∧ p.a = rCORE_BAR_WAIT p.p) := fun c => (hw c.1).1 c.2
  have hpop : ¬ (p.blk < 9 ∧ p.a = rSTRIPE_NEXT0 p.p ∧ mask &&& 0xFFFF ≠ 0 ∧ (agentProgram x).isSome) :=
    fun c => (hw c.1).2 c.2.1
  simp only [State.regRead, h, hsw, hi, he, hr, if_false, Bool.false_eq_true, if_neg hbar, if_neg hpop]

end

/-! ### The commands -/

theorem exec_registerWrite_noteBus (x : Agent) (a : BitVec 40) (v : Word) (s : State) :
    exec (.registerWrite x a v) s = .next (s.noteBus (s.regWrite x a.toNat 0xFFFFFFFF v) (some ⟨true, a.toNat, v⟩)) := by
  rw [exec_registerWrite, execRegisterWrite]

theorem exec_rcCounterRead_noteBus (x : Agent) (a : BitVec 40) (s : State) :
    exec (.rcCounterRead x a) s = .next (s.noteBus (s.regRead x a.toNat 0xFFFFFFFF) (some ⟨false, a.toNat, 0⟩)) := by
  rw [exec_rcCounterRead, execRcCounterRead]

/-- A read of the low word of a time is a read like any other: what it latches is decided by the address (R33). -/
theorem exec_loLatchRead_eq_rcCounterRead (x : Agent) (a : BitVec 40) (s : State) :
    exec (.loLatchRead x a) s = exec (.rcCounterRead x a) s := by
  rw [exec_loLatchRead, exec_rcCounterRead, execLoLatchRead, execRcCounterRead]

theorem exec_rcCounterRead_outside {s : State} {x : Agent} {a : BitVec 40} (h : s.spot x a.toNat = none) :
    exec (.rcCounterRead x a) s = .next { s with host := { s.host with busData := 0, busError := true } } := by
  rw [exec_rcCounterRead_noteBus, State.regRead_outside h, State.noteBus_error]

theorem exec_rcCounterRead_switching {s : State} {x : Agent} {a : BitVec 40} {p : Spot}
    (h : s.spot x a.toNat = some p) (hsw : s.switching = some p.blk) :
    exec (.rcCounterRead x a) s = .next { s with waiting := s.waiting ++ [⟨false, a.toNat, 0⟩] } := by
  rw [exec_rcCounterRead_noteBus, State.regRead_switching h hsw, State.noteBus_waits hsw]

theorem exec_rcCounterRead_listed {s t u : State} {x : Agent} {a : BitVec 40} {p : Spot} {r : RegRow} {w : Word}
    (h : s.spot x a.toNat = some p) (hsw : s.switching ≠ some p.blk) (hi : p.imem = false) (he : p.embedded = false)
    (hr : regRow (blkBase p.blk + p.o) = some r)
    (hwt : p.blk < 9 → p.a ≠ rCORE_BAR_WAIT p.p ∧ p.a ≠ rSTRIPE_NEXT0 p.p)
    (hw : w = s.regView x p &&& ~~~(r.maskOf [.wo, .cmd])) (ht : t = s.clearRc x p.a w 0xFFFFFFFF r)
    (hu : u = t.latchHi p.a) :
    exec (.rcCounterRead x a) s = .next { u with host := { u.host with busData := w, busError := false } } := by
  subst hu ht hw
  rw [exec_rcCounterRead_noteBus, State.regRead_listed h hsw hi he hr hwt, State.noteBus_ok]

/-- Settles O37: the lemma of the branch that the access takes, and how its answer is noted; the two reads are one. -/
theorem registerAccess : Obligations.RegisterAccess := by
  unfold Obligations.RegisterAccess
  simp only [exec_loLatchRead_eq_rcCounterRead]
  refine ⟨?outside, ?stored, ?ignored, ?unlisted, ?sealed, ?switching,
    fun _ _ _ => exec_rcCounterRead_outside,
    fun _ _ _ _ _ _ _ _ => exec_rcCounterRead_listed,
    fun _ _ _ _ => exec_rcCounterRead_switching,
    fun _ _ _ => exec_rcCounterRead_outside,
    fun _ _ _ _ _ _ _ _ => exec_rcCounterRead_listed,
    fun _ _ _ _ => exec_rcCounterRead_switching⟩
  case outside =>
    intro s x a v h
    rw [exec_registerWrite_noteBus, State.regWrite_outside h, State.noteBus_error]
  case stored =>
    intro s u x a v p r h hsw hi he hr hig hu
    rw [exec_registerWrite_noteBus, State.regWrite_listed h hsw hi he hr, State.noteBus_ok, hig,
      if_neg Bool.false_ne_true, hu]
  case ignored =>
    intro s x a v p r h hsw hi he hr hig
    rw [exec_registerWrite_noteBus, State.regWrite_listed h hsw hi he hr, State.noteBus_ok, if_pos hig]
  case unlisted =>
    intro s x a v p h hsw hi he hr
    rw [exec_registerWrite_noteBus, State.regWrite_unlisted h hsw hi he hr, State.noteBus_ok]
  case sealed =>
    intro s x a v p h hsw hi hl
    rw [exec_registerWrite_noteBus, State.regWrite_sealed h hsw hi hl, State.noteBus_error]
  case switching =>
    intro s x a v p h hsw
    rw [exec_registerWrite_noteBus, State.regWrite_switching h hsw, State.noteBus_waits hsw]

end Sys2Proof.Machine
end

section
/-!
O48: the host's fabric and service commands (R379, R381). Each is `command_ok` at the command's own result.
-/
namespace Sys2Proof.Machine

/-- A legality test that holds is neither illegal nor clamped. -/
theorem fieldIs_clear {ok : Bool} (h : ok = true) : (!(fieldIs ok).bad && (fieldIs ok).clamp.isNone) = true := by
  subst h; rfl

/-- R379: a numeric field within its range is neither illegal nor clamped. -/
theorem fieldIn_clear {k v lo hi : Nat} (h1 : lo ≤ v) (h2 : v ≤ hi) :
    (!(fieldIn k v lo hi).bad && (fieldIn k v lo hi).clamp.isNone) = true := by
  unfold fieldIn
  rw [if_neg (Nat.not_lt.mpr h1), if_neg (Nat.not_lt.mpr h2)]
  rfl

theorem exec_fabricStatus_ok {s t u : State} {h : CmdHeader} (ha : s.accepts h 0x800 [] = true)
    (ht : t = s.accepted h 0x800 1000000 [])
    (hu : u = t.gather ((List.range 6).flatMap (fun l => (linkCounters l).map (·.1))).eraseDups) :
    exec (.fabricStatus h) s = .next (u.cmdReply h 0x800 0 []
      ((List.range 6).flatMap (fun l => [u.linkSt l, u.fld (rEPL_STAT l) fEPL_STAT_PEER_MOD] ++
          (linkCounters l).map (fun x => u.total x.1 x.2)) ++
        (List.range 24).map (fun d => u.fld (rEPL_ROUTE d) fEPL_ROUTE_LINK) ++
        [u.fld rCUE_STATUS fCUE_STATUS_MASTER, u.fld rCUE_STATUS fCUE_STATUS_HOPS, u.time.sync.parent.getD 7])) := by
  subst ht
  rw [exec_fabricStatus, execFabricStatus]
  refine command_ok ha ?_ ?_
  · simp only [List.all_nil]
  · dsimp only
    rw [← hu, cmdOk]

theorem exec_linkReset_ok {s t : State} {h : CmdHeader} {l : Nat} (ha : s.accepts h 0x801 [oLink l] = true)
    (ht : t = s.accepted h 0x801 1000000 [oLink l]) (hl : l < 6) :
    exec (.linkReset h l) s =
      .next ((if t.linkSt l = 0 ∨ t.linkSt l = 5 then t else t.linkReset l 4).cmdReply h 0x801 0 [] []) := by
  subst ht
  rw [exec_linkReset, execLinkReset]
  refine command_ok ha ?_ rfl
  simp [fieldIs_clear (decide_eq_true hl)]

theorem exec_regRead_ok {s t u : State} {h : CmdHeader} {d n : Nat} {l : List Nat} (ha : s.accepts h 0xF00 [] = true)
    (ht : t = s.accepted h 0xF00 1000000 []) (hn : n ≤ 16384) (hl : t.wordsAt d n = (none, l, u)) :
    exec (.regRead h d n) s = .next (u.cmdReply h 0xF00 0 [] l) := by
  subst ht
  rw [exec_regRead, execRegRead]
  refine command_ok ha ?_ ?_
  · simp [fieldIn_clear (Nat.zero_le n) hn]
  · dsimp only
    rw [Nat.min_eq_left hn, hl]
    rfl

theorem exec_regWrite_ok {s t u : State} {h : CmdHeader} {d v m : Nat} {x w : Word} (ha : s.accepts h 0xF01 [] = true)
    (ht : t = s.accepted h 0xF01 1000000 []) (hv : v < 2 ^ 32) (hm : m < 2 ^ 32) (hx : (t.wordAt d).1 = .ok x)
    (hu : t.wordSet d (BitVec.ofNat 32 m) (BitVec.ofNat 32 v) x = (.ok w, u)) :
    exec (.regWrite h d v m) s = .next (u.cmdReply h 0xF01 0 [] [x.toNat]) := by
  subst ht
  have hv' : v ≤ 2 ^ 32 - 1 := Nat.le_sub_one_of_lt hv
  have hm' : m ≤ 2 ^ 32 - 1 := Nat.le_sub_one_of_lt hm
  rw [exec_regWrite, execRegWrite]
  refine command_ok ha ?_ ?_
  · simp only [List.all_cons, List.all_nil, fieldIn_clear (Nat.zero_le v) hv', fieldIn_clear (Nat.zero_le m) hm',
      Bool.and_true]
  · dsimp only
    rw [hx]
    dsimp only
    rw [Nat.min_eq_left hm', Nat.min_eq_left hv', hu]
    rfl

theorem exec_fenceUnit_ok {s t : State} {h : CmdHeader} {n o : Nat} (ha : s.accepts h 0xF02 [] = true)
    (ht : t = s.accepted h 0xF02 1000000 []) (hn : (blockRows n).isEmpty = false) (ho : o ≤ 1) :
    exec (.fenceUnit h n o) s = .next ((if o = 1 then t.fence n else t.unfence n).cmdReply h 0xF02 0 [] []) := by
  subst ht
  have hunit : (!(blockRows n).isEmpty || decide (0x3100 ≤ n ∧ n < 0x3110)) = true := by rw [hn]; rfl
  rw [exec_fenceUnit, execFenceUnit]
  refine command_ok ha ?_ rfl
  simp only [List.all_cons, List.all_nil, fieldIs_clear hunit, fieldIs_clear (decide_eq_true ho), Bool.and_true]

/-- Settles O48, command by command. -/
theorem hostFabricAndServiceCommands : Obligations.HostFabricAndServiceCommands := by
  unfold Obligations.HostFabricAndServiceCommands
  exact ⟨fun _ _ _ _ => exec_fabricStatus_ok,
    fun _ _ _ _ => exec_linkReset_ok,
    fun _ _ _ _ _ _ _ => exec_regRead_ok,
    fun _ _ _ _ _ _ _ _ _ => exec_regWrite_ok,
    fun _ _ _ _ _ => exec_fenceUnit_ok⟩

end Sys2Proof.Machine
end

section
/-!
O11: remote accesses (R12, R215, R216, R217). A requester that waits obtains a free tag, an access is performed at its target,
a store is acknowledged, and a bundle takes effect once every one of its accesses has been answered.
-/
namespace Sys2Proof.Machine

/-! ### Tags -/

section
variable {s : State} {r : Fin 15}

/-- R12: the requester that obtains a tag issues its oldest request that lacks one. -/
theorem exec_tagWaitIssue_request {x : RemoteAccess} (hw : 0 < (s.tag r.val).waiting)
    (hh : (s.tag r.val).held < (s.tag r.val).share)
    (hx : s.remotes.find? (fun (x : RemoteAccess) => x.slot == r.val && x.untagged) = some x) :
    exec (.tagWaitIssue r) s =
      .next { s.setTag r.val { s.tag r.val with
          held := (s.tag r.val).held + 1
          waiting := (s.tag r.val).waiting - 1 } with
        remotes := s.remotes.map (fun (y : RemoteAccess) => if y.id = x.id then { y with untagged := false } else y) } := by
  rw [exec_tagWaitIssue, execTagWaitIssue]
  dsimp only
  rw [if_pos ⟨hw, hh⟩, State.setTag_remotes, hx]

/-- R12: a requester with no remote access that lacks a tag obtains one all the same. -/
theorem exec_tagWaitIssue_noRequest (hw : 0 < (s.tag r.val).waiting) (hh : (s.tag r.val).held < (s.tag r.val).share)
    (hx : s.remotes.find? (fun (x : RemoteAccess) => x.slot == r.val && x.untagged) = none) :
    exec (.tagWaitIssue r) s =
      .next (s.setTag r.val { s.tag r.val with
        held := (s.tag r.val).held + 1
        waiting := (s.tag r.val).waiting - 1 }) := by
  rw [exec_tagWaitIssue, execTagWaitIssue]
  dsimp only
  rw [if_pos ⟨hw, hh⟩, State.setTag_remotes, hx]

end

/-! ### A task context after a write to a register -/

@[simp] theorem State.setReg_ctx (s : State) (a : Nat) (w : Word) (p c : Nat) : (s.setReg a w).ctx p c = s.ctx p c := rfl

@[simp] theorem State.setFld_ctx (s : State) (a : Nat) (f : Fld) (v p c : Nat) : (s.setFld a f v).ctx p c = s.ctx p c := rfl

/-! ### Accesses and acknowledgements -/

theorem exec_remoteAccessArrive_first {s : State} {id : Nat} {r : RemoteAccess}
    (hr : s.remotes.find? (fun (r : RemoteAccess) => r.id == id) = some r) (ha : r.answered = false)
    (hu : r.untagged = false) (hf : s.remoteFirst r = true) :
    exec (.remoteAccessArrive id) s = .next (s.arriveRemote r) := by
  rw [exec_remoteAccessArrive, execRemoteAccessArrive, hr]
  dsimp only
  rw [if_neg (by simp [ha, hu, hf])]

/-- R216: the remote access `id` has left, and its requester's tag is free. -/
def State.leaveRemote (s : State) (id : Nat) (r : RemoteAccess) : State :=
  ({ s with remotes := s.remotes.filter (fun (x : RemoteAccess) => x.id != id) }).freeTag r.slot

/-- R216: a posted store fewer is counted for physical core `p`. -/
def State.unpost (s : State) (p : Nat) : State :=
  s.setFld (rCORE_RWIN_STAT p) fCORE_RWIN_STAT_POSTED (s.fld (rCORE_RWIN_STAT p) fCORE_RWIN_STAT_POSTED - 1)

section
variable {s : State} {id : Nat} {r : RemoteAccess}

theorem exec_remoteStoreAck_written (hr : s.remotes.find? (fun (r : RemoteAccess) => r.id == id) = some r)
    (hop : r.op = .store) (ha : r.answered = true) (hf : r.failed = false) :
    exec (.remoteStoreAck id) s = .next ((s.leaveRemote id r).unpost (s.phys r.slot)) := by
  rw [exec_remoteStoreAck, execRemoteStoreAck, hr]
  dsimp only
  rw [if_pos ⟨hop, ha⟩, if_neg (by simp [hf])]
  rfl

/-- R216: the error of a posted store sets PERR, latches the DPA and marks the context that stored. -/
theorem exec_remoteStoreAck_failed (hr : s.remotes.find? (fun (r : RemoteAccess) => r.id == id) = some r)
    (hop : r.op = .store) (ha : r.answered = true) (hf : r.failed = true) :
    exec (.remoteStoreAck id) s =
      .next ((((((s.leaveRemote id r).unpost (s.phys r.slot)).setFld (rCORE_RWIN_STAT (s.phys r.slot))
          fCORE_RWIN_STAT_PERR 1).setReg (rCORE_RWIN_ERR_LO (s.phys r.slot)) (BitVec.ofNat 32 r.dpa)).setReg
          (rCORE_RWIN_ERR_HI (s.phys r.slot)) (BitVec.ofNat 32 (r.dpa / 2 ^ 32))).setCtx (s.phys r.slot) r.ctx
        { (s.leaveRemote id r).ctx (s.phys r.slot) r.ctx with perr := true }) := by
  rw [exec_remoteStoreAck, execRemoteStoreAck, hr]
  dsimp only
  rw [if_pos ⟨hop, ha⟩, if_pos hf]
  simp only [State.setReg_ctx, State.setFld_ctx]
  rfl

end

/-! ### Answers -/

/-- R215, R217: what the bundle of context `c` does once the accesses `mine` have been answered: the first one that failed
traps, and with none the bundle finishes with the answers. -/
def State.takeAnswers (b p c : Nat) (mine : List RemoteAccess) (t : State) (y : VppCtx) (ops : List VppOp) : State :=
  match (List.range mine.length).find? (fun k => ((mine[k]?).map (·.failed)).getD false) with
  | some k => t.trap p c 0x23 (((((ops.flatMap (t.accsOf b p y)).filter Hop.farRead)[k]?).map (·.addr))) none
  | none => t.finish b p c y (mine.map (·.answer)) ops

theorem exec_remoteLoadReturn_answered {s u : State} {b : Fin 9} {c : Fin 4} {x : VppCtx} {mine : List RemoteAccess}
    (hx : x = s.ctx (s.phys b.val) c.val) (hstall : x.stall ≠ [])
    (hmine : mine = s.remotes.filter (fun r => x.stall.contains r.id)) (hlen : mine.length = x.stall.length)
    (hall : mine.all (fun r => r.answered) = true)
    (hu : u = { (x.stall.foldl (fun (t : State) _ => t.freeTag b.val) s) with
      remotes := (x.stall.foldl (fun (t : State) _ => t.freeTag b.val) s).remotes.filter
        (fun r => !x.stall.contains r.id) }) :
    exec (.remoteLoadReturn b c) s =
      .next ((u.setCtx (s.phys b.val) c.val { x with stall := [] }).decodeAt b.val (s.phys b.val) c.val
        (State.takeAnswers b.val (s.phys b.val) c.val mine)) := by
  have hempty : ¬ (x.stall.isEmpty = true) := by simpa using hstall
  have hready : ¬ (mine.length ≠ x.stall.length ∨ mine.any (fun r => !r.answered) = true) := by
    simpa [hlen] using hall
  subst hu hmine hx
  rw [exec_remoteLoadReturn, execRemoteLoadReturn]
  dsimp only
  rw [if_neg hempty, if_neg hready]
  rfl

/-- Settles O11, command by command. -/
theorem remoteCommands : Obligations.RemoteCommands := by
  unfold Obligations.RemoteCommands
  refine ⟨fun _ _ _ => exec_tagWaitIssue_request, fun _ _ => exec_tagWaitIssue_noRequest,
    fun _ _ _ => exec_remoteAccessArrive_first, ?written, ?failed, ?answered⟩
  case written =>
    intro s id r hr hop ha hf
    exact ⟨_, exec_remoteStoreAck_written hr hop ha hf, rfl, rfl, sameRegs_setFld _ _ _ _, rfl⟩
  case failed =>
    rintro s _ id r hr hop ha hf rfl
    exact exec_remoteStoreAck_failed hr hop ha hf
  case answered =>
    intro s b c mine u hstall hmine hlen hall hu
    exact exec_remoteLoadReturn_answered rfl hstall hmine hlen hall hu

end Sys2Proof.Machine
end

section
/-!
O40: planned swaps and the replacement of a failed core (R19, R456 to R458, R460, R461), the analogue checks that run alongside
(R467) and the patrol scrub of DDR4 (R466). Each command has a lemma for each of its branches.
-/
namespace Sys2Proof.Machine

/-! ### Planned swaps -/

theorem exec_plannedSwap_quiesces {s : State} {x : Swap} (hx : s.reh.swap = some x) (hp : x.phase = 1)
    (hs : s.awake = true) : exec .plannedSwap s = .next (s.swapQuiesce x) := by
  rw [exec_plannedSwap, execPlannedSwap, hx]
  dsimp only
  rw [if_pos ⟨hp, hs⟩]

theorem exec_plannedSwap_starts {s : State} {b : Nat} (hx : s.reh.swap = none) (hs : s.awake = true)
    (hn : s.reh.swaps < 8)
    (hd : s.reh.rotStart * 9 + s.fld rREH_CTL fREH_CTL_ROT_HOURS * (s.reh.swaps + 1) ≤ s.sec.activeHours * 9)
    (hh : s.spareHealthy = true) (hsl : s.reh.slice = none) (hp : s.flag rREH_CTL fREH_CTL_PAUSE = false)
    (hb : s.swapChoice = some b) :
    exec .plannedSwap s = .next (State.swapStart { s with reh := { s.reh with swaps := s.reh.swaps + 1 } } b) := by
  rw [exec_plannedSwap, execPlannedSwap, hx]
  dsimp only
  rw [if_pos ⟨hs, decide_eq_true ⟨hn, hd⟩, hh, by rw [hsl]; rfl, by rw [hp]; rfl⟩, hb]

theorem exec_swapQuiesceTimeout_late {s t u : State} {x : Swap} {n : Nat} (hx : s.reh.swap = some x)
    (hp : x.phase = 1) (hl : x.since + 10000000 ≤ s.time.ns)
    (hn : n = Cells.get (fun _ => 0) s.reh.attempts x.logical + 1)
    (ht : t = { s with reh := { s.reh with
      swap := none
      attempts := Cells.set (fun _ => 0) s.reh.attempts x.logical n } })
    (hu : u = if x.halted = true then t else t.setFld (rVPP_CTL (s.phys x.logical)) fVPP_CTL_HALTED 0) :
    exec .swapQuiesceTimeout s = .next (if n = 3 then u.lichenFw 0x040B 0 2 0 0 else u) := by
  rw [exec_swapQuiesceTimeout, execSwapQuiesceTimeout, hx]
  dsimp only
  rw [if_pos ⟨hp, hl⟩, ← hn, ← ht, ← hu]

theorem exec_migrationDone_over {s t u v : State} {x : Swap} (hx : s.reh.swap = some x) (hp : x.phase = 2)
    (hl : x.since + s.migrationBytes (s.phys x.logical) / 64 + 2000 ≤ s.time.ns)
    (ht : t = s.migrate (s.phys x.logical) (s.phys 8))
    (hu : u = if x.halted = true then t else t.setFld (rVPP_CTL (s.phys 8)) fVPP_CTL_HALTED 0)
    (hv : v = ((u.switchIndex x.logical).count rREH_SWAP_CNT).setFld rREH_STAT fREH_STAT_STATE 0) :
    exec .migrationDone s =
      .next (v.lichenFw 0x0405 x.logical (s.phys x.logical) (s.phys 8) ((s.time.ns - x.since) / 1000)) := by
  rw [exec_migrationDone, execMigrationDone, hx]
  dsimp only
  rw [if_pos ⟨hp, hl⟩, ← ht, ← hu, ← hv]

/-! ### Core replacement -/

/-- R460: every script with a context on logical core `b` faults. -/
def State.faultScriptsOf (s : State) (b : Nat) : State :=
  ((s.scripts.filter (fun (x : Nat × Script) => x.2.decl.cores.any (fun d => d.core == b))).map (·.1)).foldl
    (fun (t : State) n => t.scriptFault n (Config.haltCause 0) b) s

/-- The core of a planned swap under way runs again, unless it stood halted before the swap. -/
def State.resumeSwapped (s : State) : State :=
  match s.reh.swap with
  | some x => if x.halted = true then s else s.setFld (rVPP_CTL (s.phys x.logical)) fVPP_CTL_HALTED 0
  | none => s

section
variable {s : State} {b : Fin 8} {c : Fin 3}

theorem not_failureIgnored (hf : s.hasFailed b.val c.val = true) (hsw : s.switching = none) :
    ¬ ((!s.hasFailed b.val c.val) = true ∨ s.switching.isSome = true) := by
  simp [hf, hsw]

theorem exec_coreFailure_spare {t : State} (hf : s.hasFailed b.val c.val = true) (hsw : s.switching = none)
    (hh : s.spareHealthy = true)
    (ht : t = State.resumeSwapped (if (s.faultScriptsOf b.val).reh.slice.any (fun x => decide (x.block < 4096)) = true
      then (s.faultScriptsOf b.val).sliceAbort else s.faultScriptsOf b.val)) :
    exec (.coreFailure b c) s = .next { t with
      switching := some b.val
      reh := { t.reh with swap := some { logical := b.val, since := s.time.ns, phase := 3, cause := c.val } } } := by
  subst ht
  rw [exec_coreFailure, execCoreFailure, if_neg (not_failureIgnored hf hsw)]
  dsimp only
  rw [if_pos hh]
  rfl

theorem exec_coreFailure_noSpare (hf : s.hasFailed b.val c.val = true) (hsw : s.switching = none)
    (hh : s.spareHealthy = false) :
    exec (.coreFailure b c) s = .next (((s.faultScriptsOf b.val).fence b.val).lichenFw 0x0408 b.val 0 0 0) := by
  rw [exec_coreFailure, execCoreFailure, if_neg (not_failureIgnored hf hsw)]
  dsimp only
  rw [if_neg (by simp [hh])]
  rfl

end

theorem exec_coreIndexSwitch_drained {s t u v w : State} {x : Swap} (hx : s.reh.swap = some x) (hp : x.phase = 3)
    (hl : (s.flightTo x.logical).isEmpty = true ∨ x.since + 100000 ≤ s.time.ns)
    (ht : t = (s.flightTo x.logical).foldl (fun (t : State) r => t.answerRemote r.id false []) s)
    (hw : w = (t.clearCore (s.phys 8)).setReg (rCHAIN_CFG (s.phys 8)) (t.reg (rCHAIN_CFG (s.phys x.logical))))
    (hu : u = w.barArrive .prompter 31 (w.barGen 31))
    (hv : v = if u.barSt 31 = 1 then u.barRelease 31 false else u) :
    exec .coreIndexSwitch s = .next (State.lichenFw (State.unfence
      (((v.switchIndex x.logical).scripts.map (·.2)).foldl (fun (t : State) y => t.loadCode x.logical y)
        { v.switchIndex x.logical with chain := dropKey 1 (s.phys x.logical) v.chain }) x.logical)
      0x0406 x.logical (s.phys x.logical) (s.phys 8) (Config.replaceCause x.cause)) := by
  rw [exec_coreIndexSwitch, execCoreIndexSwitch, hx]
  dsimp only
  rw [if_pos ⟨hp, hl⟩, ← ht, ← hw, ← hu, ← hv]

/-! ### Analogue checks -/

theorem exec_dphyLoopback_errors {s : State} {p : Fin 12} {n : Nat} (hs : s.awake = true)
    (hb : (List.range 4).any (fun k => (s.stream (4 * p.val + k)).frame.isSome) = false) (hn : 0 < n) :
    exec (.dphyLoopback p n) s = .next (s.analogueFail 0 p.val n 0) := by
  rw [exec_dphyLoopback, execDphyLoopback]
  rw [if_pos ⟨hs, by rw [hb]; rfl, hn⟩]

theorem exec_eplPrbsLoopback_errors {s : State} {l : Fin 6} {n : Nat} (hs : s.awake = true)
    (hl : s.linkSt l.val = 0 ∨ s.flag (rEPL_CTL l.val) fEPL_CTL_EN = false) (hn : 0 < n) :
    exec (.eplPrbsLoopback l n) s = .next (s.analogueFail 1 l.val n (Config.analogueFigure 1)) := by
  have hfree : (s.linkSt l.val == 0 || !s.flag (rEPL_CTL l.val) fEPL_CTL_EN) = true := by simpa using hl
  rw [exec_eplPrbsLoopback, execEplPrbsLoopback]
  rw [if_pos ⟨hs, hfree, hn⟩]

theorem exec_tempCrosscheck_sensors (s : State) :
    exec .tempCrosscheck s = .next ((List.range 2).foldl
      (fun (t : State) c => (t.clusterSensors c).foldl (fun (u : State) i => u.crossCheck c i) t) s) := by
  rw [exec_tempCrosscheck, execTempCrosscheck]

/-- R467: the two readings differ by `b - a`; they disagree where that is more than 2 % of their mean. -/
theorem exec_voltageCrosscheck_of_le {s : State} {a b : Nat} (h : a ≤ b) :
    exec (.voltageCrosscheck a b) s =
      .next (if a + b < (b - a) * 100 then s.analogueFail 4 0 (b - a) (Config.analogueFigure 4) else s) := by
  have hd : (if a < b then b - a else a - b) = b - a := by split <;> omega
  rw [exec_voltageCrosscheck, execVoltageCrosscheck]
  rw [hd]

/-! ### Patrol scrub -/

section
variable {s : State} {l : Fin 1073741824} {f : Fin 32768}

theorem exec_ddr4PatrolScrub_double (hs : s.awake = true) (hd : s.eccDouble (64 * l.val) 64 = true) :
    exec (.ddr4PatrolScrub l f) s =
      .next ((s.noteEcc (64 * l.val) true).scrubRetire (64 * l.val / 2 ^ 21) f.val) := by
  rw [exec_ddr4PatrolScrub, execDdr4PatrolScrub]
  dsimp only
  rw [if_neg (by simp [hs]), if_pos hd]

theorem exec_ddr4PatrolScrub_clean (hs : s.awake = true) (hd : s.eccDouble (64 * l.val) 64 = false)
    (he : (s.eccSingles (64 * l.val) 64).isEmpty = true) : exec (.ddr4PatrolScrub l f) s = .next s := by
  rw [exec_ddr4PatrolScrub, execDdr4PatrolScrub]
  dsimp only
  rw [if_neg (by simp [hs]), if_neg (by simp [hd]), if_pos he]

theorem exec_ddr4PatrolScrub_singles {t : State} {all : List Nat} (hs : s.awake = true)
    (hd : s.eccDouble (64 * l.val) 64 = false) (he : (s.eccSingles (64 * l.val) 64).isEmpty = false)
    (ht : t = { s with ecc := s.ecc.filter (fun (x : Nat × Nat) => !((s.eccSingles (64 * l.val) 64).contains x.1)) })
    (ha : all = Cells.get (fun _ => []) t.reh.scrub (64 * l.val / 2 ^ 21) ++ (s.eccSingles (64 * l.val) 64).filter
      (fun a => !((Cells.get (fun _ => []) t.reh.scrub (64 * l.val / 2 ^ 21)).contains a))) :
    exec (.ddr4PatrolScrub l f) s = .next (if 3 ≤ all.length then t.scrubRetire (64 * l.val / 2 ^ 21) f.val
      else { t with reh := { t.reh with
        scrub := Cells.set (fun _ => []) t.reh.scrub (64 * l.val / 2 ^ 21) all } }) := by
  subst ha ht
  rw [exec_ddr4PatrolScrub, execDdr4PatrolScrub]
  dsimp only
  rw [if_neg (by simp [hs]), if_neg (by simp [hd]), if_neg (by simp [he])]
  exact (apply_ite Host.Outcome.next _ _ _).symm

end

/-- Settles O40, command by command. -/
theorem swapsAndReplacements : Obligations.SwapsAndReplacements := by
  unfold Obligations.SwapsAndReplacements
  refine ⟨fun _ _ => exec_plannedSwap_quiesces, fun _ _ => exec_plannedSwap_starts,
    fun _ _ _ _ _ => exec_swapQuiesceTimeout_late, fun _ _ _ _ _ => exec_migrationDone_over, ?spare, ?noSpare,
    ?indexSwitch, fun _ _ _ => exec_dphyLoopback_errors, fun _ _ _ => exec_eplPrbsLoopback_errors,
    exec_tempCrosscheck_sensors, fun _ _ _ => exec_voltageCrosscheck_of_le,
    fun _ _ _ => exec_ddr4PatrolScrub_double, fun _ _ _ => exec_ddr4PatrolScrub_clean,
    fun _ _ _ _ _ => exec_ddr4PatrolScrub_singles⟩
  case spare =>
    rintro s _ _ v b c hf hsw rfl hh rfl hv
    exact exec_coreFailure_spare hf hsw hh hv
  case noSpare =>
    rintro s _ b c hf hsw rfl hh
    exact exec_coreFailure_noSpare hf hsw hh
  case indexSwitch =>
    rintro s t u _ x hx hp hl ht hu rfl
    exact exec_coreIndexSwitch_drained hx hp hl ht rfl hu rfl

end Sys2Proof.Machine
end

section
/-!
O55: cue time never goes back (R28, R29, R37). Every command but a power-on reset keeps what `Keeps` lists, and so does a step
that runs such a command or lets time pass.
-/
namespace Sys2Proof.Machine

/-- Every command but a power-on reset keeps the queue, the canonical form, cue time and the fuses. -/
theorem keeps_exec {s0 s : State} {i : Instr} (hi : i ≠ .powerOnReset) (h : Keeps s0 s) : KeepsOut s0 (exec i s) :=
  match i with
  | .registerWrite _ _ _ => keeps_execRegisterWrite h
  | .rcCounterRead _ _ => keeps_execRcCounterRead h
  | .tagWaitIssue _ => keeps_execTagWaitIssue h
  | .coreIndexSwitch => keeps_execCoreIndexSwitch h
  | .aonTick => keeps_execAonTick h
  | .cueTrimStep => keeps_execCueTrimStep h
  | .cueSlewStep => keeps_execCueSlewStep h
  | .cueHandoverWake => keeps_execCueHandoverWake h
  | .cueHandoverSleep => keeps_execCueHandoverSleep h
  | .ppsEdge _ => keeps_execPpsEdge h
  | .ppsTimeout => keeps_execPpsTimeout h
  | .timeSyncTimer => keeps_execTimeSyncTimer h
  | .timeHoldEnd => keeps_execTimeHoldEnd h
  | .cueqPush _ _ => keeps_execCueqPush h
  | .cueqFlush _ => keeps_execCueqFlush h
  | .cueqResume _ => keeps_execCueqResume h
  | .cuePrewake _ => keeps_execCuePrewake h
  | .cueLate _ => keeps_execCueLate h
  | .nop _ => keeps_execNop h
  | .dmaLaunch _ => keeps_execDmaLaunch h
  | .frondJob _ => keeps_execFrondJob h
  | .taskStart _ => keeps_execTaskStart h
  | .vppInt _ => keeps_execVppInt h
  | .barrierRelease => keeps_execBarrierRelease h
  | .nocWindowOpen => keeps_execNocWindowOpen h
  | .nocWindowClose => keeps_execNocWindowClose h
  | .fsyncPulse _ => keeps_execFsyncPulse h
  | .fsyncPulseEnd _ => keeps_execFsyncPulseEnd h
  | .sensorWrite _ => keeps_execSensorWrite h
  | .ispApply _ => keeps_execIspApply h
  | .wingsApply _ => keeps_execWingsApply h
  | .wake => keeps_execWake h
  | .hostEvent => keeps_execHostEvent h
  | .wingsCommitDeadline _ => keeps_execWingsCommitDeadline h
  | .frondJobQWrite _ _ => keeps_execFrondJobQWrite h
  | .frondJobStart _ => keeps_execFrondJobStart h
  | .frondRtPreempt _ => keeps_execFrondRtPreempt h
  | .frondWeightBlockLoad _ => keeps_execFrondWeightBlockLoad h
  | .frondPassStart _ => keeps_execFrondPassStart h
  | .frondJobComplete _ => keeps_execFrondJobComplete h
  | .frondBusError _ => keeps_execFrondBusError h
  | .frondFlush _ => keeps_execFrondFlush h
  | .frondResume _ => keeps_execFrondResume h
  | .vppStart _ => keeps_execVppStart h
  | .vppHalt _ => keeps_execVppHalt h
  | .vppIntSet _ _ => keeps_execVppIntSet h
  | .vppBundleIssue _ => keeps_execVppBundleIssue h
  | .vppInterruptEntry _ => keeps_execVppInterruptEntry h
  | .contextSwitchOut _ => keeps_execContextSwitchOut h
  | .contextWaitClear _ _ => keeps_execContextWaitClear h
  | .contextPreempt _ => keeps_execContextPreempt h
  | .vppDeadlineMiss _ _ => keeps_execVppDeadlineMiss h
  | .prompterOpIssue _ => keeps_execPrompterOpIssue h
  | .remoteLoadReturn _ _ => keeps_execRemoteLoadReturn h
  | .remoteStoreAck _ => keeps_execRemoteStoreAck h
  | .remoteAccessArrive _ => keeps_execRemoteAccessArrive h
  | .ssInvalidateGo _ _ => keeps_execSsInvalidateGo h
  | .ssInvalidateDone _ => keeps_execSsInvalidateDone h
  | .cacheFill _ => keeps_execCacheFill h
  | .sbRegister _ _ _ _ => keeps_execSbRegister h
  | .sbRelease _ _ _ _ _ => keeps_execSbRelease h
  | .sbWaitClear _ => keeps_execSbWaitClear h
  | .sbTimeout _ _ => keeps_execSbTimeout h
  | .bankSwitchOff _ _ _ => keeps_execBankSwitchOff h
  | .powerDownWithdrawn _ _ _ => keeps_execPowerDownWithdrawn h
  | .bankPowerUpDone _ _ _ => keeps_execBankPowerUpDone h
  | .eccCorrectedWriteback => keeps_execEccCorrectedWriteback h
  | .dmaKick _ _ => keeps_execDmaKick h
  | .dmaDescFetch _ _ => keeps_execDmaDescFetch h
  | .dmaDescStart _ _ => keeps_execDmaDescStart h
  | .dmaShadowHandover _ _ => keeps_execDmaShadowHandover h
  | .dmaReadReturn _ _ _ => keeps_execDmaReadReturn h
  | .dmaWriteAck _ _ => keeps_execDmaWriteAck h
  | .dmaRingWriteback _ _ => keeps_execDmaRingWriteback h
  | .dmaCqRecordPost _ => keeps_execDmaCqRecordPost h
  | .dmaPostingResume _ _ => keeps_execDmaPostingResume h
  | .dmaPaceResume _ _ => keeps_execDmaPaceResume h
  | .dmaBusError _ _ => keeps_execDmaBusError h
  | .dmaPtWalk _ _ => keeps_execDmaPtWalk h
  | .dmaTranslationFault _ _ => keeps_execDmaTranslationFault h
  | .dmaResume _ _ => keeps_execDmaResume h
  | .dmaAbort _ _ => keeps_execDmaAbort h
  | .dmaAbortDone _ _ => keeps_execDmaAbortDone h
  | .dmaShadowSeal _ _ => keeps_execDmaShadowSeal h
  | .tvaInvalidate _ => keeps_execTvaInvalidate h
  | .tvaInvalidateDone => keeps_execTvaInvalidateDone h
  | .pageRetire _ _ => keeps_execPageRetire h
  | .dmaPost _ _ => keeps_execDmaPost h
  | .postTimeout _ => keeps_execPostTimeout h
  | .mailboxArrive _ => keeps_execMailboxArrive h
  | .mbxPop _ => keeps_execMbxPop h
  | .faultQueuePop => keeps_execFaultQueuePop h
  | .hqAlloc _ _ => keeps_execHqAlloc h
  | .hqPush _ _ _ => keeps_execHqPush h
  | .hqPop _ _ => keeps_execHqPop h
  | .hqFree _ _ => keeps_execHqFree h
  | .hqFill _ _ => keeps_execHqFill h
  | .barArrive _ _ _ => keeps_execBarArrive h
  | .barWait _ _ => keeps_execBarWait h
  | .barCountRelease _ => keeps_execBarCountRelease h
  | .barReset _ _ => keeps_execBarReset h
  | .barTimeout _ => keeps_execBarTimeout h
  | .chainTileArrive _ => keeps_execChainTileArrive h
  | .chainTileForward _ => keeps_execChainTileForward h
  | .chainWaitExpire _ => keeps_execChainWaitExpire h
  | .scriptFault _ => keeps_execScriptFault h
  | .auditRun => keeps_execAuditRun h
  | .auditRunNow => keeps_execAuditRunNow h
  | .portCfgApply _ => keeps_execPortCfgApply h
  | .deskewSequence _ => keeps_execDeskewSequence h
  | .hsBurstDiscard _ _ => keeps_execHsBurstDiscard h
  | .frameStart _ _ _ _ => keeps_execFrameStart h
  | .frameEnd _ _ _ _ => keeps_execFrameEnd h
  | .frameEndTimeout _ => keeps_execFrameEndTimeout h
  | .lineStart _ _ _ _ => keeps_execLineStart h
  | .imageLine _ _ _ _ _ _ => keeps_execImageLine h
  | .embeddedLine _ _ _ _ _ => keeps_execEmbeddedLine h
  | .watchEnable _ _ => keeps_execWatchEnable h
  | .i2cXfer _ _ => keeps_execI2cXfer h
  | .i2cListComplete _ _ _ => keeps_execI2cListComplete h
  | .i2cStuckTimeout _ _ => keeps_execI2cStuckTimeout h
  | .trigEdge _ _ _ => keeps_execTrigEdge h
  | .trigFsyncDelay _ => keeps_execTrigFsyncDelay h
  | .saRowWrite => keeps_execSaRowWrite h
  | .slotReady _ _ _ => keeps_execSlotReady h
  | .stripePop _ _ => keeps_execStripePop h
  | .stripeFb _ _ _ => keeps_execStripeFb h
  | .stripeXrel _ _ => keeps_execStripeXrel h
  | .stripeDone _ _ _ => keeps_execStripeDone h
  | .stripeDres _ _ => keeps_execStripeDres h
  | .stripeDrop _ => keeps_execStripeDrop h
  | .saStreamDisable _ => keeps_execSaStreamDisable h
  | .saStreamFlush _ => keeps_execSaStreamFlush h
  | .stripeCountPoll _ => keeps_execStripeCountPoll h
  | .eplGroupRx _ _ => keeps_execEplGroupRx h
  | .eplReplayTimeout _ => keeps_execEplReplayTimeout h
  | .eplTrailerTimeout _ => keeps_execEplTrailerTimeout h
  | .eplLinkReset _ => keeps_execEplLinkReset h
  | .eplTrainDone _ => keeps_execEplTrainDone h
  | .eplResetWrite _ => keeps_execEplResetWrite h
  | .eplWinLock _ => keeps_execEplWinLock h
  | .wr _ => keeps_execWr h
  | .rd _ => keeps_execRd h
  | .wrAck _ => keeps_execWrAck h
  | .rdData _ => keeps_execRdData h
  | .nb4Ann _ => keeps_execNb4Ann h
  | .nb4Data _ => keeps_execNb4Data h
  | .nb4Ctl _ => keeps_execNb4Ctl h
  | .tsSync _ => keeps_execTsSync h
  | .tsDreq _ => keeps_execTsDreq h
  | .tsDrsp _ => keeps_execTsDrsp h
  | .barArr _ => keeps_execBarArr h
  | .barRel _ => keeps_execBarRel h
  | .barBroken _ => keeps_execBarBroken h
  | .wingsRpt _ => keeps_execWingsRpt h
  | .wingsCommit _ => keeps_execWingsCommit h
  | .heartbeatTimer _ => keeps_execHeartbeatTimer h
  | .heartbeat _ => keeps_execHeartbeat h
  | .peerAliveTimeout _ => keeps_execPeerAliveTimeout h
  | .goodbye _ => keeps_execGoodbye h
  | .linit _ => keeps_execLinit h
  | .linitAck _ => keeps_execLinitAck h
  | .commandRunt n => keeps_execCommandRunt h (a0 := n)
  | .commandTimeout _ => keeps_execCommandTimeout h
  | .ping _ => keeps_execPing h
  | .getIdentity _ => keeps_execGetIdentity h
  | .cmdAbort _ _ => keeps_execCmdAbort h
  | .getStatus _ => keeps_execGetStatus h
  | .getCounters _ _ _ _ => keeps_execGetCounters h
  | .timeGet _ => keeps_execTimeGet h
  | .timeSetEpoch _ _ => keeps_execTimeSetEpoch h
  | .timePps _ _ => keeps_execTimePps h
  | .wingsOpen _ _ => keeps_execWingsOpen h
  | .wingsStage _ _ _ => keeps_execWingsStage h
  | .wingsCheck _ _ _ => keeps_execWingsCheck h
  | .wingsApplyAt _ _ _ _ => keeps_execWingsApplyAt h
  | .wingsCancel _ _ => keeps_execWingsCancel h
  | .wingsRelease _ _ => keeps_execWingsRelease h
  | .wingsStatus _ _ => keeps_execWingsStatus h
  | .memMap _ _ _ _ _ _ => keeps_execMemMap h
  | .memUnmap _ _ _ => keeps_execMemUnmap h
  | .xfer _ _ _ _ _ _ _ _ => keeps_execXfer h
  | .memWrite _ _ _ _ => keeps_execMemWrite h
  | .memRead _ _ _ _ => keeps_execMemRead h
  | .loadScript _ _ _ _ _ => keeps_execLoadScript h
  | .unloadScript _ _ => keeps_execUnloadScript h
  | .run _ _ _ => keeps_execRun h
  | .stop _ _ _ => keeps_execStop h
  | .submit _ _ _ _ _ _ => keeps_execSubmit h
  | .scriptStatus _ _ => keeps_execScriptStatus h
  | .restart _ _ => keeps_execRestart h
  | .sensorSettings _ _ _ _ _ _ _ _ => keeps_execSensorSettings h
  | .ispParams _ _ _ _ _ => keeps_execIspParams h
  | .i2cRead _ _ _ _ _ _ => keeps_execI2cRead h
  | .fsyncSchedule _ _ _ _ _ => keeps_execFsyncSchedule h
  | .streamStatus _ _ => keeps_execStreamStatus h
  | .powerGet _ => keeps_execPowerGet h
  | .setOp _ _ _ => keeps_execSetOp h
  | .setPowerCap _ _ => keeps_execSetPowerCap h
  | .sleep _ _ _ => keeps_execSleep h
  | .dark _ _ => keeps_execDark h
  | .rehearsalStatus _ => keeps_execRehearsalStatus h
  | .rehearsalCfg _ _ => keeps_execRehearsalCfg h
  | .rehearseNow _ _ => keeps_execRehearseNow h
  | .repairMapGet _ _ => keeps_execRepairMapGet h
  | .coreReplace _ _ => keeps_execCoreReplace h
  | .fullTest _ _ _ => keeps_execFullTest h
  | .attest _ _ => keeps_execAttest h
  | .fwUpdateBegin _ _ _ => keeps_execFwUpdateBegin h
  | .fwUpdateData _ _ _ => keeps_execFwUpdateData h
  | .fwUpdateCommit _ => keeps_execFwUpdateCommit h
  | .lifecycleToken _ _ => keeps_execLifecycleToken h
  | .fabricStatus _ => keeps_execFabricStatus h
  | .linkReset _ _ => keeps_execLinkReset h
  | .lichenInfo _ => keeps_execLichenInfo h
  | .lichenRead _ _ _ => keeps_execLichenRead h
  | .regRead _ _ _ => keeps_execRegRead h
  | .regWrite _ _ _ _ => keeps_execRegWrite h
  | .fenceUnit _ _ _ => keeps_execFenceUnit h
  | .usbAttach _ => keeps_execUsbAttach h
  | .usbReset _ => keeps_execUsbReset h
  | .clearEndpointHalt _ _ => keeps_execClearEndpointHalt h
  | .ep2OutData _ _ _ => keeps_execEp2OutData h
  | .usbU1U2Entry _ => keeps_execUsbU1U2Entry h
  | .usbSuspend => keeps_execUsbSuspend h
  | .usbResume => keeps_execUsbResume h
  | .usbTrainFail _ => keeps_execUsbTrainFail h
  | .pllLock _ => keeps_execPllLock h
  | .opTransition _ => keeps_execOpTransition h
  | .avsTick _ _ _ => keeps_execAvsTick h
  | .droopEvent _ => keeps_execDroopEvent h
  | .powerLimiterSample _ _ _ _ => keeps_execPowerLimiterSample h
  | .thermalCheck _ _ => keeps_execThermalCheck h
  | .limitHoldEnd _ _ => keeps_execLimitHoldEnd h
  | .idleEntry => keeps_execIdleEntry h
  | .idleExit => keeps_execIdleExit h
  | .sleepEntry => keeps_execSleepEntry h
  | .darkEntry => keeps_execDarkEntry h
  | .wakeSource _ => keeps_execWakeSource h
  | .wakeComplete => keeps_execWakeComplete h
  | .watchdogKick => keeps_execWatchdogKick h
  | .watchdogExpire => keeps_execWatchdogExpire h
  | .rstNAssert => keeps_execRstNAssert h
  | .powerOnReset => absurd rfl hi
  | .prompterReset => keeps_execPrompterReset h
  | .uvWarn _ => keeps_execUvWarn h
  | .uvShutdown _ => keeps_execUvShutdown h
  | .uvRecover _ => keeps_execUvRecover h
  | .moduleInsert => keeps_execModuleInsert h
  | .bootRomStart _ => keeps_execBootRomStart h
  | .slotConfirm _ => keeps_execSlotConfirm h
  | .secLockBoot => keeps_execSecLockBoot h
  | .secLockCfg => keeps_execSecLockCfg h
  | .emuGateReq => keeps_execEmuGateReq h
  | .sigEngineGo _ => keeps_execSigEngineGo h
  | .sigEngineDone => keeps_execSigEngineDone h
  | .norAccess _ => keeps_execNorAccess h
  | .rehGo _ => keeps_execRehGo h
  | .rehSliceStart => keeps_execRehSliceStart h
  | .rehDrainTimeout => keeps_execRehDrainTimeout h
  | .rehSliceEnd _ _ _ => keeps_execRehSliceEnd h
  | .plannedSwap => keeps_execPlannedSwap h
  | .swapQuiesceTimeout => keeps_execSwapQuiesceTimeout h
  | .migrationDone => keeps_execMigrationDone h
  | .coreFailure _ _ => keeps_execCoreFailure h
  | .ddr4PatrolScrub _ _ => keeps_execDdr4PatrolScrub h
  | .dphyLoopback _ _ => keeps_execDphyLoopback h
  | .eplPrbsLoopback _ _ => keeps_execEplPrbsLoopback h
  | .pllLockLoss _ => keeps_execPllLockLoss h
  | .tempCrosscheck => keeps_execTempCrosscheck h
  | .voltageCrosscheck _ _ => keeps_execVoltageCrosscheck h
  | .lichenRequest _ _ => keeps_execLichenRequest h
  | .lichenRecordWrite _ => keeps_execLichenRecordWrite h
  | .lichenPositionFind => keeps_execLichenPositionFind h
  | .lichenTokenRefill => keeps_execLichenTokenRefill h
  | .opsecTick => keeps_execOpsecTick h
  | .smbIdentity => keeps_execSmbIdentity h
  | .smbState => keeps_execSmbState h
  | .smbVin => keeps_execSmbVin h
  | .smbCurrent => keeps_execSmbCurrent h
  | .smbPower => keeps_execSmbPower h
  | .smbTemp => keeps_execSmbTemp h
  | .smbTempSensor => keeps_execSmbTempSensor h
  | .smbAlertStatRead => keeps_execSmbAlertStatRead h
  | .smbAlertStatClear _ _ => keeps_execSmbAlertStatClear h
  | .smbAlertMaskRead => keeps_execSmbAlertMaskRead h
  | .smbAlertMaskWrite _ _ => keeps_execSmbAlertMaskWrite h
  | .smbWake => keeps_execSmbWake h
  | .smbAlertResponse => keeps_execSmbAlertResponse h
  | .smbClockTimeout => keeps_execSmbClockTimeout h
  | .jtagBypass => keeps_execJtagBypass h
  | .jtagIdcode => keeps_execJtagIdcode h
  | .jtagSamplePreload _ _ => keeps_execJtagSamplePreload h
  | .jtagExtest _ _ => keeps_execJtagExtest h
  | .jtagExtestPulse _ _ => keeps_execJtagExtestPulse h
  | .jtagExtestTrain _ _ => keeps_execJtagExtestTrain h
  | .cueSheetRefill => keeps_execCueSheetRefill h
  | .loLatchRead _ _ => keeps_execLoLatchRead h
  | .unmatchedPacket _ => keeps_execUnmatchedPacket h
  | .ep3InTransfer => keeps_execEp3InTransfer h
  | .usbStandardRequest _ => keeps_execUsbStandardRequest h
  | .vioCamLoss => keeps_execVioCamLoss h
  | .vioCamReturn => keeps_execVioCamReturn h
  | .eplSignalDetect _ => keeps_execEplSignalDetect h
  | .aonCrystalStable => keeps_execAonCrystalStable h
  | .prompterRestartDone => keeps_execPrompterRestartDone h
  | .activeHourTick => keeps_execActiveHourTick h
  | .jtagDebugInstruction => keeps_execJtagDebugInstruction h

/-- The end of a step in which a held command has started keeps what the command has kept. -/
theorem keeps_endHeld {s0 : State} {o : Out} (h : KeepsOut s0 o) : KeepsOut s0 (endHeld o) := by
  cases o with
  | next t => exact KeepsOut.next (Keeps.updSame (h t rfl) rfl rfl rfl rfl rfl)
  | fault f => exact KeepsOut.fault _ f
  | refused r => exact KeepsOut.refused _ r

/-- R28, R29, R37: a step that runs no power-on reset does not lower cue time. -/
theorem step_now_le {s t : State} (hc : s.stepCommand ≠ some .powerOnReset) (hs : step s = .next t) : s.now ≤ t.now := by
  unfold State.stepCommand at hc
  unfold step at hs
  cases hp : s.pending with
  | cons c rest =>
    rw [hp] at hc hs
    have hne : c ≠ .powerOnReset := fun e => hc (congrArg some e)
    exact (keeps_exec hne (Keeps.refl { s with pending := rest }) t hs).now
  | nil =>
    rw [hp] at hc hs
    cases hn : s.nextHeld with
    | none =>
      rw [hn] at hs
      cases hs
      exact (keeps_quiet (Keeps.refl s)).now
    | some x =>
      rw [hn] at hc hs
      have hne : x.2 ≠ .powerOnReset := fun e => hc (congrArg some e)
      exact (keeps_endHeld (keeps_exec hne (keeps_takeHeld (Keeps.refl s))) t hs).now

/-- R29: a power-on reset sets cue time to 0. -/
theorem exec_powerOnReset_now {s t : State} (h : exec .powerOnReset s = .next t) : t.now = 0 := by
  rw [exec_powerOnReset] at h
  cases h
  rfl

/-- Settles O55: the invariant that every command keeps, read at cue time. -/
theorem cueTimeNeverDecreases : Obligations.CueTimeNeverDecreases := by
  unfold Obligations.CueTimeNeverDecreases
  exact ⟨fun _ _ => step_now_le, fun _ _ h => ⟨h, exec_powerOnReset_now h⟩⟩

end Sys2Proof.Machine
end

section
/-!
What a register and its fields read after a write, in every state: a read after a write gives what was written, whether or
not the registers stand in their canonical form (`Cells.get_set`).
-/
namespace Sys2Proof.Machine

theorem State.reg_setReg (s : State) (a : Nat) (w : Word) : (s.setReg a w).reg a = w := Cells.get_set regReset s.regs a w

section
variable (s : State) (a : Nat) (f g : Fld) (v : Nat)

theorem State.fld_setFld (hw : f.lo ≤ f.hi) (h32 : f.hi < 32) : (s.setFld a f v).fld a f = v % 2 ^ f.width := by
  unfold State.fld State.setFld
  rw [State.reg_setReg, getF_setF_same _ f v hw h32]

/-- A write to one field leaves a field that shares no bit with it alone. -/
theorem State.fld_setFld_apart (hw : f.lo ≤ f.hi) (h32 : f.hi < 32) (hd : f.hi < g.lo ∨ g.hi < f.lo) :
    (s.setFld a f v).fld a g = s.fld a g := by
  unfold State.fld State.setFld
  rw [State.reg_setReg, getF_setF_other _ f g v hw h32 hd]

theorem State.flag_setFld_apart (hw : f.lo ≤ f.hi) (h32 : f.hi < 32) (hd : f.hi < g.lo ∨ g.hi < f.lo) :
    (s.setFld a f v).flag a g = s.flag a g := by
  unfold State.flag
  rw [State.fld_setFld_apart s a f g v hw h32 hd]

theorem State.flag_setFld_one (hw : f.lo ≤ f.hi) (h32 : f.hi < 32) : (s.setFld a f 1).flag a f = true := by
  unfold State.flag
  rw [State.fld_setFld s a f 1 hw h32, Nat.mod_eq_of_lt (Nat.one_lt_two_pow (by unfold Fld.width; omega))]
  rfl

theorem State.flag_setFld_zero (hw : f.lo ≤ f.hi) (h32 : f.hi < 32) : (s.setFld a f 0).flag a f = false := by
  unfold State.flag
  rw [State.fld_setFld s a f 0 hw h32, Nat.zero_mod]
  rfl

end

/-- R500: a 32-bit counter rises by 1 and saturates. -/
theorem State.fld_count (s : State) (a : Nat) :
    (s.count a).fld a wholeReg = min (s.fld a wholeReg + 1) (2 ^ 32 - 1) := by
  unfold State.count State.countBy
  rw [State.fld_setFld s a wholeReg _ (by decide) (by decide)]
  exact Nat.mod_eq_of_lt (lt_of_le_of_lt (Nat.min_le_right _ _) (by decide))

theorem State.flag_of_sameRegs {l : List Nat} {s t : State} (h : SameRegs l s t) {a : Nat} (ha : a ∉ l) (f : Fld) :
    t.flag a f = s.flag a f := by
  unfold State.flag State.fld
  rw [h a ha]

end Sys2Proof.Machine
end

section
/-!
O1: how cue time advances (R30, R31), and its hand-overs between the fast clock and the AON ticks (R32, R431).
-/
namespace Sys2Proof.Machine

/-! ### Signed fields -/

/-- An integer that `n` bits can hold as a signed number is read back from them. -/
theorem signed_wrapTo {n : Nat} {i : Int} (hlo : -(2 ^ n : Int) ≤ i) (hhi : i < 2 ^ n) :
    signed (n + 1) (wrapTo (n + 1) i) = i := by
  have hpow : (2 : Int) ^ (n + 1) = 2 * 2 ^ n := by ring
  have hmod : ((wrapTo (n + 1) i : Nat) : Int) = i % 2 ^ (n + 1) := Int.toNat_of_nonneg (Int.emod_nonneg _ (by positivity))
  have hlt : wrapTo (n + 1) i < 2 ^ (n + 1) := by
    zify; rw [hmod]; exact Int.emod_lt_of_pos _ (by positivity)
  have hiff : wrapTo (n + 1) i < 2 ^ n ↔ i % 2 ^ (n + 1) < 2 ^ n := by zify; rw [hmod]
  unfold signed
  dsimp only
  rw [Nat.mod_eq_of_lt hlt, Nat.add_sub_cancel, hmod]
  rcases lt_or_ge i 0 with hneg | hpos
  · have he : i % 2 ^ (n + 1) = i + 2 ^ (n + 1) := by
      rw [← Int.add_emod_right, Int.emod_eq_of_lt] <;> omega
    rw [if_neg (by rw [hiff, he]; omega), he]; omega
  · have he : i % 2 ^ (n + 1) = i := Int.emod_eq_of_lt hpos (by omega)
    rw [if_pos (by rw [hiff, he]; exact hhi), he]

/-- A signed number of `n + 1` bits lies within its bounds. -/
theorem signed_bounds (n v : Nat) : -(2 ^ n : Int) ≤ signed (n + 1) v ∧ signed (n + 1) v < 2 ^ n := by
  have hlt : v % 2 ^ (n + 1) < 2 * 2 ^ n := by rw [← pow_succ']; exact Nat.mod_lt _ (by positivity)
  have hpow : (2 : Int) ^ (n + 1) = 2 * 2 ^ n := by ring
  unfold signed
  rw [Nat.add_sub_cancel]
  dsimp only
  zify at hlt ⊢
  split <;> omega

theorem State.slew_bounds (s : State) : -(2 ^ 23) ≤ s.slew ∧ s.slew < 2 ^ 23 := signed_bounds 23 _

/-- R30: SLEW reads what it has been loaded with. -/
theorem State.slew_setFld (s : State) {d : Int} (hlo : -(2 ^ 23) ≤ d) (hhi : d < 2 ^ 23) :
    (s.setFld rCUE_SLEW fCUE_SLEW_SLEW (wrapTo 24 d)).slew = d := by
  have hlt : wrapTo 24 d < 2 ^ fCUE_SLEW_SLEW.width := by change (d % 2 ^ 24).toNat < 2 ^ 24; omega
  unfold State.slew
  rw [State.fld_setFld s _ _ _ (by decide) (by decide), Nat.mod_eq_of_lt hlt, signed_wrapTo hlo hhi]

/-! ### Ticks, trim and slew -/

section
variable {s : State}

theorem exec_aonTick_counts (hf : s.fastSource = false) : exec .aonTick s = .next { s with time := s.time.aonTick } := by
  rw [exec_aonTick, execAonTick, hf]; rfl

/-- R31: an AON tick is 30,517 + 37/64 ns. -/
theorem TimeState.aonTick_advance (t : TimeState) :
    t.aonTick.now * 64 + t.aonTick.frac = t.now * 64 + t.frac + 1953125 ∧ t.aonTick.frac < 64 := by
  simp only [TimeState.aonTick]; omega

theorem exec_cueTrimStep_forward (ht : 0 < s.trim) (hr : s.fastRuns = true)
    (hd : s.time.lastTrim + 10 ^ 9 / s.trim.natAbs ≤ s.time.ns) :
    exec .cueTrimStep s = .next { s with time := { s.time with now := s.time.now + 1, lastTrim := s.time.ns } } := by
  rw [exec_cueTrimStep, execCueTrimStep]
  dsimp only
  rw [if_pos ⟨ht.ne', hr, hd⟩, if_pos ht]

theorem exec_cueTrimStep_back (ht : s.trim < 0) (hr : s.fastRuns = true)
    (hd : s.time.lastTrim + 10 ^ 9 / s.trim.natAbs ≤ s.time.ns) :
    exec .cueTrimStep s = .next { s with time := { s.time with skip := s.time.skip + 1, lastTrim := s.time.ns } } := by
  rw [exec_cueTrimStep, execCueTrimStep]
  dsimp only
  rw [if_pos ⟨ht.ne, hr, hd⟩, if_neg ht.le.not_gt]

theorem exec_cueSlewStep_forward (ht : 0 < s.slew) (hr : s.fastRuns = true) (hd : s.time.lastSlew + 4096 ≤ s.time.ns) :
    exec .cueSlewStep s = .next { s.setFld rCUE_SLEW fCUE_SLEW_SLEW (wrapTo 24 (s.slew - 1)) with
      time := { s.time with now := s.time.now + 1, lastSlew := s.time.ns } } := by
  rw [exec_cueSlewStep, execCueSlewStep]
  dsimp only
  rw [if_pos ⟨ht.ne', hr, hd⟩, if_pos ht]

theorem exec_cueSlewStep_back (ht : s.slew < 0) (hr : s.fastRuns = true) (hd : s.time.lastSlew + 4096 ≤ s.time.ns) :
    exec .cueSlewStep s = .next { s.setFld rCUE_SLEW fCUE_SLEW_SLEW (wrapTo 24 (s.slew + 1)) with
      time := { s.time with skip := s.time.skip + 1, lastSlew := s.time.ns } } := by
  rw [exec_cueSlewStep, execCueSlewStep]
  dsimp only
  rw [if_pos ⟨ht.ne, hr, hd⟩, if_neg ht.le.not_gt]

/-! ### Hand-overs -/

/-- R32: the fast clock takes over cue time, without its fraction. -/
def State.toFast (s : State) : State :=
  { s.setFld rCUE_STATUS fCUE_STATUS_SOURCE 1 with time := { s.time with frac := 0 } }

/-- R32, R39: the state after the hand-over of a wake: the time master is aligned at once. -/
def State.afterWakeHandover (s : State) : State :=
  if s.toFast.master then s.toFast.setFld rCUE_STATUS fCUE_STATUS_ALIGN_OK 1 else s.toFast

theorem exec_cueHandoverWake_waking (hw : s.power.st = .waking) (hf : s.fastSource = false) (hl : 0 ∈ s.power.locked) :
    exec .cueHandoverWake s = .next s.afterWakeHandover := by
  rw [exec_cueHandoverWake, execCueHandoverWake, if_pos ⟨hw, by rw [hf]; rfl, hl⟩]
  rfl

theorem State.toFast_fastSource (s : State) : s.toFast.fastSource = true :=
  State.flag_setFld_one s _ _ (by decide) (by decide)

theorem State.toFast_master (s : State) : s.toFast.master = s.master :=
  State.flag_setFld_apart s _ _ _ _ (by decide) (by decide) (by decide)

theorem State.afterWakeHandover_fastSource (s : State) : s.afterWakeHandover.fastSource = true := by
  unfold State.afterWakeHandover
  split
  · exact (State.flag_setFld_apart s.toFast _ _ fCUE_STATUS_SOURCE _ (by decide) (by decide) (by decide)).trans
      s.toFast_fastSource
  · exact s.toFast_fastSource

theorem State.afterWakeHandover_alignOk (hm : s.master = true) :
    s.afterWakeHandover.flag rCUE_STATUS fCUE_STATUS_ALIGN_OK = true := by
  unfold State.afterWakeHandover
  rw [if_pos (s.toFast_master.trans hm)]
  exact State.flag_setFld_one _ _ _ (by decide) (by decide)

theorem State.sameRegs_toFast (s : State) : SameRegs [rCUE_STATUS] s s.toFast := sameRegs_setFld s _ _ _

theorem State.sameRegs_afterWakeHandover (s : State) : SameRegs [rCUE_STATUS] s s.afterWakeHandover := by
  unfold State.afterWakeHandover
  split
  · exact (s.sameRegs_toFast.trans (sameRegs_setFld s.toFast _ _ _)).mono (by simp)
  · exact s.sameRegs_toFast

theorem State.afterWakeHandover_eq (s : State) :
    s.afterWakeHandover = { s with regs := s.afterWakeHandover.regs, time := { s.time with frac := 0 } } := by
  unfold State.afterWakeHandover
  split <;> rfl

/-- R32: SLEEP has been reached, or its entry waits for the hand-over. -/
theorem exec_cueHandoverSleep_due
    (hd : (∃ e, s.power.entry = some e ∧ e.step = 6 ∧ e.dark = false) ∨ (s.power.entry = none ∧ s.power.st = .sleep))
    (hf : s.fastSource = true) : exec .cueHandoverSleep s = .next s.toAon := by
  rw [exec_cueHandoverSleep, execCueHandoverSleep]
  rcases hd with ⟨e, he, hstep, hdark⟩ | ⟨he, hst⟩
  · simp [he, hstep, hdark, hf]
  · simp [he, hst, hf]

theorem State.toAon_fastSource (s : State) : s.toAon.fastSource = false :=
  (State.flag_setFld_apart (s.setFld rCUE_STATUS fCUE_STATUS_SOURCE 0) rCUE_STATUS fCUE_STATUS_ALIGN_OK
    fCUE_STATUS_SOURCE 0 (by decide) (by decide) (by decide)).trans
    (State.flag_setFld_zero s _ _ (by decide) (by decide))

theorem State.toAon_alignOk (s : State) : s.toAon.flag rCUE_STATUS fCUE_STATUS_ALIGN_OK = false :=
  State.flag_setFld_zero (s.setFld rCUE_STATUS fCUE_STATUS_SOURCE 0) _ _ (by decide) (by decide)

theorem State.sameRegs_toAon (s : State) : SameRegs [rCUE_STATUS] s s.toAon :=
  ((sameRegs_setFld s rCUE_STATUS fCUE_STATUS_SOURCE 0).trans (sameRegs_setFld _ rCUE_STATUS fCUE_STATUS_ALIGN_OK 0)).mono
    (by simp)

end

/-- Settles O1, command by command. -/
theorem cueTimeCommands : Obligations.CueTimeCommands := by
  unfold Obligations.CueTimeCommands
  refine ⟨?tick, fun _ => rfl, fun _ => exec_cueTrimStep_forward, fun _ => exec_cueTrimStep_back, ?slewForward, ?slewBack,
    ?wake, ?sleep⟩
  case tick =>
    intro s hf
    exact ⟨_, exec_aonTick_counts hf, s.time.aonTick_advance.1, s.time.aonTick_advance.2, rfl⟩
  case slewForward =>
    intro s _ ht hr hd
    have hb := s.slew_bounds
    exact ⟨_, exec_cueSlewStep_forward ht hr hd, State.slew_setFld s (by omega) (by omega),
      sameRegs_setFld s _ _ _, rfl⟩
  case slewBack =>
    intro s _ ht hr hd
    have hb := s.slew_bounds
    exact ⟨_, exec_cueSlewStep_back ht hr hd, State.slew_setFld s (by omega) (by omega),
      sameRegs_setFld s _ _ _, rfl⟩
  case wake =>
    intro s _ hw hf hl
    exact ⟨_, exec_cueHandoverWake_waking hw hf hl, s.afterWakeHandover_fastSource,
      State.afterWakeHandover_alignOk, s.sameRegs_afterWakeHandover, s.afterWakeHandover_eq⟩
  case sleep =>
    intro s _ hd hf
    exact ⟨_, exec_cueHandoverSleep_due hd hf, s.toAon_fastSource, s.toAon_alignOk, s.sameRegs_toAon, rfl⟩

end Sys2Proof.Machine
end

section
/-!
O2: PPS discipline (R35) and the end of a hold (R37).
-/
namespace Sys2Proof.Machine

/-! ### PPS edges -/

/-- R35: cue time is captured, and the edge noted with the count of good captures so far. -/
def State.ppsCapture (s : State) (good : Nat) : State :=
  { (s.setReg rCUE_PPS_CAP_LO (BitVec.ofNat 32 s.now)).setReg rCUE_PPS_CAP_HI (BitVec.ofNat 32 (s.now / 2 ^ 32)) with
    time := { s.time with ppsLast := some s.time.ns, ppsGood := good } }

/-- R35: the third good capture in a row sets PPS_LOCK. -/
def State.noteLock (s : State) (good : Nat) : State :=
  if 3 ≤ good then s.setFld rCUE_STATUS fCUE_STATUS_PPS_LOCK 1 else s

/-- R35: good captures in a row, with the one at hand. -/
def State.ppsGoodNow (s : State) : Nat :=
  if -50 ≤ secondDistance s.now ∧ secondDistance s.now ≤ 50 then s.time.ppsGood + 1 else 0

theorem State.ppsCapture_lo (s : State) (good : Nat) :
    (s.ppsCapture good).reg rCUE_PPS_CAP_LO = BitVec.ofNat 32 s.now :=
  (State.reg_setReg_other (s.setReg rCUE_PPS_CAP_LO (BitVec.ofNat 32 s.now)) _ (by decide)).trans
    (s.reg_setReg _ _)

theorem State.ppsCapture_hi (s : State) (good : Nat) :
    (s.ppsCapture good).reg rCUE_PPS_CAP_HI = BitVec.ofNat 32 (s.now / 2 ^ 32) :=
  State.reg_setReg (s.setReg rCUE_PPS_CAP_LO (BitVec.ofNat 32 s.now)) _ _

theorem State.sameRegs_ppsCapture (s : State) (good : Nat) :
    SameRegs [rCUE_PPS_CAP_LO, rCUE_PPS_CAP_HI] s (s.ppsCapture good) :=
  (sameRegs_setReg s rCUE_PPS_CAP_LO (BitVec.ofNat 32 s.now)).trans
    (sameRegs_setReg _ rCUE_PPS_CAP_HI (BitVec.ofNat 32 (s.now / 2 ^ 32)))

theorem State.sameRegs_noteLock (s : State) (good : Nat) : SameRegs [rCUE_STATUS] s (s.noteLock good) := by
  unfold State.noteLock
  split
  · exact sameRegs_setFld s _ _ _
  · exact SameRegs.refl _ s

theorem State.noteLock_eq (s : State) (good : Nat) : s.noteLock good = { s with regs := (s.noteLock good).regs } := by
  unfold State.noteLock
  split <;> rfl

theorem State.slew_of_sameRegs {l : List Nat} {s t : State} (h : SameRegs l s t) (hl : rCUE_SLEW ∉ l) :
    t.slew = s.slew := by
  unfold State.slew State.fld
  rw [h rCUE_SLEW hl]

section
variable {s : State} {high : Nat}

theorem exec_ppsEdge_ignored (ha : s.awake = true)
    (hi : high < 1000 ∨ s.time.ppsLast.any (fun l => decide (s.time.ns < l + 500000000)) = true) :
    exec (.ppsEdge high) s = .next { s with time := { s.time with ppsIgnored := s.time.ppsIgnored + 1 } } := by
  rw [exec_ppsEdge, execPpsEdge, if_neg (by simp [ha]), if_pos hi]

/-- The state in which a distance that SLEW cannot hold has loaded a free value (log entry 13). -/
def State.slewFree (s : State) : State :=
  (s.free Config.slewTooFar).2.setFld rCUE_SLEW fCUE_SLEW_SLEW (s.free Config.slewTooFar).1

/-- R35: SLEW is loaded with a distance. -/
def State.loadSlew (s : State) (d : Int) : State :=
  if -(2 ^ 23 : Int) ≤ d ∧ d < 2 ^ 23 then s.setFld rCUE_SLEW fCUE_SLEW_SLEW (wrapTo 24 d) else s.slewFree

/-- R35: what an accepted edge does. -/
theorem exec_ppsEdge_accepted (ha : s.awake = true) (hh : 1000 ≤ high)
    (hl : s.time.ppsLast.any (fun l => decide (s.time.ns < l + 500000000)) = false) :
    exec (.ppsEdge high) s = .next (if s.time.ppsEnabled = true
      then ((s.ppsCapture s.ppsGoodNow).loadSlew (secondDistance s.now)).noteLock s.ppsGoodNow
      else s.ppsCapture s.ppsGoodNow) := by
  rw [exec_ppsEdge, execPpsEdge, if_neg (by simp [ha]), if_neg (by simp [hl, hh])]
  exact (apply_ite Host.Outcome.next _ _ _).symm

theorem exec_ppsEdge_captures (ha : s.awake = true) (hh : 1000 ≤ high)
    (hl : s.time.ppsLast.any (fun l => decide (s.time.ns < l + 500000000)) = false) (he : s.time.ppsEnabled = false) :
    exec (.ppsEdge high) s = .next (s.ppsCapture s.ppsGoodNow) := by
  rw [exec_ppsEdge_accepted ha hh hl, if_neg (by simp [he])]

theorem exec_ppsEdge_slews (ha : s.awake = true) (hh : 1000 ≤ high)
    (hl : s.time.ppsLast.any (fun l => decide (s.time.ns < l + 500000000)) = false) (he : s.time.ppsEnabled = true)
    (hlo : -(2 ^ 23) ≤ secondDistance s.now) (hhi : secondDistance s.now < 2 ^ 23) :
    exec (.ppsEdge high) s =
      .next (((s.ppsCapture s.ppsGoodNow).setFld rCUE_SLEW fCUE_SLEW_SLEW (wrapTo 24 (secondDistance s.now))).noteLock
        s.ppsGoodNow) := by
  rw [exec_ppsEdge_accepted ha hh hl, if_pos he, State.loadSlew, if_pos ⟨hlo, hhi⟩]

theorem exec_ppsEdge_slewTooFar (ha : s.awake = true) (hh : 1000 ≤ high)
    (hl : s.time.ppsLast.any (fun l => decide (s.time.ns < l + 500000000)) = false) (he : s.time.ppsEnabled = true)
    (hd : secondDistance s.now < -(2 ^ 23) ∨ 2 ^ 23 ≤ secondDistance s.now) :
    exec (.ppsEdge high) s = .next ((s.ppsCapture s.ppsGoodNow).slewFree.noteLock s.ppsGoodNow) := by
  rw [exec_ppsEdge_accepted ha hh hl, if_pos he, State.loadSlew, if_neg (by omega)]

end

/-! ### The loss of PPS, and the end of a hold -/

/-- R35: PPS_LOCK is cleared and PPS_LOST set; the edges seen so far no longer count. -/
def State.losePps (s : State) : State :=
  { (s.setFld rCUE_STATUS fCUE_STATUS_PPS_LOCK 0).setFld rCUE_STATUS fCUE_STATUS_PPS_LOST 1 with
    time := { s.time with ppsLast := none, ppsGood := 0 } }

theorem exec_ppsTimeout_due {s : State} {l : Nat} (hl : s.time.ppsLast = some l) (hd : l + 1500000000 ≤ s.time.ns) :
    exec .ppsTimeout s = .next (s.losePps.lichenFw 0x0901 (wrapTo 32 s.trim) 0 0 0) := by
  rw [exec_ppsTimeout, execPpsTimeout, hl]
  dsimp only
  rw [if_pos hd]
  rfl

theorem State.losePps_lock (s : State) : s.losePps.flag rCUE_STATUS fCUE_STATUS_PPS_LOCK = false :=
  (State.flag_setFld_apart (s.setFld rCUE_STATUS fCUE_STATUS_PPS_LOCK 0) rCUE_STATUS fCUE_STATUS_PPS_LOST
    fCUE_STATUS_PPS_LOCK 1 (by decide) (by decide) (by decide)).trans
    (State.flag_setFld_zero s _ _ (by decide) (by decide))

theorem State.losePps_lost (s : State) : s.losePps.flag rCUE_STATUS fCUE_STATUS_PPS_LOST = true :=
  State.flag_setFld_one (s.setFld rCUE_STATUS fCUE_STATUS_PPS_LOCK 0) _ _ (by decide) (by decide)

theorem State.sameRegs_losePps (s : State) : SameRegs [rCUE_STATUS] s s.losePps :=
  ((sameRegs_setFld s rCUE_STATUS fCUE_STATUS_PPS_LOCK 0).trans (sameRegs_setFld _ rCUE_STATUS fCUE_STATUS_PPS_LOST 1)).mono
    (by simp)

theorem exec_timeHoldEnd_due {s : State} {u : Nat} (hu : s.time.holdUntil = some u) (hd : u ≤ s.time.ns) :
    exec .timeHoldEnd s = .next { s.setFld rCUE_STATUS fCUE_STATUS_HOLDING 0 with
      time := { s.time with holdUntil := none } } := by
  rw [exec_timeHoldEnd, execTimeHoldEnd, hu]
  dsimp only
  rw [if_pos hd]

/-- Settles O2: what the capture, the slew, the lock and the record of a loss each change, put together edge by edge. -/
theorem ppsAndHold : Obligations.PpsAndHold := by
  unfold Obligations.PpsAndHold
  refine ⟨?captures, ?slews, ?tooFar, fun _ _ => exec_ppsEdge_ignored, ?lost, ?holdEnd⟩
  case captures =>
    intro s high _ ha hh hl he
    exact ⟨_, exec_ppsEdge_captures ha hh hl he, s.ppsCapture_lo _, s.ppsCapture_hi _,
      s.sameRegs_ppsCapture _, rfl⟩
  case slews =>
    intro s high _ ha hh hl he hlo hhi
    have hcap := s.sameRegs_ppsCapture s.ppsGoodNow
    have hlock := State.sameRegs_noteLock ((s.ppsCapture s.ppsGoodNow).setFld rCUE_SLEW fCUE_SLEW_SLEW
      (wrapTo 24 (secondDistance s.now))) s.ppsGoodNow
    have hslew := (sameRegs_setFld (s.ppsCapture s.ppsGoodNow) rCUE_SLEW fCUE_SLEW_SLEW
      (wrapTo 24 (secondDistance s.now))).trans hlock
    refine ⟨_, exec_ppsEdge_slews ha hh hl he hlo hhi, ?_, ?_, ?_, hcap.trans hslew, ?_⟩
    · rw [hslew _ (by decide), s.ppsCapture_lo]
    · rw [hslew _ (by decide), s.ppsCapture_hi]
    · rw [State.slew_of_sameRegs hlock (by decide), State.slew_setFld _ hlo hhi]
    · rw [State.noteLock_eq]; rfl
  case tooFar =>
    intro s high _ ha hh hl he hd
    have hcap := s.sameRegs_ppsCapture s.ppsGoodNow
    have hslew : SameRegs [rCUE_SLEW, rCUE_STATUS] (s.ppsCapture s.ppsGoodNow)
        ((s.ppsCapture s.ppsGoodNow).slewFree.noteLock s.ppsGoodNow) :=
      (sameRegs_setFld ((s.ppsCapture s.ppsGoodNow).free Config.slewTooFar).2 rCUE_SLEW fCUE_SLEW_SLEW _).trans
        (State.sameRegs_noteLock _ _)
    refine ⟨_, exec_ppsEdge_slewTooFar ha hh hl he hd, ?_, ?_, hcap.trans hslew, ?_⟩
    · rw [hslew _ (by decide), s.ppsCapture_lo]
    · rw [hslew _ (by decide), s.ppsCapture_hi]
    · rw [State.noteLock_eq]; rfl
  case lost =>
    intro s l _ hl hd
    have hrec := recorded_lichenFw s.losePps 0x0901 (wrapTo 32 s.trim) 0 0 0
    refine ⟨_, exec_ppsTimeout_due hl hd, ?_, ?_, ?_, s.sameRegs_losePps.trans hrec.regs, hrec.bytes⟩
    · rw [State.flag_of_sameRegs hrec.regs (by decide), s.losePps_lock]
    · rw [State.flag_of_sameRegs hrec.regs (by decide), s.losePps_lost]
    · rw [hrec.rest]; rfl
  case holdEnd =>
    intro s u _ hu hd
    exact ⟨_, exec_timeHoldEnd_due hu hd, rfl, State.flag_setFld_zero s _ _ (by decide) (by decide),
      sameRegs_setFld s _ _ _, rfl⟩

end Sys2Proof.Machine
end

section
/-!
O3: pushes into the cue queues (R41 to R46), FLUSH and RESUME (R48), the pre-wake (R47) and the late policies (R44).
-/
namespace Sys2Proof.Machine

/-! ### Pushing an entry -/

section
variable {s : State} {q : QueueId} {e : CueEntry}

/-- R46: an entry that finds no room, has a reserved bit set or an illegal field is refused. -/
theorem State.pushCue_refused {rsv : Bool}
    (h : queueCap q ≤ (s.cq q.num).entries.length ∨ rsv = true ∨ legalEntry s q e = false) :
    s.pushCue q e rsv = s.setFld (rCUEQ_STAT (queueGroup q)) fCUEQ_STAT_REFUSED 1 := by
  rw [State.pushCue]
  exact if_pos (by simpa using h)

variable (hroom : (s.cq q.num).entries.length < queueCap q) (hlegal : legalEntry s q e = true)
include hroom hlegal

theorem State.not_pushRefused :
    ¬ (queueCap q ≤ (s.cq q.num).entries.length ∨ false = true ∨ (!legalEntry s q e) = true) := by
  simp [hlegal, hroom]

theorem State.pushCue_onTime (ht : s.now ≤ e.time + s.tol) :
    s.pushCue q e false =
      s.setCq q.num { s.cq q.num with entries := insertEntry e (s.cq q.num).entries } := by
  rw [State.pushCue]
  dsimp only
  rw [if_neg (State.not_pushRefused hroom hlegal), if_neg ht.not_gt]

variable (ht : e.time + s.tol < s.now)
include ht

theorem State.pushCue_lateFire (hl : e.late = 0) :
    s.pushCue q e false =
      (s.setCq q.num { s.cq q.num with
        entries := insertEntry { e with counted := true } (s.cq q.num).entries }).countLate q e := by
  rw [State.pushCue]
  dsimp only
  rw [if_neg (State.not_pushRefused hroom hlegal), if_pos ht, if_pos hl]

theorem State.pushCue_lateSkip (hl : e.late = 1) :
    s.pushCue q e false = if e.period = 0 then s.countMiss q else
      (s.countMiss q).setCq q.num { s.cq q.num with
        entries := insertEntry (e.firstFuture s.now) (s.cq q.num).entries } := by
  rw [State.pushCue]
  dsimp only
  rw [if_neg (State.not_pushRefused hroom hlegal), if_pos ht, if_neg (by omega), if_pos hl]

theorem State.pushCue_lateHalt (hl : e.late = 2) :
    s.pushCue q e false =
      (s.setCq q.num { s.cq q.num with entries := e :: (s.cq q.num).entries }).haltQueue q e := by
  rw [State.pushCue]
  dsimp only
  rw [if_neg (State.not_pushRefused hroom hlegal), if_pos ht, if_neg (by omega), if_neg (by omega)]

end

/-- R46: the write of entry word 3 pushes the entry that the four words spell. -/
theorem exec_cueqPush_pushCue {s : State} {q : QueueId} {w : Word} {e : CueEntry}
    (he : e = CueEntry.ofWords (s.cq q.num).w0 (s.cq q.num).w1 (s.cq q.num).w2 w) :
    exec (.cueqPush q w) s = .next (s.pushCue q e (entryReserved (s.cq q.num).w2)) := by
  subst he
  rw [exec_cueqPush, execCueqPush]

/-! ### RESUME and the pre-wake -/

theorem exec_cueqResume_halted {s : State} {q : QueueId} (hh : (s.cq q.num).halted = true) :
    exec (.cueqResume q) s =
      .next (s.setCq q.num { s.cq q.num with entries := (s.cq q.num).entries.tail, halted := false }) := by
  rw [exec_cueqResume, execCueqResume]
  dsimp only
  rw [if_pos hh]

theorem exec_cuePrewake_near {s : State} {q : QueueId} {e : CueEntry} {l : List CueEntry}
    (he : (s.cq q.num).entries = e :: l) (hs : s.power.st = .idle) (ht : e.time ≤ s.now + 256)
    (hu : q.num ∉ s.power.ungated) :
    exec (.cuePrewake q) s = .next { s with power := { s.power with ungated := s.power.ungated ++ [q.num] } } := by
  rw [exec_cuePrewake, execCuePrewake, he]
  dsimp only
  rw [if_pos ⟨hs, ht, hu⟩]

/-! ### A late head -/

/-- R44: what the late policy of a head entry does. -/
def State.applyLate (s : State) (q : QueueId) (e : CueEntry) (l : List CueEntry) : State :=
  if e.late = 0 then
    if e.counted then s
    else (s.setCq q.num { s.cq q.num with entries := { e with counted := true } :: l }).countLate q e
  else if e.late = 1 then (s.countMiss q).setCq q.num ((s.cq q.num).pop (fun x => x.firstFuture s.now))
  else s.haltQueue q e

section
variable {s : State} {q : QueueId} {e : CueEntry} {l : List CueEntry}

/-- R44: the late policy of a head is applied where its queue fires and the entry need not wait for alignment. -/
theorem exec_cueLate_applies (he : (s.cq q.num).entries = e :: l) (hh : (s.cq q.num).halted = false)
    (hl : s.isLate e = true) (hold : s.holding = false) (hr : s.queueRuns q = true) (hf : s.fabWaits e = false) :
    exec (.cueLate q) s = .next (s.applyLate q e l) := by
  rw [exec_cueLate, execCueLate]
  dsimp only
  rw [he]
  dsimp only
  rw [if_pos (by simp [hh, hl, hold, hr, hf]), State.applyLate]
  by_cases h0 : e.late = 0
  · rw [if_pos h0, if_pos h0]
  · rw [if_neg h0, if_neg h0, apply_ite Host.Outcome.next]

theorem State.applyLate_fire (hl : e.late = 0) (hc : e.counted = false) :
    s.applyLate q e l =
      (s.setCq q.num { s.cq q.num with entries := { e with counted := true } :: l }).countLate q e := by
  rw [State.applyLate, if_pos hl, if_neg (by simp [hc])]

theorem State.applyLate_skip (hl : e.late = 1) :
    s.applyLate q e l = (s.countMiss q).setCq q.num ((s.cq q.num).pop (fun x => x.firstFuture s.now)) := by
  rw [State.applyLate, if_neg (by omega), if_pos hl]

theorem State.applyLate_halt (h0 : e.late ≠ 0) (h1 : e.late ≠ 1) : s.applyLate q e l = s.haltQueue q e := by
  rw [State.applyLate, if_neg h0, if_neg h1]

end

/-- Settles O3: a push, and the late policy of a head, each taken branch by branch. -/
theorem cueQueueCommands : Obligations.CueQueueCommands := by
  unfold Obligations.CueQueueCommands
  refine ⟨?onTime, ?lateFire, ?lateSkip, ?lateHalt, ?refused, fun _ _ => rfl, fun _ _ => exec_cueqResume_halted, ?prewake,
    ?headFire, ?headSkip, ?headHalt⟩
  case onTime =>
    intro s q w e he hroom hrsv hlegal ht
    rw [exec_cueqPush_pushCue he, hrsv, State.pushCue_onTime hroom hlegal ht]
  case lateFire =>
    intro s q w e he hroom hrsv hlegal ht hl
    rw [exec_cueqPush_pushCue he, hrsv, State.pushCue_lateFire hroom hlegal ht hl]
  case lateSkip =>
    intro s q w e he hroom hrsv hlegal ht hl
    rw [exec_cueqPush_pushCue he, hrsv, State.pushCue_lateSkip hroom hlegal ht hl]
  case lateHalt =>
    intro s q w e he hroom hrsv hlegal ht hl
    rw [exec_cueqPush_pushCue he, hrsv, State.pushCue_lateHalt hroom hlegal ht hl]
  case refused =>
    intro s q w h
    rw [exec_cueqPush_pushCue rfl, State.pushCue_refused h]
  case prewake =>
    intro s q e he hs ht hu
    obtain ⟨l, hcons⟩ := List.head?_eq_some_iff.mp he
    exact exec_cuePrewake_near hcons hs ht hu
  case headFire =>
    intro s q e l he hh hlate hold hr hf hl hc
    rw [exec_cueLate_applies he hh hlate hold hr hf, State.applyLate_fire hl hc]
  case headSkip =>
    intro s q e l he hh hlate hold hr hf hl
    rw [exec_cueLate_applies he hh hlate hold hr hf, State.applyLate_skip hl]
  case headHalt =>
    intro s q e l he hh hlate hold hr hf h0 h1
    rw [exec_cueLate_applies he hh hlate hold hr hf, State.applyLate_halt h0 h1]

end Sys2Proof.Machine
end

section
/-!
O4: the actions of cues that fire (R43, R44): `State.fire_some` at the effect of each action.
-/
namespace Sys2Proof.Machine

section
variable {s : State} {e : CueEntry}

theorem exec_nop_fires {q : QueueId} (h : s.firing q 0x00 = some e) : exec (.nop q) s = .next (s.taken q e) := by
  rw [exec_nop, execNop]
  exact congrArg Host.Outcome.next (State.fire_some h rfl)

/-- R390: the source index and the parameter of the event are free values (log entry 14). -/
theorem exec_hostEvent_fires (h : s.firing .hub 0x0D = some e) :
    exec .hostEvent s =
      .next ({ s.taken .hub e with freeTick := (s.taken .hub e).freeTick + 2 }.postEvent (bitsOf e.arg 15 0) e.owner
        (Config.cueEventField (s.taken .hub e).freeTick % 256) (Config.cueEventField ((s.taken .hub e).freeTick + 1))) := by
  rw [exec_hostEvent, execHostEvent]
  exact congrArg Host.Outcome.next (State.fire_some h rfl)

theorem exec_nocWindowOpen_fires {n : Nat} (h : s.firing .hub 0x06 = some e) (hn : bitsOf e.arg 3 0 = n)
    (hb : ((s.taken .hub e).window n).booked = true) :
    exec .nocWindowOpen s = .next ((s.taken .hub e).setWindow n { (s.taken .hub e).window n with
      opened := some (s.taken .hub e).time.ns }) := by
  subst hn
  rw [exec_nocWindowOpen, execNocWindowOpen]
  exact congrArg Host.Outcome.next (State.fire_some h (congrArg some (if_pos hb)))

theorem exec_nocWindowClose_fires {n : Nat} (h : s.firing .hub 0x07 = some e) (hn : bitsOf e.arg 3 0 = n) :
    exec .nocWindowClose s =
      .next ((s.taken .hub e).setWindow n { (s.taken .hub e).window n with opened := none }) := by
  subst hn
  rw [exec_nocWindowClose, execNocWindowClose]
  exact congrArg Host.Outcome.next (State.fire_some h rfl)

theorem exec_dmaLaunch_fires {q : QueueId} (h : s.firing q 0x01 = some e)
    (hp : ((s.taken q e).chan ((s.taken q e).queueEngine q) (bitsOf e.arg 5 0)).launchPend = false) :
    exec (.dmaLaunch q) s = .next ((s.taken q e).dmaLaunch ((s.taken q e).queueEngine q) (bitsOf e.arg 5 0)) := by
  rw [exec_dmaLaunch, execDmaLaunch]
  exact congrArg Host.Outcome.next (State.fire_some h (if_neg (by simp [hp])))

theorem exec_frondJob_fires {b : Fin 8} (h : s.firing (.core b) 0x02 = some e)
    (hf : (s.taken (.core b) e).frondFull b.val = false) :
    exec (.frondJob b) s = .next ((s.taken (.core b) e).frondPush b.val (bitsOf e.arg 15 0)) := by
  rw [exec_frondJob, execFrondJob]
  exact congrArg Host.Outcome.next (State.fire_some h (if_neg (by simp [hf])))

theorem exec_taskStart_fires {b : Fin 8} (h : s.firing (.core b) 0x03 = some e)
    (hi : (s.taken (.core b) e).ctxSt ((s.taken (.core b) e).phys b.val) (bitsOf e.arg 1 0) = 0) :
    exec (.taskStart b) s =
      .next ((s.taken (.core b) e).taskStart ((s.taken (.core b) e).phys b.val) (bitsOf e.arg 1 0)) := by
  rw [exec_taskStart, execTaskStart]
  exact congrArg Host.Outcome.next (State.fire_some h (if_pos hi))

theorem exec_vppInt_fires {b : Fin 8} (h : s.firing (.core b) 0x04 = some e) :
    exec (.vppInt b) s = .next ((s.taken (.core b) e).raiseInt b.val (bitsOf e.arg 4 0)) := by
  rw [exec_vppInt, execVppInt]
  exact congrArg Host.Outcome.next (State.fire_some h rfl)

theorem exec_barrierRelease_fires (h : s.firing .hub 0x05 = some e) :
    exec .barrierRelease s =
      .next ((s.taken .hub e).barCue (bitsOf e.arg 4 0) (e.time + (s.taken .hub e).tol)) := by
  rw [exec_barrierRelease, execBarrierRelease]
  exact congrArg Host.Outcome.next (State.fire_some h rfl)

section
variable {p : Fin 12}

theorem exec_fsyncPulse_fires (h : s.firing (.port p) 0x08 = some e) :
    exec (.fsyncPulse p) s =
      .next ((s.taken (.port p) e).fsyncPulse (bitsOf e.arg 3 0) (bitsOf e.arg 15 8)) := by
  rw [exec_fsyncPulse, execFsyncPulse]
  exact congrArg Host.Outcome.next (State.fire_some h rfl)

theorem exec_sensorWrite_fires (h : s.firing (.port p) 0x09 = some e)
    (hb : (s.taken (.port p) e).i2cBusy p.val = false) :
    exec (.sensorWrite p) s = .next ((s.taken (.port p) e).i2cStartList p.val (bitsOf e.arg 7 0)) := by
  rw [exec_sensorWrite, execSensorWrite]
  exact congrArg Host.Outcome.next (State.fire_some h (if_neg (by simp [hb])))

/-- R319, R321: ISP_APPLY fires outside SLEEP. -/
theorem exec_ispApply_fires (h : s.firing (.port p) 0x0A = some e) (hs : s.power.st ≠ .sleep)
    (hw : s.power.st ≠ .waking) :
    exec (.ispApply p) s =
      .next ((s.taken (.port p) e).bindIsp (4 * p.val + bitsOf e.arg 9 8) (bitsOf e.arg 5 0)) := by
  rw [exec_ispApply, execIspApply, if_neg (not_or.mpr ⟨hs, hw⟩)]
  exact congrArg Host.Outcome.next (State.fire_some h rfl)

end

theorem exec_wake_fires (h : s.firing .aon 0x0C = some e) : exec .wake s = .next ((s.taken .aon e).wakeFire 0) := by
  rw [exec_wake, execWake]
  exact congrArg Host.Outcome.next (State.fire_some h rfl)

end

/-- Settles O4, action by action. -/
theorem cueActions : Obligations.CueActions := by
  unfold Obligations.CueActions
  exact ⟨fun _ _ _ => exec_nop_fires,
    fun _ _ h => ⟨_, exec_hostEvent_fires h, posted_postEvent _ _ _ _ _⟩,
    fun _ _ _ => exec_nocWindowOpen_fires,
    fun _ _ _ => exec_nocWindowClose_fires,
    fun _ _ _ => exec_dmaLaunch_fires,
    fun _ _ _ => exec_frondJob_fires,
    fun _ _ _ => exec_taskStart_fires,
    fun _ _ _ => exec_vppInt_fires,
    fun _ _ => exec_barrierRelease_fires,
    fun _ _ _ => exec_fsyncPulse_fires,
    fun _ _ _ => exec_sensorWrite_fires,
    fun _ _ _ => exec_ispApply_fires,
    fun _ _ => exec_wake_fires⟩

end Sys2Proof.Machine
end

section
/-!
O58: fabric actions wait for alignment (R40), and a cue that fires late is counted once (R44).
-/
namespace Sys2Proof.Machine

/-! ### The head that may start -/

/-- R44: what lets a head entry start now. -/
theorem State.firing_head {s : State} {q : QueueId} {e : CueEntry} {l : List CueEntry} (op : Nat)
    (he : (s.cq q.num).entries = e :: l) :
    s.firing q op =
      if e.op = op ∧ !(s.cq q.num).halted ∧ e.time ≤ s.now ∧ !s.holding ∧ s.queueRuns q ∧ !s.fabWaits e ∧
        (op = 0x0B ∨ !s.wingsDue e.time) ∧ (e.late = 0 ∨ !s.isLate e) ∧ !s.targetGated q then some e else none := by
  unfold State.firing
  rw [he]

/-- R40: a fabric action waits while ALIGN_OK = 0. -/
theorem State.fabWaits_iff (s : State) (e : CueEntry) :
    s.fabWaits e = true ↔ e.fab = true ∧ s.flag rCUE_STATUS fCUE_STATUS_ALIGN_OK = false := by
  simp [State.fabWaits]

section
variable {s : State} {q : QueueId} {e : CueEntry} {l : List CueEntry}

theorem State.firing_fabWaits (op : Nat) (he : (s.cq q.num).entries = e :: l) (hw : s.fabWaits e = true) :
    s.firing q op = none := by
  rw [State.firing_head op he, if_neg (by simp [hw])]

/-- A cue that may not start leaves the state as it is. -/
theorem State.fire_none {op : Nat} {eff : CueEntry → State → Option State} (h : s.firing q op = none) :
    s.fire q op eff = s := by
  unfold State.fire
  rw [h]

theorem exec_cueLate_fabWaits (he : (s.cq q.num).entries = e :: l) (hw : s.fabWaits e = true) :
    exec (.cueLate q) s = .next s := by
  rw [exec_cueLate, execCueLate]
  dsimp only
  rw [he]
  dsimp only
  rw [if_neg (by simp [hw])]

/-- R44, R45: a due head under FIRE starts where nothing holds it back. -/
theorem State.firing_due {op : Nat} (he : (s.cq q.num).entries = e :: l) (hop : e.op = op)
    (hh : (s.cq q.num).halted = false) (ht : e.time ≤ s.now) (hold : s.holding = false) (hr : s.queueRuns q = true)
    (hf : e.fab = true → s.flag rCUE_STATUS fCUE_STATUS_ALIGN_OK = true)
    (hw : op = 0x0B ∨ s.wingsDue e.time = false) (hl : e.late = 0) (hg : s.targetGated q = false) :
    s.firing q op = some e := by
  have hfab : s.fabWaits e = false := by
    rw [← Bool.not_eq_true, State.fabWaits_iff]
    rintro ⟨h1, h2⟩
    exact absurd (hf h1) (by simp [h2])
  rw [State.firing_head op he, if_pos]
  exact ⟨hop, by simp [hh], ht, by simp [hold], hr, by simp [hfab], by simpa using hw, Or.inl hl, by simp [hg]⟩

/-! ### The count of late cues -/

theorem State.fld_setCq (s : State) (k : Nat) (x : CueQueue) (a : Nat) (f : Fld) :
    (s.setCq k x).fld a f = s.fld a f := rfl

/-- R44: a cue that is taken adds 1 to CUE_LATE_CNT if it is late and has not been counted. -/
theorem State.taken_lateCount (s : State) (q : QueueId) (e : CueEntry) :
    (s.taken q e).fld rCUE_LATE_CNT wholeReg =
      if s.isLate e = true ∧ (!e.counted) = true then min (s.fld rCUE_LATE_CNT wholeReg + 1) (2 ^ 32 - 1)
      else s.fld rCUE_LATE_CNT wholeReg := by
  unfold State.taken
  rw [State.fld_setCq]
  split
  · rw [State.countLate, State.fld_count, State.fld_setCq]
  · rfl

theorem State.fld_wholeReg_le (s : State) (a : Nat) : s.fld a wholeReg ≤ 2 ^ 32 - 1 := Nat.le_pred_of_lt (getF_lt _ _)

theorem State.taken_lateCount_tol (hc : e.counted = false) (hj : e.jumped = false) :
    (s.taken q e).fld rCUE_LATE_CNT wholeReg =
      min (s.fld rCUE_LATE_CNT wholeReg + (if e.time + s.tol < s.now then 1 else 0)) (2 ^ 32 - 1) := by
  have hmax := s.fld_wholeReg_le rCUE_LATE_CNT
  rw [State.taken_lateCount]
  by_cases ht : e.time + s.tol < s.now
  · rw [if_pos (by simp [State.isLate, hc, ht]), if_pos ht]
  · rw [if_neg (by simp [State.isLate, hj, ht]), if_neg ht, Nat.add_zero, Nat.min_eq_left hmax]

end

/-- Settles O58: what holds a head back, and `State.fire_none` for each action. -/
theorem fabricActions : Obligations.FabricActions := by
  unfold Obligations.FabricActions
  refine ⟨?waits, ?hubWaits, fun _ _ _ _ _ => State.firing_due, ?fires⟩
  case waits =>
    intro s q op e l he hf ha
    have hw : s.fabWaits e = true := (s.fabWaits_iff e).mpr ⟨hf, ha⟩
    have hnone (k : Nat) : s.firing q k = none := State.firing_fabWaits k he hw
    refine ⟨hnone op, ?_, ?_, exec_cueLate_fabWaits he hw⟩
    · rw [exec_nop, execNop, State.fire_none (hnone _)]
    · rw [exec_dmaLaunch, execDmaLaunch, State.fire_none (hnone _)]
  case hubWaits =>
    intro s e l he hf ha
    have hnone (k : Nat) : s.firing .hub k = none := State.firing_fabWaits k he ((s.fabWaits_iff e).mpr ⟨hf, ha⟩)
    refine ⟨?_, ?_, ?_, ?_⟩
    · rw [exec_hostEvent, execHostEvent, State.fire_none (hnone _)]
    · rw [exec_nocWindowOpen, execNocWindowOpen, State.fire_none (hnone _)]
    · rw [exec_nocWindowClose, execNocWindowClose, State.fire_none (hnone _)]
    · rw [exec_barrierRelease, execBarrierRelease, State.fire_none (hnone _)]
  case fires =>
    rintro s q op e l he hop hh ht hold hr hf hw hl hg rfl
    exact ⟨exec_nop_fires (State.firing_due he hop hh ht hold hr hf hw hl hg), State.taken_lateCount_tol⟩

end Sys2Proof.Machine
end

section
/-!
O5: the strobe of a Wings set (R57, R58), and the reports, commits and deadlines of fabric sets (R61).
-/
namespace Sys2Proof.Machine

/-! ### The strobe -/

section
variable {s : State} {n : Nat}

/-- R57: with every member sealed, the set is applied whole. -/
theorem State.strobe_sealed (h : (s.wset n).members.all (fun m => m.isSealed) = true) :
    s.strobe n = (s.applyMembers (s.wset n)).setWset n { s.wset n with
      st := .applied
      appliedAt := s.now
      members := (s.wset n).members.map (fun (m : WMember) => { m with isSealed := false }) } := by
  have hnone : (s.wset n).members.findIdx? (fun m => !m.isSealed) = none := by simpa using h
  unfold State.strobe
  dsimp only
  rw [hnone]

/-- R58: a set with an unsealed member fails, and the later sets are checked again. -/
theorem State.strobe_unsealed {i : Nat} (h : (s.wset n).members.findIdx? (fun m => !m.isSealed) = some i) :
    s.strobe n = ((s.setWset n { s.wset n with failedMember := some i }).failSet n 0x11).recheckLater (s.wset n).time := by
  unfold State.strobe
  dsimp only
  rw [h]

end

section
variable {s : State} {n : Fin 64}

/-- R43, R57: the hub cue that names the set fires with its strobe. -/
theorem exec_wingsApply_cue {e : CueEntry} (h : s.firing .hub 0x0B = some e) (hn : bitsOf e.arg 5 0 = n.val)
    (ha : (s.taken .hub e).awake = true) (hd : (s.taken .hub e).strobeDue n.val = true) :
    exec (.wingsApply n) s = .next ((s.taken .hub e).strobe n.val) := by
  rw [exec_wingsApply, execWingsApply, h]
  dsimp only
  rw [if_pos hn]
  exact congrArg Host.Outcome.next (State.fire_some h (congrArg some (if_pos ⟨ha, hd⟩)))

/-- R57: the strobe that comes on its own. -/
theorem exec_wingsApply_strobe (h : s.firing .hub 0x0B = none) (ha : s.awake = true)
    (hd : s.strobeDue n.val = true) : exec (.wingsApply n) s = .next (s.strobe n.val) := by
  rw [exec_wingsApply, execWingsApply, h]
  exact congrArg Host.Outcome.next (if_pos ⟨ha, hd⟩)

end

/-! ### Fabric sets -/

theorem exec_wingsCommitDeadline_missed {s : State} {n : Fin 64} (hs : (s.wset n.val).st = .armed)
    (hf : (s.wset n.val).fabric ≠ 0) (hc : (s.wset n.val).committed = false)
    (ht : (s.wset n.val).time ≤ s.now + 1000000) :
    exec (.wingsCommitDeadline n) s = .next ((s.failSet n.val 0x10).recheckLater (s.wset n.val).time) := by
  rw [exec_wingsCommitDeadline, execWingsCommitDeadline]
  rw [if_pos ⟨hs, hf, by simp [hc], ht⟩]

theorem exec_wingsRpt_master {s : State} {l : Fin 7} {m : LinkMsg} (h : s.headMsg l.val 0x38 = some m)
    (hm : s.master = true) : exec (.wingsRpt l) s = .next ((s.freeRx l.val m).takeReport m) := by
  rw [exec_wingsRpt, execWingsRpt, h]
  dsimp only
  rw [if_pos hm]

theorem exec_wingsCommit_head {s : State} {l : Fin 7} {m : LinkMsg} (h : s.headMsg l.val 0x39 = some m) :
    exec (.wingsCommit l) s = .next ((s.freeRx l.val m).mapWings (fun x =>
      if x.st = .armed ∧ x.fabric = m.field 16 2 ∧ m.field 16 2 ≠ 0 ∧ s.now + 1000000 ≤ x.time
      then { x with committed := true } else x)) := by
  rw [exec_wingsCommit, execWingsCommit, h]

/-- Settles O5: when the strobe comes, and its two results. -/
theorem wingsEvents : Obligations.WingsEvents := by
  unfold Obligations.WingsEvents
  refine ⟨fun _ _ _ => exec_wingsApply_cue, ?applied, ?failed, fun _ _ => exec_wingsCommitDeadline_missed,
    fun _ _ _ => exec_wingsRpt_master, fun _ _ _ => exec_wingsCommit_head⟩
  case applied =>
    intro s n h ha hd hall
    exact ⟨_, exec_wingsApply_strobe h ha hd, State.strobe_sealed hall⟩
  case failed =>
    intro s n i h ha hd hi
    rw [exec_wingsApply_strobe h ha hd, State.strobe_unsealed hi]

end Sys2Proof.Machine
end

section
/-!
O42: the host's time and Wings commands (R29, R54 to R59, R379, R381, R387). Each is `command_ok` or `command_refused` at the
command's own result.
-/
namespace Sys2Proof.Machine

/-! ### Time -/

section
variable {s t u : State} {h : CmdHeader} {e : Nat}

theorem exec_timeGet_ok (ha : s.accepts h 0x100 [] = true) (ht : t = s.accepted h 0x100 1000000 [])
    (hu : u = (t.fwRead rCUE_STATUS).2) :
    exec (.timeGet h) s = .next ((u.fwRead rCUE_TRIM).2.cmdReply h 0x100 0 []
      [t.now, (t.fwRead rCUE_STATUS).1, (u.fwRead rCUE_TRIM).1]) := by
  subst hu ht
  rw [exec_timeGet, execTimeGet]
  exact command_ok ha rfl rfl

/-- R29: a T that lies ahead is neither illegal nor clamped. -/
theorem exec_timeSetEpoch_ok (ha : s.accepts h 0x101 [] = true) (ht : t = s.accepted h 0x101 1000000 [])
    (hm : t.master = true) (he : t.now < e) :
    exec (.timeSetEpoch h e) s = .next ((t.jumpTo e).cmdReply h 0x101 0 [] [e]) := by
  subst ht
  rw [exec_timeSetEpoch, execTimeSetEpoch]
  refine command_ok ha ?_ ?_
  · have hnot : ¬ ((s.withCommand (s.outEntry h 0x101 1000000 [])).master = true ∧
        e < (s.withCommand (s.outEntry h 0x101 1000000 [])).now) := fun hc => absurd hc.2 he.not_gt
    dsimp only
    rw [if_neg hnot]
    rfl
  · dsimp only
    rw [if_neg (by simp [hm]), if_pos he, cmdOk]

theorem exec_timeSetEpoch_notMaster (ha : s.accepts h 0x101 [] = true) (ht : t = s.accepted h 0x101 1000000 [])
    (hm : t.master = false) : exec (.timeSetEpoch h e) s = .next (t.cmdReply h 0x101 0x12 [] []) := by
  subst ht
  rw [exec_timeSetEpoch, execTimeSetEpoch]
  refine command_refused ha ?_ ?_ (by decide)
  · have hnot : ¬ ((s.withCommand (s.outEntry h 0x101 1000000 [])).master = true ∧
        e < (s.withCommand (s.outEntry h 0x101 1000000 [])).now) := fun hc => Bool.false_ne_true (hm.symm.trans hc.1)
    dsimp only
    rw [if_neg hnot]
    rfl
  · dsimp only
    rw [if_pos (by simp [hm]), cmdFail]

theorem exec_timePps_ok (ha : s.accepts h 0x102 [] = true) (ht : t = s.accepted h 0x102 1000000 []) (he : e ≤ 1) :
    exec (.timePps h e) s =
      .next (State.cmdReply { t with time := { t.time with ppsEnabled := e == 1 } } h 0x102 0 [] []) := by
  subst ht
  rw [exec_timePps, execTimePps]
  refine command_ok ha ?_ rfl
  simp [fieldIs_clear (decide_eq_true he)]

end

/-! ### The Wings -/

section
variable {s t : State} {h : CmdHeader} {n : Nat}

theorem exec_wingsOpen_ok {id : Nat} (ha : s.accepts h 0x103 [] = true) (ht : t = s.accepted h 0x103 1000000 [])
    (hn : (List.range 64).find? (fun n => (t.wset n).st == .free) = some n) :
    exec (.wingsOpen h id) s = .next ((t.setWset n { st := .opened, fabric := id }).cmdReply h 0x103 0 [] [n]) := by
  subst ht
  rw [exec_wingsOpen, execWingsOpen]
  refine command_ok ha rfl ?_
  dsimp only
  rw [hn]
  rfl

/-- R387: members that are all accepted, with values in range, are staged. -/
theorem exec_wingsStage_ok {ms : List StageMember} {u : State} (ha : s.accepts h 0x104 [oSet n] = true)
    (ht : t = s.accepted h 0x104 1000000 [oSet n])
    (hms : ms.all (fun m => m.rsv == 0 && stageRsvClear m) = true) (hx : t.setExists n = true)
    (hu : t.stageAll n (ms.map stageMemberOf) = .ok u []) :
    exec (.wingsStage h n ms) s =
      .next (u.cmdReply h 0x104 0 [] [(u.wset n).st.num, (u.wset n).members.length]) := by
  subst ht
  rw [exec_wingsStage, execWingsStage]
  refine command_ok ha ?_ ?_
  · rw [List.all_map]
    exact List.all_eq_true.mpr (fun m hm => fieldIs_clear (List.all_eq_true.mp hms m hm))
  · dsimp only
    rw [if_neg (by simp [hx]), hu]
    rfl

/-- R56: a set that is OPEN or CHECKED may be checked. -/
theorem SetState.mayCheck {x : SetState} (hs : x = .opened ∨ x = .checked) : ¬ (x ≠ .opened ∧ x ≠ .checked) := by
  rcases hs with rfl | rfl <;> simp

theorem exec_wingsCheck_passes {e : Nat} (ha : s.accepts h 0x105 [oSet n] = true)
    (ht : t = s.accepted h 0x105 1000000 [oSet n]) (hx : t.setExists n = true)
    (hs : (t.wset n).st = .opened ∨ (t.wset n).st = .checked)
    (hv : t.violations n (if e = 0 then none else some e) = []) :
    exec (.wingsCheck h n e) s = .next ((t.setWset n { t.wset n with st := .checked }).cmdReply h 0x105 0 [] []) := by
  subst ht
  rw [exec_wingsCheck, execWingsCheck]
  refine command_ok ha rfl ?_
  dsimp only
  rw [if_neg (by simp [hx]), if_neg (SetState.mayCheck hs), hv]
  rfl

/-- R56: a set that violates a rule fails, and the reply lists every violation. -/
theorem exec_wingsCheck_fails {e : Nat} (ha : s.accepts h 0x105 [oSet n] = true)
    (ht : t = s.accepted h 0x105 1000000 [oSet n]) (hx : t.setExists n = true)
    (hs : (t.wset n).st = .opened ∨ (t.wset n).st = .checked)
    (hv : t.violations n (if e = 0 then none else some e) ≠ []) :
    exec (.wingsCheck h n e) s = .next ((t.setWset n { t.wset n with st := .failed }).cmdReply h 0x105 0x10 []
      (violationWords (t.violations n (if e = 0 then none else some e)))) := by
  obtain ⟨v, l, hl⟩ := List.exists_cons_of_ne_nil hv
  subst ht
  rw [exec_wingsCheck, execWingsCheck]
  refine command_refused ha rfl ?_ (by decide)
  dsimp only
  rw [if_neg (by simp [hx]), if_neg (SetState.mayCheck hs), hl]

/-- R57: a CHECKED set whose T is in range and passes the test is armed for T. -/
theorem exec_wingsApplyAt_arms {e : Nat} (ha : s.accepts h 0x106 [oSet n] = true)
    (ht : t = s.accepted h 0x106 1000000 [oSet n]) (hlo : t.clampApplyTime n 0 ≤ e) (hhi : e < 2 ^ 64)
    (hx : t.setExists n = true) (hs : (t.wset n).st = .checked)
    (hv : (t.armSet n (t.clampApplyTime n e) none).2 = []) :
    exec (.wingsApplyAt h n e 0xFF) s = .next ((t.armSet n (t.clampApplyTime n e) none).1.cmdReply h 0x106 0 []
      [t.clampApplyTime n e]) := by
  subst ht
  rw [exec_wingsApplyAt, execWingsApplyAt]
  refine command_ok ha ?_ ?_
  · have hT := fieldIn_clear (k := 1) hlo (Nat.le_sub_one_of_lt hhi)
    have hisp : (decide (0xFF < 48) || (0xFF : Nat) == 0xFF) = true := rfl
    simp only [List.all_cons, List.all_nil, fieldIs_clear hisp, Bool.and_true]
    exact hT
  · have harm : (s.accepted h 0x106 1000000 [oSet n]).armSet n ((s.accepted h 0x106 1000000 [oSet n]).clampApplyTime n e)
        none = (((s.accepted h 0x106 1000000 [oSet n]).armSet n
          ((s.accepted h 0x106 1000000 [oSet n]).clampApplyTime n e) none).1, []) := by rw [← hv]
    dsimp only
    rw [if_neg (by simp [hx]), if_neg (by simp [hs]), if_neg (by simp), if_pos rfl, harm]
    rfl

theorem exec_wingsCancel_ok (ha : s.accepts h 0x107 [oSet n] = true) (ht : t = s.accepted h 0x107 1000000 [oSet n])
    (hx : t.setExists n = true) (hs : (t.wset n).st = .armed) (hd : t.strobeDue n = false) :
    exec (.wingsCancel h n) s = .next ((t.releaseSet n).cmdReply h 0x107 0 [] []) := by
  subst ht
  rw [exec_wingsCancel, execWingsCancel]
  refine command_ok ha rfl ?_
  dsimp only
  rw [if_neg (by simp [hx]), if_neg (by simp [hs, hd]), cmdOk]

theorem exec_wingsRelease_ok (ha : s.accepts h 0x108 [oSet n] = true) (ht : t = s.accepted h 0x108 1000000 [oSet n])
    (hx : t.setExists n = true) :
    exec (.wingsRelease h n) s = .next ((t.releaseSet n).cmdReply h 0x108 0 [] []) := by
  subst ht
  rw [exec_wingsRelease, execWingsRelease]
  refine command_ok ha rfl ?_
  dsimp only
  rw [if_neg (by simp [hx]), cmdOk]

theorem exec_wingsStatus_ok (ha : s.accepts h 0x109 [oSet n] = true) (ht : t = s.accepted h 0x109 1000000 [oSet n])
    (hn : n < 64) :
    exec (.wingsStatus h n) s = .next (t.cmdReply h 0x109 0 [] [(t.wset n).st.num, (t.wset n).appliedAt,
      b2n (t.wset n).late, (t.wset n).overrides, (t.wset n).failedMember.getD 0xFFFF]) := by
  subst ht
  rw [exec_wingsStatus, execWingsStatus]
  refine command_ok ha rfl ?_
  dsimp only
  rw [if_neg (Nat.not_le.mpr hn), cmdOk]

end

/-- Settles O42, command by command. -/
theorem hostTimeCommands : Obligations.HostTimeCommands := by
  unfold Obligations.HostTimeCommands
  exact ⟨fun _ _ _ _ => exec_timeGet_ok,
    fun _ _ _ _ => exec_timeSetEpoch_ok,
    fun _ _ _ _ => exec_timeSetEpoch_notMaster,
    fun _ _ _ _ => exec_timePps_ok,
    fun _ _ _ _ _ => exec_wingsOpen_ok,
    fun _ _ _ _ _ _ => exec_wingsStage_ok,
    fun _ _ _ _ _ => exec_wingsCheck_passes,
    fun _ _ _ _ _ => exec_wingsCheck_fails,
    fun _ _ _ _ _ => exec_wingsApplyAt_arms,
    fun _ _ _ _ => exec_wingsCancel_ok,
    fun _ _ _ _ => exec_wingsRelease_ok,
    fun _ _ _ _ => exec_wingsStatus_ok⟩

end Sys2Proof.Machine
end

section
/-!
O44: the host's script commands (R49, R288, R291, R379, R381, R386, R387, R449). Each is `command_ok`, `command_refused` or
`command_later` at the command's own result.
-/
namespace Sys2Proof.Machine

/-! ### Loading -/

section
variable {s t u : State} {h : CmdHeader} {a v n : Nat} {d : ScriptDecl} {img : List Byte} {ok : Bool × Bool}
variable (ha : s.accepts h 0x300 (oAdmission :: s.regionObj a v) = true)
  (ht : t = s.accepted h 0x300 10000000 (oAdmission :: s.regionObj a v)) (hasid : a < 16)
  (hreg : (t.regionOf a v).isSome = true) (himg : t.tvaRead a v n = (some img, u))
  (hok : ok = u.scriptAllowed (u.imageCheck (fun i => img.getD i 0)
    (n == headerLen + imgBodyLen (fun i => img.getD i 0)) 3))
include ha ht hasid hreg himg hok

/-- R449: an image that its check does not allow. -/
theorem exec_loadScript_badSignature (hno : ok.1 = false) :
    exec (.loadScript h a v n d) s = .next (u.cmdReply h 0x300 0x07 [] []) := by
  subst ht hok
  rw [exec_loadScript, execLoadScript]
  refine command_refused ha ?_ ?_ (by decide)
  · simp [fieldIs_clear (decide_eq_true hasid)]
  · obtain ⟨r, hr⟩ := Option.isSome_iff_exists.mp hreg
    dsimp only
    rw [hr, if_neg (by simp), himg]
    dsimp only
    rw [if_pos (by rw [hno]; rfl), cmdFail]

/-- R291, R449: an allowed image that no limit refuses gets its shares in the lowest free slot; an unsigned one is recorded. -/
theorem exec_loadScript_admitted {k : Nat} {w : State} (hyes : ok.1 = true) (hd : declOk d = true)
    (hlim : u.refusals d = []) (hk : (List.range 128).find? (fun n => (u.script n).isNone) = some k)
    (hw : w = u.grant k a d (imgHash (fun i => img.getD i 0))) :
    exec (.loadScript h a v n d) s = .next (State.cmdReply (if ok.2 = true
      then State.lichenFw { w with sec := { w.sec with unsignedLoaded := true } } 0x0308 k
        (ofLeBytes ((imgHash (fun i => img.getD i 0)).take 4)) 0 0
      else w) h 0x300 0 [] [k]) := by
  subst ht hok hw
  rw [exec_loadScript, execLoadScript]
  refine command_ok ha ?_ ?_
  · simp [fieldIs_clear (decide_eq_true hasid)]
  · obtain ⟨r, hr⟩ := Option.isSome_iff_exists.mp hreg
    dsimp only
    rw [hr, if_neg (by simp), himg]
    dsimp only
    rw [if_neg (by rw [hyes]; decide), if_neg (by simp [hd]), hlim]
    dsimp only
    rw [hk]
    rfl

end

/-! ### A loaded script -/

section
variable {s t : State} {h : CmdHeader} {n e : Nat} {x : Script}

theorem exec_unloadScript_ok (ha : s.accepts h 0x301 [oAdmission, oScript n] = true)
    (ht : t = s.accepted h 0x301 1000000 [oAdmission, oScript n]) (hx : t.script n = some x) (hs : x.st ≠ .running) :
    exec (.unloadScript h n) s = .next ((t.ungrant n).cmdReply h 0x301 0 [] []) := by
  subst ht
  rw [exec_unloadScript, execUnloadScript]
  refine command_ok ha rfl ?_
  dsimp only
  rw [hx]
  dsimp only
  rw [if_neg hs, cmdOk]

theorem exec_run_ok (ha : s.accepts h 0x302 [oScript n] = true) (ht : t = s.accepted h 0x302 1000000 [oScript n])
    (hx : t.script n = some x) (hs : x.st = .loaded ∨ x.st = .stopped) :
    exec (.run h n e) s = .next ((t.runScript n (if e = 0 then t.now else e)).cmdReply h 0x302 0 []
      [if e = 0 then t.now else e]) := by
  have hmay : ¬ (x.st ≠ .loaded ∧ x.st ≠ .stopped) := by rcases hs with hs | hs <;> simp [hs]
  subst ht
  rw [exec_run, execRun]
  refine command_ok ha rfl ?_
  dsimp only
  rw [hx]
  dsimp only
  rw [if_neg hmay, cmdOk]

section
variable (ha : s.accepts h 0x303 [oScript n] = true) (ht : t = s.accepted h 0x303 1000000 [oScript n])
  (hx : t.script n = some x) (hs : x.st = .running)
include ha ht hx hs

theorem exec_stop_atOnce (he : e ≤ t.now) :
    exec (.stop h n e) s = .next ((t.endRun n).cmdReply h 0x303 0 [] []) := by
  subst ht
  rw [exec_stop, execStop]
  refine command_ok ha rfl ?_
  dsimp only
  rw [hx]
  dsimp only
  rw [if_neg (not_not.mpr hs), if_pos he, cmdOk]

theorem exec_stop_later (he : t.now < e) :
    exec (.stop h n e) s = .next ((t.setScript n { x with stopAt := some e }).cmdReply h 0x303 0 [] []) := by
  subst ht
  rw [exec_stop, execStop]
  refine command_ok ha rfl ?_
  dsimp only
  rw [hx]
  dsimp only
  rw [if_neg (not_not.mpr hs), if_neg he.not_ge, cmdOk]

end

/-- R386: the request of the outstanding command with this tag is handed to its script. -/
def State.handTag (s : State) (tag : Nat) : State :=
  match s.outstandingTag tag with
  | some o => s.handRequest o
  | none => s

/-- R386: SUBMIT hands its request over, and replies when the request has run. -/
theorem exec_submit_hands {i il p pl : Nat} {u : State} (ha : s.accepts h 0x304 [oScript n, 0x5000 + n] = true)
    (ht : t = s.accepted h 0x304 600000000 [oScript n, 0x5000 + n]) (hx : t.script n = some x) (hs : x.st = .running)
    (hb : x.batch.isEmpty = false)
    (hu : u = t.modOutstanding h.tag (fun o => { o with object := n, bytes := pl, args := [i, il, p, pl] })) :
    exec (.submit h n i il p pl) s = .next (u.handTag h.tag) := by
  subst ht hu
  rw [exec_submit, execSubmit]
  refine command_later ha rfl ?_
  dsimp only
  rw [hx]
  dsimp only
  rw [if_neg (by simp [hs, hb])]
  rfl

theorem exec_scriptStatus_ok {l : List Nat} (ha : s.accepts h 0x305 [oScript n] = true)
    (ht : t = s.accepted h 0x305 1000000 [oScript n]) (hx : t.script n = some x)
    (hl : l = x.decl.streams.map (fun r => rSA_STR_MISS (recordField r 0 1))) :
    exec (.scriptStatus h n) s = .next ((t.gather l).cmdReply h 0x305 0 []
      [x.st.num, x.misses + sumNat (l.map (fun a => (t.gather l).total a 0)), x.faults, x.haltCause]) := by
  subst ht hl
  rw [exec_scriptStatus, execScriptStatus]
  refine command_ok ha rfl ?_
  dsimp only
  rw [hx]
  rfl

theorem exec_restart_ok (ha : s.accepts h 0x306 [oScript n] = true) (ht : t = s.accepted h 0x306 1000000 [oScript n])
    (hx : t.script n = some x) (hs : x.st ≠ .running) :
    exec (.restart h n) s = .next (((t.initScript x).setScript n { x with
      st := .loaded
      anchor := none
      pushed := []
      stopAt := none
      haltCause := 0
      requests := [] }).cmdReply h 0x306 0 [] []) := by
  subst ht
  rw [exec_restart, execRestart]
  refine command_ok ha rfl ?_
  dsimp only
  rw [hx]
  dsimp only
  rw [if_neg hs, cmdOk]

end

/-- Settles O44, command by command; LOAD_SCRIPT by what the check of its image allows. -/
theorem hostScriptCommands : Obligations.HostScriptCommands := by
  unfold Obligations.HostScriptCommands
  refine ⟨?load,
    fun _ _ _ _ _ => exec_unloadScript_ok,
    fun _ _ _ _ _ _ => exec_run_ok,
    fun _ _ _ _ _ _ => exec_stop_atOnce,
    fun _ _ _ _ _ _ => exec_stop_later,
    fun _ _ _ _ _ _ _ _ _ _ => exec_submit_hands,
    fun _ _ _ _ _ _ => exec_scriptStatus_ok,
    fun _ _ _ _ _ => exec_restart_ok⟩
  intro s t h a v n k d u w img ok ha ht hasid hreg himg hok hd hlim hk hw
  cases hallow : ok.1 with
  | true =>
    rw [if_pos rfl]
    exact exec_loadScript_admitted ha ht hasid hreg himg hok hallow hd hlim hk hw
  | false =>
    rw [if_neg Bool.false_ne_true]
    exact exec_loadScript_badSignature ha ht hasid hreg himg hok hallow

end Sys2Proof.Machine
end

section
/-!
O49: the state after reset (R29, R427, R431). Nothing has been written, so every register and byte reads its default.
-/
namespace Sys2Proof.Machine

theorem reset_reg (a : Nat) : State.reset.reg a = regReset a := rfl

theorem reset_byte (k : Nat) : State.reset.byte k = blankByte k := rfl

/-- R33: CUE_STATUS after reset: HOPS is 255 and SOURCE 1, and every other flag is 0. -/
theorem reset_cueStatus : regReset rCUE_STATUS = 0xFF01 := by decide

/-- R33: CUE_LATE_TOL after reset: 1 µs. -/
theorem reset_lateTol : regReset rCUE_LATE_TOL = 1000 := by decide

/-- R428: AON_RST_CAUSE after a power-on. -/
theorem reset_rstCause : regReset rAON_RST_CAUSE = 1 := by decide

/-- Settles O49: the fields by their defaults, and the registers of the tables by their rows. -/
theorem resetState : Obligations.ResetState := by
  unfold Obligations.ResetState
  refine ⟨⟨rfl, rfl, rfl, rfl, rfl, rfl, rfl, rfl⟩, reset_reg, reset_byte, ?align, ?master, ?tol, ?cause, by decide,
    by decide⟩
  case align => simp only [State.flag, State.fld, reset_reg, reset_cueStatus]; decide
  case master => simp only [State.flag, State.fld, reset_reg, reset_cueStatus]; decide
  case tol => simp only [State.fld, reset_reg, reset_lateTol]; decide
  case cause => simp only [State.fld, reset_reg, reset_rstCause]; decide

end Sys2Proof.Machine
end

section
/-!
O6: how a frond job joins the queue (R85, R86), leaves it (R69, R87) and loads its weight blocks (R66, R89).
-/
namespace Sys2Proof.Machine

/-! ### Pushes -/

/-- R85: the job that the 64 bytes of a descriptor at X-memory offset `ofs` spell. -/
def FrondJob.ofBytes (ofs : Nat) (bytes : List Byte) : FrondJob where
  ofs := ofs
  d := (List.range 16).map (fun (i : Nat) => ofLeBytes ((bytes.drop (4 * i)).take 4))

section
variable {s : State} {b ofs : Nat} (ha : ofs % 32 = 0)
include ha

/-- R85: a push that finds 16 jobs is refused with QUEUE_FULL, and no descriptor is read. -/
theorem State.frondPush_full (hf : s.frondFull b = true) : s.frondPush b ofs = s.frondRefuse b 4 0 ofs := by
  rw [State.frondPush, if_neg (not_not_intro ha), if_pos hf]

variable {s1 : State} {bytes : List Byte} (hf : s.frondFull b = false)
  (hr : s.readMem (corePlace (s.phys b) (0x300000 + ofs)) 64 = (some bytes, s1))
include hf hr

/-- R86: the descriptor that has been read is queued whole or refused whole. -/
theorem State.frondPush_read :
    s.frondPush b ofs =
      if (FrondJob.ofBytes ofs bytes).check ≠ 0 then s1.frondRefuse b 1 (FrondJob.ofBytes ofs bytes).check ofs
      else s1.setFrond (s.phys b) { s1.frond (s.phys b) with
        queue := (s1.frond (s.phys b)).queue ++ [FrondJob.ofBytes ofs bytes] } := by
  rw [State.frondPush, if_neg (not_not_intro ha), if_neg (ne_true_of_eq_false hf), hr]
  rfl

theorem State.frondPush_queued (hc : (FrondJob.ofBytes ofs bytes).check = 0) :
    s.frondPush b ofs =
      s1.setFrond (s.phys b) { s1.frond (s.phys b) with
        queue := (s1.frond (s.phys b)).queue ++ [FrondJob.ofBytes ofs bytes] } := by
  rw [State.frondPush_read ha hf hr, if_neg (not_not_intro hc)]

end

theorem exec_frondJobQWrite_frondPush (b : Fin 9) (w : Word) (s : State) :
    exec (.frondJobQWrite b w) s = .next (s.frondPush b.val (getF w fFROND_JOB_Q_DESC_OFS)) := by
  rw [exec_frondJobQWrite, execFrondJobQWrite]

/-! ### Leaving the queue -/

section
variable {s s1 : State} {b : Fin 9} {j j1 : FrondJob} (hh : (s.frond (s.phys b.val)).halted = [])
  (hfence : s.frondFenced b.val = false)
include hh hfence

/-- R69, R87: the next job runs once its ranges are granted; a batch job, only while none is set aside. -/
theorem exec_frondJobStart_granted (hn : (s.frond (s.phys b.val)).next = some j)
    (hc : (s.frond (s.phys b.val)).cur = none) (hs : (s.frond (s.phys b.val)).saved = none ∨ j.rt = true)
    (hl : s.frondLeave (s.phys b.val) j = (s1, some j1)) :
    exec (.frondJobStart b) s =
      .next (s1.setFrond (s.phys b.val) { s1.frond (s.phys b.val) with cur := some j1 }) := by
  have hmay : (s.frond (s.phys b.val)).saved.isSome = true → j.rt = true := by
    rcases hs with h | h <;> simp [h]
  rw [exec_frondJobStart, execFrondJobStart]
  dsimp only
  rw [hn]
  dsimp only
  rw [if_neg (by simpa [hc, hh, hfence] using hmay), hl]

/-- R69: the real-time job takes the idle plane; the batch job set aside loads its tile again. -/
theorem exec_frondRtPreempt_granted {c : FrondJob} (hc : (s.frond (s.phys b.val)).cur = some c)
    (hq : (s.frond (s.phys b.val)).queue.find? FrondJob.rt = some j) (hrt : c.rt = false) (hbad : c.bad = none)
    (hs : (s.frond (s.phys b.val)).saved = none) (hl : s.frondLeave (s.phys b.val) j = (s1, some j1)) :
    exec (.frondRtPreempt b) s =
      .next (s1.setFrond (s.phys b.val) { s1.frond (s.phys b.val) with
        cur := some j1
        saved := some { c with plane := [] } }) := by
  rw [exec_frondRtPreempt, execFrondRtPreempt]
  dsimp only
  rw [hc, hq]
  dsimp only
  rw [if_neg (by simp [hrt, hbad, hs, hh, hfence]), hl]

end

/-! ### Weight blocks -/

/-- R89: the address of the next block as FROND_ERR_ADDR shows it: a word of the local store, or a DPA. -/
def FrondJob.shownAddr (j : FrondJob) : Nat :=
  if j.wsrc = 0 then (j.tileAddr j.pass + j.plane.length * j.blockBytes) / 2
  else j.tileAddr j.pass + j.plane.length * j.blockBytes

/-- R66: the idle plane of physical core `p` takes a block; the last one of a tile completes it. -/
def State.blockEnter (s : State) (p : Nat) (j : FrondJob) (blk : List Byte) : State :=
  let j1 := { j with plane := j.plane ++ [blk] }
  let t := s.setFrond p { s.frond p with cur := some j1 }
  if j1.plane.length = j.blocks j.pass then t.tileLoaded p j1 else t

section
variable {s s1 : State} {b : Fin 9} {j : FrondJob} {blk : List Byte} (hc : (s.frond (s.phys b.val)).cur = some j)
  (hbad : j.bad = none) (hp : j.pass < j.kt) (hb : j.plane.length < j.blocks j.pass)
  (hh : (s.frond (s.phys b.val)).halted = []) (hn : s.nextBlock b.val j = (some (some blk), s1))
include hc hbad hp hb hh hn

/-- R89: a block is checked as it enters the idle plane. -/
theorem exec_frondWeightBlockLoad_arrived :
    exec (.frondWeightBlockLoad b) s =
      .next (if j.blockOk (j.blockNo j.pass j.plane.length) blk then s1.blockEnter (s.phys b.val) j blk
        else s1.frondHalt b.val { j with bad := some (2, j.pass, j.shownAddr) }) := by
  rw [exec_frondWeightBlockLoad, execFrondWeightBlockLoad]
  dsimp only
  rw [hc]
  dsimp only
  rw [if_neg (by simp [hbad, hp, hb, hh]), hn, apply_ite Host.Outcome.next]
  rfl

theorem exec_frondWeightBlockLoad_enters (hok : j.blockOk (j.blockNo j.pass j.plane.length) blk = true) :
    exec (.frondWeightBlockLoad b) s = .next (s1.blockEnter (s.phys b.val) j blk) := by
  rw [exec_frondWeightBlockLoad_arrived hc hbad hp hb hh hn, if_pos hok]

/-- R89: SCALE_SKEW, at the pass that would use the block. -/
theorem exec_frondWeightBlockLoad_skewed (hok : j.blockOk (j.blockNo j.pass j.plane.length) blk = false) :
    exec (.frondWeightBlockLoad b) s =
      .next (s1.frondHalt b.val { j with bad := some (2, j.pass, j.shownAddr) }) := by
  rw [exec_frondWeightBlockLoad_arrived hc hbad hp hb hh hn, if_neg (ne_true_of_eq_false hok)]

end

/-- Settles O6: a push by what becomes of its descriptor, then the start, the preemption and the two ends of a block's check. -/
theorem frondQueue : Obligations.FrondQueue := by
  unfold Obligations.FrondQueue
  refine ⟨?queued, ?full, ?start, ?preempt, ?enters, fun _ _ _ _ _ => exec_frondWeightBlockLoad_skewed⟩
  case queued =>
    rintro s s1 b w bytes _ ha hf hr rfl hc
    rw [exec_frondJobQWrite_frondPush]
    exact congrArg Host.Outcome.next (State.frondPush_queued ha hf hr hc)
  case full =>
    intro s b w ha hf
    rw [exec_frondJobQWrite_frondPush, State.frondPush_full ha hf]
  case start =>
    intro s s1 b j j1 hn hc hh hfence hs hl
    exact exec_frondJobStart_granted hh hfence hn hc hs hl
  case preempt =>
    intro s s1 b c j j1 hc hq hrt hbad hs hh hfence hl
    exact exec_frondRtPreempt_granted hh hfence hc hq hrt hbad hs hl
  case enters =>
    rintro s s1 b j _ blk hc hbad hp hb hh hn hok rfl
    exact exec_frondWeightBlockLoad_enters hc hbad hp hb hh hn hok

end Sys2Proof.Machine
end

section
/-!
O57: the FRC decoder reads back the minima, shifts and residuals that the encoder stored (R116), so a decoded element is its
original with the low bits of its distance from the lane's minimum dropped (R117, R118).
-/
namespace Sys2Proof.Machine

/-! ### Numbers as bytes and as bit fields -/

@[simp] theorem length_leBytes (k n : Nat) : (leBytes k n).length = k := by
  induction k generalizing n with
  | zero => rfl
  | succ k ih => simp [leBytes, ih]

theorem ofLeBytes_leBytes {k n : Nat} (h : n < 2 ^ (8 * k)) : ofLeBytes (leBytes k n) = n := by
  induction k generalizing n with
  | zero => simp at h; simp [leBytes, ofLeBytes, h]
  | succ k ih =>
    have hdiv : n / 256 < 2 ^ (8 * k) := by
      rw [Nat.mul_succ, pow_add] at h
      omega
    simp only [leBytes, ofLeBytes, ih hdiv, BitVec.toNat_ofNat]
    omega

theorem packBits_lt (w : Nat) (l : List Nat) : packBits w l < 2 ^ (w * l.length) := by
  induction l with
  | nil => simp [packBits]
  | cons x l ih =>
    have hx : x % 2 ^ w < 2 ^ w := Nat.mod_lt _ (by positivity)
    calc packBits w (x :: l) < 2 ^ w * (packBits w l + 1) := by rw [packBits, Nat.mul_succ]; omega
      _ ≤ 2 ^ w * 2 ^ (w * l.length) := Nat.mul_le_mul_left _ ih
      _ = 2 ^ (w * (x :: l).length) := by rw [List.length_cons, Nat.mul_succ, ← pow_add, Nat.add_comm]

/-- Field `i` of packed fields is the `i`-th of them, cut to the width. -/
theorem packBits_field (w : Nat) (l : List Nat) (i : Nat) : packBits w l / 2 ^ (w * i) % 2 ^ w = l.getD i 0 % 2 ^ w := by
  induction l generalizing i with
  | nil => simp [packBits]
  | cons x l ih =>
    have hx : x % 2 ^ w < 2 ^ w := Nat.mod_lt _ (by positivity)
    cases i with
    | zero => simp [packBits]
    | succ i =>
      have hshift : packBits w (x :: l) / 2 ^ w = packBits w l := by
        rw [packBits, Nat.add_mul_div_left _ _ (by positivity), Nat.div_eq_of_lt hx, Nat.zero_add]
      rw [Nat.mul_succ, Nat.add_comm, pow_add, ← Nat.div_div_eq_div_mul, hshift, ih, List.getD_cons_succ]

/-- Fields stored in enough bytes are read back. -/
theorem packBits_field_leBytes {w k i : Nat} {l : List Nat} (hk : w * l.length ≤ 8 * k) (hi : l.getD i 0 < 2 ^ w) :
    ofLeBytes (leBytes k (packBits w l)) / 2 ^ (w * i) % 2 ^ w = l.getD i 0 := by
  rw [ofLeBytes_leBytes ((packBits_lt w l).trans_le (Nat.pow_le_pow_right (by decide) hk)), packBits_field, Nat.mod_eq_of_lt hi]

/-! ### Elements of a type -/

/-- R117: the values of a TYPE. -/
def InType (t : Nat) (x : Int) : Prop := typeMin t ≤ x ∧ x ≤ typeMax t

theorem inType_zero (t : Nat) : InType t 0 := by
  unfold InType typeMin typeMax
  split_ifs <;> decide

theorem inType_typeVal (t v : Nat) : InType t (typeVal t v) := by
  unfold InType typeVal typeMin typeMax typeBytes
  have h8 : -(2 ^ 7) ≤ signed 8 v ∧ signed 8 v < 2 ^ 7 := signed_bounds 7 v
  have h16 : -(2 ^ 15) ≤ signed 16 v ∧ signed 16 v < 2 ^ 15 := signed_bounds 15 v
  split_ifs <;> omega

theorem typeVal_wrapTo {t : Nat} {x : Int} (hx : InType t x) : typeVal t (wrapTo (8 * typeBytes t) x) = x := by
  unfold InType typeMin typeMax at hx
  obtain rfl | rfl | rfl | ht : t = 0 ∨ t = 1 ∨ t = 2 ∨ 2 < t := by omega
  · exact signed_wrapTo (n := 7) (by simp at hx; omega) (by simp at hx; omega)
  · simp [typeVal, typeBytes, wrapTo] at hx ⊢
    omega
  · exact signed_wrapTo (n := 15) (by simp at hx; omega) (by simp at hx; omega)
  · simp [typeVal, typeBytes, wrapTo, show t ≠ 0 by omega, show t ≠ 1 by omega, show t ≠ 2 by omega,
      show ¬ t < 2 by omega] at hx ⊢
    omega

theorem elems_cons_byte {t : Nat} (ht : t < 2) (a : Byte) (bs : List Byte) :
    elems t (a :: bs) = typeVal t a.toNat :: elems t bs := by
  cases bs <;> simp [elems, ht]

theorem elems_cons_half {t : Nat} (ht : ¬ t < 2) (a b : Byte) (bs : List Byte) :
    elems t (a :: b :: bs) = typeVal t (a.toNat + 256 * b.toNat) :: elems t bs := by
  simp [elems, ht]

theorem inType_of_mem_elems {t : Nat} {bs : List Byte} {x : Int} (h : x ∈ elems t bs) : InType t x := by
  fun_induction elems t bs with
  | case1 a b bs ht ih => exact (List.mem_cons.1 h).elim (fun e => e ▸ inType_typeVal t _) ih
  | case2 a b bs ht ih => exact (List.mem_cons.1 h).elim (fun e => e ▸ inType_typeVal t _) ih
  | case3 a ht => exact List.mem_singleton.1 h ▸ inType_typeVal t _
  | case4 => cases h
  | case5 => cases h

/-- An element past the end of the bytes reads as 0, which every type holds. -/
theorem inType_elems_getD (t : Nat) (bs : List Byte) (e : Nat) : InType t ((elems t bs).getD e 0) := by
  rw [List.getD_eq_getElem?_getD]
  cases h : (elems t bs)[e]? with
  | none => exact inType_zero t
  | some x => exact inType_of_mem_elems (List.mem_of_getElem? h)

theorem length_elemBytes (t : Nat) (l : List Int) : (elemBytes t l).length = l.length * typeBytes t := by
  induction l with
  | nil => simp [elemBytes]
  | cons x l ih => simp [elemBytes, ih, Nat.succ_mul, Nat.add_comm]

theorem elems_leBytes_append {t n : Nat} (hn : n < 2 ^ (8 * typeBytes t)) (bs : List Byte) :
    elems t (leBytes (typeBytes t) n ++ bs) = typeVal t n :: elems t bs := by
  by_cases ht : t < 2
  · simp only [typeBytes, if_pos ht] at hn ⊢
    have hmod : n % 256 = n := Nat.mod_eq_of_lt hn
    simp [leBytes, elems_cons_byte ht, hmod]
  · simp only [typeBytes, if_neg ht] at hn ⊢
    have hsum : n % 256 + 256 * (n / 256 % 256) = n := by omega
    simp [leBytes, elems_cons_half ht, hsum]

theorem elems_elemBytes {t : Nat} {l : List Int} (h : ∀ x ∈ l, InType t x) : elems t (elemBytes t l) = l := by
  induction l with
  | nil => rfl
  | cons x l ih =>
    have hlt : wrapTo (8 * typeBytes t) x < 2 ^ (8 * typeBytes t) := by
      unfold wrapTo
      zify
      rw [Int.toNat_of_nonneg (Int.emod_nonneg _ (by positivity))]
      exact Int.emod_lt_of_pos _ (by positivity)
    rw [elemBytes, elems_leBytes_append hlt, typeVal_wrapTo (h x List.mem_cons_self),
      ih fun y hy => h y (List.mem_cons_of_mem _ hy)]

theorem clampInt_of_inType {t : Nat} {x : Int} (h : InType t x) : clampInt (typeMin t) (typeMax t) x = x := by
  obtain ⟨hlo, hhi⟩ := h
  rw [clampInt, if_neg (by omega), if_neg (by omega)]

/-! ### Minimum and shift of a lane -/

theorem minOf_eq_min {l : List Int} (h : l ≠ []) : minOf l = l.min h := by
  cases l with
  | nil => exact absurd rfl h
  | cons a l => simp [minOf, List.min]

theorem maxOf_eq_max {l : List Int} (h : l ≠ []) : maxOf l = l.max h := by
  cases l with
  | nil => exact absurd rfl h
  | cons a l => simp [maxOf, List.max]

/-- The shift leaves a span within the largest residual, when the shifts it tries reach far enough. -/
theorem frcShift_fits {span rmax k : Nat} (h : span / 2 ^ k ≤ rmax) : span / 2 ^ frcShift span rmax k ≤ rmax := by
  induction k generalizing span with
  | zero => simpa [frcShift] using h
  | succ k ih =>
    by_cases hs : span ≤ rmax
    · simp [frcShift, hs]
    · have hhalf : span / 2 / 2 ^ k ≤ rmax := by rwa [Nat.div_div_eq_div_mul, ← Nat.pow_succ']
      simpa [frcShift, hs, Nat.pow_add, ← Nat.div_div_eq_div_mul] using ih hhalf

/-- No shift that fits is smaller. -/
theorem frcShift_le {span rmax m : Nat} (k : Nat) (h : span / 2 ^ m ≤ rmax) : frcShift span rmax k ≤ m := by
  induction k generalizing span m with
  | zero => exact Nat.zero_le m
  | succ k ih =>
    by_cases hs : span ≤ rmax
    · simp [frcShift, hs]
    · cases m with
      | zero => exact absurd (by simpa using h) hs
      | succ m =>
        have hhalf : span / 2 / 2 ^ m ≤ rmax := by rwa [Nat.div_div_eq_div_mul, ← Nat.pow_succ']
        simpa [frcShift, hs, Nat.add_comm 1] using ih hhalf

theorem frcLane_ne_nil (v : List Int) (c : Nat) : frcLane v c ≠ [] := by simp [frcLane]

/-- R115: element `e` belongs to lane `e mod 16`. -/
theorem mem_frcLane {e : Nat} (v : List Int) (he : e < 256) : v.getD e 0 ∈ frcLane v (e % 16) :=
  List.mem_map.2 ⟨e / 16, List.mem_range.2 (by omega), by rw [Nat.div_add_mod]⟩

theorem inType_of_mem_frcLane {t c : Nat} {bs : List Byte} {x : Int} (h : x ∈ frcLane (elems t bs) c) : InType t x := by
  obtain ⟨p, -, rfl⟩ := List.mem_map.1 h
  exact inType_elems_getD t bs _

/-- R117: the span of a lane. -/
def frcSpan (v : List Int) (c : Nat) : Nat := (maxOf (frcLane v c) - minOf (frcLane v c)).toNat

/-- R117: the minimum and the shift of lane `c`. -/
def frcHead (f : Nat) (v : List Int) (c : Nat) : Int × Nat := (frcHeads f v).getD c (0, 0)

theorem frcHead_eq {c : Nat} (f : Nat) (v : List Int) (hc : c < 16) :
    frcHead f v c = (minOf (frcLane v c), frcShift (frcSpan v c) (2 ^ frcRes f - 1) 16) := by
  simp [frcHead, frcHeads, frcSpan, hc]

/-! ### The fields of a block -/

/-- R116: bytes of a block's shifts. -/
def frcShBytes (f : Nat) : Nat := if f < 3 then 6 else 8
/-- R116: width of a stored shift in bits. -/
def frcShBits (f : Nat) : Nat := if f < 3 then 3 else 4

/-- R117: the residual of element `e`. -/
def frcResidual (f : Nat) (v : List Int) (e : Nat) : Nat :=
  (v.getD e 0 - (frcHead f v (e % 16)).1).toNat / 2 ^ (frcHead f v (e % 16)).2

/-- R117: what element `e` decodes to. -/
def frcValue (f : Nat) (v : List Int) (e : Nat) : Int :=
  (frcHead f v (e % 16)).1 + ((frcResidual f v e * 2 ^ (frcHead f v (e % 16)).2 : Nat) : Int)

/-- R116: the stored minima. -/
def frcMinBytes (f t : Nat) (v : List Int) : List Byte := elemBytes t ((frcHeads f v).map (·.1))
/-- R116: the stored shifts. -/
def frcShiftBytes (f : Nat) (v : List Int) : List Byte :=
  leBytes (frcShBytes f) (packBits (frcShBits f) ((frcHeads f v).map (·.2)))
/-- R116: the stored residuals. -/
def frcResBytes (f : Nat) (v : List Int) : List Byte :=
  leBytes (32 * frcRes f) (packBits (frcRes f) ((List.range 256).map (frcResidual f v)))
/-- R116: the bytes of a block before its reserved ones. -/
def frcFields (f t : Nat) (v : List Int) : List Byte := frcMinBytes f t v ++ frcShiftBytes f v ++ frcResBytes f v

theorem frcEncode_eq_fields (f t : Nat) (unit : List Byte) :
    frcEncode f t unit =
      frcFields f t (elems t unit) ++ List.replicate (frcBlock f - (frcFields f t (elems t unit)).length) 0 := rfl

@[simp] theorem length_frcHeads (f : Nat) (v : List Int) : (frcHeads f v).length = 16 := by simp [frcHeads]

theorem length_frcMinBytes (f t : Nat) (v : List Int) : (frcMinBytes f t v).length = 16 * typeBytes t := by
  simp [frcMinBytes, length_elemBytes]

theorem length_frcShiftBytes (f : Nat) (v : List Int) : (frcShiftBytes f v).length = frcShBytes f := length_leBytes _ _

theorem length_frcResBytes (f : Nat) (v : List Int) : (frcResBytes f v).length = 32 * frcRes f := length_leBytes _ _

/-! ### What the encoder stores and the decoder reads -/

theorem inType_minOf_frcLane (t : Nat) (bs : List Byte) (c : Nat) : InType t (minOf (frcLane (elems t bs) c)) :=
  inType_of_mem_frcLane (minOf_eq_min (frcLane_ne_nil _ c) ▸ List.min_mem _)

theorem inType_maxOf_frcLane (t : Nat) (bs : List Byte) (c : Nat) : InType t (maxOf (frcLane (elems t bs) c)) :=
  inType_of_mem_frcLane (maxOf_eq_max (frcLane_ne_nil _ c) ▸ List.max_mem _)

theorem elems_frcMinBytes (f t : Nat) (unit : List Byte) :
    elems t (frcMinBytes f t (elems t unit)) = (frcHeads f (elems t unit)).map (·.1) := by
  refine elems_elemBytes fun x hx => ?_
  simp only [frcHeads, List.map_map] at hx
  obtain ⟨c, -, rfl⟩ := List.mem_map.1 hx
  exact inType_minOf_frcLane t unit c

/-- R117: the sum that the decoder forms for element `e`, before the clamp. -/
def frcSum (f t : Nat) (block : List Byte) (e : Nat) : Int :=
  (elems t (block.take (16 * (frcWidth f / 8)))).getD (e % 16) 0 +
    ((ofLeBytes ((block.drop (16 * (frcWidth f / 8) + frcShBytes f)).take (32 * frcRes f)) / 2 ^ (frcRes f * e) % 2 ^ frcRes f *
      2 ^ (ofLeBytes ((block.drop (16 * (frcWidth f / 8))).take (frcShBytes f)) / 2 ^ (frcShBits f * (e % 16)) %
        2 ^ frcShBits f) : Nat) : Int)

/-- R117: the element that a sum decodes to, and whether it was saturated. -/
def frcClamp (t : Nat) (x : Int) : Int × Bool :=
  (clampInt (typeMin t) (typeMax t) x, decide (clampInt (typeMin t) (typeMax t) x ≠ x))

theorem frcClamp_of_inType {t : Nat} {x : Int} (h : InType t x) : frcClamp t x = (x, false) := by
  simp [frcClamp, clampInt_of_inType h]

theorem frcDecode_eq_frcClamp (f t : Nat) (block : List Byte) :
    frcDecode f t block =
      (elemBytes t (((List.range 256).map fun e => frcClamp t (frcSum f t block e)).map (·.1)),
        (((List.range 256).map fun e => frcClamp t (frcSum f t block e)).filter (·.2)).length) := rfl

/-- R117: sums within the type are the decoded elements, and none is counted as saturated. -/
theorem frcDecode_of_inType {f t : Nat} {block : List Byte} (h : ∀ e < 256, InType t (frcSum f t block e)) :
    frcDecode f t block = (elemBytes t ((List.range 256).map (frcSum f t block)), 0) := by
  have hclamp : (List.range 256).map (fun e => frcClamp t (frcSum f t block e)) =
      (List.range 256).map (fun e => (frcSum f t block e, false)) :=
    List.map_congr_left fun e he => frcClamp_of_inType (h e (List.mem_range.1 he))
  rw [frcDecode_eq_frcClamp, hclamp, List.map_map, List.filter_map]
  simp [Function.comp_def]

section
variable {f t : Nat} (hf1 : 1 ≤ f) (hf4 : f ≤ 4) (htf : t < 2 ↔ f < 3)

include hf1 hf4 htf in
/-- R116: the fields of a block fit in it. -/
theorem length_frcFields_le (v : List Int) : (frcFields f t v).length ≤ frcBlock f := by
  simp only [frcFields, List.length_append, length_frcMinBytes, length_frcShiftBytes, length_frcResBytes, typeBytes, htf]
  interval_cases f <;> decide

include hf1 hf4 htf in
theorem length_frcEncode (unit : List Byte) : (frcEncode f t unit).length = frcBlock f := by
  rw [frcEncode_eq_fields, List.length_append, List.length_replicate,
    Nat.add_sub_cancel' (length_frcFields_le hf1 hf4 htf _)]

include htf in
theorem length_frcMinBytes_width (v : List Int) : (frcMinBytes f t v).length = 16 * (frcWidth f / 8) := by
  rw [length_frcMinBytes]
  simp only [typeBytes, frcWidth, htf]
  split_ifs <;> rfl

include htf in
theorem frcEncode_take (unit : List Byte) :
    (frcEncode f t unit).take (16 * (frcWidth f / 8)) = frcMinBytes f t (elems t unit) := by
  rw [frcEncode_eq_fields, frcFields, List.append_assoc, List.append_assoc, List.take_left' (length_frcMinBytes_width htf _)]

include htf in
theorem frcEncode_drop_take (unit : List Byte) :
    ((frcEncode f t unit).drop (16 * (frcWidth f / 8))).take (frcShBytes f) = frcShiftBytes f (elems t unit) := by
  rw [frcEncode_eq_fields, frcFields, List.append_assoc, List.append_assoc, List.drop_left' (length_frcMinBytes_width htf _),
    List.take_left' (length_frcShiftBytes f _)]

include htf in
theorem frcEncode_drop_drop_take (unit : List Byte) :
    ((frcEncode f t unit).drop (16 * (frcWidth f / 8) + frcShBytes f)).take (32 * frcRes f) = frcResBytes f (elems t unit) := by
  rw [frcEncode_eq_fields, frcFields, List.append_assoc, List.append_assoc, ← List.drop_drop,
    List.drop_left' (length_frcMinBytes_width htf _), List.drop_left' (length_frcShiftBytes f _),
    List.take_left' (length_frcResBytes f _)]

/-! ### The bounds of R117 -/

variable (ht : t < 4)

include htf ht in
theorem toNat_sub_lt_of_inType {x y : Int} (hx : InType t x) (hy : InType t y) : (x - y).toNat < 2 ^ frcWidth f := by
  obtain ⟨-, hx⟩ := hx
  obtain ⟨hy, -⟩ := hy
  simp only [frcWidth, ← htf]
  unfold typeMin at hy
  unfold typeMax at hx
  interval_cases t <;> simp at hx hy ⊢ <;> omega

include hf1 hf4 htf ht in
/-- R117: the shift that leaves as many bits of a span as a residual has is large enough. -/
theorem frcSpan_div_le (unit : List Byte) (c : Nat) :
    frcSpan (elems t unit) c / 2 ^ (frcWidth f - frcRes f) ≤ 2 ^ frcRes f - 1 := by
  have hres : frcRes f ≤ frcWidth f := by interval_cases f <;> decide
  have hspan : frcSpan (elems t unit) c < 2 ^ (frcWidth f - frcRes f) * 2 ^ frcRes f := by
    rw [← pow_add, Nat.sub_add_cancel hres]
    exact toNat_sub_lt_of_inType htf ht (inType_maxOf_frcLane t unit c) (inType_minOf_frcLane t unit c)
  exact Nat.le_sub_one_of_lt (Nat.div_lt_of_lt_mul hspan)

include hf1 hf4 htf ht in
/-- R117: a shift never exceeds 7 for FRC8 or 14 for FRC16, so its field holds it. -/
theorem frcHead_shift_lt (unit : List Byte) {c : Nat} (hc : c < 16) : (frcHead f (elems t unit) c).2 < 2 ^ frcShBits f := by
  have hbits : frcWidth f - frcRes f < 2 ^ frcShBits f := by interval_cases f <;> decide
  rw [frcHead_eq f _ hc]
  exact (frcShift_le 16 (frcSpan_div_le hf1 hf4 htf ht unit c)).trans_lt hbits

theorem frcHead_min_le (v : List Int) {e : Nat} (he : e < 256) : (frcHead f v (e % 16)).1 ≤ v.getD e 0 := by
  rw [frcHead_eq f v (Nat.mod_lt e (by decide)), minOf_eq_min (frcLane_ne_nil _ _)]
  exact List.min_le_of_mem (mem_frcLane v he)

include hf1 hf4 htf ht in
/-- R117: a residual fits its field. -/
theorem frcResidual_lt (unit : List Byte) {e : Nat} (he : e < 256) : frcResidual f (elems t unit) e < 2 ^ frcRes f := by
  have hc : e % 16 < 16 := Nat.mod_lt e (by decide)
  have hmax : (elems t unit).getD e 0 ≤ maxOf (frcLane (elems t unit) (e % 16)) :=
    maxOf_eq_max (frcLane_ne_nil _ _) ▸ List.le_max_of_mem (mem_frcLane _ he)
  have hspan : ((elems t unit).getD e 0 - minOf (frcLane (elems t unit) (e % 16))).toNat ≤ frcSpan (elems t unit) (e % 16) :=
    Int.toNat_le_toNat (Int.sub_le_sub_right hmax _)
  have h16 : 2 ^ (frcWidth f - frcRes f) ≤ 2 ^ 16 := Nat.pow_le_pow_right (by decide) (by unfold frcWidth; split_ifs <;> omega)
  have hfit := frcShift_fits ((Nat.div_le_div_left h16 (by positivity)).trans (frcSpan_div_le hf1 hf4 htf ht unit (e % 16)))
  rw [frcResidual, frcHead_eq f _ hc]
  exact (Nat.div_le_div_right hspan).trans_lt (hfit.trans_lt (Nat.sub_one_lt (by positivity)))

/-- R118: an element exceeds what it decodes to by the bits that the shift drops. -/
theorem sub_frcValue (v : List Int) {e : Nat} (he : e < 256) :
    v.getD e 0 - frcValue f v e =
      (((v.getD e 0 - (frcHead f v (e % 16)).1).toNat % 2 ^ (frcHead f v (e % 16)).2 : Nat) : Int) := by
  have hmin := frcHead_min_le (f := f) v he
  have hdiv := Nat.div_add_mod' (v.getD e 0 - (frcHead f v (e % 16)).1).toNat (2 ^ (frcHead f v (e % 16)).2)
  rw [frcValue, frcResidual]
  omega

theorem inType_frcValue (unit : List Byte) {e : Nat} (he : e < 256) : InType t (frcValue f (elems t unit) e) := by
  have hsub := sub_frcValue (f := f) (elems t unit) he
  obtain ⟨-, hmax⟩ := inType_elems_getD t unit e
  have hmin : typeMin t ≤ (frcHead f (elems t unit) (e % 16)).1 := by
    rw [frcHead_eq f _ (Nat.mod_lt e (by decide))]
    exact (inType_minOf_frcLane t unit _).1
  refine ⟨hmin.trans ?_, by omega⟩
  rw [frcValue]
  omega

/-! ### Decoding an encoded unit -/

include hf1 hf4 htf ht

/-- R116: the shift read back from its field. -/
theorem frcShiftBytes_field (unit : List Byte) {c : Nat} (hc : c < 16) :
    ofLeBytes (frcShiftBytes f (elems t unit)) / 2 ^ (frcShBits f * c) % 2 ^ frcShBits f = (frcHead f (elems t unit) c).2 := by
  have hget : ((frcHeads f (elems t unit)).map (·.2)).getD c 0 = (frcHead f (elems t unit) c).2 := by simp [frcHead, hc]
  have hroom : frcShBits f * 16 ≤ 8 * frcShBytes f := by unfold frcShBits frcShBytes; split_ifs <;> decide
  rw [← hget, frcShiftBytes, packBits_field_leBytes (by simpa using hroom)
    (hget ▸ frcHead_shift_lt hf1 hf4 htf ht unit hc)]

/-- R116: the residual read back from its field. -/
theorem frcResBytes_field (unit : List Byte) {e : Nat} (he : e < 256) :
    ofLeBytes (frcResBytes f (elems t unit)) / 2 ^ (frcRes f * e) % 2 ^ frcRes f = frcResidual f (elems t unit) e := by
  have hget : ((List.range 256).map (frcResidual f (elems t unit))).getD e 0 = frcResidual f (elems t unit) e := by simp [he]
  rw [← hget, frcResBytes, packBits_field_leBytes (by rw [List.length_map, List.length_range]; omega)
    (hget ▸ frcResidual_lt hf1 hf4 htf ht unit he)]

theorem frcSum_frcEncode (unit : List Byte) {e : Nat} (he : e < 256) :
    frcSum f t (frcEncode f t unit) e = frcValue f (elems t unit) e := by
  have hc : e % 16 < 16 := Nat.mod_lt e (by decide)
  have hmin : ((frcHeads f (elems t unit)).map (·.1)).getD (e % 16) 0 = (frcHead f (elems t unit) (e % 16)).1 := by
    simp [frcHead, hc]
  rw [frcSum, frcEncode_take htf, frcEncode_drop_take htf, frcEncode_drop_drop_take htf, elems_frcMinBytes, hmin,
    frcResBytes_field hf1 hf4 htf ht unit he, frcShiftBytes_field hf1 hf4 htf ht unit hc, frcValue]

/-- R117, R118: an encoded unit decodes to the values that its residuals stand for, none of them saturated. -/
theorem frcDecode_frcEncode (unit : List Byte) :
    frcDecode f t (frcEncode f t unit) = (elemBytes t ((List.range 256).map (frcValue f (elems t unit))), 0) := by
  have hsum : ∀ e < 256, frcSum f t (frcEncode f t unit) e = frcValue f (elems t unit) e :=
    fun e he => frcSum_frcEncode hf1 hf4 htf ht unit he
  rw [frcDecode_of_inType fun e he => hsum e he ▸ inType_frcValue unit he,
    List.map_congr_left fun e he => hsum e (List.mem_range.1 he)]

theorem elems_frcDecode_frcEncode (unit : List Byte) {e : Nat} (he : e < 256) :
    (elems t (frcDecode f t (frcEncode f t unit)).1).getD e 0 = frcValue f (elems t unit) e := by
  have hall : ∀ x ∈ (List.range 256).map (frcValue f (elems t unit)), InType t x := by
    intro x hx
    obtain ⟨e, he, rfl⟩ := List.mem_map.1 hx
    exact inType_frcValue unit (List.mem_range.1 he)
  rw [frcDecode_frcEncode hf1 hf4 htf ht, elems_elemBytes hall]
  simp [he]

end

/-- Settles O57: an encoded unit decodes to `frcValue`, which is the original less a remainder modulo `2 ^ SH` (`sub_frcValue`). -/
theorem frcErrorBound : Obligations.FrcErrorBound := by
  unfold Obligations.FrcErrorBound
  intro f t unit e hf1 hf4 ht htf _ he
  rw [elems_frcDecode_frcEncode hf1 hf4 htf ht unit he, sub_frcValue _ he]
  exact ⟨length_frcEncode hf1 hf4 htf unit, by rw [frcDecode_frcEncode hf1 hf4 htf ht], Int.natCast_nonneg _,
    Int.le_sub_one_of_lt (by exact_mod_cast Nat.mod_lt _ (Nat.two_pow_pos (frcHead f (elems t unit) (e % 16)).2))⟩

end Sys2Proof.Machine
end

section
/-!
O10: when a context leaves RUNNING (R189, R190), comes back from WAITING (R189) and has a deadline miss counted (R190).
-/
namespace Sys2Proof.Machine

/-! ### The state of a context in VPP_CTX_STAT (R191) -/

section
variable (s : State) (p st : Nat) {c d : Nat}

theorem State.ctxSt_setCtxSt (hc : c < 4) : (s.setCtxSt p c st).ctxSt p c = st % 4 := by
  have htop : 2 * c + 1 < 32 := by omega
  have hwidth : 2 * c + 1 + 1 - 2 * c = 2 := by omega
  unfold State.ctxSt State.setCtxSt
  rw [State.fld_setFld _ _ _ _ (Nat.le_succ _) htop, Fld.width, hwidth]
  rfl

theorem State.ctxSt_setCtxSt_other (hc : c < 4) (hd : d ≠ c) : (s.setCtxSt p c st).ctxSt p d = s.ctxSt p d := by
  have htop : 2 * c + 1 < 32 := by omega
  have hapart : 2 * c + 1 < 2 * d ∨ 2 * d + 1 < 2 * c := by omega
  exact State.fld_setFld_apart s _ _ _ st (Nat.le_succ _) htop hapart

end

/-! ### Leaving RUNNING -/

section
variable {s : State} {b : Fin 9} {c : Nat} (hrun : s.running (s.phys b.val) = some c)
  (hhalt : s.halted (s.phys b.val) = false)
include hrun hhalt

/-- R162, R189: the batch context gives way only with no product in flight and with another context READY. -/
theorem exec_contextSwitchOut_longWait
    (hlong : (s.sboard (s.phys b.val)).waits.any (fun w => w.who == .vpp c &&
      decide (w.since + s.fld (rVPP_CTX_CTL (s.phys b.val)) fVPP_CTX_CTL_SW_THRESH < s.time.ns)) = true)
    (hbatch : s.rtCtx (s.phys b.val) c = false) (hflight : (s.ctx (s.phys b.val) c).flight = [])
    (hready : (List.range 4).any (fun d => s.ctxSt (s.phys b.val) d == 1) = true) :
    exec (.contextSwitchOut b) s = .next ((s.setCtxSt (s.phys b.val) c 3).schedule (s.phys b.val)) := by
  rw [exec_contextSwitchOut, execContextSwitchOut]
  dsimp only
  rw [hrun]
  dsimp only
  exact if_pos ⟨hlong, by rw [hbatch]; rfl, by rw [hflight]; rfl, by rw [hhalt]; rfl, hready⟩

theorem exec_contextPreempt_due (hdue : s.preemptDue (s.phys b.val) c = true) :
    exec (.contextPreempt b) s = .next ((s.setCtxSt (s.phys b.val) c 1).schedule (s.phys b.val)) := by
  rw [exec_contextPreempt, execContextPreempt, hrun]
  exact if_pos ⟨hdue, by rw [hhalt]; rfl⟩

end

/-! ### Waiting -/

section
variable {s : State} {b : Fin 9} {c : Fin 4} {i : Nat} {w : SbWait}

theorem exec_contextWaitClear_cleared (hwait : s.ctxSt (s.phys b.val) c.val = 3)
    (hclear : s.sbWaits (s.phys b.val) c.val = false) :
    exec (.contextWaitClear b c) s = .next (s.setCtxSt (s.phys b.val) c.val 1) := by
  rw [exec_contextWaitClear, execContextWaitClear]
  exact if_pos ⟨hwait, by rw [hclear]; rfl⟩

variable (hrt : s.rtCtx (s.phys b.val) c.val = true) (hpast : s.deadlinePast (s.phys b.val) c.val = true)
include hrt hpast

/-- R190: a scoreboard wait is marked as reported, so its miss is counted once. -/
theorem exec_vppDeadlineMiss_sbWait
    (hi : (s.sboard (s.phys b.val)).waits.findIdx? (fun w => w.who == .vpp c.val && !w.reported) = some i)
    (hw : (s.sboard (s.phys b.val)).waits[i]? = some w) :
    exec (.vppDeadlineMiss b c) s =
      .next ((s.setSboard (s.phys b.val) { s.sboard (s.phys b.val) with
        waits := (s.sboard (s.phys b.val)).waits.set i { w with reported := true } }).deadlineMiss (s.phys b.val) c.val) := by
  rw [exec_vppDeadlineMiss, execVppDeadlineMiss]
  dsimp only
  rw [if_pos ⟨hrt, hpast⟩, hi]
  dsimp only
  rw [hw]

/-- R190: so is the wait of a register access. -/
theorem exec_vppDeadlineMiss_regWait
    (hi : (s.sboard (s.phys b.val)).waits.findIdx? (fun w => w.who == .vpp c.val && !w.reported) = none)
    (hreg : (s.ctx (s.phys b.val) c.val).regWait.isSome = true)
    (hrep : (s.ctx (s.phys b.val) c.val).regReported = false) :
    exec (.vppDeadlineMiss b c) s =
      .next ((s.setCtx (s.phys b.val) c.val { s.ctx (s.phys b.val) c.val with
        regReported := true }).deadlineMiss (s.phys b.val) c.val) := by
  rw [exec_vppDeadlineMiss, execVppDeadlineMiss]
  dsimp only
  rw [if_pos ⟨hrt, hpast⟩, hi]
  exact if_pos ⟨hreg, by rw [hrep]; rfl⟩

end

/-- Settles O10, command by command; a cleared wait by the two fields of VPP_CTX_STAT that it writes and leaves. -/
theorem contextCommands : Obligations.ContextCommands := by
  unfold Obligations.ContextCommands
  refine ⟨?switchOut, ?waitClear, fun _ _ _ hrun hdue hhalt => exec_contextPreempt_due hrun hhalt hdue,
    fun _ _ _ _ _ => exec_vppDeadlineMiss_sbWait, fun _ _ _ => exec_vppDeadlineMiss_regWait⟩
  case switchOut =>
    intro s b c hrun hlong hbatch hflight hhalt hready
    exact exec_contextSwitchOut_longWait hrun hhalt hlong hbatch hflight hready
  case waitClear =>
    intro s b c _ hwait hclear
    exact ⟨_, exec_contextWaitClear_cleared hwait hclear, State.ctxSt_setCtxSt s _ 1 c.isLt,
      fun d hd => State.ctxSt_setCtxSt_other s _ 1 c.isLt (Fin.val_ne_of_ne hd), sameRegs_setFld _ _ _ _, rfl⟩

end Sys2Proof.Machine
end

section
/-!
O35: what the boot ROM does (R437, R441, R443), slot confirmation (R437, R438), the locks (R439, R440), the signature engine
(R447, R451) and the write rights of the serial NOR (R433).
-/
namespace Sys2Proof.Machine

/-! ### The boot ROM -/

/-- R431, R441, R443: the state in which the boot ROM looks for what to boot: PWRGD is high, half-blown fuse pairs are complete,
and SEC_BOOT says whether the manifest is skipped, as it is in BLANK. -/
def State.bootReady (s : State) : State :=
  (s.powerGood.completeFuses s.sec.half).setFld rSEC_BOOT fSEC_BOOT_MANIFEST_SKIPPED
    (b2n ((s.powerGood.completeFuses s.sec.half).sec.lifeCycle == 0))

/-- R437: the slot `f` is tried first, then the other one; with neither started, recovery boot follows. -/
def State.bootSlots (s : State) (f : Nat) : State :=
  if (s.trySlot f).2 = true then (s.trySlot f).1.handOver f false
  else if ((s.trySlot f).1.trySlot (1 - f)).2 = true then ((s.trySlot f).1.trySlot (1 - f)).1.handOver (1 - f) true
  else ((s.trySlot f).1.trySlot (1 - f)).1.recoveryBoot 2

/-- R436: the manifest in the serial NOR has the hash that the fuses hold. -/
def State.manifestGood (s : State) : Prop := Config.sha384 (s.bytes (norPlace 0x3000000) 1792) = s.sec.manifestHash

section
variable {s : State} (hst : s.power.st = .starting) (hrst : s.power.rstLow = false) (hho : s.sec.handedOver = false)
include hst hrst hho

theorem not_bootDone : ¬(s.power.st ≠ .starting ∨ s.power.rstLow = true ∨ s.sec.handedOver = true) := by
  simp [hst, hrst, hho]

theorem exec_bootRomStart_forced : exec (.bootRomStart true) s = .next (s.bootReady.recoveryBoot 3) := by
  rw [exec_bootRomStart, execBootRomStart, if_neg (not_bootDone hst hrst hho)]
  exact if_pos rfl

theorem exec_bootRomStart_badManifest (hlc : s.bootReady.sec.lifeCycle ≠ 0) (hbad : ¬s.bootReady.manifestGood) :
    exec (.bootRomStart false) s = .next (s.bootReady.recoveryBoot 1) := by
  rw [exec_bootRomStart, execBootRomStart, if_neg (not_bootDone hst hrst hho)]
  dsimp only
  rw [if_neg Bool.false_ne_true]
  exact if_pos ⟨beq_eq_false_iff_ne.mpr hlc, hbad⟩

theorem exec_bootRomStart_bootSlots (hgood : s.bootReady.sec.lifeCycle = 0 ∨ s.bootReady.manifestGood) :
    exec (.bootRomStart false) s = .next (s.bootReady.bootSlots s.bootReady.firstSlot) := by
  have hmay : ¬((s.bootReady.sec.lifeCycle == 0) = false ∧ ¬s.bootReady.manifestGood) := by
    rw [beq_eq_false_iff_ne, not_and_not_right]
    exact hgood.resolve_left
  rw [exec_bootRomStart, execBootRomStart, if_neg (not_bootDone hst hrst hho)]
  dsimp only
  rw [if_neg Bool.false_ne_true]
  exact (if_neg hmay).trans (apply_ite Host.Outcome.next ..).symm

end

/-! ### Confirmation and the emulation gate -/

theorem exec_slotConfirm_handedOver {s : State} (h : s.sec.handedOver = true) (l : Fin 128) :
    exec (.slotConfirm l) s = .next (s.confirmSlot.rbAdvance l.val) := by
  rw [exec_slotConfirm, execSlotConfirm]
  exact congrArg Host.Outcome.next (if_pos h)

theorem exec_emuGateReq_eq (s : State) :
    exec .emuGateReq s =
      .next (if s.sec.fullTest = true ∧ testAllowed s.sec.lifeCycle = true then s.setFld rSEC_EMU_GATE fSEC_EMU_GATE_OPEN 1
        else s) := by
  rw [exec_emuGateReq, execEmuGateReq, State.emuRequest]
  simp only [Bool.and_eq_true]

/-! ### The signature engine -/

theorem exec_sigEngineGo_idle {s : State} (h : s.sec.sigOp = none) (op : Fin 2) :
    exec (.sigEngineGo op) s =
      .next { (s.setFld rSEC_SIG_CTL fSEC_SIG_CTL_OP op.val).setFld rSEC_SIG_STAT fSEC_SIG_STAT_BUSY 1 with
        sec := { s.sec with sigOp := some op.val } } := by
  rw [exec_sigEngineGo, execSigEngineGo, State.sigGo]
  exact congrArg Host.Outcome.next (if_neg (by simp [h]))

/-- R451: the state of a signature engine whose operation has ended. -/
def State.sigEnded (s : State) : State :=
  { s.setFld rSEC_SIG_STAT fSEC_SIG_STAT_BUSY 0 with sec := { s.sec with sigOp := none } }

theorem exec_sigEngineDone_verify {s : State} (h : s.sec.sigOp = some 0) :
    exec .sigEngineDone s =
      .next (s.sigEnded.setFld rSEC_SIG_STAT fSEC_SIG_STAT_RESULT (s.imageCheck (s.dpaReader s.sigAddr) true 3)) := by
  rw [exec_sigEngineDone, execSigEngineDone, h]
  rfl

/-- R447: the length of the input of an attestation: the nonce of 48 bytes, then a count and 52 bytes for each loaded script. -/
def State.attestLen (s : State) : Nat := 52 + 52 * imgNum (s.dpaReader s.sigAddr) 48 4

/-- R447, R451: the report goes behind its input, where that can be written. -/
theorem exec_sigEngineDone_attest {s : State} (h : s.sec.sigOp = some 1) :
    exec .sigEngineDone s =
      .next (((s.sigEnded.setFld rSEC_SIG_STAT fSEC_SIG_STAT_RESULT 0).dpaWrite false (s.sigAddr + s.attestLen)
        (s.report (imgBytes (s.dpaReader s.sigAddr) 0 48) (imgBytes (s.dpaReader s.sigAddr) 48 (s.attestLen - 48)))).getD
          (s.sigEnded.setFld rSEC_SIG_STAT fSEC_SIG_STAT_RESULT 0)) := by
  rw [exec_sigEngineDone, execSigEngineDone, h]
  rfl

/-! ### The serial NOR -/

theorem exec_norAccess_program (s : State) (o : Fin (2 ^ 26)) (b : List Byte) :
    exec (.norAccess (.program o b)) s = .next (s.norWrite o.val b) := by
  rw [exec_norAccess, execNorAccess]

theorem exec_norAccess_erase (s : State) (o : Fin (2 ^ 26)) (n : Nat) :
    exec (.norAccess (.erase o n)) s = .next (s.norClear o.val n) := by
  rw [exec_norAccess, execNorAccess]

/-- Settles O35, command by command. -/
theorem securityCommands : Obligations.SecurityCommands := by
  unfold Obligations.SecurityCommands
  refine ⟨?forced, ?badManifest, ?slots, fun _ l h => exec_slotConfirm_handedOver h l, fun _ => exec_secLockBoot _,
    fun _ => exec_secLockCfg _, exec_emuGateReq_eq, ?sigGo, ?verify, ?attest, ?programmed, ?erased, ?eraseDenied,
    ?programDenied⟩
  case forced =>
    rintro s _ hst hrst hho rfl
    exact exec_bootRomStart_forced hst hrst hho
  case badManifest =>
    rintro s _ hst hrst hho rfl hlc hbad
    exact exec_bootRomStart_badManifest hst hrst hho (beq_eq_false_iff_ne.mp hlc) hbad
  case slots =>
    rintro s _ _ hst hrst hho rfl hgood rfl
    exact exec_bootRomStart_bootSlots hst hrst hho hgood
  case sigGo =>
    rintro s _ op h rfl
    exact exec_sigEngineGo_idle h op
  case verify =>
    rintro s _ h rfl
    exact exec_sigEngineDone_verify h
  case attest =>
    rintro s _ _ h rfl rfl
    exact exec_sigEngineDone_attest h
  case programmed =>
    intro s o b h
    rw [exec_norAccess_program, State.norWrite, if_pos h]
  case erased =>
    intro s o n h
    rw [exec_norAccess_erase, State.norClear, if_pos h]
  case eraseDenied =>
    intro s o n h
    rw [exec_norAccess_erase, State.norClear, if_neg (ne_true_of_eq_false h)]
  case programDenied =>
    intro s o b h
    rw [exec_norAccess_program, State.norWrite, if_neg (ne_true_of_eq_false h)]

end Sys2Proof.Machine
end

section
/-!
O12: the ends of a power transition of a bank or a way (R229 to R231) and the write-back of a corrected word (R232).
-/
namespace Sys2Proof.Machine

/-! ### A map after a filter on its keys -/

section
variable {α : Type} {l : Cells α} {f : Nat × α → Bool} {k : Nat}

theorem Cells.find_filter_kept (h : ∀ v, f (k, v) = true) : Cells.find (l.filter f) k = Cells.find l k := by
  induction l with
  | nil => rfl
  | cons x l ih =>
    obtain ⟨j, v⟩ := x
    by_cases hj : j = k
    · subst hj
      simp [Cells.find, h]
    · cases hf : f (j, v) <;> simp [Cells.find, hf, hj, ih]

theorem Cells.find_filter_dropped (h : ∀ v, f (k, v) = false) : Cells.find (l.filter f) k = none := by
  induction l with
  | nil => rfl
  | cons x l ih =>
    obtain ⟨j, v⟩ := x
    by_cases hj : j = k
    · subst hj
      simp [h, ih]
    · cases hf : f (j, v) <;> simp [Cells.find, hf, hj, ih]

end

/-! ### Memory after a range of it is cleared -/

section
variable {s : State} {lo hi k : Nat}

theorem State.byte_zeroRange_inside (hlo : lo ≤ k) (hhi : k < hi) : (s.zeroRange lo hi).byte k = blankByte k := by
  have hfind : Cells.find (s.zeroRange lo hi).mem k = none := Cells.find_filter_dropped fun _ => by simp [hlo, hhi]
  rw [State.byte, Cells.get, hfind]
  rfl

theorem State.byte_zeroRange_outside (hk : k < lo ∨ hi ≤ k) : (s.zeroRange lo hi).byte k = s.byte k := by
  have hfind : Cells.find (s.zeroRange lo hi).mem k = Cells.find s.mem k :=
    Cells.find_filter_kept fun _ => by simp only [Bool.not_eq_true', decide_eq_false_iff_not]; omega
  rw [State.byte, Cells.get, hfind]
  rfl

end

/-- Log entry 3: a bank of a core lies below the serial NOR for core 0, and above it for every other. -/
theorem blankByte_bank {p i k : Nat} (hi : i < 12) (hlo : corePlace p (i * 0x40000) ≤ k)
    (hhi : k < corePlace p ((i + 1) * 0x40000)) : blankByte k = 0 := by
  have hnor : norKey k = false := by
    simp only [norKey, decide_eq_false_iff_not]
    simp only [corePlace] at hlo hhi
    omega
  simp [blankByte, hnor]

/-! ### BANK_ON -/

/-- R231: nothing has changed but the power registers of physical core `p` and the transitions of banks. -/
structure BankPowerOnly (p : Nat) (s t : State) : Prop where
  rest : t = { s with
    banks := t.banks
    regs := t.regs }
  regs : SameRegs [rLS_PWR_STAT p, rLS_PWR_CTL p] s t

section
variable {p : Nat} {s t u : State}

theorem BankPowerOnly.trans (h : BankPowerOnly p s t) (g : BankPowerOnly p t u) : BankPowerOnly p s u := by
  refine ⟨?_, (h.regs.trans g.regs).mono (by simp)⟩
  have hrest := g.rest
  rw [h.rest] at hrest
  exact hrest

theorem BankPowerOnly.byte (h : BankPowerOnly p s t) (k : Nat) : t.byte k = s.byte k := by
  rw [h.rest]
  rfl

theorem bankPowerOnly_setFld (s : State) {p a : Nat} (ha : a ∈ [rLS_PWR_STAT p, rLS_PWR_CTL p]) (f : Fld) (v : Nat) :
    BankPowerOnly p s (s.setFld a f v) :=
  ⟨rfl, (sameRegs_setFld s a f v).mono (by simpa using ha)⟩

theorem bankPowerOnly_setStat (s : State) (p : Nat) (f : Fld) (v : Nat) :
    BankPowerOnly p s (s.setFld (rLS_PWR_STAT p) f v) :=
  bankPowerOnly_setFld s List.mem_cons_self f v

theorem bankPowerOnly_banks (s : State) (p : Nat) (b : Cells BankTrans) : BankPowerOnly p s { s with banks := b } :=
  ⟨rfl, fun _ _ => rfl⟩

/-- R229, R230: a transition starts or ends, and TRANS shows it. -/
theorem BankPowerOnly.setTrans (h : BankPowerOnly p s t) (b : Cells BankTrans) (m : Nat) :
    BankPowerOnly p s (({ t with banks := b }).setFld (rLS_PWR_STAT p) fLS_PWR_STAT_TRANS m) :=
  h.trans ((bankPowerOnly_banks t p b).trans (bankPowerOnly_setStat _ p _ m))

/-- The transition of the bank or way of number `k` has ended. -/
def State.endTrans (s : State) (k : Nat) : State := { s with banks := Cells.erase s.banks k }

theorem State.endTrans_zeroRange (s : State) (k lo hi : Nat) :
    (s.endTrans k).zeroRange lo hi = (s.zeroRange lo hi).endTrans k := rfl

/-- R231: for each bank in turn, a transition is started, withdrawn or left alone. -/
theorem bankPowerOnly_setBankOn (s : State) (p v : Nat) : BankPowerOnly p s (s.setBankOn p v) := by
  unfold State.setBankOn
  refine List.foldlRecOn _ _ (bankPowerOnly_setFld s (List.mem_cons_of_mem _ List.mem_cons_self) _ v) fun t ht b _ => ?_
  dsimp only
  split
  · split
    · split
      · exact ht.setTrans _ _
      · exact ht
    · split
      · exact ht
      · exact ht.setTrans _ _
  · split
    · exact ht.setTrans _ _
    · exact ht

end

/-! ### A power-down request: it is met, or it is withdrawn -/

section
variable {s : State} {u : Fin 9} {i : Fin 16} {t : BankTrans}

section
variable (ht : s.bankTrans (16 * s.phys u.val + i.val) = some t) (hdown : t.up = false)
include ht hdown

theorem exec_bankSwitchOff_bank (hbusy : s.bankBusy (s.phys u.val) i.val = false) :
    exec (.bankSwitchOff false u i) s =
      .next (((s.endTrans (16 * s.phys u.val + i.val)).setFld (rLS_PWR_STAT (s.phys u.val)) ⟨i.val, i.val⟩ 0).setFld
        (rLS_PWR_STAT (s.phys u.val)) ⟨12 + i.val, 12 + i.val⟩ 0) := by
  rw [exec_bankSwitchOff, execBankSwitchOff, if_neg Bool.false_ne_true]
  dsimp only
  rw [ht]
  exact if_pos ⟨by rw [hdown]; rfl, by rw [hbusy]; rfl⟩

theorem exec_powerDownWithdrawn_bank (hlate : t.since + 4096 ≤ s.time.ns) :
    exec (.powerDownWithdrawn false u i) s =
      .next ((((s.endTrans (16 * s.phys u.val + i.val)).setFld (rLS_PWR_STAT (s.phys u.val))
        ⟨12 + i.val, 12 + i.val⟩ 0).setFld (rLS_PWR_FAIL (s.phys u.val)) ⟨i.val, i.val⟩ 1).lichenFw
        0x0106 u.val i.val 0 0) := by
  rw [exec_powerDownWithdrawn, execPowerDownWithdrawn, if_neg Bool.false_ne_true]
  dsimp only
  rw [ht]
  exact if_pos ⟨by rw [hdown]; rfl, hlate⟩

end

section
variable (ht : s.bankTrans (256 + 16 * u.val + i.val) = some t) (hdown : t.up = false)
include ht hdown

theorem exec_bankSwitchOff_way (hbusy : s.wayBusy u.val i.val = false) :
    exec (.bankSwitchOff true u i) s =
      .next ((s.setWayTrans u.val i.val none).setFld (rSS_WAY_STAT u.val) ⟨i.val, i.val⟩ 0) := by
  rw [exec_bankSwitchOff, execBankSwitchOff, if_pos rfl]
  dsimp only
  rw [ht]
  exact if_pos ⟨by rw [hdown]; rfl, by rw [hbusy]; rfl⟩

theorem exec_powerDownWithdrawn_way (hlate : t.since + 4096 ≤ s.time.ns) :
    exec (.powerDownWithdrawn true u i) s =
      .next (((s.setWayTrans u.val i.val none).setFld (rSS_PWR_FAIL u.val) ⟨i.val, i.val⟩ 1).lichenFw
        0x0106 (0x10 + u.val) i.val 0 0) := by
  rw [exec_powerDownWithdrawn, execPowerDownWithdrawn, if_pos rfl]
  dsimp only
  rw [ht]
  exact if_pos ⟨by rw [hdown]; rfl, hlate⟩

end

/-! ### A ramp that has ended -/

/-- R230: bank `i` of physical core `p` is on, in no transition, and zero. -/
def State.bankRisen (s : State) (p i : Nat) : State :=
  (((s.endTrans (16 * p + i)).zeroRange (corePlace p (i * 0x40000)) (corePlace p ((i + 1) * 0x40000))).setFld
    (rLS_PWR_STAT p) ⟨i, i⟩ 1).setFld (rLS_PWR_STAT p) ⟨12 + i, 12 + i⟩ 0

/-- R230: way `i` of cluster `c` is on, in no transition, and zero. -/
def State.wayRisen (s : State) (c i : Nat) : State :=
  ((s.setWayTrans c i none).zeroRange (0x4800000000 + c * 0x2000000 + i * 0x100000)
    (0x4800000000 + c * 0x2000000 + (i + 1) * 0x100000)).setFld (rSS_WAY_STAT c) ⟨i, i⟩ 1

/-- R230, R231: a bank that is on heeds what BANK_ON has asked in the meantime. -/
theorem exec_bankPowerUpDone_bank (ht : s.bankTrans (16 * s.phys u.val + i.val) = some t) (hup : t.up = true)
    (hdue : t.since + 1524 ≤ s.time.ns) :
    exec (.bankPowerUpDone false u i) s =
      .next ((s.bankRisen (s.phys u.val) i.val).setBankOn (s.phys u.val)
        ((s.bankRisen (s.phys u.val) i.val).fld (rLS_PWR_CTL (s.phys u.val)) fLS_PWR_CTL_BANK_ON)) := by
  rw [exec_bankPowerUpDone, execBankPowerUpDone, if_neg Bool.false_ne_true]
  dsimp only
  rw [ht]
  exact if_pos ⟨hup, hdue⟩

theorem exec_bankPowerUpDone_way (ht : s.bankTrans (256 + 16 * u.val + i.val) = some t) (hup : t.up = true)
    (hdue : t.since + 2548 ≤ s.time.ns) (hmode : (s.wayRisen u.val i.val).wayMode u.val i.val ≠ 0) :
    exec (.bankPowerUpDone true u i) s = .next (s.wayRisen u.val i.val) := by
  rw [exec_bankPowerUpDone, execBankPowerUpDone, if_pos rfl]
  dsimp only
  rw [ht]
  exact (if_pos ⟨hup, hdue⟩).trans (congrArg Host.Outcome.next (if_neg hmode))

end

/-- R229, R230: the end of a ramp is the zeroing of the bank and a change of power registers and transitions. -/
theorem bankPowerOnly_bankRisen (s : State) (p i : Nat) :
    BankPowerOnly p (s.zeroRange (corePlace p (i * 0x40000)) (corePlace p ((i + 1) * 0x40000))) (s.bankRisen p i) := by
  rw [State.bankRisen, State.endTrans_zeroRange]
  exact ((bankPowerOnly_banks _ p _).trans (bankPowerOnly_setStat _ p _ 1)).trans (bankPowerOnly_setStat _ p _ 0)

theorem exec_eccCorrectedWriteback_oldest {s : State} {w : Nat} {l : List Nat} (h : s.writeBacks = w :: l) :
    exec .eccCorrectedWriteback s =
      .next { s with
        writeBacks := l
        ecc := s.ecc.filter (fun (x : Nat × Nat) => !(x.1 == w && x.2 == 1)) } := by
  rw [exec_eccCorrectedWriteback, execEccCorrectedWriteback, h]

/-- Settles O12, command by command; the bytes and registers of a bank that has come up by the frames of `State.zeroRange`
and of BANK_ON. -/
theorem bankCommands : Obligations.BankCommands := by
  unfold Obligations.BankCommands
  refine ⟨fun _ _ _ _ => exec_bankSwitchOff_bank, fun _ _ _ _ => exec_bankSwitchOff_way,
    fun _ _ _ _ => exec_powerDownWithdrawn_bank, fun _ _ _ _ => exec_powerDownWithdrawn_way, ?zeroed, ?risen, ?way,
    fun _ _ _ => exec_eccCorrectedWriteback_oldest⟩
  case zeroed =>
    intro s u i t ht hup hdue
    have hon := (bankPowerOnly_bankRisen s (s.phys u.val) i.val).trans (bankPowerOnly_setBankOn _ (s.phys u.val)
      ((s.bankRisen (s.phys u.val) i.val).fld (rLS_PWR_CTL (s.phys u.val)) fLS_PWR_CTL_BANK_ON))
    refine ⟨_, exec_bankPowerUpDone_bank ht hup hdue, fun k hlo hhi => ?inside, fun k hk => ?outside, hon.regs⟩
    case inside => rw [hon.byte, State.byte_zeroRange_inside hlo hhi, blankByte_bank i.isLt hlo hhi]
    case outside => rw [hon.byte, State.byte_zeroRange_outside hk]
  case risen =>
    intro s u i t ht hup hdue _
    exact exec_bankPowerUpDone_bank ht hup hdue
  case way =>
    rintro s _ u i t ht hup hdue rfl hmode
    exact exec_bankPowerUpDone_way ht hup hdue hmode

end Sys2Proof.Machine
end

section
/-!
O13: invalidations (R211) and fills (R208, R211, R212) of the clusters' caches.
-/
namespace Sys2Proof.Machine

theorem exec_ssInvalidateGo_cluster (s : State) (b : Fin 10) (c : Fin 2) :
    exec (.ssInvalidateGo b c) s = .next (s.invGo (if b.val = 9 then c.val else clusterOf b.val) b.val) := by
  rw [exec_ssInvalidateGo, execSsInvalidateGo]

/-! ### The end of an invalidation -/

section
variable {s : State} {c : Fin 2} {v w : Invalidation} {l : List Invalidation}
  (hrun : (s.cache c.val).running = some v) (hdue : v.since + (if v.all then 16400 else v.lines + 16) ≤ s.time.ns)
include hrun hdue

theorem exec_ssInvalidateDone_last (hq : (s.cache c.val).queued = []) :
    exec (.ssInvalidateDone c) s =
      .next ((s.setFld (s.invStat c.val v.source) fCORE_SS_INV_STAT_BUSY 0).setCache c.val
        { s.cache c.val with running := none }) := by
  rw [exec_ssInvalidateDone, execSsInvalidateDone]
  dsimp only
  rw [hrun]
  dsimp only
  rw [if_pos hdue, hq]
  rfl

/-- R211: the source stays BUSY while it has a request in the queue. -/
theorem exec_ssInvalidateDone_next (hq : (s.cache c.val).queued = w :: l) :
    exec (.ssInvalidateDone c) s =
      .next (((if (w :: l).any (fun q => q.source == v.source) then s
        else s.setFld (s.invStat c.val v.source) fCORE_SS_INV_STAT_BUSY 0).setCache c.val
          { s.cache c.val with
            running := none
            queued := l }).startInv c.val w) := by
  rw [exec_ssInvalidateDone, execSsInvalidateDone]
  dsimp only
  rw [hrun]
  dsimp only
  rw [if_pos hdue, hq]

end

/-! ### Fills -/

/-- R208: the bytes `d` of the line of fill `f` are delivered to the remote access that it serves. -/
def State.deliverFill (s : State) (f : Fill) (d : List Byte) : State :=
  { s with remotes := s.remotes.map (fun (r : RemoteAccess) =>
      if r.id = f.access then
        { r with
          answered := true
          waiting := false
          answer := (d.drop (r.dpa % 64)).take r.len }
      else r) }

/-- R211: an invalidation that covers the line of fill `f` has started since the read of it went out. -/
def Cache.stale (x : Cache) (f : Fill) : Bool := x.running.any (fun v => v.covers f.line && decide (f.seq < v.seq))

theorem exec_cacheFill_read {s v : State} {c : Fin 2} {f : Fill} {l : List Fill} {d : List Byte}
    (hf : (s.cache c.val).fills = f :: l)
    (hd : (s.setCache c.val { s.cache c.val with fills := l }).readMem (64 * f.line) 64 = (some d, v)) :
    exec (.cacheFill c) s =
      .next (if ((s.cache c.val).stale f || !((v.deliverFill f d).cacheWays c.val).contains f.way) = true
        then (v.deliverFill f d).count (rSS_NOFILL_CNT c.val)
        else (v.deliverFill f d).cacheAlloc c.val f.line f.way d) := by
  rw [exec_cacheFill, execCacheFill]
  dsimp only
  rw [hf]
  dsimp only
  rw [hd]
  exact (apply_ite Host.Outcome.next _ _ _).symm

/-- Settles O13, command by command. -/
theorem cacheCommands : Obligations.CacheCommands := by
  unfold Obligations.CacheCommands
  exact ⟨exec_ssInvalidateGo_cluster, fun _ _ _ => exec_ssInvalidateDone_last, fun _ _ _ _ _ => exec_ssInvalidateDone_next,
    fun _ _ _ _ _ _ => exec_cacheFill_read⟩

end Sys2Proof.Machine
end

section
/-!
O14: registrations (R221, R225) and releases (R224) on a core's scoreboard, and how a wait ends (R223) or
exceeds its limit (R226).
-/
namespace Sys2Proof.Machine

/-! ### Registrations -/

section
variable {s : State} {b : Fin 9} {agent : Nat} {ws rs : List (Nat × Nat)}

theorem exec_sbRegister_clear (h : (s.sboard (s.phys b.val)).clear ws rs = true) :
    exec (.sbRegister b agent ws rs) s = .next (s.sbGrant (s.phys b.val) agent ws rs) := by
  rw [exec_sbRegister, execSbRegister, State.sbRegister, if_pos h]

theorem exec_sbRegister_waits (h : (s.sboard (s.phys b.val)).clear ws rs = false) :
    exec (.sbRegister b agent ws rs) s =
      .next (s.setSboard (s.phys b.val) { s.sboard (s.phys b.val) with
        waits := (s.sboard (s.phys b.val)).waits ++
          [⟨.reg agent, ws, rs, s.time.ns, (s.reg (rSB_CFG (s.phys b.val))).toNat, false, false⟩] }) := by
  rw [exec_sbRegister, execSbRegister, State.sbRegister, if_neg (ne_true_of_eq_false h)]

end

/-! ### Releases -/

/-- R224: the counts of an entry after one pending write or read fewer. -/
def SbEntry.less (e : SbEntry) (write : Bool) : SbEntry :=
  if write then { e with w := e.w - 1 } else { e with r := e.r - 1 }

section
variable {s : State} {b : Fin 9} {agent : Nat} {e : Fin 64} {write : Bool}
  (hheld : (⟨e.val, write⟩ : Ticket) ∈ Cells.get (fun _ => []) (s.sboard (s.phys b.val)).granted agent)
include hheld

theorem exec_sbRelease_held :
    exec (.sbRelease b agent e write none) s =
      .next (s.setSboard (s.phys b.val)
        { (s.sboard (s.phys b.val)).setEntry e.val (((s.sboard (s.phys b.val)).entry e.val).less write) with
          granted := Cells.set (fun _ => []) (s.sboard (s.phys b.val)).granted agent
            ((Cells.get (fun _ => []) (s.sboard (s.phys b.val)).granted agent).erase ⟨e.val, write⟩) }) := by
  rw [exec_sbRelease, execSbRelease]
  dsimp only
  rw [State.sbRelease, if_pos hheld]
  rfl

/-- R224: only the sole registrant of an entry narrows it. -/
theorem exec_sbRelease_narrow {lo hi : Nat} {x : SbEntry} (hx : x = (s.sboard (s.phys b.val)).entry e.val)
    (hmerged : x.merged = false) (hjoined : x.joined = false) (hused : x.used = true) :
    exec (.sbRelease b agent e write (some (lo, hi))) s =
      .next (s.setSboard (s.phys b.val) ((s.sboard (s.phys b.val)).setEntry e.val { x with
        lo := max x.lo lo
        hi := min x.hi hi })) := by
  subst hx
  rw [exec_sbRelease, execSbRelease, if_pos hheld, State.sbNarrow]
  exact congrArg Host.Outcome.next (if_neg (by simp [hmerged, hjoined, hused]))

end

/-! ### The end of a wait -/

/-- R223: the wait `w` has left the waits of physical core `p`. -/
def State.leaveWaits (s : State) (p : Nat) (w : SbWait) : State :=
  s.setSboard p { s.sboard p with waits := (s.sboard p).waits.erase w }

section
variable {s : State} {b : Fin 9} {w : SbWait} (hnext : (s.sboard (s.phys b.val)).nextClear = some w)
include hnext

theorem exec_sbWaitClear_vpp {c : Nat} (hwho : w.who = .vpp c) :
    exec (.sbWaitClear b) s =
      .next ((s.leaveWaits (s.phys b.val) w).countBy (rSB_VWAIT_CYC (s.phys b.val)) wholeReg (s.time.ns - w.since)) := by
  rw [exec_sbWaitClear, execSbWaitClear]
  dsimp only
  rw [hnext]
  dsimp only
  rw [hwho]
  rfl

theorem exec_sbWaitClear_registration {a : Nat} (hwho : w.who = .reg a) :
    exec (.sbWaitClear b) s = .next ((s.leaveWaits (s.phys b.val) w).sbGrant (s.phys b.val) a w.writes w.reads) := by
  rw [exec_sbWaitClear, execSbWaitClear]
  dsimp only
  rw [hnext]
  dsimp only
  rw [hwho]
  rfl

end

/-! ### Timeouts -/

/-- R226: the entry with the lowest number that makes the wait `w` on physical core `p` wait. -/
def State.firstBlocker (s : State) (p : Nat) (w : SbWait) : Nat :=
  (((s.sboard p).blockers w.writes w.reads).head?.map (·.1)).getD 0

/-- R226: a timeout on physical core `p` is counted, and latched with its kind and the entry that was waited for. -/
def State.latchTimeout (s : State) (p kind entry : Nat) : State :=
  ((s.count (rSB_TIMEOUT_CNT p)).setFld (rSB_FAULT p) fSB_FAULT_KIND kind).setFld (rSB_FAULT p) fSB_FAULT_ENTRY entry

section
variable {s : State} {b : Fin 9} {i : Nat} {w : SbWait} (hw : (s.sboard (s.phys b.val)).waits[i]? = some w)
  (hlate : w.since + w.limit ≤ s.time.ns) (htimed : w.timed = false)
include hw hlate htimed

/-- R226: a registration waits on, and its wait is not counted again. -/
theorem exec_sbTimeout_registration {a : Nat} (hwho : w.who = .reg a) :
    exec (.sbTimeout b i) s =
      .next ((s.latchTimeout (s.phys b.val) 2 (s.firstBlocker (s.phys b.val) w)).setSboard (s.phys b.val)
        { s.sboard (s.phys b.val) with
          waits := (s.sboard (s.phys b.val)).waits.set i { w with
            timed := true
            reported := true } }) := by
  rw [exec_sbTimeout, execSbTimeout]
  dsimp only
  rw [hw]
  dsimp only
  rw [if_pos ⟨hlate, by rw [htimed]; rfl⟩, hwho]
  rfl

theorem exec_sbTimeout_remote {id : Nat} (hwho : w.who = .remote id) :
    exec (.sbTimeout b i) s =
      .next (((s.latchTimeout (s.phys b.val) 1 (s.firstBlocker (s.phys b.val) w)).setSboard (s.phys b.val)
        { s.sboard (s.phys b.val) with
          waits := (s.sboard (s.phys b.val)).waits.erase w }).answerRemote id false []) := by
  rw [exec_sbTimeout, execSbTimeout]
  dsimp only
  rw [hw]
  dsimp only
  rw [if_pos ⟨hlate, by rw [htimed]; rfl⟩, hwho]
  rfl

end

/-- Settles O14, command by command. -/
theorem scoreboardCommands : Obligations.ScoreboardCommands := by
  unfold Obligations.ScoreboardCommands
  refine ⟨fun _ _ _ _ _ => exec_sbRegister_clear, fun _ _ _ _ _ => exec_sbRegister_waits,
    fun _ _ _ _ => exec_sbRelease_held, fun _ _ _ _ => exec_sbRelease_held, ?narrow,
    fun _ _ _ _ hnext => exec_sbWaitClear_vpp hnext,
    fun _ _ _ _ hnext => exec_sbWaitClear_registration hnext, ?registration, ?remote⟩
  case narrow =>
    intro s b agent lo hi e w x hheld
    exact exec_sbRelease_narrow hheld
  case registration =>
    intro s b i w a hw hwho hlate htimed
    exact exec_sbTimeout_registration hw hlate htimed hwho
  case remote =>
    intro s b i w id hw hwho hlate htimed
    exact exec_sbTimeout_remote hw hlate htimed hwho

end Sys2Proof.Machine
end

section
/-!
O15: how a DMA channel comes to run a descriptor: KICK (R244, R245), the fetch at HEAD (R244, R503), the start (R242, R253),
and the seal and hand-over of its shadow set (R263).
-/
namespace Sys2Proof.Machine

/-! ### Kick -/

section
variable {s : State} {e n : Nat}

theorem State.dmaLaunch_enabled (h : s.chEn e n = true) :
    s.dmaLaunch e n = s.modChan e n (fun x => { x with
      launchPend := true
      fetching := x.fetching || x.st == .idle }) :=
  if_pos h

theorem State.dmaLaunch_disabled (h : s.chEn e n = false) : s.dmaLaunch e n = s := if_neg (ne_true_of_eq_false h)

end

/-! ### Fetch -/

/-- R244: channel `x` once the fields `d` of the descriptor in the slot at `a` have been copied to it. -/
def DmaChan.fetched (x : DmaChan) (a : Nat) (d : List Nat) : DmaChan :=
  { x with
    fetching := false
    desc := d
    gen := dfield d 0 30 23
    slotAddr := a
    slotIdx := x.head
    newRing := false
    pos := 0
    started := false
    status := none
    stage := 0
    collided := false
    stale := x.stale + x.unacked
    unacked := 0
    err := 0
    check := 0
    nb4Seq := dfield d 13 27 24
    nb4Open := false
    nb4Stopped := false
    nb4Done := false
    st := if bitOf (d.getD 0 0) 20 ∧ !x.launchPend then .waitLaunch else .run }

section
variable {s t : State} {e n : Nat} {d : List Byte} (hfetching : (s.chan e n).fetching = true)
  (hidle : (s.chan e n).st = .idle)
include hfetching hidle

/-- A channel that is IDLE with a fetch outstanding is free to take the fetch's answer. -/
theorem State.not_fetchBarred : ¬ ((!(s.chan e n).fetching) = true ∨ (s.chan e n).st ≠ .idle) := by
  simp [hfetching, hidle]

theorem State.dmaFetch_owned (hread : s.ctrlRead e (s.ringSlot e n) 64 = (some d, t))
    (hown : bitOf ((fieldsOf d).getD 0 0) 31 = true) :
    s.dmaFetch e n = t.modChan e n (fun y => y.fetched (s.ringSlot e n) (fieldsOf d)) := by
  rw [State.dmaFetch]
  dsimp only
  rw [if_neg (State.not_fetchBarred hfetching hidle), hread]
  exact if_neg (by rw [hown]; decide)

theorem State.dmaFetch_notOwned (hread : s.ctrlRead e (s.ringSlot e n) 64 = (some d, t))
    (hown : bitOf ((fieldsOf d).getD 0 0) 31 = false) :
    s.dmaFetch e n = t.modChan e n (fun y => { y with fetching := false }) := by
  rw [State.dmaFetch]
  dsimp only
  rw [if_neg (State.not_fetchBarred hfetching hidle), hread]
  exact if_pos (by rw [hown]; rfl)

/-- R503: a fetch whose access fails halts the channel. -/
theorem State.dmaFetch_fails (hread : s.ctrlRead e (s.ringSlot e n) 64 = (none, t)) :
    s.dmaFetch e n =
      (t.modChan e n (fun y => { y with fetching := false })).dmaCtrlFail e n .fetch (s.ringSlot e n) := by
  rw [State.dmaFetch]
  dsimp only
  rw [if_neg (State.not_fetchBarred hfetching hidle), hread]

end

/-! ### Start -/

/-- R245: the channel runs its descriptor; a descriptor that waits for a launch uses it up. -/
def State.dmaRuns (s : State) (e n : Nat) : State :=
  s.modChan e n (fun y => { y with
    st := .run
    launchPend := if bitOf ((s.chan e n).desc.getD 0 0) 20 then false else y.launchPend })

/-- R253: the channel registers the ranges of its whole descriptor, and waits where they are not granted at once. -/
def State.dmaRegisters (s : State) (e n : Nat) : State :=
  match s.chRanges e n 0 0 with
  | none => s
  | some (p, ws, rs) =>
    (s.sbRegister p (chanAgent e n) ws rs).1.modChan e n (fun y => { y with
      ticketCore := p
      regWait := !(s.sbRegister p (chanAgent e n) ws rs).2 })

section
variable {s : State} {e n : Nat} (hstarted : (s.chan e n).started = false) (hstatus : (s.chan e n).status = none)
  (hrun : (s.chan e n).st = .run)
include hstarted hstatus hrun

/-- A channel that runs a descriptor it has neither started nor completed is free to start it. -/
theorem State.not_startBarred :
    ¬ ((s.chan e n).started = true ∨ (s.chan e n).status.isSome = true ∨
      (!((s.chan e n).st == .run || ((s.chan e n).st == .waitLaunch && (s.chan e n).launchPend))) = true) := by
  simp [hstarted, hstatus, hrun]

/-- R242: a descriptor that fails its checks halts the channel and is counted. -/
theorem State.dmaStart_refused {c : Nat} (hcheck : (s.dmaRuns e n).descCheck e (s.chan e n).desc = c) (hc : c ≠ 0) :
    s.dmaStart e n =
      ((((s.dmaRuns e n).modChan e n (fun y => { y with check := c })).count (rDMA_ENG_REFUSE_CNT e)).dmaHalt e n
        (if c = 9 then 3 else 4) 0 false 0) := by
  subst hcheck
  rw [State.dmaStart]
  dsimp only
  rw [if_neg (State.not_startBarred hstarted hstatus hrun)]
  exact if_pos hc

/-- R242, R253: a descriptor that passes its checks, with a transform that needs no announcement, starts. -/
theorem State.dmaStart_passes (hcheck : (s.dmaRuns e n).descCheck e (s.chan e n).desc = 0)
    (hsend : xform (s.chan e n).desc ≠ 9) (hreceive : xform (s.chan e n).desc ≠ 0xA) :
    s.dmaStart e n =
      ((s.dmaRuns e n).modChan e n (fun y => { y with
        started := true
        levels := s.levels (dfield (s.chan e n).desc 13 21 20) })).dmaRegisters e n := by
  rw [State.dmaStart]
  dsimp only
  rw [if_neg (State.not_startBarred hstarted hstatus hrun)]
  exact (if_neg (not_not.mpr hcheck)).trans ((if_neg hsend).trans (if_neg hreceive))

end

/-! ### The shadow set -/

theorem State.dmaBoundary_handsOver {s : State} {e n : Nat}
    (hsealed : s.flag (rDMA_CH_SHCTL e n) fDMA_CH_SHCTL_SEALED = true)
    (hdesc : s.flag (rDMA_CH_SHCTL e n) fDMA_CH_SHCTL_AT_DESC = true) (hidle : (s.chan e n).st = .idle)
    (hfetching : (s.chan e n).fetching = false) : s.dmaBoundary e n = s.dmaHandover e n :=
  if_pos ⟨hsealed, hdesc, hidle, by rw [hfetching]; rfl⟩

/-! ### The commands -/

section
variable {s : State} {b : Fin 10} {n : Fin 64} (h : chanOk (s.engine b.val) n.val = true)
include h

theorem exec_dmaKick_chan : exec (.dmaKick b n) s = .next (s.dmaLaunch (s.engine b.val) n.val) := by
  rw [exec_dmaKick, execDmaKick, if_pos h]

theorem exec_dmaDescFetch_chan : exec (.dmaDescFetch b n) s = .next (s.dmaFetch (s.engine b.val) n.val) := by
  rw [exec_dmaDescFetch, execDmaDescFetch, if_pos h]

theorem exec_dmaDescStart_chan : exec (.dmaDescStart b n) s = .next (s.dmaStart (s.engine b.val) n.val) := by
  rw [exec_dmaDescStart, execDmaDescStart, if_pos h]

theorem exec_dmaShadowHandover_chan :
    exec (.dmaShadowHandover b n) s = .next (s.dmaBoundary (s.engine b.val) n.val) := by
  rw [exec_dmaShadowHandover, execDmaShadowHandover, if_pos h]

theorem exec_dmaShadowSeal_chan :
    exec (.dmaShadowSeal b n) s =
      .next (s.setFld (rDMA_CH_SHCTL (s.engine b.val) n.val) fDMA_CH_SHCTL_SEALED 1) := by
  rw [exec_dmaShadowSeal, execDmaShadowSeal, if_pos h, State.dmaSeal]

end

/-- Settles O15: each command is the channel's own operation, which takes the branch that the clause's hypotheses select. -/
theorem dmaLaunchCommands : Obligations.DmaLaunchCommands := by
  unfold Obligations.DmaLaunchCommands
  refine ⟨?kick, ?kickDisabled, ?owned, ?notOwned, ?fails, ?refused, ?passes, ?handOver,
    fun _ _ _ => exec_dmaShadowSeal_chan⟩
  case kick =>
    intro s b n hok hen
    rw [exec_dmaKick_chan hok, State.dmaLaunch_enabled hen]
  case kickDisabled =>
    intro s b n hok hen
    rw [exec_dmaKick_chan hok, State.dmaLaunch_disabled hen]
  case owned =>
    intro s b n d t hok hfetching hidle hread hown
    rw [exec_dmaDescFetch_chan hok, State.dmaFetch_owned hfetching hidle hread hown]
    rfl
  case notOwned =>
    intro s b n d t hok hfetching hidle hread hown
    rw [exec_dmaDescFetch_chan hok, State.dmaFetch_notOwned hfetching hidle hread hown]
  case fails =>
    intro s b n t hok hfetching hidle hread
    rw [exec_dmaDescFetch_chan hok, State.dmaFetch_fails hfetching hidle hread]
  case refused =>
    rintro s b n c _ hok hstarted hstatus hrun rfl hcheck hc
    rw [exec_dmaDescStart_chan hok, State.dmaStart_refused hstarted hstatus hrun hcheck hc]
    rfl
  case passes =>
    rintro s b n _ _ hok hstarted hstatus hrun rfl hcheck hsend hreceive rfl
    rw [exec_dmaDescStart_chan hok, State.dmaStart_passes hstarted hstatus hrun hcheck hsend hreceive]
    rfl
  case handOver =>
    intro s b n hok hsealed hdesc hidle hfetching
    rw [exec_dmaShadowHandover_chan hok, State.dmaBoundary_handsOver hsealed hdesc hidle hfetching]

end Sys2Proof.Machine
end

section
/-!
O17: how a DMA channel stops and goes on: bus errors (R254, R255), the page-table read of a miss (R257, R258), translation
faults (R259), RESUME (R250, R260) and ABORT (R262).
-/
namespace Sys2Proof.Machine

/-! ### Errors and faults -/

section
variable {s : State} {b : Fin 10} {n : Fin 64} {e kind addr : Nat} {dst : Bool} (he : s.engine b.val = e)
include he

/-- R254: the channel halts, with the address and its side latched, once every write it issued is acknowledged. -/
theorem exec_dmaBusError_halts (hstop : (s.chan e n.val).stopErr = some (kind, dst, addr))
    (hacked : (s.chan e n.val).unacked = 0) (hrun : (s.chan e n.val).st = .run) :
    exec (.dmaBusError b n) s = .next (((s.noteErrAddr e n.val
      (if dst then (s.chSides e n.val).2 else (s.chSides e n.val).1).kind false addr).notePos e n.val).dmaHalt e n.val
        1 kind dst addr) := by
  subst he
  rw [exec_dmaBusError, execDmaBusError]
  dsimp only
  rw [hstop]
  exact if_pos ⟨hacked, hrun⟩

/-- R259: the channel enters FAULT at its stop point, its ranges narrowed and its fault posted. -/
theorem exec_dmaTranslationFault_stops (hstop : (s.chan e n.val).stopFault = some (kind, dst, addr))
    (hacked : (s.chan e n.val).unacked = 0) (hrun : (s.chan e n.val).st = .run) :
    exec (.dmaTranslationFault b n) s =
      .next (((((s.notePos e n.val).chNarrow e n.val).noteErrAddr e n.val 1 false addr).modChan e n.val (fun y => { y with
        st := .fault
        err := 2
        faultKind := kind
        faultDst := dst
        stopFault := none })).postFault e n.val 2 kind dst addr) := by
  subst he
  rw [exec_dmaTranslationFault, execDmaTranslationFault]
  dsimp only
  rw [hstop]
  exact if_pos ⟨hacked, hrun⟩

theorem exec_dmaPtWalk_reads {w : Walk} (hw : (s.chan e n.val).walk = some w) :
    exec (.dmaPtWalk b n) s = .next ((s.ptRead e n.val w).2.ptWalked e n.val w (s.ptRead e n.val w).1) := by
  subst he
  rw [exec_dmaPtWalk, execDmaPtWalk]
  rw [hw]

end

/-! ### Page-table reads -/

section
variable {s : State} {e n : Nat} {w : Walk} {bs : List Byte}

/-- R258: an entry that translates is cached; a full cache of 4096 loses its oldest entry. -/
theorem State.ptWalked_caches (hread : ptFault (ofLeBytes bs) false = 0) (hfault : ptFault (ofLeBytes bs) w.write = 0) :
    s.ptWalked e n w (some bs) = { s with hub := { s.hub with
      tlb := (s.hub.tlb ++ [(w.asid, w.page, ofLeBytes bs)]).drop (s.hub.tlb.length + 1 - 4096) } } := by
  rw [State.ptWalked]
  dsimp only
  rw [if_pos hfault, if_pos hread]

/-- R257: an entry that does not translate, with no bit set that is reserved, stops the channel with its fault. -/
theorem State.ptWalked_faults (hread : ptFault (ofLeBytes bs) false ≠ 0) (hfault : ptFault (ofLeBytes bs) w.write ≠ 0)
    (hgood : ptFault (ofLeBytes bs) w.write ≠ 4) :
    s.ptWalked e n w (some bs) =
      s.modChan e n (fun y => { y with stopFault := some (ptFault (ofLeBytes bs) w.write, w.dst, w.addr) }) := by
  rw [State.ptWalked]
  dsimp only
  rw [if_neg hfault, if_neg hgood, if_neg hread]

end

/-! ### RESUME -/

section
variable {s : State} {e n : Nat}

theorem State.dmaResume_fault (hst : (s.chan e n).st = .fault) :
    s.dmaResume e n = s.modChan e n (fun y => { y with
      st := .run
      err := 0
      faultKind := 0 }) := by
  rw [State.dmaResume]
  dsimp only
  rw [hst]

/-- R250, R260: a halted channel completes its descriptor with the status of its error. -/
theorem State.dmaResume_halt (hst : (s.chan e n).st = .halt) (hctrl : (s.chan e n).ctrl = none)
    (herr : (s.chan e n).err ≠ 5) :
    s.dmaResume e n = s.modChan e n (fun y => { y with
      st := .run
      status := some (errStatus (s.chan e n).err) }) := by
  rw [State.dmaResume]
  dsimp only
  rw [hst, hctrl]
  exact if_neg herr

/-! ### ABORT -/

theorem State.dmaAbort_run (hst : (s.chan e n).st = .run) (hstatus : (s.chan e n).status = none) :
    s.dmaAbort e n = (s.setFld (rDMA_CH_CTL e n) fDMA_CH_CTL_EN 0).modChan e n (fun y => { y with
      st := .aborting
      walk := none
      stopFault := none
      stopErr := none
      peerAtoms := 0
      peerGot := []
      abortRes := 1 }) := by
  rw [State.dmaAbort]
  dsimp only
  rw [hst, hstatus]
  rfl

theorem State.dmaAbort_idle (hst : (s.chan e n).st = .idle) :
    s.dmaAbort e n =
      (s.setFld (rDMA_CH_CTL e n) fDMA_CH_CTL_EN 0).modChan e n (fun y => { y with abortRes := 3 }) := by
  rw [State.dmaAbort]
  dsimp only
  rw [hst]
  rfl

theorem State.dmaAbortDone_completes (hst : (s.chan e n).st = .aborting) (hacked : (s.chan e n).unacked = 0)
    (hpeer : (s.chan e n).peerLeft = 0) :
    s.dmaAbortDone e n = (s.notePos e n).modChan e n (fun y => { y with
      st := .run
      status := some 1 }) :=
  if_pos ⟨hst, hacked, hpeer⟩

end

/-! ### The commands -/

section
variable {s : State} {b : Fin 10} {n : Fin 64} (h : chanOk (s.engine b.val) n.val = true)
include h

theorem exec_dmaResume_chan : exec (.dmaResume b n) s = .next (s.dmaResume (s.engine b.val) n.val) := by
  rw [exec_dmaResume, execDmaResume, if_pos h]

theorem exec_dmaAbort_chan : exec (.dmaAbort b n) s = .next (s.dmaAbort (s.engine b.val) n.val) := by
  rw [exec_dmaAbort, execDmaAbort, if_pos h]

theorem exec_dmaAbortDone_chan : exec (.dmaAbortDone b n) s = .next (s.dmaAbortDone (s.engine b.val) n.val) := by
  rw [exec_dmaAbortDone, execDmaAbortDone, if_pos h]

end

/-- Settles O17, command by command; the page-table read by the fault of the entry that it returns. -/
theorem dmaStopCommands : Obligations.DmaStopCommands := by
  unfold Obligations.DmaStopCommands
  refine ⟨fun _ _ _ _ _ _ _ => exec_dmaBusError_halts, ?caches, ?faults,
    fun _ _ _ _ _ _ _ => exec_dmaTranslationFault_stops, ?resumeFault, ?resumeHalt, ?abortRun, ?abortIdle, ?abortDone⟩
  case caches =>
    intro s b n e w bs v he hw hpt hread hfault
    rw [exec_dmaPtWalk_reads he hw, hpt, State.ptWalked_caches hread hfault]
  case faults =>
    intro s b n e w bs v he hw hpt hread hfault hgood
    rw [exec_dmaPtWalk_reads he hw, hpt, State.ptWalked_faults hread hfault hgood]
  case resumeFault =>
    intro s b n hok hst
    rw [exec_dmaResume_chan hok, State.dmaResume_fault hst]
  case resumeHalt =>
    intro s b n hok hst hctrl herr
    rw [exec_dmaResume_chan hok, State.dmaResume_halt hst hctrl herr]
  case abortRun =>
    intro s b n hok hst hstatus
    rw [exec_dmaAbort_chan hok, State.dmaAbort_run hst hstatus]
  case abortIdle =>
    intro s b n hok hst
    rw [exec_dmaAbort_chan hok, State.dmaAbort_idle hst]
  case abortDone =>
    intro s b n hok hst hacked hpeer
    rw [exec_dmaAbortDone_chan hok, State.dmaAbortDone_completes hst hacked hpeer]

end Sys2Proof.Machine
end

section
/-!
O18: the hub's invalidations of the translation cache (R258), the retirement of a frame (R261), posts and mailboxes (R266,
R269) and the fault queue (R255).
-/
namespace Sys2Proof.Machine

/-! ### Invalidation -/

theorem exec_tvaInvalidate_tvaInv (s : State) (v : Word) :
    exec (.tvaInvalidate v) s =
      .next ((s.setReg rHUB_TVA_INV (v &&& 0x7C07FFFF)).tvaInv (getF v fHUB_TVA_INV_ASID) (getF v fHUB_TVA_INV_PAGE)
        (getF v fHUB_TVA_INV_ALL == 1)) := by
  rw [exec_tvaInvalidate, execTvaInvalidate]

theorem exec_tvaInvalidateDone_quiet {s : State} {asid page : Nat} {all : Bool}
    (hinv : s.hub.inv = some (asid, page, all)) (hquiet : s.asidQuiet asid = true) :
    exec .tvaInvalidateDone s =
      .next ({ s with hub := { s.hub with inv := none } }.setFld rHUB_TVA_INV_STAT fHUB_TVA_INV_STAT_BUSY 0) := by
  rw [exec_tvaInvalidateDone, execTvaInvalidateDone, hinv]
  exact if_pos hquiet

/-! ### Retirement -/

section
variable {s t : State} {f p : Fin 32768} {l : List (Nat × Nat × Nat)} (hl : s.mappings f.val = l)
  (ht : t = s.remap l (fun v => if bitOf v 2 then v else v + 4))
include hl ht

/-- R261: with no access outstanding in the address spaces that map the frame, it is moved to the spare one at once. -/
theorem exec_pageRetire_quiet (hquiet : l.all (fun x => t.asidQuiet x.1) = true) :
    exec (.pageRetire f p) s = .next (t.pageMove l f.val p.val) := by
  subst hl ht
  rw [exec_pageRetire, execPageRetire, State.pageRetire]
  exact congrArg _ (if_pos hquiet)

/-- R261: while such accesses are outstanding, the frame's entries stay marked RETIRED. -/
theorem exec_pageRetire_used (hused : l.all (fun x => t.asidQuiet x.1) = false) :
    exec (.pageRetire f p) s = .next t := by
  subst hl ht
  rw [exec_pageRetire, execPageRetire, State.pageRetire]
  exact congrArg _ (if_neg (ne_true_of_eq_false hused))

end

/-! ### Posts -/

section
variable {s : State} {p : Nat} {v : Word}

theorem State.post_queues (htarget : getF v ⟨27, 24⟩ < 8 ∨ getF v ⟨27, 24⟩ = 0xE) {t : State}
    (ht : t = s.setReg (postReg p 0) (v &&& 0x0F00FFFF)) :
    s.post p v = State.setFld { t with hub := { t.hub with
      posts := Cells.set (fun _ => []) t.hub.posts p (Cells.get (fun _ => []) t.hub.posts p ++
        [(⟨getF v ⟨27, 24⟩, t.postMsg p (getF v ⟨15, 0⟩), t.time.ns⟩ : Post)]) } } (postReg p 1) ⟨2, 2⟩ 1 := by
  subst ht
  exact if_pos htarget

/-- R266: only the cores 0 to 7 and the Prompter (0xE) have a mailbox to post to. -/
theorem State.post_refused (hcore : 8 ≤ getF v ⟨27, 24⟩) (hprompter : getF v ⟨27, 24⟩ ≠ 0xE) :
    s.post p v = (s.setReg (postReg p 0) (v &&& 0x0F00FFFF)).setFld (postReg p 1) ⟨1, 0⟩ 2 :=
  if_neg (not_or.mpr ⟨Nat.not_lt.mpr hcore, hprompter⟩)

end

/-- R266: the message of post `x` lands in its target's mailbox; the Prompter is interrupted for its own. -/
def State.landPost (s : State) (x : Post) : State :=
  { s with hub := { s.hub with
    boxes := Cells.set (fun _ => []) s.hub.boxes (s.boxOf x.target)
      (Cells.get (fun _ => []) s.hub.boxes (s.boxOf x.target) ++ [x.msg])
    prompterInts := if s.boxOf x.target = 16 ∧ 0 ∉ s.hub.prompterInts then s.hub.prompterInts ++ [0]
      else s.hub.prompterInts } }

section
variable {s : State} {b : Fin 10} {x : Post} {l : List Post}
  (hposts : Cells.get (fun _ => []) s.hub.posts (s.poster b.val) = x :: l)
include hposts

theorem exec_postTimeout_late (hlate : x.since + (s.reg (postReg (s.poster b.val) 2)).toNat ≤ s.time.ns) :
    exec (.postTimeout b) s = .next (s.postEnd (s.poster b.val) 1) := by
  rw [exec_postTimeout, execPostTimeout]
  rw [hposts]
  exact congrArg _ (if_pos hlate)

theorem exec_mailboxArrive_room (hroom : (Cells.get (fun _ => []) s.hub.boxes (s.boxOf x.target)).length <
    (if s.boxOf x.target = 16 then 32 else 8)) :
    exec (.mailboxArrive b) s = .next ((s.landPost x).postEnd (s.poster b.val) 0) := by
  rw [exec_mailboxArrive, execMailboxArrive]
  dsimp only
  rw [hposts]
  exact if_pos hroom

end

/-! ### Pops -/

theorem exec_mbxPop_drop (s : State) (b : Fin 10) :
    exec (.mbxPop b) s = .next { s with hub := { s.hub with
      boxes := Cells.set (fun _ => []) s.hub.boxes (s.poster b.val)
        ((Cells.get (fun _ => []) s.hub.boxes (s.poster b.val)).drop 1) } } := by
  rw [exec_mbxPop, execMbxPop, State.mbxPop]

theorem exec_faultQueuePop_drop (s : State) :
    exec .faultQueuePop s = .next { s with hub := { s.hub with faultQ := s.hub.faultQ.drop 1 } } := by
  rw [exec_faultQueuePop, execFaultQueuePop, State.fqPop]

/-- Settles O18, command by command; a post by whether its target has a mailbox. -/
theorem hubCommands : Obligations.HubCommands := by
  unfold Obligations.HubCommands
  refine ⟨exec_tvaInvalidate_tvaInv, fun _ _ _ _ => exec_tvaInvalidateDone_quiet,
    fun _ _ _ _ _ => exec_pageRetire_quiet, fun _ _ _ _ _ => exec_pageRetire_used, ?queues, ?refused,
    fun _ _ _ _ => exec_postTimeout_late, fun _ _ _ _ => exec_mailboxArrive_room, exec_mbxPop_drop,
    exec_faultQueuePop_drop⟩
  case queues =>
    intro s t b v htarget ht
    rw [exec_dmaPost, execDmaPost, State.post_queues htarget ht]
  case refused =>
    intro s b v hcore hprompter
    rw [exec_dmaPost, execDmaPost, State.post_refused hcore hprompter]

end Sys2Proof.Machine
end

section
/-!
O43: the host's memory and transfer commands (R257, R258, R379, R381, R398). Each is `command_ok` or `command_later` at the
command's own result.
-/
namespace Sys2Proof.Machine

/-! ### Regions -/

section
variable {s t u : State} {h : CmdHeader} {a v : Nat}

/-- R257, R381: a length of at least one page, with free frames and pages enough, is mapped as a new region. -/
theorem exec_memMap_ok {n w p k : Nat} {f : List (Fin 32768)} (ha : s.accepts h 0x200 [] = true)
    (ht : t = s.accepted h 0x200 1000000 []) (hasid : a < 16) (hw : w ≤ 1) (hk : k = (n + 2 ^ 21 - 1) / 2 ^ 21)
    (hpos : 0 < k) (hlen : f.length = k) (hframes : t.framesFree (f.map (·.val)) = true)
    (hpages : t.pagesFree a p k = true) (hu : u = t.mapPages a p (w == 1) (f.map (·.val))) :
    exec (.memMap h a n w p f) s = .next (State.cmdReply { u with host := { u.host with
      regions := u.host.regions ++ [⟨a, p, f.map (·.val), w == 1⟩] } } h 0x200 0 [] [p * 2 ^ 21]) := by
  subst ht hu
  rw [exec_memMap, execMemMap]
  refine command_ok ha ?_ ?_
  · simp only [List.all_cons, List.all_nil, fieldIs_clear (decide_eq_true hasid), fieldIs_clear (decide_eq_true hw),
      Bool.and_true]
  · dsimp only
    rw [← hk, if_neg (by simp [hpos.ne', hlen, hframes, hpages]), cmdOk]

/-- R258, R381: a region is unmapped by the address of its first page, and the reply waits. -/
theorem exec_memUnmap_waits {r : Region} (ha : s.accepts h 0x201 (s.regionObj a v) = true)
    (ht : t = s.accepted h 0x201 1000000 (s.regionObj a v)) (hasid : a < 16) (hr : t.regionOf a v = some r)
    (hv : v = r.page * 2 ^ 21) (hu : u = t.unmapPages a r.page r.frames.length) :
    exec (.memUnmap h a v) s = .next { u with host := { u.host with
      regions := u.host.regions.filter (fun x => !(x.asid == a && x.page == r.page)) } } := by
  subst ht hu
  rw [exec_memUnmap, execMemUnmap]
  refine command_later ha ?_ ?_
  · simp [fieldIs_clear (decide_eq_true hasid)]
  · dsimp only
    rw [hr]
    exact if_neg (not_not.mpr hv)

/-! ### Bytes -/

theorem exec_memWrite_ok {b : List Byte} (ha : s.accepts h 0x203 (s.regionObj a v) = true)
    (ht : t = s.accepted h 0x203 1000000 (s.regionObj a v)) (hasid : a < 16) (hlen : b.length ≤ 65520)
    (hreg : (t.regionOf a v).isSome = true) (hu : t.tvaWrite a v b = some u) :
    exec (.memWrite h a v b) s = .next (u.dropCached.cmdReply h 0x203 0 [] []) := by
  subst ht
  rw [exec_memWrite, execMemWrite]
  refine command_ok ha ?_ ?_
  · simp [fieldIs_clear (decide_eq_true hasid)]
  · dsimp only
    rw [if_neg hlen.not_gt, if_neg (by simp [Option.isSome_iff_ne_none.mp hreg]), hu]
    rfl

theorem exec_memRead_ok {n : Nat} {d : List Byte} (ha : s.accepts h 0x204 (s.regionObj a v) = true)
    (ht : t = s.accepted h 0x204 1000000 (s.regionObj a v)) (hasid : a < 16) (hn : n ≤ 65536)
    (hreg : (t.regionOf a v).isSome = true) (hd : (t.tvaRead a v n).1 = some d) :
    exec (.memRead h a v n) s = .next ((t.tvaRead a v n).2.cmdReply h 0x204 0 [] (d.map (·.toNat))) := by
  have hread : t.tvaRead a v n = (some d, (t.tvaRead a v n).2) := Prod.ext hd rfl
  subst ht
  rw [exec_memRead, execMemRead]
  refine command_ok ha ?_ ?_
  · simp only [List.all_cons, List.all_nil, fieldIs_clear (decide_eq_true hasid), fieldIn_clear (Nat.zero_le n) hn,
      Bool.and_true]
  · dsimp only
    rw [Nat.min_eq_left hn, if_neg (by simp [Option.isSome_iff_ne_none.mp hreg]), hread]
    rfl

/-! ### Transfers -/

/-- R398: the channel of a transfer is launched with its descriptor and armed for its bytes; the reply waits. -/
theorem exec_xfer_arms {d k n f y : Nat} (ha : s.accepts h 0x202 (oEp2 (s.xferChannel d k) :: s.regionObj a v) = true)
    (ht : t = s.accepted h 0x202 600000000 (oEp2 (s.xferChannel d k) :: s.regionObj a v)) (hd : d ≤ 1) (hk : k < 16)
    (hasid : a < 16) (hf : f ≤ 8) (hy : y ≤ 3) (hreg : (t.regionOf a v).isSome = true) (hn : 0 < n)
    (hu : u = (t.modOutstanding h.tag (fun o => { o with
      object := t.xferChannel d k
      bytes := n
      args := [a, t.xferChannel d k % 16, v, f, y] })).xferLaunch (t.xferChannel d k) a
        (xferDesc (d == 0) (t.xferChannel d k % 16) v n f y)) :
    exec (.xfer h d k a v n f y) s = .next { u with usb := { u.usb with
      armed := Cells.set (fun _ => 0) u.usb.armed (t.xferChannel d k) n } } := by
  subst ht hu
  rw [exec_xfer, execXfer]
  refine command_later ha ?_ ?_
  · simp only [List.all_cons, List.all_nil, fieldIs_clear (decide_eq_true hd), fieldIs_clear (decide_eq_true hk),
      fieldIs_clear (decide_eq_true hasid), fieldIs_clear (decide_eq_true hf), fieldIs_clear (decide_eq_true hy),
      Bool.and_true]
  · dsimp only
    rw [if_neg (by simp [Option.isSome_iff_ne_none.mp hreg]), if_neg hn.ne']

end

/-- Settles O43, command by command. -/
theorem hostMemoryCommands : Obligations.HostMemoryCommands := by
  unfold Obligations.HostMemoryCommands
  exact ⟨fun _ _ _ _ _ _ _ _ _ _ => exec_memMap_ok,
    fun _ _ _ _ _ _ _ => exec_memUnmap_waits,
    fun _ _ _ _ _ _ _ => exec_memWrite_ok,
    fun _ _ _ _ _ _ _ => exec_memRead_ok,
    fun _ _ _ _ _ _ _ _ _ _ _ => exec_xfer_arms⟩

end Sys2Proof.Machine
end

section
/-!
O8: the chain buffers (R277 to R279). What becomes of the oldest tile that has not been forwarded is decided by the next member
of the ring; the last member before the head ends the way (log 39).
-/
namespace Sys2Proof.Machine

theorem exec_chainTileArrive_swept (s : State) (b : Fin 9) :
    exec (.chainTileArrive b) s =
      .next ((s.setChainBuf (s.phys b.val)
        ((s.chainBuf (s.phys b.val)).map (fun (t : ChainTile) => { t with filling := false }))).chainSweep (s.phys b.val)) := by
  rw [exec_chainTileArrive, execChainTileArrive]

/-- R278: tile `t` of the chain buffer of physical core `p` is marked as forwarded. -/
def State.chainMark (s : State) (p : Nat) (t : ChainTile) : State :=
  s.setChainBuf p ((s.chainBuf p).map (fun (y : ChainTile) => if y = t then { y with forwarded := true } else y))

section
variable {s : State} {b : Fin 9}

/-! ### Forwarding -/

section
variable {t : ChainTile}
  (ht : (s.chainBuf (s.phys b.val)).find? (fun t => !t.forwarded && !t.filling) = some t)
include ht

/-- R277: a next member with a free slot takes the tile; the tile fills that slot as it travels. -/
theorem exec_chainTileForward_moves {q : Nat} (hq : s.chainNext (s.phys b.val) = some q)
    (hhead : s.flag (rCHAIN_CFG q) fCHAIN_CFG_HEAD = false) (hroom : (s.chainBuf q).length < 2) :
    exec (.chainTileForward b) s =
      .next ((s.chainMark (s.phys b.val) t).setChainBuf q (s.chainBuf q ++ [⟨t.dpa, t.data, true, false, false⟩])) := by
  rw [exec_chainTileForward, execChainTileForward]
  dsimp only
  rw [ht]
  dsimp only
  rw [hq]
  dsimp only
  rw [if_neg (ne_true_of_eq_false hhead), if_neg (Nat.not_le.mpr hroom)]
  rfl

/-- Log 39: at the end of the ring's way the tile counts as forwarded, and no buffer receives it. -/
theorem exec_chainTileForward_ends
    (hend : (∃ q, s.chainNext (s.phys b.val) = some q ∧ s.flag (rCHAIN_CFG q) fCHAIN_CFG_HEAD = true) ∨
      s.chainNext (s.phys b.val) = none) :
    exec (.chainTileForward b) s = .next (s.chainMark (s.phys b.val) t) := by
  rw [exec_chainTileForward, execChainTileForward]
  dsimp only
  rw [ht]
  dsimp only
  obtain ⟨q, hq, hhead⟩ | hnone := hend
  · rw [hq]
    exact if_pos hhead
  · rw [hnone]
    rfl

end

/-! ### Waiting -/

/-- R279: a member's job that has no block of its tile yet, and whose tile has not come in time, falls back to the cache. -/
theorem exec_chainWaitExpire_late {j : FrondJob} (hcur : (s.frond (s.phys b.val)).cur = some j)
    (hmember : s.chainMember (s.phys b.val) (s.fld (rCHAIN_CFG (s.phys b.val)) fCHAIN_CFG_ID) = true)
    (hhead : s.flag (rCHAIN_CFG (s.phys b.val)) fCHAIN_CFG_HEAD = false) (hsrc : j.wsrc = 2)
    (hfall : j.fallback = false) (hplane : j.plane = []) (hpass : j.pass < j.kt)
    (habsent : (s.chainBuf (s.phys b.val)).any (fun t => t.dpa == j.tileAddr j.pass && !t.filling) = false)
    (hlate : j.since + s.fld (rCHAIN_CFG (s.phys b.val)) fCHAIN_CFG_WAIT * 256 ≤ s.time.ns) :
    exec (.chainWaitExpire b) s =
      .next ((s.setFrond (s.phys b.val) { s.frond (s.phys b.val) with
        cur := some { j with fallback := true } }).chainSweep (s.phys b.val)) := by
  rw [exec_chainWaitExpire, execChainWaitExpire]
  dsimp only
  rw [hcur]
  dsimp only
  rw [habsent, hhead, hfall, hplane]
  exact if_pos ⟨hmember, rfl, hsrc, rfl, rfl, hpass, rfl, hlate⟩

end

/-- Settles O8: the arrival, the two ends of a forwarded tile, and the wait that expires. -/
theorem chainCommands : Obligations.ChainCommands := by
  unfold Obligations.ChainCommands
  exact ⟨exec_chainTileArrive_swept,
    fun _ _ _ _ ht => exec_chainTileForward_moves ht,
    fun _ _ _ => exec_chainTileForward_ends,
    fun _ _ _ => exec_chainWaitExpire_late⟩

end Sys2Proof.Machine
end

section
/-!
O19: the handle operations (R271 to R273, R275). What an operation does to the state, or that it is refused, is a lemma about
the operation; how the issuer's result registers note either is said once.
-/
namespace Sys2Proof.Machine

/-! ### What leaves the result registers and the core map alone -/

section
variable (s : State)

@[simp] theorem State.setBuf_hqp (e st holder : Nat) : (s.setBuf e st holder).hqp = s.hqp := rfl
@[simp] theorem State.setBuf_coreMap (e st holder : Nat) : (s.setBuf e st holder).coreMap = s.coreMap := rfl
@[simp] theorem State.poolMove_hqp (p : Nat) (x y z : Int) : (s.poolMove p x y z).hqp = s.hqp := rfl
@[simp] theorem State.poolMove_coreMap (p : Nat) (x y z : Int) : (s.poolMove p x y z).coreMap = s.coreMap := rfl
@[simp] theorem State.setHq_hqp (q : Nat) (l : List Nat) : (s.setHq q l).hqp = s.hqp := rfl
@[simp] theorem State.setHq_coreMap (q : Nat) (l : List Nat) : (s.setHq q l).coreMap = s.coreMap := rfl

end

/-! ### The result registers -/

/-- R17: an agent's key is that of the physical core under its logical one, so it moves with the core map only. -/
theorem State.agentKey_congr {s t : State} (h : t.coreMap = s.coreMap) (a : Agent) : t.agentKey a = s.agentKey a := by
  cases a with
  | core b c => simp only [State.agentKey, State.phys, b.isLt, if_true, h]
  | prompter => rfl
  | rehearsal => rfl

theorem State.noteHq_of_frame {s t : State} (hhqp : t.hqp = s.hqp) (hmap : t.coreMap = s.coreMap) (a : Agent)
    (r : HqResult) :
    State.noteHq a (r, t) = { t with hqp := Cells.set (fun _ => {}) s.hqp (s.agentKey a) r } := by
  rw [State.noteHq, hhqp, State.agentKey_congr hmap]

/-- R273: EMPTY, FULL and NO_ACCESS change nothing but the issuer's result. -/
theorem State.noteHq_refuse_uncounted {status : Nat} (h : ¬(status = 3 ∨ status = 4)) (a : Agent) (s : State) :
    State.noteHq a (s.hqRefuse status) =
      { s with hqp := Cells.set (fun _ => {}) s.hqp (s.agentKey a) { status := status } } := by
  rw [State.hqRefuse, if_neg h, State.noteHq]

/-- R273: NOT_HELD and WRONG_POOL are counted besides. -/
theorem State.noteHq_refuse_counted {status : Nat} (h : status = 3 ∨ status = 4) (a : Agent) (s : State) :
    State.noteHq a (s.hqRefuse status) =
      { s.count rHQ_BADOP_CNT with hqp := Cells.set (fun _ => {}) s.hqp (s.agentKey a) { status := status } } := by
  rw [State.hqRefuse, if_pos h, State.noteHq_of_frame (s.count_hqp _) (s.count_coreMap _)]

/-! ### ALLOC -/

section
variable {s : State} {holder p : Nat} (hp : p < 16) (hp0 : p ≠ 0) (hen : s.flag (rHP_CFG p) fHP_CFG_EN = true)
include hp hp0 hen

theorem State.hqAlloc_allowed : ¬((!true) = true ∨ p = 0 ∨ 15 < p ∨ (!s.flag (rHP_CFG p) fHP_CFG_EN) = true) := by
  simp [hp0, hen, Nat.le_of_lt_succ hp]

theorem State.hqAlloc_taken {i : Nat} {l : List Nat} {e : Nat} {t : State} (hfree : s.freeList p = i :: l)
    (he : (s.fld (rHP_BASE p) fHP_BASE_FIRST + i) % 16384 = e)
    (ht : t = (({ s with pools := Cells.set (fun _ => []) s.pools p l }).setBuf e 2 holder).poolMove p (-1) 0 1) :
    s.hqAlloc true holder p = (⟨0, p * 4096 + i, (t.bufAddr e).1, (t.bufAddr e).2⟩, t) := by
  subst ht he
  rw [State.hqAlloc, if_neg (State.hqAlloc_allowed hp hp0 hen), hfree]

theorem State.hqAlloc_empty (hfree : s.freeList p = []) : s.hqAlloc true holder p = s.hqRefuse 1 := by
  rw [State.hqAlloc, if_neg (State.hqAlloc_allowed hp hp0 hen), hfree]

end

/-! ### PUSH, POP and FILL -/

theorem State.hqPush_noAccess {s : State} {ok : Bool} {q : Nat} (h : Nat)
    (hno : ok = false ∨ s.flag (rHQ_CFG q) fHQ_CFG_EN = false) : s.hqPush ok q h = s.hqRefuse 5 :=
  if_pos (by simpa using hno)

section
variable {s : State} {q : Nat} (hen : s.flag (rHQ_CFG q) fHQ_CFG_EN = true)
include hen

theorem State.hq_allowed : ¬((!true) = true ∨ (!s.flag (rHQ_CFG q) fHQ_CFG_EN) = true) := by
  simp [hen]

section
variable {h e : Nat} (he : s.handleEntry h = some e)
include he

theorem State.hqPush_notHeld (hst : s.bufState e ≠ 2) : s.hqPush true q h = s.hqRefuse 3 := by
  rw [State.hqPush, if_neg (State.hq_allowed hen), he]
  exact if_pos hst

variable (hst : s.bufState e = 2)
include hst

theorem State.hqPush_wrongPool (hpool : h / 4096 ≠ s.fld (rHQ_CFG q) fHQ_CFG_POOL) :
    s.hqPush true q h = s.hqRefuse 4 := by
  rw [State.hqPush, if_neg (State.hq_allowed hen), he]
  dsimp only
  rw [if_neg (not_not_intro hst), if_pos hpool]

variable (hpool : h / 4096 = s.fld (rHQ_CFG q) fHQ_CFG_POOL)
include hpool

/-- R272: a HELD handle of the queue's pool is queued where there is room. -/
theorem State.hqPush_held :
    s.hqPush true q h =
      if 256 ≤ (s.hq q).length then s.hqRefuse 2
      else (⟨0, 0, 0, 0⟩, ((s.setHq q (s.hq q ++ [h])).setBuf e 1 0).poolMove (h / 4096) 0 1 (-1)) := by
  rw [State.hqPush, if_neg (State.hq_allowed hen), he]
  dsimp only
  rw [if_neg (not_not_intro hst), if_neg (not_not_intro hpool)]

theorem State.hqPush_queued (hroom : (s.hq q).length < 256) :
    s.hqPush true q h =
      (⟨0, 0, 0, 0⟩, ((s.setHq q (s.hq q ++ [h])).setBuf e 1 0).poolMove (h / 4096) 0 1 (-1)) := by
  rw [State.hqPush_held hen he hst hpool, if_neg (Nat.not_le.mpr hroom)]

theorem State.hqPush_full (hfull : 256 ≤ (s.hq q).length) : s.hqPush true q h = s.hqRefuse 2 := by
  rw [State.hqPush_held hen he hst hpool, if_pos hfull]

end

theorem State.hqPop_taken {holder h : Nat} {l : List Nat} {t : State} (hq : s.hq q = h :: l)
    (ht : t = ((s.setHq q l).setBuf ((s.handleEntry h).getD 0) 2 holder).poolMove (h / 4096) 0 (-1) 1) :
    s.hqPop true holder q =
      (⟨0, h, (t.bufAddr ((s.handleEntry h).getD 0)).1, (t.bufAddr ((s.handleEntry h).getD 0)).2⟩, t) := by
  subst ht
  rw [State.hqPop, if_neg (State.hq_allowed hen), hq]

theorem State.hqPop_empty {holder : Nat} (hq : s.hq q = []) : s.hqPop true holder q = s.hqRefuse 1 := by
  rw [State.hqPop, if_neg (State.hq_allowed hen), hq]

theorem State.hqFill_length : s.hqFill true q = (⟨0, (s.hq q).length, 0, 0⟩, s) :=
  if_neg (State.hq_allowed hen)

end

/-! ### FREE -/

theorem State.hqFree_freed {s t : State} {h e : Nat} (he : s.handleEntry h = some e) (hst : s.bufState e = 2)
    (ht : t = (({ s with pools := Cells.set (fun _ => []) s.pools (h / 4096) (s.freeList (h / 4096) ++ [h % 4096]) }).setBuf
      e 0 0).poolMove (h / 4096) 1 0 (-1)) :
    s.hqFree true h = (⟨0, 0, 0, 0⟩, t) := by
  subst ht
  rw [State.hqFree, if_neg (by decide), he]
  exact if_neg (not_not_intro hst)

/-- Settles O19, command by command: the lemma of the operation's outcome, and how the outcome is noted. -/
theorem handleCommands : Obligations.HandleCommands := by
  unfold Obligations.HandleCommands
  refine ⟨?alloc, ?allocEmpty, ?push, ?pushFull, ?pushWrongPool, ?pushNotHeld, ?pushNoAccess, ?pop, ?popEmpty, ?free, ?fill⟩
  case alloc =>
    intro s a p j l e t hok hp0 hen hfree he ht
    rw [exec_hqAlloc, execHqAlloc, hok, State.hqAlloc_taken p.isLt hp0 hen hfree he ht, State.noteHq]
  case allocEmpty =>
    intro s a p hok hp0 hen hfree
    rw [exec_hqAlloc, execHqAlloc, hok, State.hqAlloc_empty p.isLt hp0 hen hfree,
      State.noteHq_refuse_uncounted (by decide)]
  case push =>
    intro s a q h e hok hen he hst hpool hroom
    rw [exec_hqPush, execHqPush, hok, State.hqPush_queued hen he hst hpool hroom,
      State.noteHq_of_frame (s := s) (by simp) (by simp)]
  case pushFull =>
    intro s a q h e hok hen he hst hpool hfull
    rw [exec_hqPush, execHqPush, hok, State.hqPush_full hen he hst hpool hfull,
      State.noteHq_refuse_uncounted (by decide)]
  case pushWrongPool =>
    intro s a q h e hok hen he hst hpool
    rw [exec_hqPush, execHqPush, hok, State.hqPush_wrongPool hen he hst hpool,
      State.noteHq_refuse_counted (by decide)]
  case pushNotHeld =>
    intro s a q h e hok hen he hst
    rw [exec_hqPush, execHqPush, hok, State.hqPush_notHeld hen he hst, State.noteHq_refuse_counted (by decide)]
  case pushNoAccess =>
    intro s a q h hno
    rw [exec_hqPush, execHqPush, State.hqPush_noAccess _ hno, State.noteHq_refuse_uncounted (by decide)]
  case pop =>
    intro s a q h l t hok hen hq ht
    rw [exec_hqPop, execHqPop, hok, State.hqPop_taken hen hq ht, State.noteHq]
  case popEmpty =>
    intro s a q hok hen hq
    rw [exec_hqPop, execHqPop, hok, State.hqPop_empty hen hq, State.noteHq_refuse_uncounted (by decide)]
  case free =>
    intro s a h e t hok he hst ht
    rw [exec_hqFree, execHqFree, hok, State.hqFree_freed he hst ht, State.noteHq]
  case fill =>
    intro s a q hok hen
    rw [exec_hqFill, execHqFill, hok, State.hqFill_length hen, State.noteHq]

end Sys2Proof.Machine
end

section
/-!
O22: the packets of a camera port (R298, R299, R301, R303, R305, R307, R308). Every kind of packet is handed, in order, to the
streams that it matches; the kinds differ in what they match and in what they do to one stream.
-/
namespace Sys2Proof.Machine

/-! ### A packet and the streams it matches -/

/-- R299: a packet acts, from the state `u`, on each of the streams it matches; one that matches none is counted in the state `t`
that its header has left. -/
def State.packetOn (t : State) (p : Nat) (act : State → Nat → State) (u : State) : List Nat → Out
  | [] => .next (t.count (rINT_PORT_UNMATCHED p))
  | k :: l => .next ((k :: l).foldl act u)

theorem State.packetOn_unmatched {l : List Nat} (h : l = []) (t u : State) (p : Nat) (act : State → Nat → State) :
    t.packetOn p act u l = .next (t.count (rINT_PORT_UNMATCHED p)) := by
  subst h; rfl

theorem State.packetOn_matched {l : List Nat} (h : l ≠ []) (t u : State) (p : Nat) (act : State → Nat → State) :
    t.packetOn p act u l = .next (l.foldl act u) := by
  obtain ⟨k, l, rfl⟩ := List.exists_cons_of_ne_nil h
  rfl

/-! ### What a packet does to one stream -/

/-- R305: a Frame End closes the open frame, marked where the sensor's number is another than at its start. -/
def State.frameEndOn (num : Half) (u : State) (k : Nat) : State :=
  match (u.stream k).frame with
  | none => u.count (rINT_STR_ORPHAN k)
  | some f => (if f.fnum ≠ 0 ∧ num.toNat ≠ f.fnum then u.setFrame k (f.mark 8) else u).closeFrame k false

/-- R308: a Line Start gives the open frame the number of its next line, where lines are numbered. -/
def State.lineStartOn (num : Half) (u : State) (k : Nat) : State :=
  match (u.stream k).frame with
  | none => u
  | some f => if getF f.cfg fINT_STR_CFG_LNUM = 1
      then u.setFrame k { f with lineNo := some num.toNat, n0 := some (f.n0.getD num.toNat) } else u

/-- R303, R306, R307: a line is taken into the open frame, marked where its CRC is wrong; `take` is the kind of line. -/
def State.lineOn (take : State → Nat → OpenFrame → List Byte → State) (b : List Byte) (ok : Bool) (u : State) (k : Nat) :
    State :=
  match (u.stream k).frame with
  | none => u.count (rINT_STR_ORPHAN k)
  | some f => take (u.setFrame k (if ok then f else f.mark 4)) k (if ok then f else f.mark 4) b

/-! ### The streams that a line matches -/

/-- R301: a field of a stream's configuration: as the open frame latched it, else as the register has it. -/
def State.cfgInForce (s : State) (fl : Fld) (k : Nat) : Nat :=
  match (s.stream k).frame with
  | some f => getF f.cfg fl
  | none => s.fld (rINT_STR_CFG k) fl

/-- R299: the streams that take image lines of a data type. -/
def State.imageStreams (s : State) (p vc dt : Nat) : List Nat :=
  (s.streamsOn p vc).filter (fun k => s.cfgInForce fINT_STR_CFG_DT k == dt)

/-- R307: the streams that take embedded lines. -/
def State.embeddedStreams (s : State) (p vc : Nat) : List Nat :=
  (s.streamsOn p vc).filter (fun k => s.cfgInForce fINT_STR_CFG_EMB_LINES k != 0)

/-- R303: a CRC error is counted. -/
def State.noteCrc (s : State) (p : Nat) (ok : Bool) : State := if ok then s else s.count (rINT_PORT_CRC_ERR p)

/-! ### The commands -/

section
variable {s t : State} {p : Fin 12} {vc : Fin 16} {c : Bool} (ht : t = s.noteHeader p.val c)
include ht

theorem exec_frameStart_packetOn (num : Half) :
    exec (.frameStart p vc num c) s =
      t.packetOn p.val (fun u k => u.frameStart k num.toNat) t (t.streamsOn p.val vc.val) := by
  subst ht
  rw [exec_frameStart, execFrameStart]
  cases (s.noteHeader p.val c).streamsOn p.val vc.val with
  | nil => rfl
  | cons k l => rfl

theorem exec_frameEnd_packetOn (num : Half) :
    exec (.frameEnd p vc num c) s = t.packetOn p.val (State.frameEndOn num) t (t.streamsOn p.val vc.val) := by
  subst ht
  rw [exec_frameEnd, execFrameEnd]
  cases (s.noteHeader p.val c).streamsOn p.val vc.val with
  | nil => rfl
  | cons k l => rfl

theorem exec_lineStart_packetOn (num : Half) :
    exec (.lineStart p vc num c) s = t.packetOn p.val (State.lineStartOn num) t (t.streamsOn p.val vc.val) := by
  subst ht
  rw [exec_lineStart, execLineStart]
  cases (s.noteHeader p.val c).streamsOn p.val vc.val with
  | nil => rfl
  | cons k l => rfl

theorem exec_imageLine_packetOn (dt : Fin 64) (b : List Byte) (ok : Bool) :
    exec (.imageLine p vc dt b ok c) s =
      t.packetOn p.val (State.lineOn State.imageLine b ok) (t.noteCrc p.val ok) (t.imageStreams p.val vc.val dt.val) := by
  subst ht
  rw [exec_imageLine, execImageLine]
  dsimp only
  generalize hl : List.filter _ _ = l
  rw [show State.imageStreams _ p.val vc.val dt.val = l from hl]
  cases l with
  | nil => rfl
  | cons k l => rfl

theorem exec_embeddedLine_packetOn (b : List Byte) (ok : Bool) :
    exec (.embeddedLine p vc b ok c) s =
      t.packetOn p.val (State.lineOn State.embeddedLine b ok) (t.noteCrc p.val ok) (t.embeddedStreams p.val vc.val) := by
  subst ht
  rw [exec_embeddedLine, execEmbeddedLine]
  dsimp only
  generalize hl : List.filter _ _ = l
  rw [show State.embeddedStreams _ p.val vc.val = l from hl]
  cases l with
  | nil => rfl
  | cons k l => rfl

end

section
variable {s : State} {p : Fin 12} (hen : getF (s.port p.val).cfg fINT_PORT_CFG_EN = 1)
include hen

theorem exec_unmatchedPacket_enabled : exec (.unmatchedPacket p) s = .next (s.count (rINT_PORT_UNMATCHED p.val)) := by
  rw [exec_unmatchedPacket, execUnmatchedPacket, if_pos hen, State.unmatched, done]

theorem exec_hsBurstDiscard_enabled (sot : Bool) :
    exec (.hsBurstDiscard p sot) s =
      .next ((s.count (if sot then rINT_PORT_SOT_ERR p.val else rINT_PORT_ECC_UNC p.val)).markPort p.val) := by
  rw [exec_hsBurstDiscard, execHsBurstDiscard, if_pos hen, done]

end

/-- Settles O22: each kind of packet as `State.packetOn`, which acts on the streams that match or counts the packet. -/
theorem cameraPackets : Obligations.CameraPackets := by
  unfold Obligations.CameraPackets
  refine ⟨?frameStart, ?frameStartNone, ?frameEnd, ?frameEndNone, ?lineStart, ?lineStartNone, ?image, ?imageNone,
    ?embedded, ?embeddedNone, fun _ _ => exec_unmatchedPacket_enabled,
    fun _ _ sot hen => exec_hsBurstDiscard_enabled hen sot⟩
  case frameStart =>
    exact fun _ t p _ num _ ht hl => (exec_frameStart_packetOn ht num).trans (t.packetOn_matched hl t p.val _)
  case frameStartNone =>
    exact fun _ t p _ num _ ht hl => (exec_frameStart_packetOn ht num).trans (t.packetOn_unmatched hl t p.val _)
  case frameEnd =>
    exact fun _ t p _ num _ ht hl => (exec_frameEnd_packetOn ht num).trans (t.packetOn_matched hl t p.val _)
  case frameEndNone =>
    exact fun _ t p _ num _ ht hl => (exec_frameEnd_packetOn ht num).trans (t.packetOn_unmatched hl t p.val _)
  case lineStart =>
    exact fun _ t p _ num _ ht hl => (exec_lineStart_packetOn ht num).trans (t.packetOn_matched hl t p.val _)
  case lineStartNone =>
    exact fun _ t p _ num _ ht hl => (exec_lineStart_packetOn ht num).trans (t.packetOn_unmatched hl t p.val _)
  case image =>
    exact fun _ t p _ dt b ok _ ht hl => (exec_imageLine_packetOn ht dt b ok).trans (t.packetOn_matched hl _ p.val _)
  case imageNone =>
    exact fun _ t p _ dt b ok _ ht hl => (exec_imageLine_packetOn ht dt b ok).trans (t.packetOn_unmatched hl _ p.val _)
  case embedded =>
    exact fun _ t p _ b ok _ ht hl => (exec_embeddedLine_packetOn ht b ok).trans (t.packetOn_matched hl _ p.val _)
  case embeddedNone =>
    exact fun _ t p _ b ok _ ht hl => (exec_embeddedLine_packetOn ht b ok).trans (t.packetOn_unmatched hl _ p.val _)

end Sys2Proof.Machine
end

section
/-!
O23: what happens to a camera port apart from its packets (R297, R301, R305, R316, R323, R488).
-/
namespace Sys2Proof.Machine

/-! ### INT_PORT_CFG and the deskew -/

section
variable {s : State} {p : Fin 12}

theorem exec_portCfgApply_enables (hnew : getF (s.reg (rINT_PORT_CFG p.val)) fINT_PORT_CFG_EN = 1)
    (hold : getF (s.port p.val).cfg fINT_PORT_CFG_EN = 0) :
    exec (.portCfgApply p) s =
      .next ((s.setPort p.val { s.port p.val with cfg := s.reg (rINT_PORT_CFG p.val) }).setFld (rINT_PORT_STAT p.val)
        fINT_PORT_STAT_DESKEWED 0) := by
  rw [exec_portCfgApply, execPortCfgApply]
  dsimp only
  rw [if_pos ⟨hnew, hold⟩, done]

theorem exec_portCfgApply_keepsDeskewed
    (h : getF (s.reg (rINT_PORT_CFG p.val)) fINT_PORT_CFG_EN ≠ 1 ∨ getF (s.port p.val).cfg fINT_PORT_CFG_EN ≠ 0) :
    exec (.portCfgApply p) s = .next (s.setPort p.val { s.port p.val with cfg := s.reg (rINT_PORT_CFG p.val) }) := by
  rw [exec_portCfgApply, execPortCfgApply]
  dsimp only
  rw [if_neg (not_and_or.mpr h), done]

theorem exec_deskewSequence_enabled (hen : getF (s.port p.val).cfg fINT_PORT_CFG_EN = 1) :
    exec (.deskewSequence p) s = .next (s.setFld (rINT_PORT_STAT p.val) fINT_PORT_STAT_DESKEWED 1) := by
  rw [exec_deskewSequence, execDeskewSequence, if_pos hen, done]

end

/-! ### A frame without its Frame End -/

theorem exec_frameEndTimeout_late {s : State} {k : Fin 48} {f : OpenFrame} (hf : (s.stream k.val).frame = some f)
    (hlate : f.ns + s.fld (rINT_STR_TMO k.val) fINT_STR_TMO_FE_TMO_US * 1000 ≤ s.time.ns) :
    exec (.frameEndTimeout k) s = .next (s.closeFrame k.val true) := by
  rw [exec_frameEndTimeout, execFrameEndTimeout, hf]
  exact if_pos hlate

/-! ### The watch unit -/

section
variable {s : State} {p : Fin 12} {w : Word}

theorem exec_watchEnable_enables (hen : getF w fINT_WATCH_CFG_EN = 1) :
    exec (.watchEnable p w) s =
      .next ((s.setReg (rINT_WATCH_CFG p.val) (s.watchClamp p.val w &&& 0xBFF8FF00)).setFld (rINT_WATCH_STAT p.val)
        fINT_WATCH_STAT_REF_VALID 0) := by
  rw [exec_watchEnable, execWatchEnable, State.writeWatchCfg]
  rw [if_pos hen, done]

theorem exec_watchEnable_disables (hen : getF w fINT_WATCH_CFG_EN ≠ 1) :
    exec (.watchEnable p w) s = .next (s.setReg (rINT_WATCH_CFG p.val) (s.watchClamp p.val w &&& 0xBFF8FF00)) := by
  rw [exec_watchEnable, execWatchEnable, State.writeWatchCfg]
  rw [if_neg hen, done]

end

/-! ### VIO_CAM -/

/-- R488: with the supply of the camera pins every sync pulse ends. -/
theorem exec_vioCamLoss_endsPulses (s : State) :
    exec .vioCamLoss s = .next { s with
      power := { s.power with vioLow := true }
      fsync := s.fsync.map (fun (x : Nat × FsyncOut) => (x.1, { x.2 with ends := none })) } := by
  rw [exec_vioCamLoss, execVioCamLoss, done]

theorem exec_vioCamReturn_restores (s : State) :
    exec .vioCamReturn s = .next { s with power := { s.power with vioLow := false } } := by
  rw [exec_vioCamReturn, execVioCamReturn, done]

/-- Settles O23, command by command. -/
theorem cameraPortEvents : Obligations.CameraPortEvents := by
  unfold Obligations.CameraPortEvents
  exact ⟨fun _ _ => exec_portCfgApply_enables,
    fun _ _ => exec_portCfgApply_keepsDeskewed,
    fun _ _ => exec_deskewSequence_enabled,
    fun _ _ _ => exec_frameEndTimeout_late,
    fun _ _ _ => exec_watchEnable_enables,
    fun _ _ _ => exec_watchEnable_disables,
    exec_vioCamLoss_endsPulses,
    exec_vioCamReturn_restores⟩

end Sys2Proof.Machine
end

section
/-!
O45: the host's camera commands (R314 to R316, R318, R319, R379, R381, R382). Each is `command_ok` or `command_later` at the
command's own result.
-/
namespace Sys2Proof.Machine

/-! ### The test of a frame index -/

/-- The frame that settings reach does not depend on the entry under which the command stands. -/
theorem State.reachedIndex_withCommand (s : State) (o o' : Outstanding) (k f : Nat) (x g : List (Word × Word))
    (a b c : Nat × Nat) :
    (s.withCommand o).indexOf k ((s.withCommand o).reach k f ((s.withCommand o).settings k x g a b c)) =
      (s.withCommand o').indexOf k ((s.withCommand o').reach k f ((s.withCommand o').settings k x g a b c)) := rfl

theorem State.ispIndex_withCommand (s : State) (o o' : Outstanding) (k f : Nat) :
    (s.withCommand o).indexOf k ((s.withCommand o).ispReach k f) =
      (s.withCommand o').indexOf k ((s.withCommand o').ispReach k f) := rfl

/-! ### Settings and parameters for a frame -/

section
variable {s t : State} {h : CmdHeader} {k f n : Nat}

/-- R318: lists that are allowed, have their places and end in time are placed for the frame they reach. -/
theorem exec_sensorSettings_ok {x g : List (Word × Word)} {a b c : Nat × Nat} {l : List Settings}
    (ha : s.accepts h 0x400 [oStream k] = true) (ht : t = s.accepted h 0x400 1000000 [oStream k])
    (hl : l = t.settings k x g a b c) (hk : k < 48) (hpred : t.predicts k = true) (hidx : t.indexOf k (t.reach k f l) = f)
    (hx : x.length ≤ 255 ∧ x.all itemClear = true) (hg : g.length ≤ 255 ∧ g.all itemClear = true)
    (hallow : l.all (fun y => t.itemsAllowed (k / 4) y.items) = true) (hplace : t.placesOk l = true)
    (hroom : (t.cq (0x20 + k / 4)).entries.length + l.length ≤ 8)
    (htime : l.all (fun y => t.inTime k (t.reach k f l) y) = true) :
    exec (.sensorSettings h k f x g a b c) s = .next ((t.placeLists k l).cmdReply h 0x400 0 []
      (t.indexOf k (t.reach k f l) :: [if x.isEmpty then 0 else c.1, if g.isEmpty then 0 else c.2])) := by
  subst ht hl
  have hreach := (s.reachedIndex_withCommand (s.outEntry h 0x400 1000000 [oStream k]) _ k f x g a b c).trans hidx
  rw [exec_sensorSettings, execSensorSettings]
  refine command_ok ha ?_ ?_
  · dsimp only
    rw [if_neg (not_and.mpr fun _ => not_not.mpr hreach)]
    simp [fieldIs_clear, hk, hx, hg]
  · dsimp only
    rw [if_neg (by simp [hpred]), if_neg (by simp [hallow]), if_neg (by simp [hplace, hroom]),
      if_neg (by simp [htime]), cmdOk]

/-- R319: words that can be staged, at a time that binds them to the frame, make an armed set. -/
theorem exec_ispParams_ok {e m : Nat} {w : List Half} {v : State} {cl : List (Nat × Nat × Int × Int)}
    (ha : s.accepts h 0x401 [oStream k] = true) (ht : t = s.accepted h 0x401 1000000 [oStream k]) (hk : k < 48)
    (hpred : t.predicts k = true) (hn : n = t.ispReach k f) (hidx : t.indexOf k n = f) (hw : w.length = 256)
    (hm : (List.range 64).find? (fun m => (t.wset m).st == .free) = some m) (hroom : t.portRoom k = true)
    (he : t.now + 50000 + 20 * 128 ≤ e) (hafter : t.startOf k (n - 1) < e) (hbefore : e < t.startOf k n)
    (hstage : (t.setWset m { st := .opened }).stageAll m (ispMembers k w) = .ok v cl)
    (harm : (v.armSet m e (some k)).2 = []) :
    exec (.ispParams h k f e w) s =
      .next (((v.armSet m e (some k)).1.pushIsp k m e).cmdReply h 0x401 0 [] [m, t.indexOf k n]) := by
  subst ht hn
  have hreach := (s.ispIndex_withCommand (s.outEntry h 0x401 1000000 [oStream k]) _ k f).trans hidx
  have harmed : v.armSet m e (some k) = ((v.armSet m e (some k)).1, []) := Prod.ext rfl harm
  rw [exec_ispParams, execIspParams]
  refine command_ok ha ?_ ?_
  · dsimp only
    rw [if_neg (not_and.mpr fun _ => not_not.mpr hreach)]
    simp [fieldIs_clear (decide_eq_true hk)]
  · dsimp only
    rw [if_neg (not_not.mpr hw), if_neg (by simp [hpred]), hm]
    dsimp only
    rw [if_neg (by simp [hroom]), if_neg (by simp [he, hafter, hbefore]), hstage]
    dsimp only
    rw [harmed]
    rfl

end

/-! ### Reads, sync pulses and counters -/

section
variable {s t u : State} {h : CmdHeader} {n : Nat}

/-- R315, R381: a read is handed to its bus as soon as that has no other transfer, and the reply waits. -/
theorem exec_i2cRead_waits {b d r : Nat} {a : Bool} (ha : s.accepts h 0x402 [] = true)
    (ht : t = s.accepted h 0x402 1000000 []) (hb : b < 12) (hd : d < 128) (hr : r < if a then 65536 else 256)
    (hn1 : 1 ≤ n) (hn4 : n ≤ 4)
    (hu : u = t.modOutstanding h.tag (fun o => { o with object := b, bytes := n, args := [(readWord d r a n).toNat] })) :
    exec (.i2cRead h b d r a n) s =
      .next (match u.outstandingTag h.tag with | some o => u.issueRead o | none => u) := by
  subst ht hu
  rw [exec_i2cRead, execI2cRead]
  refine command_later ha ?_ ?_
  · simp only [List.all_cons, List.all_nil, fieldIs_clear (decide_eq_true hb), fieldIs_clear (decide_eq_true hd),
      fieldIs_clear (decide_eq_true hr), fieldIn_clear hn1 hn4, Bool.and_true]
  · dsimp only
    rw [clampNat_between hn1 hn4] <;> rfl

/-- R316, R381: a periodic pulse, from the first of its times that lies ahead, takes the place of the host's earlier one. -/
theorem exec_fsyncSchedule_ok {p f w : Nat} (ha : s.accepts h 0x403 [] = true) (ht : t = s.accepted h 0x403 1000000 [])
    (hn : n < 12) (hp : t.fld (rINT_FSYNC_CFG n) fINT_FSYNC_CFG_MIN_PERIOD_US ≤ p) (hp' : p ≤ 4194303) (hw : 1 ≤ w)
    (hw' : w ≤ 255) (hroom : ((t.dropFsync n).cq (0x20 + n)).entries.length < 8) :
    exec (.fsyncSchedule h n p f w) s = .next (((t.dropFsync n).pushCue (.port ⟨n % 12, Nat.mod_lt n (by decide)⟩)
      { time := firstInstance t.now f p, op := 0x08, late := 0, fab := false, period := p, arg := n + w * 256 }
      false).cmdReply h 0x403 0 [] []) := by
  subst ht
  rw [exec_fsyncSchedule, execFsyncSchedule]
  refine command_ok ha ?_ ?_
  · simp only [List.all_cons, List.all_nil, fieldIs_clear (decide_eq_true hn), fieldIn_clear hw hw', Bool.and_true]
    exact fieldIn_clear hp hp'
  · dsimp only
    rw [if_neg hroom.not_ge, clampNat_between hp hp', clampNat_between hw hw', cmdOk]

theorem exec_streamStatus_ok {k : Nat} (ha : s.accepts h 0x404 [oStream k] = true)
    (ht : t = s.accepted h 0x404 1000000 [oStream k]) (hk : k < 48)
    (hu : u = t.gather ((streamCounters k).map (·.1)).eraseDups) :
    exec (.streamStatus h k) s = .next (u.cmdReply h 0x404 0 []
      ((streamCounters k).map (fun x => u.total x.1 x.2) ++ (u.stream k).lastRecord.map (·.toNat))) := by
  subst ht
  rw [exec_streamStatus, execStreamStatus]
  refine command_ok ha ?_ ?_
  · simp [fieldIs_clear (decide_eq_true hk)]
  · dsimp only
    rw [← hu, cmdOk]

end

/-- Settles O45, command by command. -/
theorem hostCameraCommands : Obligations.HostCameraCommands := by
  unfold Obligations.HostCameraCommands
  exact ⟨fun _ _ _ _ _ _ _ _ _ _ _ => exec_sensorSettings_ok,
    fun _ _ _ _ _ _ _ _ _ _ _ => exec_ispParams_ok,
    fun _ _ _ _ _ _ _ _ _ => exec_i2cRead_waits,
    fun _ _ _ _ _ _ _ => exec_fsyncSchedule_ok,
    fun _ _ _ _ _ => exec_streamStatus_ok⟩

end Sys2Proof.Machine
end

section
/-!
O59: the stripes of a stream go to its cores in round robin (R329, R330).
-/
namespace Sys2Proof.Machine

/-! ### The cores of the set, in ascending order -/

/-- What stands at place `i` of an ascending selection has `i` selected numbers below it. -/
theorem length_filter_range_of_getElem? {p : Nat → Bool} {m i b : Nat}
    (h : ((List.range m).filter p)[i]? = some b) : ((List.range b).filter p).length = i := by
  induction m with
  | zero => simp at h
  | succ m ih =>
    rw [List.range_succ, List.filter_append, List.getElem?_append] at h
    split at h
    · exact ih h
    · next hi =>
      obtain ⟨hlast, hb⟩ := List.getElem?_eq_some_iff.mp h
      have hsingle := List.length_filter_le p [m]
      have hbm : b = m := List.mem_singleton.mp (List.mem_of_mem_filter (hb ▸ List.getElem_mem hlast))
      simp only [List.length_singleton] at hsingle
      subst hbm
      omega

theorem SaFrame.mem_cores {f : SaFrame} {b : Nat} :
    b ∈ f.cores ↔ b < 8 ∧ bitOf (getF f.cfg fSA_STR_CFG_CORES) b = true := by
  rw [SaFrame.cores, List.mem_filter, List.mem_range]

theorem SaFrame.cores_ne_nil {f : SaFrame} (h : getF f.cfg fSA_STR_CFG_CORES ≠ 0) : f.cores ≠ [] := by
  obtain ⟨b, hb⟩ := Nat.exists_testBit_of_ne_zero h
  have hlt : b < 8 := (Nat.pow_lt_pow_iff_right (by decide)).mp ((Nat.ge_two_pow_of_testBit hb).trans_lt (getF_lt _ _))
  exact List.ne_nil_of_mem (SaFrame.mem_cores.mpr ⟨hlt, (bitOf_testBit _ b).trans hb⟩)

/-! ### The place of a stripe -/

theorem SaFrame.place_of_ne_nil {f : SaFrame} (h : f.cores ≠ []) (n : Nat) :
    f.place n = some (f.cores.getD (n % f.cores.length) 0, n / f.cores.length % f.nslot) :=
  if_neg (by simpa using h)

theorem SaFrame.cores_getElem?_of_place {f : SaFrame} {n core slot : Nat} (h : f.place n = some (core, slot)) :
    f.cores[n % f.cores.length]? = some core := by
  have hne : f.cores ≠ [] := fun he => by simp [SaFrame.place, he] at h
  obtain ⟨rfl, -⟩ := Prod.mk.inj (Option.some.inj ((SaFrame.place_of_ne_nil hne n).symm.trans h))
  have hlt : n % f.cores.length < f.cores.length := Nat.mod_lt _ (List.length_pos_iff.mpr hne)
  rw [List.getD_eq_getElem _ _ hlt, List.getElem?_eq_getElem hlt]

/-- R330: the core of the `n`-th stripe is of the set, and has `n mod K` others of the set below it. -/
theorem SaFrame.place_core {f : SaFrame} {n core slot : Nat} (h : f.place n = some (core, slot)) :
    core < 8 ∧ bitOf (getF f.cfg fSA_STR_CFG_CORES) core = true ∧
      ((List.range core).filter (fun b => bitOf (getF f.cfg fSA_STR_CFG_CORES) b)).length = n % f.cores.length := by
  have hcore := SaFrame.cores_getElem?_of_place h
  obtain ⟨hlt, hbit⟩ := SaFrame.mem_cores.mp (List.mem_of_getElem? hcore)
  exact ⟨hlt, hbit, length_filter_range_of_getElem? hcore⟩

/-! ### Streams and slots of the assembler -/

@[simp] theorem State.saStream_setSaStream (s : State) (k : Nat) (x : SaStream) : (s.setSaStream k x).saStream k = x :=
  Cells.get_set _ _ _ _

@[simp] theorem State.saSlot_setSaSlot (s : State) (key : Nat) (x : SaSlot) : (s.setSaSlot key x).saSlot key = some x :=
  Cells.find_put_same _ _ _

@[simp] theorem State.saStream_setPort (s : State) (p k : Nat) (x : PortState) :
    (s.setPort p x).saStream k = s.saStream k := rfl

theorem State.writeMem_sa {s t : State} {k : Nat} {b : List Byte} (h : s.writeMem k b = some t) : t.sa = s.sa := by
  unfold State.writeMem at h
  dsimp only at h
  split at h
  · cases h
  · cases h
    rw [State.setBytes_eq]; rfl

theorem State.coreWrite_sa {s t : State} {p w : Nat} {b : List Byte} (h : s.coreWrite p w b = some t) : t.sa = s.sa := by
  unfold State.coreWrite at h
  split at h
  · exact State.writeMem_sa h
  · cases h

/-- R327: a row written into a slot leaves which slots are taken, and by which stripe. -/
theorem State.saSlot_saWrite (s : State) (core w key : Nat) (b : List Byte) :
    (s.saWrite core w b).saSlot key = s.saSlot key := by
  unfold State.saWrite
  split
  · next t ht =>
    have hsa : t.sa = s.sa := State.coreWrite_sa ht
    simp [State.saSlot, hsa]
  · rfl

theorem State.saSlot_saBegin (s : State) (f : SaFrame) (core j lo key : Nat) :
    (s.saBegin f core j lo).saSlot key = s.saSlot key :=
  List.foldlRecOn (motive := fun t : State => t.saSlot key = s.saSlot key) _ _ (State.saSlot_saWrite ..)
    fun _ ht _ _ => (State.saSlot_saWrite ..).trans ht

theorem State.saSlot_begun (s : State) (f : SaFrame) (core j lo key : Nat) (x : SaSlot) :
    ((s.setSaSlot key x).saBegin f core j lo).saSlot key = some x := by
  rw [State.saSlot_saBegin, State.saSlot_setSaSlot]

/-! ### Numbers across frames, and the slot of a stripe -/

/-- R330: a frame's first stripe has the number of stripes that its stream has had so far. -/
theorem State.saOpen_numbers (s : State) (k fidx height width : Nat) (raw : Bool) :
    ∃ f, ((s.saOpen k fidx height width raw).saStream k).frames.getLast? = some f ∧ f.fidx = fidx ∧
      f.first = (s.saStream k).count ∧
      ((s.saOpen k fidx height width raw).saStream k).count = (s.saStream k).count + f.j := by
  unfold State.saOpen
  simp only [State.saStream_setSaStream, List.getLast?_concat]
  exact ⟨_, rfl, rfl, rfl, rfl⟩

/-- R330, R346: a stream that is disabled counts again from 0. -/
theorem State.saDisable_count (s : State) (k : Nat) : ((s.saDisable k).saStream k).count = 0 := by
  unfold State.saDisable
  simp only [State.saStream_setPort, State.saStream_setSaStream]

/-- R329: a slot that is granted is at the place of its stripe, whether it was FILLING before, has now been registered after a
wait, or is new. -/
theorem State.saSlotFor_granted {s t : State} {k j : Nat} {f : SaFrame} (h : s.saSlotFor k f j = (t, true)) :
    ∃ core slot x, f.place (f.first + j) = some (core, slot) ∧ t.saSlot (slotKey k core slot) = some x ∧
      x.stripe = j ∧ x.fidx = f.fidx := by
  unfold State.saSlotFor at h
  split at h
  · cases h
  · next core slot hplace =>
    refine ⟨core, slot, ?_⟩
    dsimp only at h
    split at h
    · next x hx =>
      split at h
      · next hown =>
        obtain ⟨hfidx, hstripe⟩ := hown
        split at h
        · cases h
          exact ⟨x, hplace, hx, hstripe, hfidx⟩
        · split at h
          · cases h
            exact ⟨_, hplace, State.saSlot_begun .., hstripe, hfidx⟩
          · cases h
      · cases h
    · split at h
      · cases h
      · split at h
        · cases h
          exact ⟨_, hplace, State.saSlot_begun .., rfl, rfl⟩
        · cases h

/-- Settles O59: the core of a stripe by its place in the ascending list of cores, then the numbers and the granted slot. -/
theorem roundRobin : Obligations.RoundRobin := by
  unfold Obligations.RoundRobin
  exact ⟨fun _ _ _ _ => SaFrame.place_core,
    fun _ n h => ⟨_, _, SaFrame.place_of_ne_nil (SaFrame.cores_ne_nil h) n⟩,
    State.saOpen_numbers,
    fun s k => ⟨exec_saStreamDisable k s, s.saDisable_count k⟩,
    fun _ _ _ _ _ => State.saSlotFor_granted⟩

end Sys2Proof.Machine
end

section
/-!
O50 to O54 and O56: what a step does with the queue, and what every step keeps. `keeps_exec` covers every command but a power-on
reset, which sets cue time to 0 and keeps the rest (`power_on_reset`).
-/
namespace Sys2Proof.Machine

/-! ### Which command a step runs -/

/-- Settles O50: the cells of the reset state are computed. -/
theorem resetCanonical : Obligations.ResetCanonical := by
  unfold Obligations.ResetCanonical
  exact ⟨rfl, rfl⟩

theorem step_front (s : State) (c : Instr) (rest : List Instr) :
    step { s with pending := c :: rest } = exec c { s with pending := rest } := rfl

/-- Settles O51: the first branch of `step`. -/
theorem stepTakesFront : Obligations.StepTakesFront := by
  unfold Obligations.StepTakesFront
  exact fun c rest s => step_front s c rest

theorem step_quiet {s : State} (hp : s.pending = []) (hn : s.nextHeld = none) : step s = .next s.quiet := by
  unfold step
  rw [hp, hn]

theorem step_held {s : State} {tag : Nat} {c : Instr} (hp : s.pending = []) (hn : s.nextHeld = some (tag, c)) :
    step s = endHeld (exec c (s.takeHeld tag)) := by
  unfold step
  rw [hp, hn]

/-- R383: a held command that starts is held no longer. -/
theorem State.takeHeld_held (s : State) (tag : Nat) : ∀ x ∈ (s.takeHeld tag).host.held, x.1 ≠ tag := by
  intro x hx
  simpa using (List.mem_filter.mp hx).2

theorem State.pollAll_of_idle {s : State} (h : s.host.outstanding = []) : s.pollAll = s := by
  rw [State.pollAll, h, List.foldl_nil]

theorem State.stopDue_of_noScripts {s : State} (h : s.scripts = []) : s.stopDue = s := by
  rw [State.stopDue, h, List.foldl_nil]

theorem State.noteWork_time (s : State) : s.noteWork.time = s.time := by
  unfold State.noteWork
  split <;> rfl

theorem State.idleTick_ns (s : State) : s.idleTick.time.ns = s.time.ns + 1 := by
  unfold State.idleTick
  dsimp only
  split <;> rfl

/-- Log entry 1: 1 ns passes where no command is outstanding and no script is loaded. -/
theorem State.quiet_ns {s : State} (ho : s.host.outstanding = []) (hs : s.scripts = []) :
    s.quiet.time.ns = s.time.ns + 1 := by
  rw [State.quiet, State.pollAll_of_idle ho, State.stopDue_of_noScripts hs, State.idleTick_ns, State.noteWork_time]

/-- Settles O52: the two steps of an empty queue. -/
theorem stepOnEmptyQueue : Obligations.StepOnEmptyQueue := by
  unfold Obligations.StepOnEmptyQueue
  exact ⟨fun _ hp hn => ⟨step_quiet hp hn, State.quiet_ns⟩,
    fun s tag _ hp hn => ⟨step_held hp hn, s.takeHeld_held tag⟩⟩

/-! ### What every step keeps -/

/-- `Keeps` less cue time and the queue: the canonical form is kept, and no fuse is restored. -/
structure KeepsForm (s t : State) : Prop where
  canon : s.canon → t.canon
  fuses : FusesRise s t

theorem KeepsForm.of_same {s t : State} (hr : t.regs = s.regs) (hm : t.mem = s.mem) (hs : t.sec = s.sec) : KeepsForm s t :=
  ⟨fun hc => by rw [State.canon, hr, hm]; exact hc, FusesRise.same (by rw [hs]) (by rw [hs]) (by rw [hs])⟩

theorem KeepsForm.trans {s t u : State} (h : KeepsForm s t) (k : KeepsForm t u) : KeepsForm s u :=
  ⟨fun hc => k.canon (h.canon hc), h.fuses.trans k.fuses⟩

theorem Keeps.form {s t : State} (h : Keeps s t) : KeepsForm s t := ⟨h.canon, h.fuses⟩

theorem exec_powerOnReset_keeps {s t : State} (h : exec .powerOnReset s = .next t) : t.pending = s.pending ∧ KeepsForm s t := by
  obtain ⟨u, hu, hpending, hcanon, hfuses⟩ := power_on_reset s
  obtain rfl : u = t := Host.Outcome.next.inj (hu.symm.trans h)
  exact ⟨hpending, hcanon, hfuses⟩

/-- Every command keeps the queue, the canonical form and the fuses. -/
theorem exec_keeps {i : Instr} {s t : State} (h : exec i s = .next t) : t.pending = s.pending ∧ KeepsForm s t := by
  by_cases hi : i = .powerOnReset
  · subst hi
    exact exec_powerOnReset_keeps h
  · have hk : Keeps s t := keeps_exec hi (Keeps.refl s) t h
    exact ⟨hk.pending, hk.form⟩

theorem endHeld_next {o : Out} {t : State} (h : endHeld o = .next t) :
    ∃ u, o = .next u ∧ t = { u with host := { u.host with releasing := none } } := by
  cases o with
  | next u => exact ⟨u, rfl, (Host.Outcome.next.inj h).symm⟩
  | fault f => cases h
  | refused r => cases h

/-- A step keeps the canonical form and the fuses, whether it runs the front command, starts a held one or lets time pass: to
take a command from the queue or from hold changes neither. -/
theorem step_keepsForm {s t : State} (hs : step s = .next t) : KeepsForm s t := by
  unfold step at hs
  split at hs
  · next c rest _ =>
    have htake : KeepsForm s { s with pending := rest } := KeepsForm.of_same rfl rfl rfl
    exact htake.trans (exec_keeps hs).2
  · split at hs
    · obtain ⟨u, hu, rfl⟩ := endHeld_next hs
      have htake : KeepsForm s u := (keeps_takeHeld (Keeps.refl s)).form.trans (exec_keeps hu).2
      exact htake.trans (KeepsForm.of_same rfl rfl rfl)
    · cases hs
      exact (keeps_quiet (Keeps.refl s)).form

/-- Settles O53: the first half of what every step keeps. -/
theorem canonicalFormKept : Obligations.CanonicalFormKept := by
  unfold Obligations.CanonicalFormKept
  exact fun _ _ hc hs => (step_keepsForm hs).canon hc

/-- Settles O54: the second half of what every step keeps. -/
theorem fusesNeverRestored : Obligations.FusesNeverRestored := by
  unfold Obligations.FusesNeverRestored
  exact fun _ _ hs => (step_keepsForm hs).fuses

/-! ### Every command answers -/

/-- An outcome is a next state: neither a fault nor a refusal. -/
def Answers (o : Out) : Prop := ∃ t, o = .next t

theorem Answers.next (t : State) : Answers (.next t) := ⟨t, rfl⟩

theorem State.command_answers (s : State) (h : CmdHeader) (i : Instr) (c : CmdSpec) : Answers (s.command h i c) := by
  dsimp only [State.command]
  repeat' first | exact Answers.next _ | split

/-- The meaning of a command other than a debug instruction is a tree of conditions with a next state at every leaf: the
conditions are split from the root down. -/
theorem exec_answers {i : Instr} (hi : i ≠ .jtagDebugInstruction) (s : State) : Answers (exec i s) := by
  cases i
  case jtagDebugInstruction => exact absurd rfl hi
  case ping | getIdentity | cmdAbort | getStatus | getCounters | timeGet | timeSetEpoch | timePps | wingsOpen | wingsStage |
      wingsCheck | wingsApplyAt | wingsCancel | wingsRelease | wingsStatus | memMap | memUnmap | xfer | memWrite | memRead |
      loadScript | unloadScript | run | stop | submit | scriptStatus | restart | sensorSettings | ispParams | i2cRead |
      fsyncSchedule | streamStatus | powerGet | setOp | setPowerCap | sleep | dark | rehearsalStatus | rehearsalCfg |
      rehearseNow | repairMapGet | coreReplace | fullTest | attest | fwUpdateBegin | fwUpdateData | fwUpdateCommit |
      lifecycleToken | fabricStatus | linkReset | lichenInfo | lichenRead | regRead | regWrite | fenceUnit =>
    exact State.command_answers ..
  case registerWrite | rcCounterRead | aonTick | cueqFlush | nop | dmaLaunch | frondJob | taskStart | vppInt |
      barrierRelease | nocWindowOpen | nocWindowClose | fsyncPulse | sensorWrite | ispApply | wake | hostEvent |
      frondJobQWrite | frondFlush | frondResume | vppStart | vppHalt | ssInvalidateGo | sbRegister | dmaKick |
      dmaDescFetch | dmaDescStart | dmaShadowHandover | dmaReadReturn | dmaWriteAck | dmaRingWriteback | dmaResume |
      dmaAbort | dmaAbortDone | dmaShadowSeal | pageRetire | dmaPost | mbxPop | faultQueuePop | hqAlloc | hqPush | hqPop |
      hqFree | hqFill | barArrive | auditRunNow | watchEnable | saRowWrite | stripeFb | stripeXrel | stripeDone |
      stripeDres | saStreamDisable | saStreamFlush | eplGroupRx | eplTrailerTimeout | eplLinkReset | eplResetWrite |
      eplWinLock | commandRunt | wakeSource | watchdogKick | rstNAssert | prompterReset | moduleInsert | slotConfirm |
      secLockBoot | secLockCfg | emuGateReq | sigEngineGo | rehGo | tempCrosscheck | lichenRequest | smbIdentity |
      smbState | smbVin | smbCurrent | smbPower | smbTemp | smbTempSensor | smbAlertStatRead | smbAlertStatClear |
      smbAlertMaskRead | smbAlertMaskWrite | smbWake | smbClockTimeout | jtagBypass | jtagIdcode | jtagSamplePreload |
      jtagExtest | jtagExtestPulse | jtagExtestTrain | cueSheetRefill | loLatchRead | vioCamLoss | vioCamReturn |
      aonCrystalStable =>
    exact Answers.next _
  all_goals
    dsimp only [exec, execTagWaitIssue, execCoreIndexSwitch, execCueTrimStep, execCueSlewStep, execCueHandoverWake,
      execCueHandoverSleep, execPpsEdge, execPpsTimeout, execTimeSyncTimer, execTimeHoldEnd, execCueqPush, execCueqResume,
      execCuePrewake, execCueLate, execFsyncPulseEnd, execWingsApply, execWingsCommitDeadline, execFrondJobStart,
      execFrondRtPreempt, execFrondWeightBlockLoad, execFrondPassStart, execFrondJobComplete, execFrondBusError,
      execVppIntSet, execVppBundleIssue, execVppInterruptEntry, execContextSwitchOut, execContextWaitClear,
      execContextPreempt, execVppDeadlineMiss, execPrompterOpIssue, execRemoteLoadReturn, execRemoteStoreAck,
      execRemoteAccessArrive, execSsInvalidateDone, execCacheFill, execSbRelease, execSbWaitClear, execSbTimeout,
      execBankSwitchOff, execPowerDownWithdrawn, execBankPowerUpDone, execEccCorrectedWriteback, execDmaCqRecordPost,
      execDmaPostingResume, execDmaPaceResume, execDmaBusError, execDmaPtWalk, execDmaTranslationFault, execTvaInvalidate,
      execTvaInvalidateDone, execPostTimeout, execMailboxArrive, execBarWait, execBarCountRelease, execBarReset,
      execBarTimeout, execChainTileArrive, execChainTileForward, execChainWaitExpire, execScriptFault, execAuditRun,
      execPortCfgApply, execDeskewSequence, execHsBurstDiscard, execFrameStart, execFrameEnd, execFrameEndTimeout,
      execLineStart, execImageLine, execEmbeddedLine, execI2cXfer, execI2cListComplete, execI2cStuckTimeout, execTrigEdge,
      execTrigFsyncDelay, execSlotReady, execStripePop, execStripeDrop, execStripeCountPoll, execEplReplayTimeout,
      execEplTrainDone, execWr, execRd, execWrAck, execRdData, execNb4Ann, execNb4Data, execNb4Ctl, execTsSync, execTsDreq,
      execTsDrsp, execBarArr, execBarRel, execBarBroken, execWingsRpt, execWingsCommit, execHeartbeatTimer, execHeartbeat,
      execPeerAliveTimeout, execGoodbye, execLinit, execLinitAck, execCommandTimeout, execUsbAttach, execUsbReset,
      execClearEndpointHalt, execEp2OutData, execUsbU1U2Entry, execUsbSuspend, execUsbResume, execUsbTrainFail, execPllLock,
      execOpTransition, execAvsTick, execDroopEvent, execPowerLimiterSample, execThermalCheck, execLimitHoldEnd,
      execIdleEntry, execIdleExit, execSleepEntry, execDarkEntry, execWakeComplete, execWatchdogExpire, execPowerOnReset,
      execUvWarn, execUvShutdown, execUvRecover, execBootRomStart, execSigEngineDone, execNorAccess, execRehSliceStart,
      execRehDrainTimeout, execRehSliceEnd, execPlannedSwap, execSwapQuiesceTimeout, execMigrationDone, execCoreFailure,
      execDdr4PatrolScrub, execDphyLoopback, execEplPrbsLoopback, execPllLockLoss, execVoltageCrosscheck,
      execLichenRecordWrite, execLichenPositionFind, execLichenTokenRefill, execOpsecTick, execSmbAlertResponse,
      execUnmatchedPacket, execEp3InTransfer, execUsbStandardRequest, execEplSignalDetect, execPrompterRestartDone,
      execActiveHourTick]
    repeat' first | exact Answers.next _ | split
theorem exec_jtagDebugInstruction_answers {s : State} (h : s.tapHeld = true ∨ debugAllowed s.sec.lifeCycle = false) :
    Answers (exec .jtagDebugInstruction s) := by
  rw [exec_jtagDebugInstruction, execJtagDebugInstruction]
  by_cases ht : s.tapHeld = true
  · rw [if_pos ht]
    exact Answers.next s
  · rw [if_neg ht, if_neg (ne_true_of_eq_false (h.resolve_left ht))]
    exact Answers.next _

theorem exec_jtagDebugInstruction_refused {s : State} (ht : s.tapHeld = false) (hd : debugAllowed s.sec.lifeCycle = true) :
    exec .jtagDebugInstruction s = .refused .debugUnit := by
  rw [exec_jtagDebugInstruction, execJtagDebugInstruction, if_neg (ne_true_of_eq_false ht), if_pos hd]

/-- Settles O56: every command answers, and a command keeps the queue that it is given. -/
theorem everyCommandAnswers : Obligations.EveryCommandAnswers := by
  unfold Obligations.EveryCommandAnswers
  refine ⟨fun s c rest hc => ?_, fun s rest => exec_jtagDebugInstruction_refused (s := { s with pending := rest })⟩
  have hanswers : Answers (exec c { s with pending := rest }) := by
    by_cases hd : c = .jtagDebugInstruction
    · subst hd
      exact exec_jtagDebugInstruction_answers (hc.resolve_left (not_not_intro rfl))
    · exact exec_answers hd _
  obtain ⟨t, ht⟩ := hanswers
  exact ⟨t, ht, (exec_keeps ht).1⟩

end Sys2Proof.Machine
end

section
/-!
O60: a command that repeats the tag of an outstanding command (R384).
-/
namespace Sys2Proof.Machine

/-- R384: the reply to a command with the tag of an outstanding one. -/
def dupReply (h : CmdHeader) (op : Nat) : Reply := { opcode := opField h op, tag := h.tag, status := 0x0B, dup := true }

section
variable {s : State} {h : CmdHeader} {o : Outstanding}

/-- R379, R384: the tag is tested after the header's CRC and its reserved bits, and before all else. -/
theorem State.receiveFault_dup {op : Nat} (hcrc : cmdHeaderOk h op = true) (hrsv : h.rsv = 0)
    (ho : s.outstandingTag h.tag = some o) : s.receiveFault h op = some (dupReply h op) := by
  unfold State.receiveFault
  rw [hcrc, ho, if_neg (by simp), if_neg (not_not_intro hrsv)]
  rfl

/-- R384: a command that repeats a tag is answered at once, and nothing else changes but when link and module were in use. -/
theorem State.command_dup (i : Instr) (c : CmdSpec) (hrel : s.host.releasing ≠ some h.tag) (hready : s.hostReady = true)
    (hcrc : cmdHeaderOk h c.op = true) (hrsv : h.rsv = 0) (ho : s.outstandingTag h.tag = some o) :
    s.command h i c = .next (s.inUse.reply (dupReply h c.op)) := by
  have hfault : s.inUse.receiveFault h c.op = some (dupReply h c.op) := State.receiveFault_dup hcrc hrsv ho
  unfold State.command
  rw [if_neg (fun hr => hrel hr.1), hready, if_neg (by simp)]
  unfold State.inUse at hfault
  dsimp only at hfault ⊢
  rw [hfault]
  rfl

end

/-- R375: a command that ends sends its own reply, as the newest one. -/
theorem State.replyTo_replies (s : State) (o : Outstanding) (status : Nat) (payload : List Nat) :
    (s.replyTo o status payload).host.replies = s.host.replies ++
      [{ opcode := o.opcode, tag := o.tag, status := if status = 0 ∧ !o.clamps.isEmpty then 1 else status,
         clamps := o.clamps, payload := payload }] := rfl

/-- Settles O60: `State.command_dup`, for PING too. -/
theorem duplicateTag : Obligations.DuplicateTag := by
  unfold Obligations.DuplicateTag
  refine ⟨?any, ?ping, State.replyTo_replies⟩
  case any =>
    rintro s h c spec _ o _ rfl hrel hready hcrc hrsv ho rfl
    exact ⟨State.command_dup c spec hrel hready hcrc hrsv ho, rfl, ho, rfl⟩
  case ping =>
    rintro s h o _ hrel hready hcrc hrsv ho rfl
    rw [exec_ping, execPing]
    exact State.command_dup _ _ hrel hready hcrc hrsv ho

end Sys2Proof.Machine
end

section
/-!
O27: a peer link (R353, R354, R359 to R362, R366): groups of flits, the timeouts, the reset protocol, training, and the
exchange of LINIT and LINIT_ACK.
-/
namespace Sys2Proof.Machine

section
variable {s t : State} {l : Fin 6}

/-! ### Groups of flits -/

section
variable {g : FlitGroup} (hup : s.linkSt l.val = 2 ∨ s.linkSt l.val = 3)
include hup

/-- R360: groups are taken in INIT and in UP. -/
theorem not_groupIgnored : ¬(s.linkSt l.val ≠ 2 ∧ s.linkSt l.val ≠ 3) := by
  rintro ⟨h2, h3⟩
  exact hup.elim h2 h3

theorem exec_eplGroupRx_crcError (hg : g.good = false) :
    exec (.eplGroupRx l g) s =
      .next ((s.count (rEPL_CRC_ERR_CNT l.val)).setLink l.val { s.link l.val with nak := true }) := by
  rw [exec_eplGroupRx, execEplGroupRx, State.groupRx, if_neg (not_groupIgnored hup), if_pos (Or.inl (by rw [hg]; rfl))]

variable (hg : g.good = true) (hk : g.kinds.any (· == 3) = false) (hn : g.nak = false)
  (ht : t = s.acceptTrailer l.val g)
include hg hk hn ht

/-- R354: the trailer of a good group is taken; its flits are taken where the group is the one awaited. -/
theorem State.groupRx_good :
    s.groupRx l.val g = if g.seq.toNat ≠ (t.link l.val).rxSeq then t else
      (t.setLink l.val { t.link l.val with rxSeq := ((t.link l.val).rxSeq + 1) % 4096, nak := false }).acceptFlits l.val
        g.replay (g.kinds.zip g.flits) := by
  have hnak : ¬(g.nak = true ∧ 0 < (t.link l.val).replayBuf) := fun h => ne_true_of_eq_false hn h.1
  rw [State.groupRx, if_neg (not_groupIgnored hup), if_neg (by simp [hg, hk]), ← ht]
  dsimp only
  rw [if_neg hnak]

theorem exec_eplGroupRx_inOrder (hseq : g.seq.toNat = (t.link l.val).rxSeq) :
    exec (.eplGroupRx l g) s =
      .next ((t.setLink l.val { t.link l.val with
        rxSeq := ((t.link l.val).rxSeq + 1) % 4096, nak := false }).acceptFlits l.val g.replay (g.kinds.zip g.flits)) := by
  rw [exec_eplGroupRx, execEplGroupRx, State.groupRx_good hup hg hk hn ht, if_neg (not_not_intro hseq)]

theorem exec_eplGroupRx_outOfOrder (hseq : g.seq.toNat ≠ (t.link l.val).rxSeq) :
    exec (.eplGroupRx l g) s = .next t := by
  rw [exec_eplGroupRx, execEplGroupRx, State.groupRx_good hup hg hk hn ht, if_pos hseq]

end

/-! ### Timeouts, reset and training -/

theorem exec_eplReplayTimeout_due (hup : s.linkSt l.val = 3) (hbuf : 0 < (s.link l.val).replayBuf)
    (hlate : (s.link l.val).lastAck + 4000 ≤ s.time.ns) :
    exec (.eplReplayTimeout l) s = .next (s.resend l.val) :=
  congrArg done (if_pos ⟨hup, hbuf, hlate⟩)

theorem exec_eplTrailerTimeout_due (hup : s.linkSt l.val = 3) (hlate : (s.link l.val).lastTrailer + 16000 ≤ s.time.ns) :
    exec (.eplTrailerTimeout l) s = .next (s.linkReset l.val 1) :=
  congrArg done (if_pos ⟨hup, hlate⟩)

theorem exec_eplResetWrite_runs (hdown : s.linkSt l.val ≠ 0) (herr : s.linkSt l.val ≠ 5) :
    exec (.eplResetWrite l) s = .next (s.linkReset l.val 4) :=
  congrArg done (if_neg (not_or.mpr ⟨hdown, herr⟩))

/-- R361: the reset protocol ends once no message that has been received is left. -/
theorem exec_eplLinkReset_ends (hreset : s.linkSt l.val = 4) (hrx : (s.link l.val).rx.isEmpty = true) :
    exec (.eplLinkReset l) s = .next (s.setLinkSt l.val 1) :=
  congrArg done (if_pos ⟨hreset, hrx⟩)

theorem exec_eplSignalDetect_trains (hdown : s.linkSt l.val = 0) (hen : s.flag (rEPL_CTL l.val) fEPL_CTL_EN = true)
    (hid : s.modId < 24) (hs : s.awake = true) (ht : t = s.setLink l.val { s.link l.val with signal := true }) :
    exec (.eplSignalDetect l) s = .next (t.setLinkSt l.val 1) := by
  rw [ht]
  exact if_pos ⟨hdown, hen, hid, hs⟩

/-- R361: a link that has trained sends LINIT. -/
theorem exec_eplTrainDone_inits (htrain : s.linkSt l.val = 1)
    (ht : t = (s.setLinkSt l.val 2).transmit l.val ((s.setLinkSt l.val 2).initMsg l.val 0x48)) :
    exec (.eplTrainDone l) s =
      .next (t.setLink l.val { t.link l.val with lastTrailer := s.time.ns, lastAck := s.time.ns }) := by
  rw [ht]
  exact if_pos htrain

/-- R366: LOCK locks a window. -/
theorem exec_eplWinLock_locks (s : State) (w : Fin 16) :
    ∃ t, exec (.eplWinLock w) s = .next t ∧ t.flag (rEPL_WIN_CTL w.val) fEPL_WIN_CTL_LOCK = true ∧
      SameRegs [rEPL_WIN_CTL w.val] s t ∧ t = { s with regs := t.regs } :=
  ⟨_, exec_eplWinLock w s, State.flag_setFld_one s _ _ (by decide) (by decide), sameRegs_setFld s _ _ _, rfl⟩

/-! ### LINIT and LINIT_ACK -/

section
variable {m : LinkMsg} (hm : (s.link l.val).slot = some m)
include hm

/-- R361: a LINIT while the link is UP resets it. -/
theorem exec_linit_up (htype : m.type = 0x48) (hup : s.linkSt l.val = 3) :
    exec (.linit l) s = .next ((s.setLink l.val { s.link l.val with slot := none }).linkReset l.val 5) := by
  rw [exec_linit, execLinit]
  dsimp only
  rw [hm]
  exact (if_neg (not_not_intro htype)).trans (if_pos hup)

/-- R361: the state in which LINIT has been taken: the neighbour that sent it is noted. -/
def State.linitTaken (s : State) (l : Nat) (m : LinkMsg) : State :=
  (s.setLink l { s.link l with slot := none }).setFld (rEPL_STAT l) fEPL_STAT_PEER_MOD m.src

/-- R359: the sizes that the neighbour has announced are noted, and the credits are set to them. -/
def State.peerSized (t : State) (l : Nat) (sizes : List Nat) : State :=
  (List.range 3).foldl (fun t c => t.setFld (rEPL_CRED l) (classFld c) (sizes.getD c 0))
    (t.setLink l { t.link l with peerSize := some sizes })

/-- R359, R361, R362: a LINIT of another module of the fabric, whose sizes do not differ from earlier ones and whose epoch is the
module's, is answered with LINIT_ACK. -/
theorem exec_linit_answers {sizes : List Nat} (htype : m.type = 0x48) (hinit : s.linkSt l.val = 2)
    (hself : m.src ≠ s.modId) (hsrc : m.src < 24) (hsizes : sizes = [m.field 16 2, m.field 18 2, m.field 20 1])
    (hold : (s.link l.val).peerSize.any (fun o => o != sizes) = false) (hrx : (s.link l.val).rx.isEmpty = true)
    (hepoch : m.field 24 4 % 2 ^ 24 = s.fld rEPL_FAB_CFG fEPL_FAB_CFG_EPOCH)
    (ht : t = (s.linitTaken l.val m).peerSized l.val sizes) :
    exec (.linit l) s = .next (t.transmit l.val (t.initMsg l.val 0x49)) := by
  subst hsizes
  have hnotUp : s.linkSt l.val ≠ 3 := by rw [hinit]; decide
  rw [exec_linit, execLinit]
  dsimp only
  rw [hm]
  dsimp only
  rw [if_neg (not_not_intro htype), if_neg hnotUp, if_neg (not_not_intro hinit),
    if_neg (not_or.mpr ⟨hself, Nat.not_le.mpr hsrc⟩), if_neg (ne_true_of_eq_false hold), if_neg (by simp [hrx]),
    if_neg (not_not_intro hepoch), ht]
  rfl

/-- R360, R361: LINIT_ACK makes the link UP; a reset that it ends is recorded with its cause. -/
theorem exec_linitAck_up (htype : m.type = 0x49) (hinit : s.linkSt l.val = 2)
    (ht : t = (((s.setLink l.val { s.link l.val with
        slot := none, lastBeat := s.time.ns, lastSent := s.time.ns, lastTrailer := s.time.ns, cause := 0 }).setLinkSt l.val
      3).setFld (rEPL_STAT l.val) fEPL_STAT_ASLEEP 0).setFld (rEPL_STAT l.val) fEPL_STAT_PEER_ALIVE 1) :
    exec (.linitAck l) s = .next (if (s.link l.val).cause = 0 then t
      else t.lichenFw 0x0903 l.val (s.link l.val).cause (s.link l.val).reclaimReq (s.link l.val).reclaimOther) := by
  rw [exec_linitAck, execLinitAck]
  dsimp only
  rw [hm]
  dsimp only
  rw [if_neg (not_or.mpr ⟨not_not_intro htype, not_not_intro hinit⟩), ht]

end
end

/-- Settles O27, event by event. -/
theorem linkEvents : Obligations.LinkEvents := by
  unfold Obligations.LinkEvents
  refine ⟨fun _ _ _ => exec_eplGroupRx_crcError, fun _ _ _ _ => exec_eplGroupRx_inOrder,
    fun _ _ _ _ => exec_eplGroupRx_outOfOrder, fun _ _ => exec_eplReplayTimeout_due, fun _ _ => exec_eplTrailerTimeout_due,
    fun _ _ => exec_eplResetWrite_runs, fun _ _ => exec_eplLinkReset_ends, fun _ _ _ => exec_eplSignalDetect_trains,
    fun _ _ _ => exec_eplTrainDone_inits, fun s w _ => exec_eplWinLock_locks s w, ?linit, fun _ _ _ => exec_linit_up,
    fun _ _ _ _ => exec_linitAck_up⟩
  case linit =>
    rintro s _ v l m sizes hm htype hinit hself hsrc hsizes hold hrx hepoch rfl hv
    exact exec_linit_answers hm htype hinit hself hsrc hsizes hold hrx hepoch hv

end Sys2Proof.Machine
end

section
/-!
O26: the USB link (R391 to R393, R398 to R408): attachment, reset, halts, data, link states, loss of speed, event records and the
requests on endpoint 0.
-/
namespace Sys2Proof.Machine

section
variable {s t u : State}

/-! ### Attachment and reset -/

/-- R392: with its terminations on, the module enumerates at the highest speed. -/
theorem exec_usbAttach_enumerates {v : Fin 7} (hon : s.usbOn = true) (hdark : s.power.st ≠ .dark)
    (hconnect : s.flag rUSB_CFG fUSB_CFG_CONNECT = true) (hnone : v.val ≠ 0) (hfull : v.val ≠ 1)
    (hss : s.flag rUSB_CFG fUSB_CFG_SS_DIS = false)
    (ht : t = ((({ s with power := { s.power with vbus := true } }.setFld rUSB_STAT fUSB_STAT_ATTACHED 1).setFld rUSB_STAT
      fUSB_STAT_SPEED v.val).setUsbLink 1)) :
    exec (.usbAttach v) s = .next { t with usb := { t.usb with idleSince := s.time.ns, enumerated := true } } := by
  subst ht
  rw [exec_usbAttach, execUsbAttach]
  dsimp only
  rw [if_neg hdark, if_neg (by simp [hon]), if_pos ⟨hconnect, hnone⟩, if_neg (ne_true_of_eq_false hss), if_neg hfull]

theorem exec_usbAttach_dark {v : Fin 7} (hdark : s.power.st = .dark) :
    exec (.usbAttach v) s = .next ({ s with power := { s.power with vbus := true } }.wakeFire 1) :=
  if_pos hdark

/-- R407: what every reset does, with `s` the state in which VBUS stands or has been lost: the commands outstanding end, the reset
is counted, and CONFIGURED, RWAKE_EN and the link's power management are cleared. -/
def State.usbCleared (s : State) : State :=
  let t := ((s.endCommands.count rUSB_RESET_CNT).setFld rUSB_STAT fUSB_STAT_CONFIGURED 0).setFld rUSB_STAT fUSB_STAT_RWAKE_EN 0
  { t with usb := { t.usb with u1 := false, u2 := false, enumerated := false, idleSince := s.time.ns } }

theorem exec_usbReset_signalled {k : Fin 3} (hon : s.usbOn = true) (hk : k.val ≠ 2) :
    exec (.usbReset k) s = .next ((s.usbCleared.setUsbLink 1).lichenFw 0x0A12 k.val 0 0 0) := by
  rw [exec_usbReset, execUsbReset]
  dsimp only
  rw [if_neg hk, if_neg (by simp [hon]), if_neg hk]
  rfl

/-- R407: with VBUS the module is detached. -/
theorem exec_usbReset_vbusLost (hon : s.usbOn = true) :
    exec (.usbReset 2) s = .next (((({ s with power := { s.power with vbus := false } }.usbCleared.setFld rUSB_STAT
      fUSB_STAT_ATTACHED 0).setFld rUSB_STAT fUSB_STAT_SPEED 0).setUsbLink 0).lichenFw 0x0A12 2 0 0 0) := by
  rw [exec_usbReset, execUsbReset]
  exact if_neg (by simp [hon])

/-! ### Endpoints -/

/-- R406: a halt of endpoint 2 that is cleared ends the transfers of its direction. -/
theorem exec_clearEndpointHalt_ep2 (s : State) (inward : Bool) :
    exec (.clearEndpointHalt 2 inward) s =
      .next ((s.host.outstanding.filter (fun o => o.opcode % 4096 == 0x202 && decide (48 ≤ o.object) == inward)).foldl
        (fun t o => t.stopXfer o 0x0F) s) := by
  rw [exec_clearEndpointHalt, execClearEndpointHalt]
  exact if_pos rfl

theorem exec_clearEndpointHalt_other {ep : Fin 4} {inward : Bool} (h2 : ep.val ≠ 2) (h0 : ep.val ≠ 0) :
    exec (.clearEndpointHalt ep inward) s = .next { s with usb := { s.usb with
      seqReset := if (2 * ep.val + b2n inward) ∈ s.usb.seqReset then s.usb.seqReset
        else s.usb.seqReset ++ [2 * ep.val + b2n inward] } } :=
  (if_neg h2).trans (if_neg h0)

/-- R398: a packet that fits what its channel is armed for is taken, in order. -/
theorem exec_ep2OutData_taken {n : Fin 16} {b : List Byte} {r left : Nat}
    (ht : t = s.countBy rUSB_ERR_CNT fUSB_ERR_CNT_RETRY r) (hleft : Cells.get (fun _ => 0) t.usb.armed (32 + n.val) = left)
    (hconf : t.flag rUSB_STAT fUSB_STAT_CONFIGURED = true) (hon : t.usbOn = true) (hfits : b.length ≤ left) (harmed : 0 < left)
    (hstream : t.fld rUSB_STAT fUSB_STAT_SPEED ≠ 2 ∨ n.val = 0) (hu : u = t.usbTraffic) :
    exec (.ep2OutData n b r) s = .next { u with usb := { u.usb with
      armed := Cells.set (fun _ => 0) u.usb.armed (32 + n.val) (left - b.length)
      outData := Cells.set (fun _ => []) u.usb.outData (32 + n.val)
        (Cells.get (fun _ => []) u.usb.outData (32 + n.val) ++ b) } } := by
  subst ht hleft hu
  exact if_pos ⟨hconf, hon, hfits, harmed, hstream⟩

/-- R391: the host takes up to four event records. -/
theorem exec_ep3InTransfer_takes (hconf : s.flag rUSB_STAT fUSB_STAT_CONFIGURED = true) (hon : s.usbOn = true) :
    exec .ep3InTransfer s = .next ({ s with events := { s.events with
      queue := s.events.queue.drop (min 4 s.events.queue.length)
      taken := s.events.taken + min 4 s.events.queue.length } }.usbTraffic) :=
  if_pos ⟨hconf, hon⟩

/-! ### Link states -/

theorem exec_usbU1U2Entry_u1 (hen : s.usb.u1 = true) (hlink : s.usbLink = 1) (hon : s.usbOn = true)
    (hidle : s.usb.idleSince + 2000 ≤ s.time.ns) : exec (.usbU1U2Entry false) s = .next (s.setUsbLink 2) :=
  if_pos ⟨hen, Or.inl hlink, hon, hidle⟩

/-- R400: U2 is entered from U0 and from U1. -/
theorem exec_usbU1U2Entry_u2 (hen : s.usb.u2 = true) (hlink : s.usbLink = 1 ∨ s.usbLink = 2) (hon : s.usbOn = true)
    (hidle : s.usb.idleSince + 100000 ≤ s.time.ns) : exec (.usbU1U2Entry true) s = .next (s.setUsbLink 3) :=
  if_pos ⟨hen, hlink.imp_right (⟨rfl, ·⟩), hon, hidle⟩

section
variable {m : Nat} (hon : s.usbOn = true) (hlink : s.usbLink ≠ 0)
include hon hlink

theorem not_suspendIgnored : ¬((!s.usbOn) = true ∨ s.usbLink = 0) := by
  simp [hon, hlink]

theorem exec_usbSuspend_staysUp (hwake : s.flag rUSB_STAT fUSB_STAT_RWAKE_EN = false) :
    exec .usbSuspend s = .next (s.setUsbLink 4) :=
  (if_neg (not_suspendIgnored hon hlink)).trans (if_neg (fun h => ne_true_of_eq_false hwake h.1))

/-- R401: an idle module that may wake the host goes to SLEEP, with USB among its wake sources. -/
theorem exec_usbSuspend_sleeps (hwake : s.flag rUSB_STAT fUSB_STAT_RWAKE_EN = true)
    (hout : s.host.outstanding.isEmpty = true) (hheld : s.host.held.isEmpty = true) (hs : s.awake = true)
    (hrun : s.scripts.all (fun (x : Nat × Script) => x.2.st != .running) = true) (hm : s.usb.sleepMask.getD 0x3F = m) :
    exec .usbSuspend s = .next ((s.setUsbLink 4).beginEntry false none (if bitOf m 1 then m else m + 2)) := by
  subst hm
  exact (if_neg (not_suspendIgnored hon hlink)).trans (if_pos ⟨hwake, hout, hheld, hs, hrun⟩)

end

section
variable (hlink : s.usbLink = 4)
include hlink

theorem exec_usbResume_wakes :
    exec .usbResume s =
      .next ((s.setUsbLink (if s.power.st = .sleep ∨ s.power.st = .waking then 5 else 1)).wakeFire 1) :=
  if_pos hlink

/-- R402: a module that is awake leaves U3 for U0. -/
theorem exec_usbResume_awake (hs : s.awake = true) : exec .usbResume s = .next ((s.setUsbLink 1).wakeFire 1) := by
  have hst : ¬(s.power.st = .sleep ∨ s.power.st = .waking) := by
    rintro (h | h) <;> simp [State.awake, h] at hs
  rw [exec_usbResume_wakes hlink, if_neg hst]

/-- R402: a module that sleeps or wakes lets the link recover. -/
theorem exec_usbResume_asleep (hs : s.power.st = .sleep ∨ s.power.st = .waking) :
    exec .usbResume s = .next ((s.setUsbLink 5).wakeFire 1) := by
  rw [exec_usbResume_wakes hlink, if_pos hs]

end

/-- R405: a SuperSpeed port falls back to a lower speed, and the loss is recorded. -/
theorem exec_usbTrainFail_drops {v : Fin 7} (hspeed : 3 ≤ s.fld rUSB_STAT fUSB_STAT_SPEED)
    (hlower : v.val < s.fld rUSB_STAT fUSB_STAT_SPEED) :
    exec (.usbTrainFail v) s = .next ((s.setFld rUSB_STAT fUSB_STAT_SPEED v.val).lichenFw 0x0A11 v.val 0 0 0) :=
  if_pos ⟨hspeed, hlower⟩

/-! ### Requests on endpoint 0 -/

section
variable (hon : s.usbOn = true) (hspeed : s.fld rUSB_STAT fUSB_STAT_SPEED ≠ 0)
include hon hspeed

/-- R400, R401, R408: a request is taken where the controller is powered and the device enumerated. -/
theorem not_requestIgnored : ¬((!s.usbOn) = true ∨ s.fld rUSB_STAT fUSB_STAT_SPEED = 0) := by
  simp [hon, hspeed]

theorem exec_usbStandardRequest_setConfiguration (v : Fin 2) :
    exec (.usbStandardRequest (.setConfiguration v.val)) s =
      .next (s.usbTraffic.setFld rUSB_STAT fUSB_STAT_CONFIGURED v.val) :=
  (if_neg (not_requestIgnored hon hspeed)).trans (congrArg done (if_pos (Nat.le_of_lt_succ v.isLt)))

theorem exec_usbStandardRequest_u1Enable (on : Bool) :
    exec (.usbStandardRequest (.feature .u1Enable on)) s =
      .next { s.usbTraffic with usb := { s.usbTraffic.usb with u1 := on } } :=
  if_neg (not_requestIgnored hon hspeed)

theorem exec_usbStandardRequest_u2Enable (on : Bool) :
    exec (.usbStandardRequest (.feature .u2Enable on)) s =
      .next { s.usbTraffic with usb := { s.usbTraffic.usb with u2 := on } } :=
  if_neg (not_requestIgnored hon hspeed)

theorem exec_usbStandardRequest_remoteWake (on : Bool) :
    exec (.usbStandardRequest (.feature .remoteWake on)) s =
      .next (s.usbTraffic.setFld rUSB_STAT fUSB_STAT_RWAKE_EN (b2n on)) :=
  if_neg (not_requestIgnored hon hspeed)

end
end

/-- Settles O26, event by event; the two kinds of reset through what every reset does. -/
theorem usbEvents : Obligations.UsbEvents := by
  unfold Obligations.UsbEvents
  refine ⟨fun _ _ _ => exec_usbAttach_enumerates, fun _ _ => exec_usbAttach_dark, ?reset, ?vbus, exec_clearEndpointHalt_ep2,
    fun _ _ _ => exec_clearEndpointHalt_other, fun _ _ _ _ _ _ _ => exec_ep2OutData_taken, fun _ => exec_usbU1U2Entry_u1,
    fun _ => exec_usbU1U2Entry_u2, fun _ => exec_usbSuspend_staysUp, fun _ _ => exec_usbSuspend_sleeps,
    fun _ => exec_usbResume_awake, fun _ => exec_usbResume_asleep, fun _ _ => exec_usbTrainFail_drops,
    fun _ => exec_ep3InTransfer_takes, fun _ v hon hspeed => exec_usbStandardRequest_setConfiguration hon hspeed v,
    fun _ on h hspeed => exec_usbStandardRequest_u1Enable h hspeed on,
    fun _ on h hspeed => exec_usbStandardRequest_u2Enable h hspeed on,
    fun _ on h hspeed => exec_usbStandardRequest_remoteWake h hspeed on⟩
  case reset =>
    rintro s _ _ k hon hk rfl rfl
    exact exec_usbReset_signalled hon hk
  case vbus =>
    rintro s _ _ hon rfl rfl
    exact exec_usbReset_vbusLost hon

end Sys2Proof.Machine
end

section
/-!
O46: the host's power and rehearsal commands (R379, R381, R388, R414 to R417, R423, R425, R452, R461, R465). Each is `command_ok`,
`command_refused` or `command_later` at the command's own result.
-/
namespace Sys2Proof.Machine

/-! ### Power -/

section
variable {s t : State} {h : CmdHeader}

theorem exec_powerGet_ok (ha : s.accepts h 0x500 [] = true) (ht : t = s.accepted h 0x500 1000000 []) :
    exec (.powerGet h) s = .next (t.cmdReply h 0x500 0 []
      ((List.range 7).map (fun k => Cells.get (fun _ => 0) t.power.residency k) ++
        [t.fld rPWR_IN fPWR_IN_MV, t.fld rPWR_IN fPWR_IN_CURR, t.fld rPWR_CAP fPWR_CAP_CAP, t.power.holds.length] ++
        t.power.holds.flatMap (fun x => [x.1, x.2.1, x.2.2.1, x.2.2.2.1, x.2.2.2.2]))) := by
  subst ht
  rw [exec_powerGet, execPowerGet]
  exact command_ok ha rfl rfl

section
variable {c o : Nat} (ha : s.accepts h 0x501 [] = true) (ht : t = s.accepted h 0x501 1000000 []) (hc : c < 2)
include ha ht hc

/-- R414: a cluster that no real-time script pins takes any operating point, and a pinned one OP7. -/
theorem exec_setOp_ok (ho : o < 8) (hfree : t.pinned c = false ∨ o = 7) :
    exec (.setOp h c o) s = .next ((((t.setCluster c { t.cluster c with lastSet := some o }).setReqOp c o).settle).cmdReply h
      0x501 0 [] []) := by
  subst ht
  have hallowed : ¬((s.accepted h 0x501 1000000 []).pinned c = true ∧ o < 7) := by
    rintro ⟨hpin, hlow⟩
    rcases hfree with hfree | rfl
    · exact ne_true_of_eq_false hfree hpin
    · exact Nat.lt_irrefl 7 hlow
  rw [exec_setOp, execSetOp]
  refine command_ok ha ?_ (if_neg hallowed)
  simp [fieldIs_clear, hc, ho]

theorem exec_setOp_pinned (ho : o < 7) (hpin : t.pinned c = true) :
    exec (.setOp h c o) s = .next (t.cmdReply h 0x501 0x12 [] []) := by
  subst ht
  rw [exec_setOp, execSetOp]
  refine command_refused ha ?_ (if_pos ⟨hpin, ho⟩) (by decide)
  simp [fieldIs_clear, hc, Nat.lt_succ_of_lt ho]

end

theorem exec_setPowerCap_ok {w : Nat} (ha : s.accepts h 0x502 [] = true) (ht : t = s.accepted h 0x502 1000000 [])
    (hlo : 20 ≤ w) (hhi : w ≤ t.fld rPWR_CAP fPWR_CAP_CEIL) :
    exec (.setPowerCap h w) s = .next ((t.setFld rPWR_CAP fPWR_CAP_CAP w).cmdReply h 0x502 0 [] []) := by
  subst ht
  rw [exec_setPowerCap, execSetPowerCap]
  refine command_ok ha ?_ ?_
  · simp only [List.all_cons, List.all_nil, Bool.and_true]
    exact fieldIn_clear hlo hhi
  · dsimp only
    rw [clampNat_between hlo hhi, cmdOk]

/-- R423: the wake time of a SLEEP is none, or lies 5 ms ahead or more. -/
theorem exec_sleep_later {e m : Nat} (ha : s.accepts h 0x503 [] = true) (ht : t = s.accepted h 0x503 1000000 [])
    (he : e = 0 ∨ (t.now + 5000000 ≤ e ∧ e < 2 ^ 64)) (hm : m < 64) :
    exec (.sleep h e m) s = .next (t.modOutstanding h.tag (fun o => { o with args := [e, m] })) := by
  subst ht
  have hwake : (if e = 0 then 0 else max e ((s.accepted h 0x503 1000000 []).now + 5000000)) = e := by
    rcases he with rfl | ⟨hlo, -⟩
    · rfl
    · split
      · next h0 => exact h0.symm
      · exact max_eq_left hlo
  rw [exec_sleep, execSleep]
  refine command_later ha ?_ ?_
  · simp only [List.all_cons, List.all_nil, fieldIs_clear (decide_eq_true hm), Bool.and_true]
    rcases he with rfl | ⟨hlo, hhi⟩
    · rfl
    · split
      · rfl
      · exact fieldIn_clear hlo (Nat.le_sub_one_of_lt hhi)
  · dsimp only
    rw [hwake]

theorem exec_dark_later {m : Nat} (ha : s.accepts h 0x504 [] = true) (ht : t = s.accepted h 0x504 1000000 []) (hm : m < 64) :
    exec (.dark h m) s = .next (t.modOutstanding h.tag (fun o => { o with args := [0, m] })) := by
  subst ht
  rw [exec_dark, execDark]
  refine command_later ha ?_ rfl
  simp [fieldIs_clear, hm]

/-! ### Rehearsal and repair -/

theorem exec_rehearsalStatus_ok {u : State} (ha : s.accepts h 0x600 [] = true) (ht : t = s.accepted h 0x600 1000000 [])
    (hu : u = t.gather [rREH_FAIL_CNT]) :
    exec (.rehearsalStatus h) s = .next (u.cmdReply h 0x600 0 []
      [(u.reg rREH_ROT_CNT).toNat, u.total rREH_FAIL_CNT 0, u.nextSlice.getD 0xFFFF]) := by
  subst ht hu
  rw [exec_rehearsalStatus, execRehearsalStatus]
  exact command_ok ha rfl rfl

theorem exec_rehearsalCfg_ok {n : Nat} (ha : s.accepts h 0x601 [] = true) (ht : t = s.accepted h 0x601 1000000 [])
    (hlo : 1 ≤ n) (hhi : n ≤ 720) :
    exec (.rehearsalCfg h n) s = .next ((t.setFld rREH_CTL fREH_CTL_ROT_HOURS n).cmdReply h 0x601 0 [] []) := by
  subst ht
  rw [exec_rehearsalCfg, execRehearsalCfg]
  refine command_ok ha ?_ ?_
  · simp [fieldIn_clear hlo hhi]
  · dsimp only
    rw [clampNat_between hlo hhi, cmdOk]

/-- R381: REHEARSE_NOW replies when the slice that it has started has ended. -/
theorem exec_rehearseNow_starts {b : Nat} (ha : s.accepts h 0x602 [] = true) (ht : t = s.accepted h 0x602 1000000 [])
    (hb : listedBlock b = true) (hok : t.sliceOk b = true) (hidle : t.reh.slice = none)
    (hstarts : (t.rehGo b).reh.slice.isSome = true) :
    exec (.rehearseNow h b) s = .next (t.rehGo b) := by
  subst ht
  rw [exec_rehearseNow, execRehearseNow]
  refine command_later ha ?_ ?_
  · simp [fieldIs_clear hb]
  · dsimp only
    rw [if_neg (by simp [hok]), if_neg]
    rw [Option.isSome_iff_ne_none] at hstarts
    simp [hidle, hstarts]

theorem exec_repairMapGet_ok {k : Nat} {l : List (List Nat)} (ha : s.accepts h 0x603 [] = true)
    (ht : t = s.accepted h 0x603 1000000 [])
    (hl : l = t.sec.fuseRepairs.map (repairWords true) ++ t.fieldRepairs.map (repairWords false)) :
    exec (.repairMapGet h k) s = .next (t.cmdReply h 0x603 0 []
      ([((l.drop k).take 2047).length, min l.length (k + ((l.drop k).take 2047).length)] ++
        ((l.drop k).take 2047).flatten)) := by
  subst ht hl
  rw [exec_repairMapGet, execRepairMapGet]
  exact command_ok ha rfl rfl

section
variable {u : State} {b : Nat} (ha : s.accepts h 0x604 [] = true) (ht : t = s.accepted h 0x604 1000000 []) (hb : b < 8)
include ha ht hb

/-- R461: with a healthy spare the replacement is looked after at once, and the reply waits. -/
theorem exec_coreReplace_spare (hspare : t.spareHealthy = true)
    (hu : u = t.modOutstanding h.tag (fun o => { o with object := b, bytes := t.phys b })) :
    exec (.coreReplace h b) s =
      .next (match u.outstandingTag h.tag with | some o => u.pollReplace o | none => u) := by
  subst ht hu
  rw [exec_coreReplace, execCoreReplace]
  refine command_later ha ?_ ?_
  · simp [fieldIs_clear, hb]
  · exact if_neg (by simp [hspare])

theorem exec_coreReplace_noSpare (hspare : t.spareHealthy = false) :
    exec (.coreReplace h b) s = .next (t.cmdReply h 0x604 0x12 [] []) := by
  subst ht
  rw [exec_coreReplace, execCoreReplace]
  refine command_refused ha ?_ (if_pos (by rw [hspare]; rfl)) (by decide)
  simp [fieldIs_clear, hb]

end

theorem exec_fullTest_starts {m : Nat} {f : List Nat} {u : State} (ha : s.accepts h 0x605 [] = true)
    (ht : t = s.accepted h 0x605 1000000 []) (hm : m < 65536) (hidle : t.sec.fullTest = false)
    (hu : u = t.modOutstanding h.tag (fun o => { o with args := m :: f })) :
    exec (.fullTest h m f) s = .next { u with sec := { u.sec with fullTest := true } } := by
  subst ht hu
  rw [exec_fullTest, execFullTest]
  refine command_later ha ?_ (if_neg (ne_true_of_eq_false hidle))
  simp [fieldIs_clear, hm]

end

/-- Settles O46, command by command. -/
theorem hostPowerAndRehearsalCommands : Obligations.HostPowerAndRehearsalCommands := by
  unfold Obligations.HostPowerAndRehearsalCommands
  exact ⟨fun _ _ _ => exec_powerGet_ok, fun _ _ _ _ _ => exec_setOp_ok, fun _ _ _ _ _ => exec_setOp_pinned,
    fun _ _ _ _ => exec_setPowerCap_ok, fun _ _ _ _ _ => exec_sleep_later, fun _ _ _ _ => exec_dark_later,
    fun _ _ _ _ => exec_rehearsalStatus_ok, fun _ _ _ _ => exec_rehearsalCfg_ok, fun _ _ _ _ => exec_rehearseNow_starts,
    fun _ _ _ _ _ => exec_repairMapGet_ok, fun _ _ _ _ _ => exec_coreReplace_spare,
    fun _ _ _ _ => exec_coreReplace_noSpare, fun _ _ _ _ _ _ => exec_fullTest_starts⟩

end Sys2Proof.Machine
end

section
/-!
O47: the host's security and update commands (R379, R381, R437, R442 to R447). Each is `command_ok` or `command_refused` at the
command's own result.
-/
namespace Sys2Proof.Machine

section
variable {s t : State} {h : CmdHeader}

/-- R447: the report for the nonce, and then the device certificate. -/
theorem exec_attest_ok {x : List Byte} (ha : s.accepts h 0x700 [] = true) (ht : t = s.accepted h 0x700 1000000 [])
    (hx : x.length = 48) :
    exec (.attest h x) s =
      .next (t.cmdReply h 0x700 0 [] ((t.report x t.firmwarePart ++ t.certificate).map (·.toNat))) := by
  subst ht
  rw [exec_attest, execAttest]
  exact command_ok ha rfl (if_neg (not_not_intro hx))

/-! ### Updates -/

/-- R442: the inactive slot is erased, and the lengths are noted. -/
theorem exec_fwUpdateBegin_ok {f c : Nat} {u : State} (ha : s.accepts h 0x701 [oNor] = true)
    (ht : t = s.accepted h 0x701 1000000 [oNor]) (hf : f ≤ 0x1700000) (hc : c ≤ 0x100000)
    (hu : u = t.norErase (slotBase t.updateSlot) 0x1800000) :
    exec (.fwUpdateBegin h f c) s =
      .next (State.cmdReply { u with sec := { u.sec with update := some (f, c), updHeader := [] } } h 0x701 0 [] []) := by
  subst ht hu
  rw [exec_fwUpdateBegin, execFwUpdateBegin]
  refine command_ok ha ?_ rfl
  simp [fieldIs_clear, hf, hc]

section
variable {o f c : Nat} {b : List Byte} (ha : s.accepts h 0x702 [oNor] = true) (ht : t = s.accepted h 0x702 1000000 [oNor])
  (hb : b.length ≤ 65520) (hupd : t.sec.update = some (f, c))
include ha ht hb hupd

/-- R442: data within the length of the firmware image or of the configuration is written. -/
theorem exec_fwUpdateData_ok (hin : o + b.length ≤ f ∨ (0x1700000 ≤ o ∧ o + b.length ≤ 0x1700000 + c)) :
    exec (.fwUpdateData h o b) s = .next ((t.updateWrite o b).cmdReply h 0x702 0 [] []) := by
  subst ht
  rw [exec_fwUpdateData, execFwUpdateData]
  refine command_ok ha rfl ?_
  dsimp only
  rw [if_neg (Nat.not_lt.mpr hb), hupd]
  exact if_pos hin

theorem exec_fwUpdateData_outside (hfw : f < o + b.length) (hcfg : o < 0x1700000 ∨ 0x1700000 + c < o + b.length) :
    exec (.fwUpdateData h o b) s = .next (t.cmdReply h 0x702 0x03 [] []) := by
  subst ht
  rw [exec_fwUpdateData, execFwUpdateData]
  refine command_refused ha rfl ?_ (by decide)
  dsimp only
  rw [if_neg (Nat.not_lt.mpr hb), hupd]
  exact if_neg (by omega)

end

/-- R442: the result of the check of the firmware image under update, which has `f` bytes. -/
def State.updateCheck (t : State) (f : Nat) : Nat :=
  t.imageCheck t.updateReader (f == headerLen + imgBodyLen t.updateReader) 1

/-- R442: the result of the check of the configuration under update, which has `c` bytes. -/
def State.updateConfigCheck (t : State) (c : Nat) : Nat :=
  t.imageCheck (t.norReader (slotBase t.updateSlot + 0x1700000))
    (c == headerLen + imgBodyLen (t.norReader (slotBase t.updateSlot + 0x1700000))) 2

/-- R442: the firmware header is written last, and makes the slot PENDING. -/
theorem exec_fwUpdateCommit_checks {f c : Nat} {u : State} (ha : s.accepts h 0x703 [oNor] = true)
    (ht : t = s.accepted h 0x703 60000000 [oNor]) (hupd : t.sec.update = some (f, c))
    (hu : u = (t.norProgram (slotBase t.updateSlot) (imgBytes t.updateReader 0 headerLen)).setFwSlot t.updateSlot
      { mark := .pending, attempts := 0 }) :
    exec (.fwUpdateCommit h) s = .next (if t.updateCheck f = 0 ∧ t.updateConfigCheck c = 0 then
        State.cmdReply { u with sec := { u.sec with update := none, updHeader := [] } } h 0x703 0 []
          [t.updateSlot, imgVersion t.updateReader]
      else t.cmdReply h 0x703 0x07 [] []) := by
  subst ht hu
  rw [exec_fwUpdateCommit, execFwUpdateCommit]
  split
  · next hgood =>
    refine command_ok ha rfl ?_
    dsimp only
    rw [hupd]
    exact if_neg (not_or.mpr ⟨not_not_intro hgood.1, not_not_intro hgood.2⟩)
  · next hbad =>
    refine command_refused ha rfl ?_ (by decide)
    dsimp only
    rw [hupd]
    exact if_pos (Decidable.not_and_iff_or_not.mp hbad)

/-! ### Tokens -/

/-- R378: a token that is refused has a status of its own. -/
theorem tokenStatus_ne_zero (x : Nat) : tokenStatus x ≠ 0 := by
  unfold tokenStatus
  split <;> decide

/-- R445: a token takes effect where its image verifies and its rules hold. -/
theorem exec_lifecycleToken_checks {b : List Byte} {x a c r n : Nat} {u : State} (ha : s.accepts h 0x704 [oNor] = true)
    (ht : t = s.accepted h 0x704 60000000 [oNor])
    (hx : x = t.imageCheck (fun i => b.getD i 0) (b.length == headerLen + imgBodyLen (fun i => b.getD i 0)) 4)
    (hbody : tokenBody (imgBody (fun i => b.getD i 0)) = some (a, c, r, n)) (hok : t.tokenOk a c r n = true)
    (hu : u = t.lifeChange a c r) :
    exec (.lifecycleToken h b) s = .next (if x = 0 then u.cmdReply h 0x704 0 [] [u.sec.lifeCycle]
      else t.cmdReply h 0x704 (tokenStatus x) [] []) := by
  subst ht hu hx
  rw [exec_lifecycleToken, execLifecycleToken]
  split
  · next hgood =>
    refine command_ok ha rfl ?_
    dsimp only
    rw [if_neg (not_not_intro hgood), hbody]
    exact if_pos hok
  · next hbad => exact command_refused ha rfl (if_pos hbad) (tokenStatus_ne_zero _)

end

/-- Settles O47, command by command. -/
theorem hostSecurityCommands : Obligations.HostSecurityCommands := by
  unfold Obligations.HostSecurityCommands
  exact ⟨fun _ _ _ _ => exec_attest_ok, fun _ _ _ _ _ _ => exec_fwUpdateBegin_ok,
    fun _ _ _ _ _ _ _ => exec_fwUpdateData_ok, fun _ _ _ _ _ _ _ => exec_fwUpdateData_outside,
    fun _ _ _ _ _ _ => exec_fwUpdateCommit_checks, fun _ _ _ _ _ _ _ _ _ _ => exec_lifecycleToken_checks⟩

end Sys2Proof.Machine
end

section
/-!
O30: PLLs, operating points, voltage scaling, droop, the power limiter, temperatures and holds (R409, R411 to R418, R467).
-/
namespace Sys2Proof.Machine

/-! ### PLLs -/

/-- R467: the loss of lock is recorded with two figures that are measured, and a cluster that its PLL clocks is gated. -/
theorem exec_pllLockLoss_recorded {s t u v : State} {k : Fin 5} {m l : Nat}
    (ht : t = { s with power := { s.power with locked := s.power.locked.filter (· != k.val) } })
    (hm : t.free Config.analogueFigure = (m, u)) (hl : u.free Config.analogueFigure = (l, v)) :
    exec (.pllLockLoss k) s = .next (if k.val = 1 ∨ k.val = 2 then
        (v.lichenFw 0x040A (Config.checkNumber 2) k.val m l).setCluster (k.val - 1)
          { (v.lichenFw 0x040A (Config.checkNumber 2) k.val m l).cluster (k.val - 1) with unlocked := true }
      else v.lichenFw 0x040A (Config.checkNumber 2) k.val m l) := by
  subst ht
  rw [exec_pllLockLoss, execPllLockLoss]
  dsimp only at hm ⊢
  rw [hm]
  dsimp only
  rw [hl]

section
variable {s : State} {c : Fin 2}

/-! ### Operating points and voltage scaling -/

/-- R412: on the way up, the voltage comes first. -/
theorem exec_opTransition_raisesVoltage (hclock : (s.cluster c.val).clockOp < s.effOp c.val)
    (hvolt : (s.cluster c.val).voltOp < s.effOp c.val) :
    exec (.opTransition c) s =
      .next ((s.setCluster c.val { s.cluster c.val with voltOp := s.effOp c.val }).setFld (rPWR_AVS c.val) fPWR_AVS_MV
        (opNominal (s.effOp c.val))) :=
  (if_pos hclock).trans (if_pos hvolt)

theorem exec_opTransition_raisesClock (hclock : (s.cluster c.val).clockOp < s.effOp c.val)
    (hvolt : s.effOp c.val ≤ (s.cluster c.val).voltOp) :
    exec (.opTransition c) s = .next (s.setCluster c.val { s.cluster c.val with clockOp := s.effOp c.val }) :=
  (if_pos hclock).trans (if_neg (Nat.not_lt.mpr hvolt))

/-- R412: on the way down, the clock comes first. -/
theorem exec_opTransition_lowersClock (hclock : s.effOp c.val < (s.cluster c.val).clockOp) :
    exec (.opTransition c) s = .next (s.setCluster c.val { s.cluster c.val with clockOp := s.effOp c.val }) :=
  (if_neg (Nat.lt_asymm hclock)).trans (if_pos hclock)

theorem exec_opTransition_settlesVoltage (hclock : (s.cluster c.val).clockOp = s.effOp c.val)
    (hvolt : (s.cluster c.val).voltOp ≠ s.effOp c.val) :
    exec (.opTransition c) s =
      .next ((s.setCluster c.val { s.cluster c.val with voltOp := s.effOp c.val }).setFld (rPWR_AVS c.val) fPWR_AVS_MV
        (opNominal (s.effOp c.val))) :=
  (if_neg (Nat.not_lt.mpr hclock.ge)).trans ((if_neg (Nat.not_lt.mpr hclock.le)).trans (if_pos hvolt))

/-- R413: with slack above the guard band for 1 ms, the voltage falls by 5 mV. -/
theorem exec_avsTick_lowers {n : Nat} (hn : (s.cluster c.val).slackSince = some n) (hd : n + 1000000 ≤ s.time.ns) :
    exec (.avsTick c false true) s =
      .next ((s.setCluster c.val { s.cluster c.val with slackSince := some s.time.ns }).setFld (rPWR_AVS c.val) fPWR_AVS_MV
        (clampNat (opFloor (s.cluster c.val).voltOp) (opNominal (s.cluster c.val).voltOp + 50)
          (s.fld (rPWR_AVS c.val) fPWR_AVS_MV - 5))) := by
  rw [exec_avsTick, execAvsTick]
  dsimp only
  rw [if_neg Bool.false_ne_true, if_pos rfl, hn]
  exact if_pos hd

theorem exec_avsTick_begins (hn : (s.cluster c.val).slackSince = none) :
    exec (.avsTick c false true) s =
      .next (s.setCluster c.val { s.cluster c.val with slackSince := some s.time.ns }) := by
  rw [exec_avsTick, execAvsTick]
  dsimp only
  rw [if_neg Bool.false_ne_true, if_pos rfl, hn]

/-! ### Droop -/

/-- R413, R418: a droop that finds no hold, or one that has not lapsed, opens it or goes on with it. -/
theorem exec_droopEvent_continues {h : Hold}
    (hh : h = (s.cluster c.val).droopHold.getD ⟨s.time.ns, s.reqOp c.val, s.effOp c.val, none⟩)
    (hl : (s.cluster c.val).droopHold = none ∨ s.time.ns ≤ (s.cluster c.val).lastDroop + 1000000) :
    exec (.droopEvent c) s = .next ((s.setCluster c.val { s.cluster c.val with
      droopUntil := s.time.ns + 1000
      lastDroop := s.time.ns
      droopHold := some { h with lowest := min h.lowest (s.effOp c.val) } }).count rPWR_DROOP_CNT) := by
  have hlapsed : ¬((s.cluster c.val).droopHold.isSome = true ∧ (s.cluster c.val).lastDroop + 1000000 < s.time.ns) := by
    rintro ⟨hsome, hlate⟩
    rcases hl with hnone | hl
    · rw [hnone] at hsome
      cases hsome
    · exact absurd hlate (Nat.not_lt.mpr hl)
  rw [exec_droopEvent, execDroopEvent]
  dsimp only
  rw [if_neg hlapsed, if_neg hlapsed, ← hh]

/-! ### Holds -/

/-- R418: only a hold of the droop kind (2) ends by the time that has passed since the last droop. -/
theorem hold_ended_of_limiter {k : Fin 3} {h : Hold} (hkind : k.val ≠ 2) :
    (if k.val = 2 ∧ (s.cluster c.val).lastDroop + 1000000 < s.time.ns then some (h.ended.getD (s.cluster c.val).lastDroop)
      else h.ended) = h.ended :=
  if_neg (fun hd => hkind hd.1)

/-- R418: a hold of the cap or of the temperature has ended where its end is noted. -/
theorem exec_limitHoldEnd_ended {k : Fin 3} {h : Hold} {n : Nat} (hk : (s.cluster c.val).holdOf k.val = some h)
    (he : h.ended = some n) (hkind : k.val ≠ 2) :
    exec (.limitHoldEnd k c) s =
      .next ((s.recordHold k.val c.val h false).setCluster c.val
        (((s.recordHold k.val c.val h false).cluster c.val).setHold k.val none)) := by
  rw [exec_limitHoldEnd, execLimitHoldEnd]
  dsimp only
  rw [hk]
  dsimp only
  rw [hold_ended_of_limiter hkind]
  exact if_pos (Option.isSome_of_mem he)

/-- R418: a hold that lasts is recorded every 24 hours, and goes on. -/
theorem exec_limitHoldEnd_lasts {k : Fin 3} {h : Hold} (hk : (s.cluster c.val).holdOf k.val = some h)
    (he : h.ended = none) (hkind : k.val ≠ 2) (hd : h.since + 86400000000000 ≤ s.time.ns) :
    exec (.limitHoldEnd k c) s =
      .next ((s.recordHold k.val c.val h true).setCluster c.val
        (((s.recordHold k.val c.val h true).cluster c.val).setHold k.val
          (some { h with since := s.time.ns, lowest := s.effOp c.val }))) := by
  rw [exec_limitHoldEnd, execLimitHoldEnd]
  dsimp only
  rw [hk]
  dsimp only
  rw [hold_ended_of_limiter hkind]
  exact (if_neg (by simp [he])).trans (if_pos hd)

end

/-! ### The power limiter -/

/-- R415: the input power of a sample joins the last 100. -/
def State.sampled (s : State) (mv curr : Nat) : State :=
  { s with power := { s.power with
    samples := (mv * curr / 100 :: s.power.samples).take 100
    nSamples := s.power.nSamples + 1 } }

/-- R415, R419: a sample stands in the registers, with the mean of the last 100. -/
def State.sampleShown (t : State) (mv curr : Nat) : State :=
  ((t.setFld rPWR_IN fPWR_IN_MV mv).setFld rPWR_IN fPWR_IN_CURR curr).setReg rPWR_IN_AVG
    (BitVec.ofNat 32 (meanOf 100 t.power.samples))

/-- R415: a sample is far above the cap where it exceeds 125 % of it. -/
def State.farAboveCap (s : State) (x : Nat) : Bool := decide (5 * (1000 * s.fld rPWR_CAP fPWR_CAP_CAP) < 4 * x)

section
variable {s : State} {mv curr : Nat} (c0 c1 : Nat)

theorem exec_powerLimiterSample_drops (h2 : 2 ≤ (s.sampled mv curr).power.samples.length)
    (hall : ((s.sampled mv curr).power.samples.take 2).all s.farAboveCap = true) :
    exec (.powerLimiterSample mv curr c0 c1) s =
      .next (((((s.sampled mv curr).sampleShown mv curr).setCluster 0
        { ((s.sampled mv curr).sampleShown mv curr).cluster 0 with powerOp := 0 }).setCluster 1
        { ((s.sampled mv curr).sampleShown mv curr).cluster 1 with powerOp := 0 }).settle) :=
  if_pos ⟨h2, hall⟩

/-- R415: a sample changes no operating point where the mean of 10 is within the cap and no cluster is held below its request. -/
theorem exec_powerLimiterSample_idle (hmean : meanOf 10 (s.sampled mv curr).power.samples ≤ 1000 * s.fld rPWR_CAP fPWR_CAP_CAP)
    (hall : ((s.sampled mv curr).power.samples.take 2).all s.farAboveCap = false)
    (h0 : s.reqOp 0 ≤ (s.cluster 0).powerOp) (h1 : s.reqOp 1 ≤ (s.cluster 1).powerOp) :
    exec (.powerLimiterSample mv curr c0 c1) s = .next ((s.sampled mv curr).sampleShown mv curr) := by
  refine (if_neg ?far).trans ((if_neg ?above).trans (if_neg ?held))
  case far => exact fun h => ne_true_of_eq_false hall h.2
  case above => exact fun h => absurd h.1 (Nat.not_lt.mpr hmean)
  case held =>
    rintro ⟨-, -, h | h⟩
    · exact absurd h (Nat.not_lt.mpr h0)
    · exact absurd h (Nat.not_lt.mpr h1)

end

/-! ### Temperatures -/

/-- R416: reading `x` of sensor `n` has come in, is shown if it is the hottest, and the clusters are throttled and tripped. -/
def State.heated (s : State) (n : Fin 14) (x : Int) : State :=
  let t := { s with power := { s.power with temps := Cells.set (fun _ => 0) s.power.temps n.val x } }
  (((((t.setFld rTHERM_STAT fTHERM_STAT_SENSOR (t.hotSensor 13)).setFld rTHERM_STAT fTHERM_STAT_TEMP
    (wrapTo 16 (t.temp (t.hotSensor 13)))).throttle 0).throttle 1).settle.trip 0 n.val).trip 1 n.val

/-- R416: the critical temperature of a sensor, in 0.1 °C: 115 °C on the die, 110 °C elsewhere. -/
def criticalTemp (n : Fin 14) : Int := if n.val ≤ 11 then 1150 else 1100

section
variable {s u : State} {n : Fin 14} {x : Int} (hu : u = s.heated n x)
include hu

theorem exec_thermalCheck_mild (hc : u.temp n.val ≤ criticalTemp n) : exec (.thermalCheck n x) s = .next u := by
  subst hu
  exact if_neg (fun h => absurd h.1 (Int.not_lt.mpr hc))

/-- R416: above the critical temperature the module enters DARK, unless it is there or on its way. -/
theorem exec_thermalCheck_critical {v : State} (hc : criticalTemp n < u.temp n.val) (hdark : u.power.st ≠ .dark)
    (hentry : u.power.entry = none)
    (hv : v = (u.setReg rAON_RST_CAUSE (u.reg rAON_RST_CAUSE ||| 0x40)).lichenHw 0x0203 n.val
      (wrapTo 32 (u.temp n.val)) 0 0) :
    exec (.thermalCheck n x) s = .next (v.beginEntry true none (v.fld rAON_WAKE_EN fAON_WAKE_EN_SRC)) := by
  have hfree : (!u.power.entry.any (fun e => e.dark)) = true := by rw [hentry]; rfl
  subst hu hv
  exact if_pos ⟨hc, hdark, hfree⟩

end

/-- Settles O30, command by command. -/
theorem powerAndClocks : Obligations.PowerAndClocks := by
  unfold Obligations.PowerAndClocks
  refine ⟨?lock, fun _ _ _ _ _ _ _ => exec_pllLockLoss_recorded, fun _ _ => exec_opTransition_raisesVoltage,
    fun _ _ => exec_opTransition_raisesClock, fun _ _ => exec_opTransition_lowersClock,
    fun _ _ => exec_opTransition_settlesVoltage, fun s c a => exec_avsTick c true a s, fun _ _ _ => exec_avsTick_lowers,
    fun _ _ => exec_avsTick_begins, fun s c => exec_avsTick c false false s, fun _ _ _ => exec_droopEvent_continues,
    ?drops, ?idle, ?mild, ?critical, fun _ _ _ _ _ => exec_limitHoldEnd_ended, fun _ _ _ _ => exec_limitHoldEnd_lasts⟩
  case lock =>
    rintro s _ k rfl
    exact exec_pllLock k s
  case drops =>
    rintro s _ mv curr c0 c1 rfl h2 hall
    exact exec_powerLimiterSample_drops c0 c1 h2 hall
  case idle =>
    rintro s _ mv curr c0 c1 rfl hmean hall h0 h1
    exact exec_powerLimiterSample_idle c0 c1 hmean hall h0 h1

  case mild =>
    rintro s _ u n x rfl hu hc
    exact exec_thermalCheck_mild hu hc
  case critical =>
    rintro s _ u v n x rfl hu hc hdark hentry hv
    exact exec_thermalCheck_critical hu hc hdark hentry hv

end Sys2Proof.Machine
end

section
/-!
O39: rehearsal slices (R452 to R454, R461, R464, R468, R469): the start, the drain that takes too long, and the five ends of a
slice: cut short, passed, passed on repetition, mismatched once and mismatched twice.
-/
namespace Sys2Proof.Machine

/-- R453: a slice ends with this result, and its block is unfenced. -/
def State.sliceStop (s : State) (block result : Nat) : State :=
  { s.sliceUnfence block with reh := { s.reh with slice := none } }.setFld rREH_STAT fREH_STAT_RESULT result

/-- R453: the signature has been read, and the block of slice `x` is re-initialised. -/
def State.sliceRead (s : State) (x : Slice) (misr : Word) : State :=
  ((s.setReg rREH_MISR misr).sliceReinit x.block).setFld rREH_STAT fREH_STAT_STATE 0

/-- R469: the slice whose signature has been read is counted. -/
def State.sliceCounted (s : State) (x : Slice) (misr : Word) : State := (s.sliceRead x misr).countWrap rREH_SLICE_CNT wholeReg

/-- R468: the physical core that a record of a slice of this block names. -/
def State.slicePhys (s : State) (block : Nat) : Nat := if block < 4096 then s.phys 8 else 0

/-- R453: a slice may end once its block, which is fenced, has drained. -/
theorem State.not_sliceEndIgnored {s : State} {x : Slice} (hp : x.phase = 2) (hd : s.sliceDrained x.block = true) :
    ¬(x.phase ≠ 2 ∨ (!s.sliceDrained x.block) = true) := by
  simp [hp, hd]

section
variable {s t : State} {x : Slice} (hx : s.reh.slice = some x)
include hx

theorem exec_rehSliceStart_fences (hp : x.phase = 1) :
    exec .rehSliceStart s = .next (State.setFld { s.sliceFence x.block with
      reh := { s.reh with slice := some { x with phase := 2, since := s.time.ns } } } rREH_STAT fREH_STAT_STATE 2) := by
  rw [exec_rehSliceStart, execRehSliceStart, hx]
  exact if_pos hp

/-- R453, R454: the second time in a rotation that a block has not drained is recorded. -/
theorem exec_rehDrainTimeout_abandons (hp : x.phase = 2) (hl : x.since + 100000 ≤ s.time.ns)
    (hd : s.sliceDrained x.block = false)
    (ht : t = (State.setFld { s.sliceUnfence x.block with reh := { s.reh with
        slice := none
        abandoned := if s.reh.abandoned.contains (s.sliceId x.block) = true then s.reh.abandoned
          else s.reh.abandoned ++ [s.sliceId x.block] } } rREH_STAT fREH_STAT_STATE 0).setFld rREH_STAT fREH_STAT_RESULT 3) :
    exec .rehDrainTimeout s = .next
      (if s.reh.abandoned.contains (s.sliceId x.block) = true then t.lichenFw 0x040B x.block 1 0 0 else t) := by
  rw [exec_rehDrainTimeout, execRehDrainTimeout, hx]
  dsimp only
  rw [if_pos ⟨hp, hl, by rw [hd]; rfl⟩, ← ht]

section
variable (hp : x.phase = 2) (hd : s.sliceDrained x.block = true) (misr : Word) (ds : List Defect)
include hp hd

theorem exec_rehSliceEnd_cut :
    exec (.rehSliceEnd true misr ds) s = .next ((s.sliceRead x misr).sliceStop x.block 2) := by
  rw [exec_rehSliceEnd, execRehSliceEnd, hx]
  exact (if_neg (State.not_sliceEndIgnored hp hd)).trans (if_pos rfl)

/-- R453, R454: what the comparison of the signature leads to. -/
theorem exec_rehSliceEnd_compares :
    exec (.rehSliceEnd false misr ds) s =
      (if misr = s.reg rREH_EXPECT then
        let v := ((s.sliceCounted x misr).sliceStop x.block 0).slicePassed x.block
        if x.repeated then done (State.lichenFw { v.count rREH_TRANS_CNT with
          reh := { v.reh with transients := v.reh.transients + 1 } } 0x0402 x.block x.misr (s.reg rREH_EXPECT).toNat
            (s.slicePhys x.block))
        else done v
      else if !x.repeated then
        done (State.setFld { (s.sliceCounted x misr).sliceUnfence x.block with
          reh := { (s.sliceCounted x misr).reh with slice := some { x with
            phase := 1, since := s.time.ns, repeated := true, misr := misr.toNat } } } rREH_STAT fREH_STAT_STATE 1)
      else
        let v := (s.sliceCounted x misr).sliceStop x.block 1
        done ((State.lichenFw { v.count rREH_FAIL_CNT with reh := { v.reh with failed := v.reh.failed + 1 } } 0x0401 x.block
          misr.toNat (s.reg rREH_EXPECT).toNat (s.slicePhys x.block)).repairBlock x.block ds)) := by
  rw [exec_rehSliceEnd, execRehSliceEnd, hx]
  exact (if_neg (State.not_sliceEndIgnored hp hd)).trans (if_neg Bool.false_ne_true)

end
end

/-- R452, R454: an active hour is counted, and the last one of a rotation ends it. -/
theorem exec_activeHourTick_awake {s t : State} (hs : s.awake = true)
    (ht : t = { s with sec := { s.sec with activeHours := s.sec.activeHours + 1 } }) :
    exec .activeHourTick s = .next
      (if t.reh.rotStart + t.fld rREH_CTL fREH_CTL_ROT_HOURS ≤ t.sec.activeHours then t.rotationEnd else t) := by
  rw [exec_activeHourTick, execActiveHourTick, if_pos hs, ht]

/-- Settles O39: the five ends by what the signature and the slice's first pass say. -/
theorem slices : Obligations.Slices := by
  unfold Obligations.Slices
  refine ⟨fun s b => exec_rehGo b s, fun _ _ => exec_rehSliceStart_fences, fun _ _ _ => exec_rehDrainTimeout_abandons,
    ?cut, ?passed, ?transient, ?mismatch, ?failure, fun _ _ => exec_activeHourTick_awake⟩
  case cut =>
    rintro s _ x misr ds hx hp hd rfl
    exact exec_rehSliceEnd_cut hx hp hd misr ds
  case passed =>
    rintro s _ _ x misr ds hx hp hd rfl rfl hm hr
    rw [exec_rehSliceEnd_compares hx hp hd, if_pos hm]
    exact if_neg (ne_true_of_eq_false hr)
  case transient =>
    rintro s _ _ x misr ds _ hx hp hd rfl rfl hm hr rfl
    rw [exec_rehSliceEnd_compares hx hp hd, if_pos hm]
    exact if_pos hr
  case mismatch =>
    rintro s _ _ x misr ds hx hp hd rfl rfl hm hr
    rw [exec_rehSliceEnd_compares hx hp hd, if_neg hm, hr]
    exact if_pos rfl
  case failure =>
    rintro s _ _ x misr ds _ hx hp hd rfl rfl hm hr rfl
    rw [exec_rehSliceEnd_compares hx hp hd, if_neg hm, hr]
    exact if_neg Bool.false_ne_true

end Sys2Proof.Machine
end

section
/-!
O36: the Lichen recorder (R471 to R482): requests by firmware, the four outcomes of a write, the position found at start-up, and
the counts of operating seconds and tokens.
-/
namespace Sys2Proof.Machine

section
variable {s : State}

/-- R480: firmware may not ask for a hardware code. -/
theorem exec_lichenRequest_hardware {c : Nat} (o : Bool) (hc : c ∈ hardwareOnly) :
    exec (.lichenRequest c o) s = .next (s.setFld rLCH_REQ_STAT fLCH_REQ_STAT_HWCODE 1) := by
  rw [exec_lichenRequest, execLichenRequest, State.lichenAsk, if_pos hc]

theorem exec_lichenRequest_firmware {t : State} {c : Nat} {o b : Bool} (hc : c ∉ hardwareOnly)
    (hq : s.lichenReq false o c (s.reg (rLCH_P 0)).toNat (s.reg (rLCH_P 1)).toNat (s.reg (rLCH_P 2)).toNat
      (s.reg (rLCH_P 3)).toNat = (t, b)) :
    exec (.lichenRequest c o) s = .next (if b = true then t.setFld rLCH_REQ_STAT fLCH_REQ_STAT_REFUSED 1 else t) := by
  rw [exec_lichenRequest, execLichenRequest, State.lichenAsk, if_neg hc]
  dsimp only
  rw [hq]

section
variable {t u : State} {r : LichenReq} {l : List LichenReq} (hq : s.lichen.queue = r :: l) (hready : s.lichen.ready = true)
  (hfull : s.lichen.full = false)
include hready hfull

/-- R473, R478: the recorder writes where it knows its position and the log is not full. -/
theorem State.recorderWrites : ¬((!s.lichen.ready) = true ∨ s.lichen.full = true) := by
  simp [hready, hfull]

include hq

/-- R472: the record of the oldest request is in the next slot, and its suppressed count is cleared. -/
theorem exec_lichenRecordWrite_written (hroom : s.lichen.next < 131008)
    (ht : t = s.setBytes (lichenPlace s.lichen.next) (s.recordBytes r s.lichen.next 0x5A))
    (hu : u = { t with lichen := { s.lichen with
      queue := l, next := s.lichen.next + 1, supp := Cells.set (fun _ => 0) s.lichen.supp r.code 0 } }) :
    exec (.lichenRecordWrite true) s =
      .next (if echoed r.code = true then u.postEvent 0x0009 255 0 r.code else u) := by
  rw [exec_lichenRecordWrite, execLichenRecordWrite]
  dsimp only
  rw [hq]
  dsimp only
  rw [if_neg (State.recorderWrites hready hfull), if_neg (Nat.not_le.mpr hroom), if_pos rfl, hu, ht]

/-- R472: a torn slot is left behind, and the record is retried once. -/
theorem exec_lichenRecordWrite_torn (hroom : s.lichen.next < 131008)
    (ht : t = s.setBytes (lichenPlace s.lichen.next)
      (tornBytes s.freeTick 3 ++ [0xFF] ++ tornBytes (s.freeTick + 1) 28)) :
    exec (.lichenRecordWrite false) s = .next { t with
      freeTick := s.freeTick + 2
      lichen := { s.lichen with
        queue := if r.retried = true then l else { r with retried := true } :: l
        next := s.lichen.next + 1 } } := by
  rw [exec_lichenRecordWrite, execLichenRecordWrite]
  dsimp only
  rw [hq]
  dsimp only
  rw [if_neg (State.recorderWrites hready hfull), if_neg (Nat.not_le.mpr hroom), if_neg Bool.false_ne_true, ht]

/-- R478: the first request past the last ordinary slot starts the end area. -/
theorem exec_lichenRecordWrite_endArea (ok : Bool) (hlast : 131008 ≤ s.lichen.next) :
    exec (.lichenRecordWrite ok) s =
      .next (State.endArea { s with lichen := { s.lichen with endCode := some (s.lichen.endCode.getD r.code) } }) := by
  rw [exec_lichenRecordWrite, execLichenRecordWrite]
  dsimp only
  rw [hq]
  dsimp only
  rw [if_neg (State.recorderWrites hready hfull), if_pos hlast]

end

/-- R473: the first erased slot is where the recorder goes on. -/
theorem exec_lichenPositionFind_erased (h : s.findErased 18 0 131008 < 131008) :
    exec .lichenPositionFind s =
      .next { s with lichen := { s.lichen with next := s.findErased 18 0 131008, ready := true } } := by
  rw [exec_lichenPositionFind, execLichenPositionFind]
  exact if_pos h

/-- R473, R478: with no slot erased and the last one a complete record of the end area, the log is full. -/
theorem exec_lichenPositionFind_full (h : 131008 ≤ s.findErased 18 0 131008) (hlast : s.slotComplete 131071 = true)
    (hcode : s.num (lichenPlace 131071) 2 = 0x0AFF) :
    exec .lichenPositionFind s = .next { s with lichen := { s.lichen with next := 131072, ready := true, full := true } } := by
  rw [exec_lichenPositionFind, execLichenPositionFind]
  exact (if_neg (Nat.not_lt.mpr h)).trans (if_pos ⟨hlast, hcode⟩)

theorem exec_lichenTokenRefill_due (h : s.lichen.lastRefill + 3600 ≤ s.lichen.opsec) :
    exec .lichenTokenRefill s = .next { s with lichen := { s.lichen with
      lastRefill := s.lichen.lastRefill + 3600
      taken := (s.lichen.taken.map (fun (x : Nat × Nat) => (x.1, x.2 - 1))).filter (fun x => x.2 != 0) } } := by
  rw [exec_lichenTokenRefill, execLichenTokenRefill]
  exact if_pos h

end

/-- Settles O36, command by command. -/
theorem recorderCommands : Obligations.RecorderCommands := by
  unfold Obligations.RecorderCommands
  exact ⟨fun _ _ => exec_lichenRequest_hardware,
    fun _ _ _ _ _ => exec_lichenRequest_firmware,
    fun _ _ _ _ _ => exec_lichenRecordWrite_written,
    fun _ _ _ _ => exec_lichenRecordWrite_torn,
    fun _ _ _ ok hq hready hfull => exec_lichenRecordWrite_endArea hq hready hfull ok,
    fun _ => exec_lichenPositionFind_erased,
    fun _ => exec_lichenPositionFind_full,
    fun _ => exec_lichenTokenRefill_due,
    exec_opsecTick⟩

end Sys2Proof.Machine
end

section
/-!
O33: the SMBus target (R486, R490 to R494). A read answers with its value in every power state; a write is taken or, where the PEC
that it needs is missing, refused and counted.
-/
namespace Sys2Proof.Machine

section
variable {s : State} {pecOk : Bool}

/-- R491: a write is taken where no PEC is required, and where the PEC is right. -/
theorem State.smbWrite_taken (h : s.flag rSIDE_CFG fSIDE_CFG_PEC_REQ = false ∨ pecOk = true) (eff : State → State) :
    s.smbWrite pecOk eff = { eff s with smb := ⟨[], false⟩ } := by
  unfold State.smbWrite
  refine if_neg ?_
  rintro ⟨hreq, hbad⟩
  rcases h with h | h
  · rw [h] at hreq
    cases hreq
  · rw [h] at hbad
    cases hbad

/-- R491: a write without the PEC that is required is not acknowledged, and counted. -/
theorem State.smbWrite_nack (h : s.flag rSIDE_CFG fSIDE_CFG_PEC_REQ = true) (eff : State → State) :
    s.smbWrite false eff = { s.countBy rSIDE_ERR_CNT fSIDE_ERR_CNT_PEC 1 with smb := ⟨[], true⟩ } :=
  if_pos ⟨h, rfl⟩

theorem exec_smbAlertStatClear_taken (v : Byte) (h : s.flag rSIDE_CFG fSIDE_CFG_PEC_REQ = false ∨ pecOk = true) :
    exec (.smbAlertStatClear v pecOk) s = .next { s.clearAlerts (v.setWidth 32) with smb := ⟨[], false⟩ } := by
  rw [exec_smbAlertStatClear, execSmbAlertStatClear, State.smbWrite_taken h]

theorem exec_smbAlertStatClear_nack (v : Byte) (h : s.flag rSIDE_CFG fSIDE_CFG_PEC_REQ = true) :
    exec (.smbAlertStatClear v false) s =
      .next { s.countBy rSIDE_ERR_CNT fSIDE_ERR_CNT_PEC 1 with smb := ⟨[], true⟩ } := by
  rw [exec_smbAlertStatClear, execSmbAlertStatClear, State.smbWrite_nack h]

theorem exec_smbAlertMaskWrite_taken (v : Byte) (h : s.flag rSIDE_CFG fSIDE_CFG_PEC_REQ = false ∨ pecOk = true) :
    exec (.smbAlertMaskWrite v pecOk) s =
      .next { s.setFld rSIDE_ALERT_MASK fSIDE_ALERT_MASK_MASK (v.toNat / 2) with smb := ⟨[], false⟩ } := by
  rw [exec_smbAlertMaskWrite, execSmbAlertMaskWrite, State.smbWrite_taken h]

theorem exec_smbAlertMaskWrite_nack (v : Byte) (h : s.flag rSIDE_CFG fSIDE_CFG_PEC_REQ = true) :
    exec (.smbAlertMaskWrite v false) s =
      .next { s.countBy rSIDE_ERR_CNT fSIDE_ERR_CNT_PEC 1 with smb := ⟨[], true⟩ } := by
  rw [exec_smbAlertMaskWrite, execSmbAlertMaskWrite, State.smbWrite_nack h]

/-- R493: the alert is answered, and ALERT_N released. -/
theorem exec_smbAlertResponse_driven (h : s.alertDriven = true) :
    exec .smbAlertResponse s = .next { s with
      power := { s.power with alertAnswered := (s.reg rSIDE_ALERT_STAT &&& s.reg rSIDE_ALERT_MASK).toNat }
      smb := ⟨leBytes 1 s.smbAddr, false⟩ } := by
  rw [exec_smbAlertResponse, execSmbAlertResponse, if_pos h]
  rfl

theorem exec_smbAlertResponse_quiet (h : s.alertDriven = false) :
    exec .smbAlertResponse s = .next { s with smb := ⟨[], true⟩ } := by
  rw [exec_smbAlertResponse, execSmbAlertResponse, if_neg (ne_true_of_eq_false h)]

end

/-- Settles O33: the reads by the equations of their commands, the two writes and the alert response by their cases. -/
theorem sidebandCommands : Obligations.SidebandCommands := by
  unfold Obligations.SidebandCommands
  exact ⟨exec_moduleInsert, exec_smbIdentity, exec_smbState, exec_smbVin, exec_smbCurrent, exec_smbPower, exec_smbTemp,
    exec_smbTempSensor, exec_smbAlertStatRead, exec_smbAlertMaskRead,
    fun _ v _ => exec_smbAlertStatClear_taken v, fun _ v => exec_smbAlertStatClear_nack v,
    fun _ v _ => exec_smbAlertMaskWrite_taken v, fun _ v => exec_smbAlertMaskWrite_nack v,
    fun _ => exec_smbAlertResponse_driven, fun _ => exec_smbAlertResponse_quiet, exec_smbClockTimeout⟩

end Sys2Proof.Machine
end

section
/-!
O34: the test access port (R444, R495).
-/
namespace Sys2Proof.Machine

section
variable {s : State}

/-- R495: BYPASS, IDCODE and SAMPLE/PRELOAD take effect where the TAP is not held in reset. -/
theorem exec_jtagBypass_free (h : s.tapHeld = false) :
    exec .jtagBypass s = .next { s with tap := { s.tap with ir := .bypass, driving := false, tdo := 0 } } := by
  rw [exec_jtagBypass, execJtagBypass, if_neg (ne_true_of_eq_false h)]

theorem exec_jtagIdcode_free (h : s.tapHeld = false) :
    exec .jtagIdcode s = .next { s with tap := { s.tap with ir := .idcode, driving := false, tdo := s.idcode } } := by
  rw [exec_jtagIdcode, execJtagIdcode, if_neg (ne_true_of_eq_false h)]

theorem exec_jtagSamplePreload_free (pins load : Nat) (h : s.tapHeld = false) :
    exec (.jtagSamplePreload pins load) s = .next { s with tap := s.tap.doSample pins load } := by
  rw [exec_jtagSamplePreload, execJtagSamplePreload, if_neg (ne_true_of_eq_false h)]

/-- R495: EXTEST and its 1149.6 forms drive the pins while RST_N is low. -/
theorem State.extest_drives (ir : TapIr) (pins load : Nat) (h : s.tapHeld = false) (hr : s.power.rstLow = true) :
    s.extest ir pins load = { s with tap := { ir := ir, driving := true, tdo := pins, boundary := load } } := by
  rw [State.extest, if_neg (ne_true_of_eq_false h), if_pos hr]

/-- R495: with RST_N high they act as SAMPLE. -/
theorem State.extest_samples (ir : TapIr) (pins load : Nat) (h : s.tapHeld = false) (hr : s.power.rstLow = false) :
    s.extest ir pins load = { s with tap := s.tap.doSample pins load } := by
  rw [State.extest, if_neg (ne_true_of_eq_false h), if_neg (ne_true_of_eq_false hr)]

/-- R444, R495: a debug instruction that is not permitted selects the bypass register. -/
theorem exec_jtagDebugInstruction_bypass (h : s.tapHeld = false) (hd : debugAllowed s.sec.lifeCycle = false) :
    exec .jtagDebugInstruction s = .next { s with tap := { s.tap with ir := .bypass, driving := false, tdo := 0 } } := by
  rw [exec_jtagDebugInstruction, execJtagDebugInstruction, if_neg (ne_true_of_eq_false h),
    if_neg (ne_true_of_eq_false hd)]

theorem exec_jtagDebugInstruction_held (h : s.tapHeld = true) : exec .jtagDebugInstruction s = .next s := by
  rw [exec_jtagDebugInstruction, execJtagDebugInstruction, if_pos h]

end

/-- Settles O34: the three forms of EXTEST are one operation with three values of the instruction register. -/
theorem tapInstructions : Obligations.TapInstructions := by
  unfold Obligations.TapInstructions
  exact ⟨fun _ => exec_jtagBypass_free, fun _ => exec_jtagIdcode_free, fun _ => exec_jtagSamplePreload_free,
    fun _ p l h hr => congrArg done (State.extest_drives .extest p l h hr),
    fun _ p l h hr => congrArg done (State.extest_samples .extest p l h hr),
    fun _ p l h hr => congrArg done (State.extest_drives .pulse p l h hr),
    fun _ p l h hr => congrArg done (State.extest_samples .pulse p l h hr),
    fun _ p l h hr => congrArg done (State.extest_drives .train p l h hr),
    fun _ p l h hr => congrArg done (State.extest_samples .train p l h hr),
    fun _ => exec_jtagDebugInstruction_bypass, fun _ => exec_jtagDebugInstruction_held⟩

end Sys2Proof.Machine
end
